-- ==== Sys2Proof/Word.lean ====
section
/-! DEFINITION. Word.lean: bytes, the sparse store's carrier type, and the paths by which a request reaches the block. -/

namespace Sys2Proof

/-- A byte as it travels on a link or lies in a memory. -/
abbrev Byte := BitVec 8

/-- A sparse store: (key, value) pairs in strictly rising key order, none equal to what an unlisted key reads as. -/
abbrev SMap := List (Nat × Nat)

/-- The path of an object access: R2 and R431 make the party of a write follow its path.
`mailbox` is the EtherCAT mailbox (line party), `window` the BAR2 window (host party). -/
inductive Path where
  | mailbox
  | window
  deriving DecidableEq, Repr

/-- `x` kept within `n` bits, as a field of that width holds it. -/
def wrapTo (n x : Nat) : Nat := x % 2 ^ n

/-- Signed reading of the low `n` bits of `x`. -/
def signedOf (n x : Nat) : Int :=
  if 2 ^ (n - 1) ≤ x % 2 ^ n then (x % 2 ^ n : Nat) - (2 ^ n : Nat) else (x % 2 ^ n : Nat)

/-- The low `n` bits that hold the two's complement of `i`. -/
def unsignedOf (n : Nat) (i : Int) : Nat := (i % (2 ^ n : Nat)).toNat

/-- `i` cut to the range of a signed `n`-bit field. -/
def saturateSigned (n : Nat) (i : Int) : Int :=
  max (-(2 ^ (n - 1) : Nat)) (min i ((2 ^ (n - 1) : Nat) - 1))

end Sys2Proof
end

