-- ==== Sys2Proof/Syntax.lean ====
section
/-! DEFINITION. Syntax.lean: the commands of the block, one constructor per row of spec/opcode_table.json, in the
table's order. The table gives the rows no fields, so the operands here are what the rule of each row says the
happening brings with it (log entry 2). -/

namespace Sys2Proof

/-- The EtherCAT states of R60. -/
inductive AlState where
  | init | preop | safeop | op | boot
  deriving DecidableEq, Repr

/-- The files of R72, and any other name. -/
inductive FoeFile where
  | firmware | journal | events | other
  deriving DecidableEq, Repr

/-- R72: what a read over FoE is asked for: the file by its name, and the password. -/
structure FoeOpen where
  file : FoeFile
  password : BitVec 32
  deriving DecidableEq, Repr

/-- R267: a camera port and the virtual channel of a packet that reaches it. -/
structure CamChannel where
  port : Fin 4
  vc : Nat
  deriving DecidableEq, Repr

/-- R267: the data identifier of a packet: its virtual channel and data type. -/
structure PacketId where
  vc : Nat
  dt : Nat
  deriving DecidableEq, Repr

/-- The three memory BARs of R85. -/
inductive Bar where
  | bar0 | bar2 | bar4
  deriving DecidableEq, Repr

/-- A register access: R15 gives reads and writes their effect. -/
inductive RegAccess where
  | read
  | write (value : BitVec 32)
  deriving DecidableEq, Repr

/-- The configuration-space registers of the function that R84, R85, R103 and R420 give a meaning. -/
inductive CfgReg where
  | vendorDevice | command | classCode | bar (n : Fin 6) | powerState | deviceControl | deviceControl2 | aerStatus
  | msixControl | msixTable | msixPending | deviceCapabilities | deviceCapabilities2 | linkCapabilities | linkControl
  | l1Capabilities | l1Control | subsystemOther
  deriving DecidableEq, Repr

/-- Who writes a commit or push register: an object write over a path, or the register in BAR0 (R218, R279, R376). -/
inductive CommitPath where
  | object (p : Path)
  | register
  deriving DecidableEq, Repr

/-- What the samples of an input pin show in this cycle (R182, R322): a level, and how many samples in a row have shown it, 2.5 ns
each, this cycle's the last of them. -/
structure Samples where
  level : Bool
  run : Nat
  deriving DecidableEq, Repr

/-- A rising edge of Z of a source (R182, R194): how many samples in a row, this cycle's the last of them, have shown it high. -/
structure ZEdge where
  source : Fin 2
  high : Nat
  deriving DecidableEq, Repr

/-- A pace-link or mirror neighbour side (R328): upstream 0, downstream 1. -/
inductive Side where
  | upstream | downstream
  deriving DecidableEq, Repr

/-- A mirror record as received (R330). -/
structure MirrorRec where
  roleMaster : Bool
  acting : Bool
  pos : Nat              -- P in WEBP format: whole lines in [63:16], fraction in [15:0]
  hwl : Nat
  emuCount : Nat         -- emulated count at the sender's last cycle end
  cycleLine : Nat        -- the cycle-end line of that count
  phase : Nat
  locked : Bool
  heldLine : Nat
  held : Bool
  busyFlag : Bool
  busyIn : Bool
  ready : Bool
  handback : Bool
  crcOk : Bool
  deriving DecidableEq, Repr

/-- The device type that MR8 names (R338, R339): LPDDR5X of 16 or 8 data lines, or another. -/
inductive DramType where
  | x16
  | x8
  | other (code : Nat)
  deriving DecidableEq, Repr

/-- What a channel's mode registers say of its device (R339). -/
structure DramDevice where
  vendor : Nat                  -- MR5
  type : DramType               -- MR8
  density : Nat                 -- MR8, Gb per die
  ranks : Nat
  deriving DecidableEq, Repr

/-- A run of a channel's pattern and compare engines (R356). -/
structure EngineRun where
  channel : Fin 4
  mode : Nat                    -- 0 PRBS, 1 fixed, 2 compare only
  length : Nat                  -- bursts
  addr : Nat                    -- first burst
  pattern : Nat
  invert : Nat
  shift : Int                   -- steps by which every data delay is moved (R355, step 8)
  returned : List (Nat × List Byte)  -- bursts that do not come back as written: number in the run, and the bytes read
  deriving DecidableEq, Repr

/-- What a training of the DRAM interface finds (R339, R354, R355). -/
structure TrainReport where
  quickRuns : List EngineRun    -- what the pattern engines ran on the quick path, if it is tried
  runs : List EngineRun         -- what they ran on the full or fixed path
  failures : List (Nat × Fin 4) -- steps 2 to 7 that fail, with the channel
  lastStep : Nat                -- the step and channel in which the time limit passes, where it is overrun
  lastChannel : Fin 4
  time : Nat                    -- ms
  windows : List (Nat × Nat)    -- step 7: the first and last passing code of each setting, 120 per channel (log entry 124)
  devices : Vector DramDevice 4 -- per channel
  drift : List (List Int)       -- the tracking pass of a self-refresh exit (R359), per channel
  deriving DecidableEq, Repr

/-- What the parts outside the digital logic report to a start (R386): locks, flash, head supply, training. -/
structure StartReport where
  pllLocks : Bool               -- step 1
  flashAnswers : Bool           -- step 2, identification read
  pairOk : Vector Bool 2        -- step 2: HEADER_CRC and IMAGE_CRC of each pair are correct (R395)
  tornTail : Bool               -- step 6: the last log record is incomplete
  train : TrainReport           -- step 7
  headSupplyOk : Bool           -- step 8, HEADPWR_OK within 100 ms
  initOk : Bool                 -- step 8, every subsystem's initialisation
  copyRead : Option (List Byte) -- step 8: the DRAM part as read again, where it is not as it was at step 4
  elapsed : Nat                 -- ms from reset release to step 9
  stopsIn : Option Nat          -- the step in which a power loss or a reset cuts the start short (R390, R400)
  refBypass : Bool              -- REF_BYPASS pin, sampled at POR
  testMode : Bool               -- TEST_MODE pin, sampled at POR (R451)
  deriving DecidableEq, Repr

/-- The inputs of a telemetry frame (R244). -/
structure Telemetry where
  temp : Int                    -- 0.1 degC
  vhead : Nat                   -- mV
  vlogic : Nat                  -- mV
  flags : Nat
  fseq : BitVec 16              -- the frame's own number (R241)
  deriving DecidableEq, Repr

/-- A 64 B request to a DRAM channel (R343, R345, R346). -/
structure DramReq where
  requester : Fin 7
  address : Nat                 -- DRAM byte address A
  write : Bool
  data : List Byte              -- up to 64 B, from the address on
  deriving DecidableEq, Repr

/-- The ECC outcome of a read (R352). -/
inductive EccOutcome where
  | clean | corrected | uncorrectable
  deriving DecidableEq, Repr

/-- The commands of the block: every access, frame, edge, timer and happening that the table lists, with what it brings.
A debug instruction names only a code: what it does behind the gate of R437 is outside the manual. -/
inductive Instr where
  | sdoUpload (idx : BitVec 16) (sub : BitVec 8)
  | sdoDownload (idx : BitVec 16) (sub : BitVec 8) (data : List Byte)
  | sdoSegment (idx : BitVec 16) (sub : BitVec 8) (write : Bool) (data : List Byte) (last : Bool)
  | sdoSegmentTimeout (path : Path)
  | completeAccess (idx : BitVec 16) (fromOne : Bool) (write : Option (List Byte))
  | sdoInformation (idx : Option (BitVec 16))
  | rz2440FwWrite (file : FoeFile) (password : BitVec 32) (data : List Byte) (last : Bool)
  | tympanJnlRead (open_ : FoeOpen)
  | eventsLogRead (open_ : FoeOpen)
  | alStateRequest (target : AlState)
  | preopAcknowledge
  | processDataWatchdog
  | sm2Event (outputs : List Byte)
  | sync0Edge
  | sync0Missing
  | stationAddressWrite (addr : BitVec 16)
  | netReset (value : Byte)
  | miiLinkChange (port : Fin 2) (up : Bool)
  | eventLogOverflow
  | winRead
  | winWrite
  | winRequestDone
  | registerWrite (bar : Bar) (offset : Nat) (size : Nat) (acc : RegAccess)
  | pciConfigAccess (reg : CfgReg) (acc : RegAccess)
  | pcieLinkUp (width : Nat) (speed : Nat)
  | pcieLinkDown
  | hotReset (flr : Bool)
  | perstNEdge (level : Bool)
  | doorbellWrite (ring : Fin 128) (tail : BitVec 16)
  | ringEnable (ring : Fin 128)
  | ringDisable (ring : Fin 128)
  | ringStop (ring : Fin 128)
  | ringResume (ring : Fin 128)
  | ringAbort (ring : Fin 128)
  | ringSkip (ring : Fin 128)
  | descriptorFetched (ring : Fin 128) (bytes : Option (List Byte))
  | poolWaitEnd (ring : Fin 128)
  | ductRingResumed (ring : Fin 128)
  | sgEntryRead (ring : Fin 128) (bytes : Option (List Byte))
  | hostReadCompletion (ring : Fin 128) (data : Option (List Byte))
  | hostWriteFailure (ring : Fin 128)
  | pcieCompletionTimeout (ring : Fin 128)
  | retainedTransferResume (ring : Fin 128)
  | descriptorComplete (ring : Fin 128)
  | egressFlushExpiry (ring : Fin 128)
  | lineDecode (engine : Fin 8)
  | formeSubmit (path : Path) (forme : Fin 256)
  | formeAbort (path : Path) (forme : Fin 256)
  | lineCompose (head : Fin 24)
  | reqSubmit (path : Path)
  | rateClassRequest (path : Path) (plane : Fin 2) (cls : Byte)
  | pageAccept
  | compChangeFolded
  | quadratureCount (source : Fin 2) (a b : Samples)
  | lineBoundary
  | indexEdge (edge : ZEdge)
  | stepPendingApply
  | presetNow (path : Path)
  | presetAtIndex (path : Path)
  | latch (path : Path)
  | strobe
  | clearCounters (path : Path)
  | speedWindowClose
  | webStopped
  | emulatorCatchUp
  | platCommit (path : CommitPath) (head : Fin 24)
  | holdCyclingClear
  | holdNFall
  | freezeEnd
  | headDetect (port : Fin 24)
  | trainingAttemptEnd (port : Fin 24) (ok : Bool)
  | statusHello (port : Fin 24) (vmax : Nat)
  | dataFrame (port : Fin 24) (source : Fin 2) (chunk : Nat) (data : List Byte)
  | descReadTimeout (port : Fin 24)
  | statusUpgradeAck (port : Fin 24)
  | upgradeTrainingEnd (port : Fin 24) (ok : Bool)
  | statusEcho (port : Fin 24) (roundTrip : Nat)
  | timeSetRepeat (port : Fin 24)
  | attachComplete (port : Fin 24)
  | detach (port : Fin 24)
  | slotSend (port : Fin 24)
  | trimFrameSend (port : Fin 24)
  | ackFrame (port : Fin 24) (fseq : BitVec 16)
  | nakFrame (port : Fin 24) (fseq : BitVec 16)
  | resendTimeout (port : Fin 24)
  | doneFrame (port : Fin 24) (slot : BitVec 32) (late : BitVec 16)
  | groupAckOverdue (port : Fin 24)
  | tornFrame (port : Fin 24) (slot : BitVec 32) (reason : Byte)
  | statusReady (port : Fin 24) (value : BitVec 32)
  | telemetryFrame (port : Fin 24) (t : Telemetry)
  | telemetryTimeout (port : Fin 24)
  | supplyFaultTimeout (port : Fin 24)
  | laneLockLost (port : Fin 24)
  | backchannelSilence (port : Fin 24)
  | retrainAttemptEnd (port : Fin 24) (ok : Bool)
  | selftest (path : Path) (port : Fin 24)
  | statusSelftestDone (port : Fin 24) (fails : BitVec 16)
  | frameStart (channel : CamChannel)
  | frameEnd (channel : CamChannel)
  | pixelPacket (port : Fin 4) (id : PacketId) (payload : List Byte) (crcOk bufferFull : Bool)
  | otherPacket (port : Fin 4) (id : PacketId) (multiBitEcc : Bool)
  | camCommit (path : CommitPath) (port : Fin 4)
  | cciWriteComplete (port : Fin 4) (nak : Bool)
  | cciRead (path : Path) (port : Fin 4)
  | cciWrite (path : Path) (port : Fin 4)
  | camCciDone (port : Fin 4) (nak : Bool) (data : BitVec 32)
  | streamingTimeout (port : Fin 4)
  | clkRefclkSwitch (port : Fin 4)
  | windowProcessed (port : Fin 4)
  | confirm (path : Path) (value : BitVec 32)
  | compareMatch (unit : Fin 16)
  | trigPulseEnd (pin : Fin 16)
  | captureEdge (input : Fin 8) (edge : Samples)
  | netPairSample (escTime : Nat)
  | paceLinkHello (side : Side) (vmax : Nat)
  | paceLinkDown (side : Side)
  | enum (position : BitVec 8)
  | cycle (line : Nat) (hold : Bool)
  | busy (b : Bool)
  | paceSyncIn
  | mirrorRecord (r : MirrorRec)
  | heartbeatMiss
  | quoinTake
  | paceOutEnable
  | takeoverHoldPulseEnd
  | paceQuoinStuck
  | standbyQuoinTimeout
  | dramRequest (r : DramReq)
  | dramReadReturn (channel : Fin 4) (ecc : EccOutcome)
  | refreshDue (channel : Fin 4) (pair : Bool)
  | mr4Poll (channel : Fin 4) (code : Byte)
  | driftTracking (channel : Fin 4) (change : List Int) (gap : Bool)
  | scrubRead (granule : Nat)
  | move (path : Path) (axis : Fin 8)
  | runSegments (path : Path) (axis : Fin 8)
  | home (path : Path) (axis : Fin 8)
  | stop (path : Path) (axis : Fin 8)
  | setPosition (path : Path) (axis : Fin 8)
  | clearFault (path : Path) (axis : Fin 8)
  | motCommit (path : CommitPath) (axis : Fin 8)
  | profileTick
  | currentSample (axis : Fin 8) (ia ib : BitVec 32)
  | chopOffTimeEnd (axis : Fin 8) (phaseB : Bool)
  | senseTimeout (axis : Fin 8) (phaseB : Bool)
  | faultInputLow (input : Fin 8)
  | holdDelayExpiry (axis : Fin 8)
  | powerOnReset
  | pinReset
  | wdgReset (detail : Byte)
  | cpuWatchdogWarn (core : Fin 3)
  | cpuFirmwareFault (core : Fin 3) (code : Byte)
  | resetCommand (path : Path)
  | subReset (path : Path) (number : Byte)
  | pwrSubResetDone
  | start (report : StartReport)
  | startWatchdog
  | activateA (path : Path)
  | activateB (path : Path)
  | restart (path : Path)
  | journalFormat (path : Path)
  | journalCommit
  | tympCompactionDone
  | scheduledWake
  | powerExitComplete (train : TrainReport)
  | sleepIdleExpiry
  | pwrWakeLate (source : Byte)
  | pwrBrownoutWarn (rail : Fin 8)
  | pwrBrownoutClear (rail : Fin 8)
  | brownoutReset (rail : Fin 8)
  | crystalLoss (rootUnlock : Bool)
  | ddrPllUnlock
  | clkPcieRefLost
  | clkPcieRefRestored
  | junctionTempSample (temp : Int)
  | guardedWrite (path : Path) (idx : BitVec 16) (sub : BitVec 8) (data : List Byte)
  | consentMessage (path : Path) (message : List Byte)
  | proposalExpiry
  | idcode
  | bypass
  | sample (pins : List Bool)
  | debugInstruction (code : Nat)
  | dispPush (path : CommitPath) (first : Byte) (count : BitVec 16)
  | dispTeBlank
  | dsi1TeEdge (skewNs : Nat)
  | dispFrameDone
  | scanRowAdvance (rowsSent : Nat)
  | panelInit
  | cellRepush (head : Fin 24)
  | mirrorHeartbeat
  | pmeTurnOff
  | pcieAerError (bit : BitVec 16)
  | escRegisterWrite (reg : BitVec 16) (value : BitVec 32)
  | powerEntryComplete
  | paceSyncPulseEnd
  deriving DecidableEq, Repr

end Sys2Proof
end

