-- ==== Sys2Proof/Config.lean ====
section
/-! DEFINITION. Config.lean: what the manual leaves open, as constants without a body (log entry 3). Nothing can be
proved of their values, so a claim holds whatever they are. -/

namespace Sys2Proof.Config

/-- The value the manual does not give, the `n`-th one drawn (log entry 3). -/
opaque freeValue : Nat → Nat

/-- R55: per-die values. -/
opaque siliconRevision : BitVec 16
opaque serialNumber : BitVec 64

/-- R55, R383: version of the image that the part ships with in slot A (R484). -/
opaque factoryVersion : BitVec 32

/-- R484: the image that the part ships with in slot A. -/
opaque factoryImage : List Byte

/-- R391: the ROM's version; its major version is 0. -/
opaque romVersion : BitVec 24

/-- R54: objects 0x1000 and 0x1008 to 0x100A, to which the manual gives no value. -/
opaque deviceType : BitVec 32
opaque deviceName : List Byte
opaque hardwareVersion : List Byte
opaque softwareVersion : List Byte

/-- R67: which (index, subindex, bits) entries the ESI file marks as mappable. -/
opaque mappable : Nat → Bool

/-- R59: which objects belong to profile 1. -/
opaque profileOne : Nat → Bool

/-- R430: the fused image key (0x2400:14), as 64 bytes. -/
opaque fusedKey : List Byte

/-- R34: the byte form of a line command in the signature, which R208 gives as fields only: (group, tick, levels) and
trims to bytes. -/
opaque bodyBytes : List Nat → List Byte

/-- R295, R297, R306: which way a proof quantity that is no multiple of its step is rounded. -/
opaque roundsUp : Rat → Bool

/-- R292 names one nozzle for a column pair of a 1200 dpi head, of the two rows R152 gives it: whether it is the odd row, by
head and pair (log entry 179). -/
opaque coarseRow : Nat → Nat → Bool

/-- R289: byte `n` of a window summary in DRAM, from its column sums and tile sums. -/
opaque summaryByte : List Nat → Nat → Byte

/-- R69, R316: NET before the first pair: the ESC's system time, by the last one sampled, its LOC, and LOC now; the fit of pairs that lie on no one line (NET at the newest pair's LOC), and
the rate of pairs that do not give one. -/
opaque netUnset : Nat → Nat → Nat → Nat
opaque fitNet : List (Nat × Nat) → Rat
opaque fitRate : List (Nat × Nat) → Rat

/-- R351: the check byte of an 8 B word: the SEC-DED (72,64) code that the device uses is not given. -/
opaque checkByte : List Byte → Byte

/-- R395, R398: the order of the image records and the SEQ that each carries: which place record `n` of the live state takes, and
the SEQ of the record at a place. -/
opaque imagePlace : Nat → Nat
opaque imageSeq : Nat → Nat

/-- R383: a byte of the flash that the device never writes. -/
opaque flashByte : Nat → Byte

/-- R462: the level that drives a GPIO pin from outside, by pin and LOC. -/
opaque gpioLevel : Nat → Nat → Bool

/-- R467: how the firmware draws a cell: the colour of a pixel, by (head, PORT_STATE, TEMPERATURE, COOL_MODE) and the pixel's place. -/
opaque cellPixel : List Nat → Nat → Nat → BitVec 24

end Sys2Proof.Config
end

