-- ==== Sys2Proof/Machine/Dictionary.lean ====
section
/-! DEFINITION. Machine/Dictionary.lean: the object dictionary (R14, R17, R54, R486): for every object of the manual's
tables its type, access, default, retention class and the range check of R52 that needs no other state. -/

namespace Sys2Proof.Machine

/-- Object types (R50). Strings and DOMAINs carry their length in bytes. -/
inductive OType where
  | bool | u8 | u16 | u32 | u64 | i16 | i32
  | str (bytes : Nat)
  | dom (bytes : Nat)
  deriving DecidableEq, Repr

/-- Access of an object (R14); `g` is guarded (R53). -/
inductive Access where
  | ro | rw | rwp | wo | g
  deriving DecidableEq, Repr

/-- Retention class (R17, R414). -/
inductive Cls where
  | k | w | v | j
  deriving DecidableEq, Repr

/-- Check 7 of R52 where it depends on the written value alone. -/
inductive Chk where
  | any
  | range (lo hi : Nat)
  | orNone (hi : Nat)            -- 0 to hi, or 0xFF for none
  | oneOf (values : List Nat)
  | sle (hi : Nat)               -- signed 16-bit value at most hi
  | weights                      -- each byte at most 16 (R310)
  deriving DecidableEq, Repr

/-- A row of an object table: `n` subindices from `sub` on, `step` apart. -/
structure ObjRow where
  sub : Nat
  n : Nat
  step : Nat
  ty : OType
  acc : Access
  cls : Cls
  dflt : Nat
  chk : Chk
  deriving DecidableEq, Repr

/-- The rows of one index, or of `n` like indices from `idx` on. -/
structure ObjGroup where
  idx : Nat
  n : Nat
  rows : List ObjRow
  deriving DecidableEq, Repr

/-- Bytes of a value of the type. -/
def OType.bytes : OType → Nat
  | .bool => 1 | .u8 => 1 | .u16 => 2 | .u32 => 4 | .u64 => 8 | .i16 => 2 | .i32 => 4
  | .str n => n | .dom n => n

/-- R340: the data rates. -/
def dataRates : List Nat := [3200, 4267, 5500, 6400, 7500, 8533]

namespace Dict

/-- Object 0x1000 (R54). -/
def g1000 : ObjGroup := ⟨0x1000, 1, [
  ⟨0x00, 1, 1, .u32, .ro, .v, 0, .any⟩]⟩

/-- Object 0x1008 (R54). -/
def g1008 : ObjGroup := ⟨0x1008, 1, [
  ⟨0x00, 1, 1, .str 16, .ro, .v, 0, .any⟩]⟩

/-- Object 0x1009 (R54). -/
def g1009 : ObjGroup := ⟨0x1009, 1, [
  ⟨0x00, 1, 1, .str 16, .ro, .v, 0, .any⟩]⟩

/-- Object 0x100A (R54). -/
def g100A : ObjGroup := ⟨0x100A, 1, [
  ⟨0x00, 1, 1, .str 16, .ro, .v, 0, .any⟩]⟩

/-- Object 0x1018 (R56). -/
def g1018 : ObjGroup := ⟨0x1018, 1, [
  ⟨0x01, 1, 1, .u32, .ro, .v, 3406, .any⟩,
  ⟨0x02, 1, 1, .u32, .ro, .v, 9280, .any⟩,
  ⟨0x03, 1, 1, .u32, .ro, .v, 0, .any⟩,
  ⟨0x04, 1, 1, .u32, .ro, .v, 0, .any⟩]⟩

/-- Object 0x1600 (R64, R67). The retention class of 0x1600 to 0x1C33 is not given: class V here (PRESUMED, log entry 161). -/
def g1600 : ObjGroup := ⟨0x1600, 1, [
  ⟨0x00, 1, 1, .u8, .rwp, .v, 3, .range 0 16⟩,
  ⟨0x01, 1, 1, .u32, .rwp, .v, 0x21010110, .any⟩,
  ⟨0x02, 1, 1, .u32, .rwp, .v, 0x25000340, .any⟩,
  ⟨0x03, 1, 1, .u32, .rwp, .v, 0x25000440, .any⟩,
  ⟨0x04, 13, 1, .u32, .rwp, .v, 0, .any⟩]⟩

/-- Object 0x1601 (R64, R67). -/
def g1601 : ObjGroup := ⟨0x1601, 1, [
  ⟨0x00, 1, 1, .u8, .rwp, .v, 0, .range 0 16⟩,
  ⟨0x01, 16, 1, .u32, .rwp, .v, 0, .any⟩]⟩

/-- Object 0x1A00 (R64, R67). -/
def g1A00 : ObjGroup := ⟨0x1A00, 1, [
  ⟨0x00, 1, 1, .u8, .rwp, .v, 7, .range 0 16⟩,
  ⟨0x01, 1, 1, .u32, .rwp, .v, 0x21010210, .any⟩,
  ⟨0x02, 1, 1, .u32, .rwp, .v, 0x36002110, .any⟩,
  ⟨0x03, 1, 1, .u32, .rwp, .v, 0x25000140, .any⟩,
  ⟨0x04, 1, 1, .u32, .rwp, .v, 0x25000240, .any⟩,
  ⟨0x05, 1, 1, .u32, .rwp, .v, 0x28001020, .any⟩,
  ⟨0x06, 1, 1, .u32, .rwp, .v, 0x28001120, .any⟩,
  ⟨0x07, 1, 1, .u32, .rwp, .v, 0x36002020, .any⟩,
  ⟨0x08, 9, 1, .u32, .rwp, .v, 0, .any⟩]⟩

/-- Object 0x1A01 (R64, R67). -/
def g1A01 : ObjGroup := ⟨0x1A01, 1, [
  ⟨0x00, 1, 1, .u8, .rwp, .v, 0, .range 0 16⟩,
  ⟨0x01, 16, 1, .u32, .rwp, .v, 0, .any⟩]⟩

/-- Object 0x1C00 (R64). -/
def g1C00 : ObjGroup := ⟨0x1C00, 1, [
  ⟨0x01, 1, 1, .u8, .ro, .v, 1, .any⟩,
  ⟨0x02, 1, 1, .u8, .ro, .v, 2, .any⟩,
  ⟨0x03, 1, 1, .u8, .ro, .v, 3, .any⟩,
  ⟨0x04, 1, 1, .u8, .ro, .v, 4, .any⟩]⟩

/-- Object 0x1C12 (R64). -/
def g1C12 : ObjGroup := ⟨0x1C12, 1, [
  ⟨0x00, 1, 1, .u8, .rwp, .v, 1, .range 0 2⟩,
  ⟨0x01, 1, 1, .u16, .rwp, .v, 5632, .any⟩,
  ⟨0x02, 1, 1, .u16, .rwp, .v, 0, .any⟩]⟩

/-- Object 0x1C13 (R64). -/
def g1C13 : ObjGroup := ⟨0x1C13, 1, [
  ⟨0x00, 1, 1, .u8, .rwp, .v, 1, .range 0 2⟩,
  ⟨0x01, 1, 1, .u16, .rwp, .v, 6656, .any⟩,
  ⟨0x02, 1, 1, .u16, .rwp, .v, 0, .any⟩]⟩

/-- Object 0x1C32 (R68). Its access RW, its default 1 and its range 0 to 3 are this model's choice (DESIGN CHOICE, log entry 185). -/
def g1C32 : ObjGroup := ⟨0x1C32, 1, [
  ⟨0x01, 1, 1, .u16, .rw, .v, 1, .range 0 3⟩]⟩

/-- Object 0x1C33 (R68). That it is an RO copy of 0x1C32:01 is this model's choice (DESIGN CHOICE, log entry 185). -/
def g1C33 : ObjGroup := ⟨0x1C33, 1, [
  ⟨0x01, 1, 1, .u16, .ro, .v, 1, .any⟩]⟩

/-- Object 0x2000 (R55). -/
def g2000 : ObjGroup := ⟨0x2000, 1, [
  ⟨0x01, 1, 1, .str 8, .ro, .v, 0, .any⟩,
  ⟨0x02, 1, 1, .str 12, .ro, .v, 0, .any⟩,
  ⟨0x03, 1, 1, .u16, .ro, .v, 0, .any⟩,
  ⟨0x04, 1, 1, .u64, .ro, .v, 0, .any⟩,
  ⟨0x05, 1, 1, .u16, .rwp, .j, 0, .any⟩,
  ⟨0x06, 1, 1, .bool, .ro, .v, 0, .any⟩]⟩

/-- Object 0x2001 (R55). -/
def g2001 : ObjGroup := ⟨0x2001, 1, [
  ⟨0x01, 1, 1, .u32, .ro, .v, 0, .any⟩,
  ⟨0x02, 1, 1, .u8, .ro, .v, 0, .any⟩]⟩

/-- Object 0x2002 (R55). -/
def g2002 : ObjGroup := ⟨0x2002, 1, [
  ⟨0x01, 1, 1, .u8, .ro, .v, 2, .any⟩,
  ⟨0x02, 1, 1, .u8, .rwp, .v, 0, .any⟩]⟩

/-- Object 0x2003 (R55). -/
def g2003 : ObjGroup := ⟨0x2003, 1, [
  ⟨0x01, 51, 1, .u16, .ro, .v, 0, .any⟩]⟩

/-- Object 0x2100 (R425). -/
def g2100 : ObjGroup := ⟨0x2100, 1, [
  ⟨0x01, 1, 1, .u8, .ro, .v, 0, .any⟩,
  ⟨0x02, 1, 1, .u8, .rw, .w, 3, .range 0 4⟩,
  ⟨0x03, 1, 1, .u32, .rw, .w, 10, .any⟩,
  ⟨0x04, 1, 1, .u32, .rw, .w, 10000, .any⟩,
  ⟨0x05, 1, 1, .u32, .rw, .w, 0xb8efc0, .range 1 4294967295⟩,
  ⟨0x06, 1, 1, .u8, .ro, .v, 0, .any⟩,
  ⟨0x07, 1, 1, .u32, .ro, .v, 0, .any⟩,
  ⟨0x08, 1, 1, .u32, .ro, .v, 0, .any⟩,
  ⟨0x10, 5, 1, .u32, .ro, .v, 0, .any⟩,
  ⟨0x20, 1, 1, .u8, .ro, .k, 0, .any⟩,
  ⟨0x21, 1, 1, .u8, .ro, .k, 0, .any⟩,
  ⟨0x22, 1, 1, .u8, .wo, .v, 0, .oneOf [1]⟩,
  ⟨0x23, 1, 1, .u8, .wo, .v, 0, .oneOf [6, 8, 9, 10, 11, 12, 13, 14, 15, 16, 17, 18, 19]⟩,
  ⟨0x30, 1, 1, .u8, .ro, .v, 0, .any⟩,
  ⟨0x31, 1, 1, .u32, .ro, .k, 0, .any⟩]⟩

/-- Object 0x2101 (R65). -/
def g2101 : ObjGroup := ⟨0x2101, 1, [
  ⟨0x01, 1, 1, .u16, .rw, .v, 0, .any⟩,
  ⟨0x02, 1, 1, .u16, .ro, .v, 0, .any⟩]⟩

/-- Object 0x2200 (R426). -/
def g2200 : ObjGroup := ⟨0x2200, 1, [
  ⟨0x01, 1, 1, .u8, .ro, .v, 0, .any⟩,
  ⟨0x02, 1, 1, .u8, .rwp, .j, 0, .range 0 1⟩,
  ⟨0x03, 1, 1, .i32, .ro, .v, 0, .any⟩,
  ⟨0x04, 1, 1, .u32, .ro, .k, 0, .any⟩]⟩

/-- Object 0x2300 (R401). -/
def g2300 : ObjGroup := ⟨0x2300, 1, [
  ⟨0x01, 1, 1, .u8, .ro, .j, 0, .any⟩,
  ⟨0x02, 1, 1, .u8, .ro, .j, 0, .any⟩,
  ⟨0x03, 1, 1, .bool, .ro, .j, 0, .any⟩,
  ⟨0x04, 1, 1, .u8, .rw, .v, 0, .range 0 1⟩,
  ⟨0x05, 2, 1, .u8, .ro, .v, 0, .any⟩,
  ⟨0x07, 2, 1, .u32, .ro, .v, 0, .any⟩,
  ⟨0x09, 1, 1, .u8, .wo, .v, 0, .range 1 4⟩,
  ⟨0x0A, 1, 1, .u32, .ro, .v, 0, .any⟩]⟩

/-- Object 0x2301 (R401). -/
def g2301 : ObjGroup := ⟨0x2301, 1, [
  ⟨0x01, 1, 1, .u8, .ro, .v, 0, .any⟩,
  ⟨0x02, 1, 1, .u32, .ro, .v, 0, .any⟩,
  ⟨0x03, 1, 1, .u8, .ro, .v, 0, .any⟩,
  ⟨0x04, 1, 1, .u32, .ro, .v, 0, .any⟩,
  ⟨0x05, 1, 1, .u32, .ro, .j, 0, .any⟩,
  ⟨0x06, 1, 1, .u32, .ro, .j, 0, .any⟩,
  ⟨0x07, 1, 1, .u32, .ro, .v, 0, .any⟩]⟩

/-- Object 0x2310 (R401). -/
def g2310 : ObjGroup := ⟨0x2310, 1, [
  ⟨0x01, 1, 1, .u8, .ro, .j, 0, .any⟩,
  ⟨0x02, 3, 1, .u8, .ro, .j, 0, .any⟩,
  ⟨0x05, 1, 1, .u32, .ro, .j, 0, .any⟩]⟩

/-- Object 0x2400 (R439). -/
def g2400 : ObjGroup := ⟨0x2400, 1, [
  ⟨0x01, 1, 1, .u32, .ro, .v, 0, .any⟩,
  ⟨0x02, 1, 1, .u32, .ro, .v, 0, .any⟩,
  ⟨0x03, 1, 1, .dom 64, .ro, .v, 0, .any⟩,
  ⟨0x04, 1, 1, .dom 16, .ro, .v, 0, .any⟩,
  ⟨0x05, 1, 1, .u64, .ro, .v, 0, .any⟩,
  ⟨0x06, 1, 1, .u16, .ro, .v, 0, .any⟩,
  ⟨0x07, 1, 1, .u8, .ro, .v, 0, .any⟩,
  ⟨0x08, 1, 1, .dom 32, .wo, .v, 0, .any⟩,
  ⟨0x09, 1, 1, .u8, .ro, .v, 0, .any⟩,
  ⟨0x0A, 1, 1, .u64, .ro, .j, 0, .any⟩,
  ⟨0x0B, 1, 1, .u64, .ro, .j, 0, .any⟩,
  ⟨0x0C, 1, 1, .u32, .ro, .j, 0, .any⟩,
  ⟨0x10, 1, 1, .bool, .g, .v, 0, .any⟩,
  ⟨0x11, 3, 1, .dom 64, .g, .v, 0, .any⟩,
  ⟨0x14, 1, 1, .dom 64, .ro, .v, 0, .any⟩,
  ⟨0x21, 1, 1, .dom 24, .g, .v, 0, .any⟩,
  ⟨0x22, 1, 1, .dom 24, .g, .v, 0, .any⟩]⟩

/-- Object 0x2500 (R45, R47, R477). -/
def g2500 : ObjGroup := ⟨0x2500, 1, [
  ⟨0x01, 2, 1, .u64, .ro, .v, 0, .any⟩,
  ⟨0x03, 2, 1, .u64, .rw, .v, 0, .any⟩,
  ⟨0x05, 1, 1, .u32, .ro, .v, 0, .any⟩,
  ⟨0x06, 1, 1, .u32, .ro, .v, 0, .any⟩]⟩

/-- Object 0x2501 (R44). -/
def g2501 : ObjGroup := ⟨0x2501, 1, [
  ⟨0x01, 128, 1, .u16, .rw, .w, 0, .any⟩]⟩

/-- Object 0x2502 (R44). -/
def g2502 : ObjGroup := ⟨0x2502, 1, [
  ⟨0x01, 128, 1, .u16, .rw, .w, 0, .any⟩]⟩

/-- Object 0x2800 (R65, R202). -/
def g2800 : ObjGroup := ⟨0x2800, 1, [
  ⟨0x01, 1, 1, .u8, .rw, .w, 0, .range 0 1⟩,
  ⟨0x02, 1, 1, .u32, .rwp, .w, 1, .range 1 0xFFFFFFFF⟩,
  ⟨0x03, 1, 1, .u32, .rwp, .w, 4, .range 1 16777216⟩,
  ⟨0x04, 1, 1, .bool, .rwp, .w, 0, .any⟩,
  ⟨0x05, 1, 1, .u8, .rw, .w, 4, .range 0 64⟩,
  ⟨0x06, 1, 1, .u32, .rwp, .w, 0, .any⟩,
  ⟨0x07, 1, 1, .u32, .rw, .w, 0, .any⟩,
  ⟨0x08, 1, 1, .u8, .rw, .w, 0, .range 0 2⟩,
  ⟨0x09, 1, 1, .u8, .rw, .w, 0, .range 0 15⟩,
  ⟨0x0A, 1, 1, .u16, .rw, .w, 8, .any⟩,
  ⟨0x0B, 1, 1, .u16, .rw, .w, 250, .range 10 10000⟩,
  ⟨0x0C, 1, 1, .u16, .rw, .w, 10, .range 1 65535⟩,
  ⟨0x0D, 1, 1, .u8, .rwp, .w, 4, .range 1 16⟩,
  ⟨0x0E, 1, 1, .u32, .rwp, .w, 0, .any⟩,
  ⟨0x0F, 1, 1, .u64, .rw, .v, 0, .range 0 0xFFFFFFFFFFFF⟩,
  ⟨0x10, 1, 1, .u32, .ro, .v, 0, .any⟩,
  ⟨0x11, 1, 1, .u32, .ro, .v, 0, .any⟩,
  ⟨0x12, 1, 1, .u8, .wo, .v, 0, .oneOf [1, 2, 3, 4]⟩,
  ⟨0x13, 1, 1, .u8, .ro, .v, 0, .any⟩,
  ⟨0x14, 1, 1, .u64, .ro, .v, 0, .any⟩,
  ⟨0x15, 1, 1, .u64, .ro, .v, 0, .any⟩,
  ⟨0x16, 1, 1, .u32, .ro, .v, 0, .any⟩,
  ⟨0x17, 1, 1, .u32, .ro, .v, 0, .any⟩,
  ⟨0x18, 1, 1, .u32, .ro, .v, 0, .any⟩,
  ⟨0x19, 1, 1, .u32, .ro, .v, 0, .any⟩,
  ⟨0x1A, 1, 1, .i32, .ro, .v, 0, .any⟩,
  ⟨0x1B, 1, 1, .i32, .ro, .v, 0, .any⟩,
  ⟨0x1C, 1, 1, .u8, .rw, .w, 0, .range 0 7⟩,
  ⟨0x20, 4, 4, .u64, .ro, .v, 0, .any⟩,
  ⟨0x21, 4, 4, .u64, .ro, .v, 0, .any⟩,
  ⟨0x22, 4, 4, .u64, .ro, .v, 0, .any⟩,
  ⟨0x23, 4, 4, .i32, .ro, .v, 0, .any⟩]⟩

/-- Object 0x2900 (R323). -/
def g2900 : ObjGroup := ⟨0x2900, 1, [
  ⟨0x01, 1, 1, .bool, .ro, .v, 0, .any⟩,
  ⟨0x02, 1, 1, .i32, .ro, .v, 0, .any⟩,
  ⟨0x03, 1, 1, .u16, .rw, .w, 20, .range 1 65535⟩,
  ⟨0x04, 1, 1, .u64, .ro, .k, 0, .any⟩,
  ⟨0x05, 1, 1, .u64, .ro, .v, 0, .any⟩,
  ⟨0x07, 1, 1, .u8, .rw, .w, 4, .range 0 64⟩,
  ⟨0x20, 16, 6, .u8, .rw, .w, 1, .range 0 3⟩,
  ⟨0x21, 16, 6, .u32, .rw, .w, 0, .any⟩,
  ⟨0x22, 16, 6, .u16, .rw, .w, 0, .any⟩,
  ⟨0x23, 16, 6, .u32, .rw, .w, 0, .range 0 0x7FFFFFFF⟩,
  ⟨0x24, 16, 6, .bool, .rw, .v, 0, .any⟩,
  ⟨0x25, 16, 6, .u32, .ro, .v, 0, .any⟩,
  ⟨0x80, 16, 3, .u8, .rw, .w, 255, .orNone 15⟩,
  ⟨0x81, 16, 3, .u32, .rw, .w, 400, .any⟩,
  ⟨0x82, 16, 3, .u8, .rw, .w, 0, .any⟩,
  ⟨0xB0, 8, 5, .u8, .rw, .w, 0, .range 0 3⟩,
  ⟨0xB1, 8, 5, .u64, .ro, .v, 0, .any⟩,
  ⟨0xB2, 8, 5, .u64, .ro, .v, 0, .any⟩,
  ⟨0xB3, 8, 5, .u64, .ro, .v, 0, .any⟩,
  ⟨0xB4, 8, 5, .u32, .ro, .v, 0, .any⟩]⟩

/-- Object 0x2A00 (R336). -/
def g2A00 : ObjGroup := ⟨0x2A00, 1, [
  ⟨0x01, 1, 1, .u8, .g, .j, 0, .range 0 2⟩,
  ⟨0x02, 1, 1, .bool, .g, .j, 0, .any⟩,
  ⟨0x03, 1, 1, .u32, .rw, .w, 2000, .any⟩,
  ⟨0x04, 1, 1, .u16, .rw, .w, 2, .range 1 65535⟩,
  ⟨0x05, 1, 1, .u16, .rw, .w, 16384, .any⟩,
  ⟨0x06, 1, 1, .u8, .ro, .v, 0, .any⟩,
  ⟨0x07, 1, 1, .bool, .ro, .v, 0, .any⟩,
  ⟨0x08, 1, 1, .bool, .ro, .v, 0, .any⟩,
  ⟨0x09, 1, 1, .u32, .ro, .j, 0, .any⟩,
  ⟨0x0A, 1, 1, .u32, .ro, .j, 0, .any⟩,
  ⟨0x0B, 1, 1, .u32, .ro, .v, 0, .any⟩,
  ⟨0x0C, 1, 1, .u64, .ro, .v, 0, .any⟩,
  ⟨0x0D, 1, 1, .i32, .ro, .v, 0, .any⟩,
  ⟨0x0E, 1, 1, .u8, .rwp, .w, 2, .range 1 2⟩]⟩

/-- Object 0x3000 (R101). -/
def g3000 : ObjGroup := ⟨0x3000, 1, [
  ⟨0x01, 1, 1, .u16, .rw, .w, 16, .any⟩,
  ⟨0x02, 1, 1, .u16, .rw, .w, 48, .range 1 0xFFFF⟩,
  ⟨0x03, 1, 1, .u16, .rwp, .w, 16, .any⟩,
  ⟨0x04, 1, 1, .u32, .rw, .w, 1000, .any⟩,
  ⟨0x05, 1, 1, .u64, .rwp, .w, 0, .any⟩,
  ⟨0x06, 1, 1, .u32, .rwp, .w, 0, .any⟩,
  ⟨0x11, 15, 1, .u16, .rwp, .w, 256, .range 1 65535⟩]⟩

/-- Object 0x3100 (R361). -/
def g3100 : ObjGroup := ⟨0x3100, 1, [
  ⟨0x01, 1, 1, .u8, .rwp, .j, 0, .range 0 1⟩,
  ⟨0x02, 1, 1, .u16, .rwp, .j, 8533, .oneOf dataRates⟩,
  ⟨0x03, 1, 1, .bool, .rwp, .j, 0, .any⟩,
  ⟨0x04, 1, 1, .u8, .rwp, .j, 8, .range 8 14⟩,
  ⟨0x05, 1, 1, .bool, .rwp, .j, 0, .any⟩,
  ⟨0x06, 1, 1, .u64, .ro, .v, 0, .any⟩,
  ⟨0x07, 1, 1, .u8, .ro, .v, 0, .any⟩,
  ⟨0x08, 1, 1, .u8, .ro, .v, 0, .any⟩,
  ⟨0x09, 1, 1, .u8, .ro, .v, 0, .any⟩,
  ⟨0x0A, 1, 1, .u8, .ro, .v, 0, .any⟩,
  ⟨0x0B, 1, 1, .u32, .ro, .v, 0, .any⟩,
  ⟨0x0C, 1, 1, .u32, .rw, .w, 24, .any⟩,
  ⟨0x0D, 1, 1, .u16, .rw, .w, 100, .range 1 65535⟩,
  ⟨0x10, 2, 1, .u8, .rw, .w, 7, .range 1 16⟩,
  ⟨0x12, 2, 1, .u8, .rw, .w, 2, .range 1 16⟩,
  ⟨0x14, 3, 1, .u8, .rw, .w, 1, .range 1 16⟩,
  ⟨0x18, 7, 1, .u8, .rw, .w, 0, .range 0 2⟩,
  ⟨0x20, 1, 1, .u32, .ro, .v, 0, .any⟩,
  ⟨0x21, 1, 1, .u32, .ro, .v, 0, .any⟩,
  ⟨0x22, 1, 1, .u64, .ro, .v, 0, .any⟩,
  ⟨0x23, 1, 1, .u32, .ro, .v, 0, .any⟩,
  ⟨0x24, 1, 1, .u8, .ro, .v, 0, .any⟩,
  ⟨0x30, 1, 1, .dom 512, .ro, .j, 0, .any⟩,
  ⟨0x40, 1, 1, .dom 64, .rwp, .j, 0, .any⟩]⟩

/-- Object 0x3200 (R129). -/
def g3200 : ObjGroup := ⟨0x3200, 1, [
  ⟨0x01, 1, 1, .u64, .rwp, .w, 0, .any⟩,
  ⟨0x02, 1, 1, .u64, .rwp, .w, 0, .any⟩,
  ⟨0x03, 1, 1, .u32, .rw, .w, 1024, .range 64 1048575⟩,
  ⟨0x04, 1, 1, .u16, .rw, .w, 4, .any⟩,
  ⟨0x05, 1, 1, .u32, .rw, .w, 0x20800, .any⟩,
  ⟨0x06, 1, 1, .u32, .ro, .v, 0, .any⟩]⟩

/-- Object 0x3300 + n, n < 256 (R136). -/
def g3300 : ObjGroup := ⟨0x3300, 256, [
  ⟨0x01, 1, 1, .u8, .ro, .v, 0, .any⟩,
  ⟨0x02, 1, 1, .u8, .wo, .v, 0, .oneOf [1, 2]⟩,
  ⟨0x03, 1, 1, .u64, .rw, .v, 0, .range 0 0xFFFFFFFFFFFF⟩,
  ⟨0x04, 1, 1, .u32, .rw, .v, 0, .range 0 1048575⟩,
  ⟨0x05, 1, 1, .u32, .rw, .v, 0, .range 0 0xFFFFFF⟩,
  ⟨0x06, 1, 1, .u32, .rw, .v, 0, .any⟩,
  ⟨0x07, 1, 1, .u16, .ro, .v, 0, .any⟩,
  ⟨0x08, 1, 1, .u64, .ro, .v, 0, .any⟩,
  ⟨0x09, 1, 1, .u64, .ro, .v, 0, .any⟩,
  ⟨0x0A, 1, 1, .u32, .ro, .v, 0, .any⟩,
  ⟨0x10, 24, 1, .u16, .rw, .v, 0, .range 0 1023⟩,
  ⟨0x30, 24, 1, .u32, .ro, .v, 0, .any⟩,
  ⟨0x50, 24, 1, .u32, .ro, .v, 0, .any⟩]⟩

/-- Object 0x3400 (R178). -/
def g3400 : ObjGroup := ⟨0x3400, 1, [
  ⟨0x01, 1, 1, .dom 64, .rwp, .w, 0, .any⟩,
  ⟨0x02, 1, 1, .u8, .rwp, .w, 32, .range 0 64⟩,
  ⟨0x03, 1, 1, .u8, .rw, .v, 0, .any⟩,
  ⟨0x04, 1, 1, .u8, .rw, .v, 0, .any⟩,
  ⟨0x05, 1, 1, .u8, .rw, .w, 1, .range 1 64⟩,
  ⟨0x06, 1, 1, .u16, .ro, .v, 0, .any⟩,
  ⟨0x07, 1, 1, .u16, .ro, .v, 0, .any⟩]⟩

/-- Object 0x3401 (R178). -/
def g3401 : ObjGroup := ⟨0x3401, 1, [
  ⟨0x01, 1, 1, .u32, .rw, .v, 0, .any⟩,
  ⟨0x02, 1, 1, .u32, .rw, .v, 0, .any⟩,
  ⟨0x03, 1, 1, .u32, .rw, .v, 0, .any⟩,
  ⟨0x04, 1, 1, .u64, .rw, .v, 0, .any⟩,
  ⟨0x05, 1, 1, .u32, .rw, .v, 0, .any⟩,
  ⟨0x06, 1, 1, .u8, .wo, .v, 0, .oneOf [1]⟩,
  ⟨0x07, 1, 1, .u64, .ro, .v, 0, .any⟩,
  ⟨0x08, 1, 1, .u8, .ro, .v, 0, .any⟩]⟩

/-- Object 0x3402 (R178). -/
def g3402 : ObjGroup := ⟨0x3402, 1, [
  ⟨0x01, 24, 1, .u32, .ro, .v, 0, .any⟩]⟩

/-- Object 0x3410 (R178). -/
def g3410 : ObjGroup := ⟨0x3410, 1, [
  ⟨0x01, 7, 1, .dom 512, .rwp, .w, 0, .any⟩]⟩

/-- Object 0x3411 (R178). -/
def g3411 : ObjGroup := ⟨0x3411, 1, [
  ⟨0x01, 22, 1, .u8, .rwp, .w, 0, .range 0 7⟩]⟩

/-- Object 0x3480 (R178). -/
def g3480 : ObjGroup := ⟨0x3480, 1, [
  ⟨0x01, 1, 1, .dom 1572864, .rw, .j, 0, .any⟩,
  ⟨0x02, 1, 1, .u32, .ro, .v, 0, .any⟩]⟩

/-- Object 0x3500 + n, n < 24 (R178, R235). -/
def g3500 : ObjGroup := ⟨0x3500, 24, [
  ⟨0x10, 8, 1, .u16, .ro, .v, 0, .any⟩,
  ⟨0x18, 1, 1, .u8, .ro, .v, 0, .any⟩,
  ⟨0x20, 16, 1, .u64, .rw, .w, 0, .any⟩,
  ⟨0x30, 1, 1, .u32, .rw, .w, 0, .any⟩,
  ⟨0x31, 1, 1, .dom 32, .rw, .w, 0, .any⟩,
  ⟨0x32, 1, 1, .u8, .rw, .w, 0, .range 0 31⟩,
  ⟨0x33, 1, 1, .u8, .rw, .w, 4, .range 1 4⟩,
  ⟨0x34, 1, 1, .u8, .wo, .v, 0, .oneOf [1]⟩,
  ⟨0x35, 1, 1, .bool, .ro, .v, 0, .any⟩,
  ⟨0x36, 1, 1, .u16, .ro, .v, 0, .any⟩,
  ⟨0x37, 1, 1, .u32, .ro, .v, 0, .any⟩,
  ⟨0x38, 1, 1, .i16, .g, .j, 0, .any⟩,
  ⟨0x39, 1, 1, .i16, .g, .j, 0, .any⟩,
  ⟨0x3A, 1, 1, .u16, .rw, .w, 50, .any⟩,
  ⟨0x3B, 1, 1, .u16, .g, .j, 0, .any⟩,
  ⟨0x3C, 1, 1, .u16, .g, .j, 0, .any⟩,
  ⟨0x3D, 1, 1, .bool, .ro, .v, 0, .any⟩]⟩

/-- Object 0x3600 (R65, R235). -/
def g3600 : ObjGroup := ⟨0x3600, 1, [
  ⟨0x01, 1, 1, .u8, .rw, .w, 8, .range 1 31⟩,
  ⟨0x02, 1, 1, .u8, .rw, .w, 24, .range 2 32⟩,
  ⟨0x03, 1, 1, .u8, .rwp, .w, 32, .range 8 63⟩,
  ⟨0x04, 1, 1, .u16, .rw, .w, 256, .any⟩,
  ⟨0x05, 1, 1, .u16, .rw, .w, 16, .range 1 4096⟩,
  ⟨0x06, 1, 1, .u8, .rw, .w, 3, .any⟩,
  ⟨0x07, 1, 1, .u32, .rw, .w, 60000, .range 1 4294967295⟩,
  ⟨0x08, 1, 1, .bool, .rw, .w, 1, .any⟩,
  ⟨0x10, 1, 1, .u16, .ro, .v, 0, .any⟩,
  ⟨0x11, 1, 1, .u64, .ro, .v, 0, .any⟩,
  ⟨0x12, 1, 1, .u32, .ro, .v, 0, .any⟩,
  ⟨0x13, 1, 1, .u32, .ro, .v, 0, .any⟩,
  ⟨0x14, 1, 1, .u8, .ro, .v, 0, .any⟩,
  ⟨0x15, 1, 1, .u32, .ro, .v, 0xb71b00, .any⟩,
  ⟨0x16, 1, 1, .u32, .ro, .v, 0xb71b00, .any⟩,
  ⟨0x20, 1, 1, .u32, .ro, .v, 0, .any⟩,
  ⟨0x21, 1, 1, .u16, .ro, .v, 0, .any⟩,
  ⟨0x30, 24, 1, .u64, .ro, .v, 0, .any⟩]⟩

/-- Object 0x3700 + n, n < 24 (R264). -/
def g3700 : ObjGroup := ⟨0x3700, 24, [
  ⟨0x01, 1, 1, .bool, .rw, .w, 1, .any⟩,
  ⟨0x02, 1, 1, .u8, .ro, .v, 0, .any⟩,
  ⟨0x03, 1, 1, .u8, .rwp, .w, 2, .range 1 2⟩,
  ⟨0x04, 1, 1, .u8, .ro, .v, 0, .any⟩,
  ⟨0x05, 1, 1, .u64, .ro, .v, 0, .any⟩,
  ⟨0x06, 1, 1, .u64, .ro, .j, 0, .any⟩,
  ⟨0x07, 1, 1, .u32, .ro, .v, 0, .any⟩,
  ⟨0x08, 1, 1, .dom 256, .ro, .v, 0, .any⟩,
  ⟨0x10, 1, 1, .i16, .ro, .v, 0, .any⟩,
  ⟨0x11, 1, 1, .u16, .ro, .v, 0, .any⟩,
  ⟨0x12, 1, 1, .u16, .ro, .v, 0, .any⟩,
  ⟨0x13, 1, 1, .u16, .ro, .v, 0, .any⟩,
  ⟨0x20, 1, 1, .u32, .ro, .v, 0, .any⟩,
  ⟨0x21, 1, 1, .u32, .ro, .v, 0, .any⟩,
  ⟨0x22, 1, 1, .u32, .ro, .v, 0, .any⟩,
  ⟨0x23, 1, 1, .u32, .ro, .v, 0, .any⟩,
  ⟨0x24, 1, 1, .u16, .ro, .v, 0, .any⟩,
  ⟨0x30, 1, 1, .u8, .wo, .v, 0, .oneOf [1]⟩,
  ⟨0x31, 1, 1, .dom 2048, .ro, .v, 0, .any⟩,
  ⟨0x32, 1, 1, .u16, .ro, .v, 0, .any⟩]⟩

/-- Object 0x4000 + n, n < 4 (R286). -/
def g4000 : ObjGroup := ⟨0x4000, 4, [
  ⟨0x01, 1, 1, .bool, .rw, .w, 0, .any⟩,
  ⟨0x02, 1, 1, .u8, .rwp, .w, 4, .oneOf [1, 2, 4]⟩,
  ⟨0x03, 1, 1, .u8, .rwp, .w, 0, .range 0 3⟩,
  ⟨0x04, 1, 1, .u8, .rwp, .w, 43, .oneOf [0x2A, 0x2B, 0x2C]⟩,
  ⟨0x05, 1, 1, .u8, .rw, .w, 0, .range 0 2⟩,
  ⟨0x06, 1, 1, .bool, .rw, .w, 1, .any⟩,
  ⟨0x07, 1, 1, .u8, .rwp, .w, 16, .range 0 127⟩,
  ⟨0x08, 1, 1, .u8, .rwp, .w, 2, .range 0 2⟩,
  ⟨0x09, 1, 1, .u8, .rw, .w, 2, .range 0 7⟩,
  ⟨0x0A, 1, 1, .u32, .rw, .w, 1000, .range 1 1000000⟩,
  ⟨0x0B, 1, 1, .u8, .rw, .w, 255, .orNone 15⟩,
  ⟨0x0C, 1, 1, .u8, .rw, .w, 255, .orNone 15⟩,
  ⟨0x10, 1, 1, .u16, .rw, .w, 0, .any⟩,
  ⟨0x11, 1, 1, .u16, .rw, .w, 4096, .any⟩,
  ⟨0x12, 1, 1, .u16, .rw, .w, 256, .any⟩,
  ⟨0x13, 1, 1, .u16, .rw, .w, 0, .any⟩,
  ⟨0x14, 1, 1, .u16, .rw, .w, 0, .range 0 1023⟩,
  ⟨0x15, 1, 1, .u16, .rw, .w, 0, .range 0 4095⟩,
  ⟨0x16, 1, 1, .u16, .rw, .w, 256, .any⟩,
  ⟨0x17, 1, 1, .u8, .rw, .w, 0, .any⟩,
  ⟨0x18, 1, 1, .dom 256, .rw, .w, 0, .any⟩,
  ⟨0x20, 1, 1, .u8, .wo, .v, 0, .oneOf [1]⟩,
  ⟨0x21, 1, 1, .bool, .ro, .v, 0, .any⟩,
  ⟨0x22, 1, 1, .u32, .ro, .v, 0, .any⟩,
  ⟨0x23, 1, 1, .u16, .ro, .v, 0, .any⟩,
  ⟨0x24, 1, 1, .u8, .ro, .v, 0, .any⟩,
  ⟨0x30, 1, 1, .u32, .ro, .v, 0, .any⟩,
  ⟨0x31, 1, 1, .u32, .ro, .v, 0, .any⟩,
  ⟨0x32, 1, 1, .u32, .ro, .v, 0, .any⟩,
  ⟨0x33, 1, 1, .u32, .ro, .v, 0, .any⟩,
  ⟨0x34, 1, 1, .u32, .ro, .v, 0, .any⟩,
  ⟨0x35, 1, 1, .u32, .ro, .v, 0, .any⟩,
  ⟨0x36, 1, 1, .u32, .ro, .v, 0, .any⟩,
  ⟨0x37, 1, 1, .u32, .ro, .v, 0, .any⟩,
  ⟨0x40, 1, 1, .u16, .rw, .v, 0, .any⟩,
  ⟨0x41, 1, 1, .u32, .rw, .v, 0, .any⟩,
  ⟨0x42, 1, 1, .u8, .rw, .v, 10, .any⟩,
  ⟨0x43, 1, 1, .u8, .wo, .v, 0, .oneOf [1, 2]⟩,
  ⟨0x44, 1, 1, .u8, .ro, .v, 0, .any⟩]⟩

/-- Object 0x4100 (R310). -/
def g4100 : ObjGroup := ⟨0x4100, 1, [
  ⟨0x01, 1, 1, .u64, .rwp, .w, 0, .any⟩,
  ⟨0x02, 1, 1, .u64, .rwp, .w, 0, .any⟩,
  ⟨0x03, 1, 1, .u16, .rwp, .w, 16, .any⟩,
  ⟨0x04, 1, 1, .u32, .rwp, .w, 0x140000, .range 1 4294967295⟩,
  ⟨0x05, 1, 1, .u8, .rwp, .w, 32, .range 1 255⟩,
  ⟨0x06, 1, 1, .u64, .rwp, .w, 0, .any⟩,
  ⟨0x07, 1, 1, .u16, .rwp, .w, 384, .range 16 640⟩,
  ⟨0x08, 1, 1, .u16, .rw, .w, 96, .range 0 4096⟩,
  ⟨0x09, 1, 1, .u8, .rw, .w, 0, .range 0 2⟩,
  ⟨0x0A, 1, 1, .u8, .rw, .w, 192, .range 1 255⟩,
  ⟨0x0B, 1, 1, .u8, .rw, .w, 64, .any⟩,
  ⟨0x0C, 1, 1, .u8, .rw, .w, 32, .any⟩,
  ⟨0x0D, 1, 1, .u8, .rw, .w, 64, .any⟩,
  ⟨0x0E, 1, 1, .u8, .rw, .w, 16, .any⟩,
  ⟨0x0F, 1, 1, .u16, .rw, .w, 192, .range 1 65535⟩,
  ⟨0x10, 1, 1, .u16, .rw, .w, 64, .range 1 0xFFFF⟩,
  ⟨0x11, 1, 1, .u8, .rw, .w, 32, .any⟩,
  ⟨0x12, 1, 1, .u16, .rw, .w, 24, .range 1 65535⟩,
  ⟨0x13, 1, 1, .u16, .rw, .w, 64, .range 1 65535⟩,
  ⟨0x14, 1, 1, .u8, .rw, .w, 1, .oneOf [1, 2, 3, 4, 5]⟩,
  ⟨0x15, 1, 1, .u32, .rw, .w, 2048, .any⟩,
  ⟨0x16, 1, 1, .u8, .rw, .w, 1, .any⟩,
  ⟨0x18, 2, 1, .u32, .rw, .w, 0x100b06, .weights⟩,
  ⟨0x1C, 2, 1, .u64, .rw, .w, 0, .any⟩,
  ⟨0x20, 4, 1, .u32, .rw, .w, 0, .any⟩,
  ⟨0x24, 4, 1, .i32, .rw, .w, 0, .any⟩,
  ⟨0x28, 4, 1, .u16, .rw, .w, 1536, .range 256 1536⟩,
  ⟨0x2C, 4, 1, .u64, .rw, .w, 0x3c003c003c003c0, .any⟩,
  ⟨0x30, 4, 1, .u8, .rw, .w, 0, .range 0 1⟩,
  ⟨0x40, 1, 1, .dom 65536, .rw, .w, 0, .any⟩,
  ⟨0x41, 1, 1, .dom 1024, .rw, .j, 0, .any⟩]⟩

/-- Object 0x4200 (R311). -/
def g4200 : ObjGroup := ⟨0x4200, 1, [
  ⟨0x01, 1, 1, .u32, .ro, .v, 0, .any⟩,
  ⟨0x02, 1, 1, .u32, .ro, .v, 0, .any⟩,
  ⟨0x03, 1, 1, .u32, .ro, .v, 0, .any⟩,
  ⟨0x04, 1, 1, .u32, .ro, .v, 0, .any⟩,
  ⟨0x05, 1, 1, .u32, .ro, .v, 0, .any⟩,
  ⟨0x06, 1, 1, .u32, .ro, .v, 0, .any⟩,
  ⟨0x07, 1, 1, .u32, .ro, .v, 0, .any⟩,
  ⟨0x08, 1, 1, .u32, .ro, .v, 0, .any⟩,
  ⟨0x09, 1, 1, .u32, .ro, .v, 0, .any⟩,
  ⟨0x0A, 1, 1, .u32, .ro, .v, 0, .any⟩,
  ⟨0x10, 1, 1, .u32, .wo, .v, 0, .any⟩,
  ⟨0x11, 1, 1, .u8, .ro, .v, 0, .any⟩]⟩

/-- Object 0x4800 (R380). -/
def g4800Table : ObjGroup := ⟨0x4800, 1, [
  ⟨0x60, 1, 1, .dom 16384, .rw, .w, 0, .any⟩]⟩

/-- Object 0x4800 + n, n < 8 (R380). -/
def g4800 : ObjGroup := ⟨0x4800, 8, [
  ⟨0x01, 1, 1, .bool, .rw, .w, 0, .any⟩,
  ⟨0x02, 1, 1, .u8, .wo, .v, 0, .range 1 6⟩,
  ⟨0x03, 1, 1, .i32, .rw, .v, 0, .any⟩,
  ⟨0x04, 1, 1, .i32, .rw, .v, 0, .any⟩,
  ⟨0x05, 1, 1, .u8, .ro, .v, 0, .any⟩,
  ⟨0x06, 1, 1, .i32, .ro, .v, 0, .any⟩,
  ⟨0x07, 1, 1, .i32, .ro, .v, 0, .any⟩,
  ⟨0x08, 1, 1, .u8, .ro, .v, 0, .any⟩,
  ⟨0x09, 1, 1, .bool, .ro, .v, 1, .any⟩,
  ⟨0x0A, 1, 1, .u8, .rw, .w, 255, .orNone 7⟩,
  ⟨0x0B, 1, 1, .u8, .rw, .w, 0, .any⟩,
  ⟨0x0C, 1, 1, .u32, .rw, .w, 25600, .range 1 4294967295⟩,
  ⟨0x0D, 1, 1, .i32, .rw, .w, 0, .any⟩,
  ⟨0x0E, 1, 1, .u32, .rw, .w, 0x271000, .range 1 4294967295⟩,
  ⟨0x0F, 1, 1, .u8, .rw, .w, 255, .orNone 7⟩,
  ⟨0x10, 1, 1, .u16, .rwp, .w, 5000, .range 1 65535⟩,
  ⟨0x11, 1, 1, .u16, .rw, .w, 4500, .range 1 65535⟩,
  ⟨0x12, 1, 1, .u32, .rw, .w, 0x271000, .range 1 2560000⟩,
  ⟨0x13, 1, 1, .u8, .rw, .w, 255, .orNone 15⟩,
  ⟨0x20, 1, 1, .u16, .rw, .w, 1000, .any⟩,
  ⟨0x21, 1, 1, .u16, .rw, .w, 1500, .any⟩,
  ⟨0x22, 1, 1, .u16, .rw, .w, 500, .any⟩,
  ⟨0x23, 1, 1, .u16, .rw, .w, 200, .any⟩,
  ⟨0x24, 1, 1, .u8, .rw, .w, 20, .range 2 50⟩,
  ⟨0x25, 1, 1, .u32, .rw, .w, 0x7d000, .any⟩,
  ⟨0x26, 1, 1, .u32, .rw, .w, 64000, .any⟩,
  ⟨0x27, 1, 1, .u8, .rw, .w, 16, .oneOf [4, 8, 16, 32]⟩,
  ⟨0x28, 1, 1, .dom 512, .rw, .w, 0, .any⟩,
  ⟨0x29, 1, 1, .u32, .rw, .w, 51200, .any⟩,
  ⟨0x2A, 1, 1, .u32, .rw, .w, 0x3e800, .any⟩,
  ⟨0x2B, 1, 1, .u32, .rw, .w, 0xbb800, .range 1 0xFFFFFFFF⟩,
  ⟨0x2C, 1, 1, .u32, .rw, .w, 51200, .any⟩,
  ⟨0x2D, 1, 1, .u32, .rw, .w, 0x271000, .range 1 0xFFFFFFFF⟩,
  ⟨0x2E, 1, 1, .u32, .rw, .w, 0x138800, .range 1 0xFFFFFFFF⟩,
  ⟨0x2F, 1, 1, .u32, .rw, .w, 0x138800, .range 1 0xFFFFFFFF⟩,
  ⟨0x30, 1, 1, .u32, .rw, .w, 0x271000, .range 1 0xFFFFFFFF⟩,
  ⟨0x31, 1, 1, .u16, .rw, .w, 0, .range 0 1023⟩,
  ⟨0x32, 1, 1, .u16, .rw, .w, 0, .any⟩,
  ⟨0x38, 1, 1, .u8, .wo, .v, 0, .oneOf [1]⟩,
  ⟨0x39, 1, 1, .bool, .ro, .v, 0, .any⟩,
  ⟨0x3A, 1, 1, .u8, .ro, .v, 0, .any⟩]⟩

/-- Object 0x4900 (R472). -/
def g4900 : ObjGroup := ⟨0x4900, 1, [
  ⟨0x01, 1, 1, .u32, .rw, .w, 0, .range 0 0xFFFFFF⟩,
  ⟨0x02, 1, 1, .u8, .rw, .w, 63, .range 0 63⟩,
  ⟨0x03, 1, 1, .u8, .rw, .v, 0, .any⟩,
  ⟨0x04, 1, 1, .u16, .rw, .v, 0, .any⟩,
  ⟨0x05, 1, 1, .u16, .rw, .w, 2000, .any⟩,
  ⟨0x06, 1, 1, .u16, .rw, .w, 200, .range 1 65535⟩,
  ⟨0x07, 1, 1, .u32, .ro, .v, 0, .any⟩,
  ⟨0x10, 1, 1, .dom 131072, .rw, .v, 0, .any⟩]⟩

/-- Object 0x5001 (R483). -/
def g5001 : ObjGroup := ⟨0x5001, 1, [
  ⟨0x01, 7, 1, .u32, .ro, .v, 0, .any⟩,
  ⟨0x08, 1, 1, .u32, .ro, .v, 0, .any⟩,
  ⟨0x09, 1, 1, .u8, .ro, .v, 255, .any⟩,
  ⟨0x0A, 1, 1, .u64, .ro, .v, 0, .any⟩,
  ⟨0x0B, 1, 1, .u8, .ro, .v, 0, .any⟩]⟩

/-- Object 0x5002 (R32). -/
def g5002 : ObjGroup := ⟨0x5002, 1, [
  ⟨0x01, 1, 1, .bool, .rwp, .v, 1, .any⟩,
  ⟨0x02, 1, 1, .u64, .ro, .v, 0, .any⟩,
  ⟨0x03, 1, 1, .u64, .ro, .v, 0, .any⟩]⟩

/-- Object 0x5003 (R32). -/
def g5003 : ObjGroup := ⟨0x5003, 1, [
  ⟨0x01, 24, 1, .u32, .ro, .v, 0, .any⟩]⟩

/-- Object 0x5004 (R32). -/
def g5004 : ObjGroup := ⟨0x5004, 1, [
  ⟨0x01, 24, 1, .u32, .ro, .v, 0, .any⟩]⟩

/-- Object 0x5010 + n, n < 7 (R37). -/
def g5010 : ObjGroup := ⟨0x5010, 7, [
  ⟨0x01, 1, 1, .u32, .ro, .v, 0, .any⟩,
  ⟨0x02, 7, 1, .u32, .ro, .v, 0, .any⟩,
  ⟨0x09, 1, 1, .u32, .ro, .v, 0, .any⟩,
  ⟨0x0A, 1, 1, .u16, .ro, .k, 0, .any⟩]⟩

/-- Object 0x5020 (R462). -/
def g5020 : ObjGroup := ⟨0x5020, 1, [
  ⟨0x01, 1, 1, .u8, .ro, .v, 0, .any⟩,
  ⟨0x02, 1, 1, .u8, .rw, .w, 0, .any⟩,
  ⟨0x03, 1, 1, .u8, .rw, .w, 0, .any⟩]⟩

/-- Object 0x5021 (R462). -/
def g5021 : ObjGroup := ⟨0x5021, 1, [
  ⟨0x01, 1, 1, .i16, .ro, .v, 0, .any⟩,
  ⟨0x02, 1, 1, .i16, .ro, .k, 65136, .any⟩,
  ⟨0x03, 1, 1, .i16, .rw, .w, 1050, .sle 1250⟩]⟩

/-- The groups from index 0x1000 on. -/
def groups0 : List ObjGroup :=
  [g1000, g1008, g1009, g100A, g1018, g1600, g1601, g1A00, g1A01, g1C00, g1C12, g1C13, g1C32, g1C33, g2000, g2001]

/-- The groups from index 0x2002 on. -/
def groups1 : List ObjGroup :=
  [g2002, g2003, g2100, g2101, g2200, g2300, g2301, g2310, g2400, g2500, g2501, g2502, g2800, g2900, g2A00, g3000]

/-- The groups from index 0x3100 on. -/
def groups2 : List ObjGroup :=
  [g3100, g3200, g3300, g3400, g3401, g3402, g3410, g3411, g3480, g3500, g3600, g3700, g4000, g4100, g4200, g4800Table]

/-- The groups from index 0x4800 on. -/
def groups3 : List ObjGroup :=
  [g4800, g4900, g5001, g5002, g5003, g5004, g5010, g5020, g5021]

/-- The whole dictionary. -/
def groups : List ObjGroup := groups0 ++ groups1 ++ groups2 ++ groups3

end Dict

/-- The row that holds subindex `sub`, if one does. -/
def findRow : List ObjRow → Nat → Option ObjRow
  | [], _ => none
  | r :: rs, sub =>
    if r.sub ≤ sub ∧ (sub - r.sub) % r.step = 0 ∧ (sub - r.sub) / r.step < r.n then some r else findRow rs sub

/-- The first group that holds index `idx` and a row for `sub`. -/
def findObj : List ObjGroup → Nat → Nat → Option ObjRow
  | [], _, _ => none
  | g :: gs, idx, sub =>
    if g.idx ≤ idx ∧ idx < g.idx + g.n then
      match findRow g.rows sub with
      | some r => some r
      | none => findObj gs idx sub
    else findObj gs idx sub

/-- Check 1 of R52: the index exists (R54). -/
def indexExists (idx : Nat) : Bool := Dict.groups.any fun g => g.idx ≤ idx && idx < g.idx + g.n

/-- The row of an object key, subindex 0 of R486 aside. -/
def objRow (key : Nat) : Option ObjRow := findObj Dict.groups (key / 256) (key % 256)

/-- The highest subindex of an index (R486). -/
def highestSub (idx : Nat) : Nat :=
  (Dict.groups.filter fun g => g.idx ≤ idx && idx < g.idx + g.n).foldl
    (fun m g => g.rows.foldl (fun m r => max m (r.sub + (r.n - 1) * r.step)) m) 0

/-- R486: indices whose subindex 0 stands in the tables themselves (a PDO count, or a single value). -/
def hasOwnSub0 (idx : Nat) : Bool := (objRow (idx * 256)).isSome

/-- R486: the row of the read-only subindex 0. -/
def sub0Row : ObjRow := ⟨0, 1, 1, .u8, .ro, .v, 0, .any⟩

/-- The row of any subindex that exists, subindex 0 included. -/
def rowOf (idx sub : Nat) : Option ObjRow :=
  match objRow (idx * 256 + sub) with
  | some r => some r
  | none => if sub = 0 ∧ indexExists idx then some sub0Row else none

/-- The subsystem number (R19) that owns an object; 0 for the device. R26's head objects are COMP's below 0x20. -/
def ownerOf (key : Nat) : Nat :=
  let idx := key / 256
  if idx < 0x2000 then 4
  else if idx < 0x2100 then 0
  else if idx < 0x2200 then 21
  else if idx < 0x2300 then 1
  else if idx = 0x2301 then 20
  else if idx < 0x2400 then 2
  else if idx < 0x2500 then 22
  else if idx < 0x2800 then 0
  else if idx < 0x2900 then 13
  else if idx < 0x2A00 then 14
  else if idx < 0x3000 then 15
  else if idx < 0x3100 then 6
  else if idx < 0x3200 then 7
  else if idx < 0x3300 then 8
  else if idx < 0x3400 then 9
  else if idx < 0x3500 then 10
  else if idx < 0x3600 then (if key % 256 < 0x20 then 10 else 11)
  else if idx < 0x3700 then 11
  else if idx < 0x4000 then 12
  else if idx < 0x4100 then 16
  else if idx < 0x4800 then 17
  else if idx < 0x4900 then 18
  else if idx < 0x5000 then 19
  else 0

/-- R477: the trace events. -/
def isTrace (ev : Nat) : Bool :=
  [0x78, 0x79, 0x80, 0x9D, 0x9B, 0xB8, 0x5C, 0x01, 0x02, 0xF7].contains ev

/-- R478: events whose LOG bit resets to 0. -/
def isHighRate (ev : Nat) : Bool :=
  [0x98, 0x99, 0x30, 0x48, 0x69, 0xA8, 0xC0, 0xD0, 0xDD, 0x2D, 0xE8, 0xE9, 0xEA].contains ev

/-- R478: default PDO bits, by event. -/
def defaultPdo : List (Nat × Nat) :=
  [(0x78, 0), (0x79, 1), (0x7C, 2), (0x7A, 3), (0x5E, 4), (0x4A, 5), (0x5D, 6), (0x5B, 7), (0x01, 8), (0x8B, 9),
   (0x89, 10), (0xE1, 11)] ++
  [(0xE0, 12), (0xB8, 13), (0xBA, 14), (0x7F, 15), (0xF1, 16), (0x04, 17), (0xF4, 18), (0xF5, 19), (0x9A, 20),
   (0x9D, 21), (0xD5, 22)]

/-- R478: the default route word of an event. -/
def routeDefault (ev : Nat) : Nat :=
  (if isHighRate ev then 0 else 0x8000) +
    (match defaultPdo.find? (fun p => p.1 == ev) with
     | some p => 0x80 + p.2
     | none => 0)

/-- The value an object takes by default (R17). -/
def dfltOf (key : Nat) : Nat :=
  if key / 256 = 0x2501 ∧ 1 ≤ key % 256 ∧ key % 256 ≤ 128 then routeDefault (key % 256 - 1)
  else if key / 256 = 0x2502 ∧ 1 ≤ key % 256 ∧ key % 256 ≤ 128 then routeDefault (127 + key % 256)
  else match objRow key with
    | some r => r.dflt
    | none => 0

/-- The retention class of an object. -/
def clsOf (key : Nat) : Cls :=
  match objRow key with
  | some r => r.cls
  | none => .v

/-- Bytes of an object's value. -/
def bytesOf (key : Nat) : Nat :=
  match objRow key with
  | some r => r.ty.bytes
  | none => 1

/-- Check 7 of R52 on the value alone. -/
def Chk.ok (v : Nat) : Chk → Bool
  | .any => true
  | .range lo hi => lo ≤ v && v ≤ hi
  | .orNone hi => v ≤ hi || v == 0xFF
  | .oneOf l => l.contains v
  | .sle hi => decide (signedOf 16 v ≤ (hi : Int))
  | .weights => v % 256 ≤ 16 && v / 256 % 256 ≤ 16 && v / 65536 % 256 ≤ 16 && v / 16777216 % 256 ≤ 16

/-- Bit-reversal of a 6-bit number (R167). -/
def rev6 (x : Nat) : Nat :=
  x % 2 * 32 + x / 2 % 2 * 16 + x / 4 % 2 * 8 + x / 8 % 2 * 4 + x / 16 % 2 * 2 + x / 32 % 2

end Sys2Proof.Machine
end

