-- ==== Sys2Proof/Machine/Keys.lean ====
section
/-! DEFINITION. Machine/Keys.lean: the manual's names for object keys (index * 256 + subindex), for event identifiers
and for abort codes. -/

namespace Sys2Proof.Machine

/-- Key of an object. -/
abbrev okey (idx sub : Nat) : Nat := idx * 256 + sub

/-! A name with an argument stands for an array of objects; a number beyond the array counts modulo its size, so that every
key of a name is one of its objects. -/

namespace OD
abbrev DCHK_ENABLE : Nat := okey 0x5002 0x01
abbrev DCHK_OFF_FIRST_LINE : Nat := okey 0x5002 0x02
abbrev DCHK_OFF_LAST_LINE : Nat := okey 0x5002 0x03
abbrev BAND_SIGNATURE (i : Nat) : Nat := okey 0x5003 (0x01 + i % 24)
abbrev SIGNATURE_BAND (i : Nat) : Nat := okey 0x5004 (0x01 + i % 24)
abbrev LEDGER_TOTAL (n : Nat) : Nat := okey (0x5010 + n % 7) 0x01
abbrev LEDGER_HELD (n i : Nat) : Nat := okey (0x5010 + n % 7) (0x02 + i % 7)
abbrev LEDGER_SUM (n : Nat) : Nat := okey (0x5010 + n % 7) 0x09
abbrev LEDGER_FAULT_COUNT (n : Nat) : Nat := okey (0x5010 + n % 7) 0x0A
abbrev VENDOR_NAME : Nat := okey 0x2000 0x01
abbrev PART_NUMBER : Nat := okey 0x2000 0x02
abbrev SILICON_REVISION : Nat := okey 0x2000 0x03
abbrev SERIAL_NUMBER : Nat := okey 0x2000 0x04
abbrev STATION_ALIAS : Nat := okey 0x2000 0x05
abbrev BARE_FORME : Nat := okey 0x2000 0x06
abbrev FIRMWARE_VERSION : Nat := okey 0x2001 0x01
abbrev FIRMWARE_SLOT : Nat := okey 0x2001 0x02
abbrev OD_PROFILE_MAX : Nat := okey 0x2002 0x01
abbrev OD_PROFILE_DECLARED : Nat := okey 0x2002 0x02
abbrev NEGOTIATED_VERSION (i : Nat) : Nat := okey 0x2003 (0x01 + i % 51)
abbrev PRESS_CONTROL : Nat := okey 0x2101 0x01
abbrev PRESS_STATUS : Nat := okey 0x2101 0x02
abbrev WEB_LINE_AT_SYNC : Nat := okey 0x2800 0x10
abbrev WEB_SPEED : Nat := okey 0x2800 0x11
abbrev PLAT_BACKUP_LINES : Nat := okey 0x3600 0x20
abbrev PLAT_LEAD_MIN : Nat := okey 0x3600 0x21
abbrev PACE_LOW_DEFAULT : Nat := okey 0x3000 0x01
abbrev PACE_HIGH_DEFAULT : Nat := okey 0x3000 0x02
abbrev RESERVE_BLOCKS : Nat := okey 0x3000 0x03
abbrev EGRESS_FLUSH : Nat := okey 0x3000 0x04
abbrev EGRESS_AREA_BASE : Nat := okey 0x3000 0x05
abbrev EGRESS_AREA_SIZE : Nat := okey 0x3000 0x06
abbrev EGRESS_SLOTS (i : Nat) : Nat := okey 0x3000 (0x11 + i % 15)
abbrev GAL_AREA_BASE : Nat := okey 0x3200 0x01
abbrev GAL_AREA_SIZE : Nat := okey 0x3200 0x02
abbrev ARM_LEAD : Nat := okey 0x3200 0x03
abbrev READY_BLOCKS : Nat := okey 0x3200 0x04
abbrev UNDERRUN_BYTES : Nat := okey 0x3200 0x05
abbrev STREAM_ERRORS : Nat := okey 0x3200 0x06
abbrev FORME_STATE (n : Nat) : Nat := okey (0x3300 + n % 256) 0x01
abbrev FORME_COMMAND (n : Nat) : Nat := okey (0x3300 + n % 256) 0x02
abbrev FORME_START (n : Nat) : Nat := okey (0x3300 + n % 256) 0x03
abbrev FORME_LENGTH (n : Nat) : Nat := okey (0x3300 + n % 256) 0x04
abbrev FORME_HEADS (n : Nat) : Nat := okey (0x3300 + n % 256) 0x05
abbrev FORME_TAG (n : Nat) : Nat := okey (0x3300 + n % 256) 0x06
abbrev FORME_CAUSE (n : Nat) : Nat := okey (0x3300 + n % 256) 0x07
abbrev FORME_FIRST_LINE (n : Nat) : Nat := okey (0x3300 + n % 256) 0x08
abbrev FORME_LAST_LINE (n : Nat) : Nat := okey (0x3300 + n % 256) 0x09
abbrev FORME_SKIPPED (n : Nat) : Nat := okey (0x3300 + n % 256) 0x0A
abbrev LINE_OFFSET (n i : Nat) : Nat := okey (0x3300 + n % 256) (0x10 + i % 24)
abbrev DELIVERED_BYTES (n i : Nat) : Nat := okey (0x3300 + n % 256) (0x30 + i % 24)
abbrev DECODED_LINES (n i : Nat) : Nat := okey (0x3300 + n % 256) (0x50 + i % 24)
abbrev DITHER : Nat := okey 0x3400 0x01
abbrev WEAK_SHARE : Nat := okey 0x3400 0x02
abbrev RATE_CLASS_A : Nat := okey 0x3400 0x03
abbrev RATE_CLASS_B : Nat := okey 0x3400 0x04
abbrev CHANGE_MARGIN : Nat := okey 0x3400 0x05
abbrev CHANGES_PENDING : Nat := okey 0x3400 0x06
abbrev CHANGE_SEQ : Nat := okey 0x3400 0x07
abbrev REQ_NOZZLE : Nat := okey 0x3401 0x01
abbrev REQ_VALUE : Nat := okey 0x3401 0x02
abbrev REQ_MASK : Nat := okey 0x3401 0x03
abbrev REQ_BAND : Nat := okey 0x3401 0x04
abbrev REQ_TAG : Nat := okey 0x3401 0x05
abbrev REQ_COMMAND : Nat := okey 0x3401 0x06
abbrev REQ_BAND_TAKEN : Nat := okey 0x3401 0x07
abbrev REQ_CAUSE : Nat := okey 0x3401 0x08
abbrev UNCOVERED_DOTS (i : Nat) : Nat := okey 0x3402 (0x01 + i % 24)
abbrev FRISKET_MASK (i : Nat) : Nat := okey 0x3410 (0x01 + i % 7)
abbrev FRISKET_SELECT (i : Nat) : Nat := okey 0x3411 (0x01 + i % 22)
abbrev NOZZLE_TABLE : Nat := okey 0x3480 0x01
abbrev PAGES_COMMITTED : Nat := okey 0x3480 0x02
abbrev ROW_OFFSET (n i : Nat) : Nat := okey (0x3500 + n % 24) (0x10 + i % 8)
abbrev NOZZLE_GRID (n : Nat) : Nat := okey (0x3500 + n % 24) 0x18
abbrev WEB_SOURCE : Nat := okey 0x2800 0x01
abbrev SCALE_NUM : Nat := okey 0x2800 0x02
abbrev SCALE_DEN : Nat := okey 0x2800 0x03
abbrev DIRECTION_INVERT : Nat := okey 0x2800 0x04
abbrev FILTER_SAMPLES : Nat := okey 0x2800 0x05
abbrev COUNTS_PER_REV : Nat := okey 0x2800 0x06
abbrev INDEX_PHASE : Nat := okey 0x2800 0x07
abbrev INDEX_POLICY : Nat := okey 0x2800 0x08
abbrev INDEX_TOLERANCE : Nat := okey 0x2800 0x09
abbrev REVERSE_WINDOW : Nat := okey 0x2800 0x0A
abbrev SPEED_WINDOW : Nat := okey 0x2800 0x0B
abbrev STOP_TIMEOUT : Nat := okey 0x2800 0x0C
abbrev EMU_COUNTS_PER_LINE : Nat := okey 0x2800 0x0D
abbrev EMU_COUNTS_PER_REV : Nat := okey 0x2800 0x0E
abbrev PRESET_LINE : Nat := okey 0x2800 0x0F
abbrev WEB_COMMAND : Nat := okey 0x2800 0x12
abbrev DIRECTION : Nat := okey 0x2800 0x13
abbrev WEB_POSITION : Nat := okey 0x2800 0x14
abbrev HIGH_WATER_LINE : Nat := okey 0x2800 0x15
abbrev QUAD_ERRORS : Nat := okey 0x2800 0x16
abbrev INDEX_EXPECTED : Nat := okey 0x2800 0x17
abbrev INDEX_ACTUAL : Nat := okey 0x2800 0x18
abbrev INDEX_MISMATCHES : Nat := okey 0x2800 0x19
abbrev STEP_PENDING : Nat := okey 0x2800 0x1A
abbrev LAST_STEP : Nat := okey 0x2800 0x1B
abbrev LATCH_CAPTURE_SELECT : Nat := okey 0x2800 0x1C
abbrev LATCH_POSITION (i : Nat) : Nat := okey 0x2800 (0x20 + 4 * (i % 4))
abbrev LATCH_LOC (i : Nat) : Nat := okey 0x2800 (0x21 + 4 * (i % 4))
abbrev LATCH_NET (i : Nat) : Nat := okey 0x2800 (0x22 + 4 * (i % 4))
abbrev LATCH_SPEED (i : Nat) : Nat := okey 0x2800 (0x23 + 4 * (i % 4))
abbrev LEAD_LOW : Nat := okey 0x3600 0x01
abbrev LEAD_RESUME : Nat := okey 0x3600 0x02
abbrev LINE_DELAY : Nat := okey 0x3600 0x03
abbrev RUNUP_LINES : Nat := okey 0x3600 0x04
abbrev RESUME_CLEARANCE : Nat := okey 0x3600 0x05
abbrev HOLD_CYCLE_COUNT : Nat := okey 0x3600 0x06
abbrev HOLD_CYCLE_WINDOW : Nat := okey 0x3600 0x07
abbrev EXTERNAL_HOLD : Nat := okey 0x3600 0x08
abbrev HOLD_CAUSE : Nat := okey 0x3600 0x10
abbrev HELD_LINE : Nat := okey 0x3600 0x11
abbrev HOLD_COUNT : Nat := okey 0x3600 0x12
abbrev TORN_LINES : Nat := okey 0x3600 0x13
abbrev PLAT_LAG : Nat := okey 0x3600 0x14
abbrev RATE_MAX_A : Nat := okey 0x3600 0x15
abbrev RATE_MAX_B : Nat := okey 0x3600 0x16
abbrev RESUME_LINE (i : Nat) : Nat := okey 0x3600 (0x30 + i % 24)
abbrev RECIPE (n i : Nat) : Nat := okey (0x3500 + n % 24) (0x20 + i % 16)
abbrev RECIPE_SELECT (n : Nat) : Nat := okey (0x3500 + n % 24) 0x30
abbrev ROTATION (n : Nat) : Nat := okey (0x3500 + n % 24) 0x31
abbrev ROT_STEP (n : Nat) : Nat := okey (0x3500 + n % 24) 0x32
abbrev FIRE_GROUP_COUNT (n : Nat) : Nat := okey (0x3500 + n % 24) 0x33
abbrev PLAT_COMMIT (n : Nat) : Nat := okey (0x3500 + n % 24) 0x34
abbrev PLAT_COMMIT_PENDING (n : Nat) : Nat := okey (0x3500 + n % 24) 0x35
abbrev LIVE_SEQ (n : Nat) : Nat := okey (0x3500 + n % 24) 0x36
abbrev SLIP_TICKS (n : Nat) : Nat := okey (0x3500 + n % 24) 0x37
abbrev TEMP_SOFT (n : Nat) : Nat := okey (0x3500 + n % 24) 0x38
abbrev TEMP_HARD (n : Nat) : Nat := okey (0x3500 + n % 24) 0x39
abbrev TEMP_HYST (n : Nat) : Nat := okey (0x3500 + n % 24) 0x3A
abbrev FIRE_WIDTH_MAX (n : Nat) : Nat := okey (0x3500 + n % 24) 0x3B
abbrev BRAYER_WIDTH_MAX (n : Nat) : Nat := okey (0x3500 + n % 24) 0x3C
abbrev COOL_MODE (n : Nat) : Nat := okey (0x3500 + n % 24) 0x3D
abbrev OHL_PORT_ENABLE (n : Nat) : Nat := okey (0x3700 + n % 24) 0x01
abbrev PORT_STATE (n : Nat) : Nat := okey (0x3700 + n % 24) 0x02
abbrev VERSION_LIMIT (n : Nat) : Nat := okey (0x3700 + n % 24) 0x03
abbrev OHL_FAULT_CAUSE (n : Nat) : Nat := okey (0x3700 + n % 24) 0x04
abbrev HEAD_SERIAL (n : Nat) : Nat := okey (0x3700 + n % 24) 0x05
abbrev KNOWN_SERIAL (n : Nat) : Nat := okey (0x3700 + n % 24) 0x06
abbrev HEAD_MODEL (n : Nat) : Nat := okey (0x3700 + n % 24) 0x07
abbrev DESCRIPTOR (n : Nat) : Nat := okey (0x3700 + n % 24) 0x08
abbrev TEMPERATURE (n : Nat) : Nat := okey (0x3700 + n % 24) 0x10
abbrev VHEAD (n : Nat) : Nat := okey (0x3700 + n % 24) 0x11
abbrev VLOGIC (n : Nat) : Nat := okey (0x3700 + n % 24) 0x12
abbrev HEAD_FLAGS (n : Nat) : Nat := okey (0x3700 + n % 24) 0x13
abbrev RETRIES (n : Nat) : Nat := okey (0x3700 + n % 24) 0x20
abbrev RETRAINS (n : Nat) : Nat := okey (0x3700 + n % 24) 0x21
abbrev DEFERRED_SLOTS (n : Nat) : Nat := okey (0x3700 + n % 24) 0x22
abbrev DISCARDED_SLOTS (n : Nat) : Nat := okey (0x3700 + n % 24) 0x23
abbrev MAX_LATE (n : Nat) : Nat := okey (0x3700 + n % 24) 0x24
abbrev SELFTEST (n : Nat) : Nat := okey (0x3700 + n % 24) 0x30
abbrev SELFTEST_MAP (n : Nat) : Nat := okey (0x3700 + n % 24) 0x31
abbrev SELFTEST_FAILS (n : Nat) : Nat := okey (0x3700 + n % 24) 0x32
abbrev CAM_PORT_ENABLE (n : Nat) : Nat := okey (0x4000 + n % 4) 0x01
abbrev LANES (n : Nat) : Nat := okey (0x4000 + n % 4) 0x02
abbrev VIRTUAL_CHANNEL (n : Nat) : Nat := okey (0x4000 + n % 4) 0x03
abbrev DATA_TYPE (n : Nat) : Nat := okey (0x4000 + n % 4) 0x04
abbrev REFCLK (n : Nat) : Nat := okey (0x4000 + n % 4) 0x05
abbrev SENSOR_RESET (n : Nat) : Nat := okey (0x4000 + n % 4) 0x06
abbrev CCI_DEVICE (n : Nat) : Nat := okey (0x4000 + n % 4) 0x07
abbrev CCI_RATE (n : Nat) : Nat := okey (0x4000 + n % 4) 0x08
abbrev CAM_LATENCY (n : Nat) : Nat := okey (0x4000 + n % 4) 0x09
abbrev SETTINGS_DEADLINE (n : Nat) : Nat := okey (0x4000 + n % 4) 0x0A
abbrev TRIGGER_UNIT (n : Nat) : Nat := okey (0x4000 + n % 4) 0x0B
abbrev STROBE_UNIT (n : Nat) : Nat := okey (0x4000 + n % 4) 0x0C
abbrev SET_ID (n : Nat) : Nat := okey (0x4000 + n % 4) 0x10
abbrev WIDTH (n : Nat) : Nat := okey (0x4000 + n % 4) 0x11
abbrev HEIGHT (n : Nat) : Nat := okey (0x4000 + n % 4) 0x12
abbrev X_OFFSET (n : Nat) : Nat := okey (0x4000 + n % 4) 0x13
abbrev PAD_VALUE (n : Nat) : Nat := okey (0x4000 + n % 4) 0x14
abbrev BLACK_LEVEL (n : Nat) : Nat := okey (0x4000 + n % 4) 0x15
abbrev GAIN (n : Nat) : Nat := okey (0x4000 + n % 4) 0x16
abbrev CCI_COUNT (n : Nat) : Nat := okey (0x4000 + n % 4) 0x17
abbrev CCI_LIST (n : Nat) : Nat := okey (0x4000 + n % 4) 0x18
abbrev CAM_COMMIT (n : Nat) : Nat := okey (0x4000 + n % 4) 0x20
abbrev CAM_COMMIT_PENDING (n : Nat) : Nat := okey (0x4000 + n % 4) 0x21
abbrev TARGET_FSN (n : Nat) : Nat := okey (0x4000 + n % 4) 0x22
abbrev LIVE_ID (n : Nat) : Nat := okey (0x4000 + n % 4) 0x23
abbrev CAM_COMMIT_CAUSE (n : Nat) : Nat := okey (0x4000 + n % 4) 0x24
abbrev FSN (n : Nat) : Nat := okey (0x4000 + n % 4) 0x30
abbrev FRAMES_DROPPED (n : Nat) : Nat := okey (0x4000 + n % 4) 0x31
abbrev MISSED_TRIGGERS (n : Nat) : Nat := okey (0x4000 + n % 4) 0x32
abbrev ECC_ERRORS (n : Nat) : Nat := okey (0x4000 + n % 4) 0x33
abbrev BAD_LINES_TOTAL (n : Nat) : Nat := okey (0x4000 + n % 4) 0x34
abbrev CAM_RECORDS_LOST (n : Nat) : Nat := okey (0x4000 + n % 4) 0x35
abbrev SETTINGS_LATE (n : Nat) : Nat := okey (0x4000 + n % 4) 0x36
abbrev OTHER_PACKETS (n : Nat) : Nat := okey (0x4000 + n % 4) 0x37
abbrev CCI_REG (n : Nat) : Nat := okey (0x4000 + n % 4) 0x40
abbrev CCI_DATA (n : Nat) : Nat := okey (0x4000 + n % 4) 0x41
abbrev CCI_SIZES (n : Nat) : Nat := okey (0x4000 + n % 4) 0x42
abbrev CCI_COMMAND (n : Nat) : Nat := okey (0x4000 + n % 4) 0x43
abbrev CCI_STATUS (n : Nat) : Nat := okey (0x4000 + n % 4) 0x44
abbrev PRF_AREA_BASE : Nat := okey 0x4100 0x01
abbrev PRF_AREA_SIZE : Nat := okey 0x4100 0x02
abbrev FRAME_BUFFERS : Nat := okey 0x4100 0x03
abbrev FRAME_BUFFER_BYTES : Nat := okey 0x4100 0x04
abbrev SUMMARY_SLOTS : Nat := okey 0x4100 0x05
abbrev WINDOW_BASE : Nat := okey 0x4100 0x06
abbrev WINDOW_LINES : Nat := okey 0x4100 0x07
abbrev LOOP_BANDS : Nat := okey 0x4100 0x08
abbrev CONFIRM_POLICY : Nat := okey 0x4100 0x09
abbrev ACT_THRESHOLD : Nat := okey 0x4100 0x0A
abbrev STEP_MISSING : Nat := okey 0x4100 0x0B
abbrev STEP_WEAK : Nat := okey 0x4100 0x0C
abbrev STEP_DEFLECTED : Nat := okey 0x4100 0x0D
abbrev STEP_DECAY : Nat := okey 0x4100 0x0E
abbrev MISSING_RATIO : Nat := okey 0x4100 0x0F
abbrev WEAK_RATIO : Nat := okey 0x4100 0x10
abbrev MIN_INK : Nat := okey 0x4100 0x11
abbrev STREAK_LEVEL : Nat := okey 0x4100 0x12
abbrev BLOT_LEVEL : Nat := okey 0x4100 0x13
abbrev PRF_SUB_PATTERN : Nat := okey 0x4100 0x14
abbrev EXPIRE_LINES : Nat := okey 0x4100 0x15
abbrev ALIGN_TOLERANCE : Nat := okey 0x4100 0x16
abbrev DOT_WEIGHT (i : Nat) : Nat := okey 0x4100 (0x18 + i % 4)
abbrev ABSORB (i : Nat) : Nat := okey 0x4100 (0x1C + i % 4)
abbrev CAM_DISTANCE (i : Nat) : Nat := okey 0x4100 (0x20 + i % 4)
abbrev CAM_X0 (i : Nat) : Nat := okey 0x4100 (0x24 + i % 4)
abbrev X_PITCH (i : Nat) : Nat := okey 0x4100 (0x28 + i % 4)
abbrev PAPER (i : Nat) : Nat := okey 0x4100 (0x2C + i % 4)
abbrev CFA (i : Nat) : Nat := okey 0x4100 (0x30 + i % 4)
abbrev FLAT_FIELD : Nat := okey 0x4100 0x40
abbrev PRF_LOCK : Nat := okey 0x4100 0x41
abbrev FINDINGS : Nat := okey 0x4200 0x01
abbrev REQUESTS : Nat := okey 0x4200 0x02
abbrev TRIALS : Nat := okey 0x4200 0x03
abbrev UNRESOLVED : Nat := okey 0x4200 0x04
abbrev WINDOWS_INSPECTED : Nat := okey 0x4200 0x05
abbrev FRAMES_SKIPPED : Nat := okey 0x4200 0x06
abbrev SUMMARIES_LOST : Nat := okey 0x4200 0x07
abbrev LOOP_LATE : Nat := okey 0x4200 0x08
abbrev REQUESTS_REFUSED : Nat := okey 0x4200 0x09
abbrev PRF_RECORDS_LOST : Nat := okey 0x4200 0x0A
abbrev CONFIRM : Nat := okey 0x4200 0x10
abbrev TRIALS_OPEN : Nat := okey 0x4200 0x11
abbrev NET_LOCKED : Nat := okey 0x2900 0x01
abbrev NET_RATE : Nat := okey 0x2900 0x02
abbrev NET_LOCK_WINDOW : Nat := okey 0x2900 0x03
abbrev LOC_NOW : Nat := okey 0x2900 0x04
abbrev NET_NOW : Nat := okey 0x2900 0x05
abbrev CAP_FILTER : Nat := okey 0x2900 0x07
abbrev CMP_DOMAIN (i : Nat) : Nat := okey 0x2900 (0x20 + 6 * (i % 16))
abbrev CMP_TARGET (i : Nat) : Nat := okey 0x2900 (0x21 + 6 * (i % 16))
abbrev CMP_FRACTION (i : Nat) : Nat := okey 0x2900 (0x22 + 6 * (i % 16))
abbrev CMP_PERIOD (i : Nat) : Nat := okey 0x2900 (0x23 + 6 * (i % 16))
abbrev CMP_ARM (i : Nat) : Nat := okey 0x2900 (0x24 + 6 * (i % 16))
abbrev CMP_MATCHES (i : Nat) : Nat := okey 0x2900 (0x25 + 6 * (i % 16))
abbrev TRIG_SOURCE (i : Nat) : Nat := okey 0x2900 (0x80 + 3 * (i % 16))
abbrev TRIG_WIDTH (i : Nat) : Nat := okey 0x2900 (0x81 + 3 * (i % 16))
abbrev TRIG_CONFIG (i : Nat) : Nat := okey 0x2900 (0x82 + 3 * (i % 16))
abbrev CAP_EDGE (i : Nat) : Nat := okey 0x2900 (0xB0 + 5 * (i % 8))
abbrev CAP_LOC (i : Nat) : Nat := okey 0x2900 (0xB1 + 5 * (i % 8))
abbrev CAP_NET (i : Nat) : Nat := okey 0x2900 (0xB2 + 5 * (i % 8))
abbrev CAP_POSITION (i : Nat) : Nat := okey 0x2900 (0xB3 + 5 * (i % 8))
abbrev CAP_OVERRUNS (i : Nat) : Nat := okey 0x2900 (0xB4 + 5 * (i % 8))
abbrev PACE_ROLE : Nat := okey 0x2A00 0x01
abbrev PARTNER_PRESENT : Nat := okey 0x2A00 0x02
abbrev RETURN_HOLD : Nat := okey 0x2A00 0x03
abbrev MIRROR_TOLERANCE : Nat := okey 0x2A00 0x04
abbrev SYNC_TOLERANCE : Nat := okey 0x2A00 0x05
abbrev PACE_POSITION : Nat := okey 0x2A00 0x06
abbrev ACTING : Nat := okey 0x2A00 0x07
abbrev PARTNER_READY : Nat := okey 0x2A00 0x08
abbrev TAKEOVERS : Nat := okey 0x2A00 0x09
abbrev RETURNS : Nat := okey 0x2A00 0x0A
abbrev MISSED_RECORDS : Nat := okey 0x2A00 0x0B
abbrev LAST_TAKEOVER_LINE : Nat := okey 0x2A00 0x0C
abbrev SYNC_SKEW_LAST : Nat := okey 0x2A00 0x0D
abbrev PACE_VERSION_LIMIT : Nat := okey 0x2A00 0x0E
abbrev DDR_MODE : Nat := okey 0x3100 0x01
abbrev DATA_RATE : Nat := okey 0x3100 0x02
abbrev ECC_ENABLE : Nat := okey 0x3100 0x03
abbrev CH_GRAIN : Nat := okey 0x3100 0x04
abbrev CH_HASH : Nat := okey 0x3100 0x05
abbrev INSTALLED_SIZE : Nat := okey 0x3100 0x06
abbrev DENSITY : Nat := okey 0x3100 0x07
abbrev RANKS : Nat := okey 0x3100 0x08
abbrev MR_VENDOR : Nat := okey 0x3100 0x09
abbrev TRAINING_RESULT : Nat := okey 0x3100 0x0A
abbrev TRAINING_TIME : Nat := okey 0x3100 0x0B
abbrev SCRUB_PERIOD : Nat := okey 0x3100 0x0C
abbrev TRACK_INTERVAL : Nat := okey 0x3100 0x0D
abbrev WEIGHT (i : Nat) : Nat := okey 0x3100 (0x10 + i % 7)
abbrev PAGE_HINT (i : Nat) : Nat := okey 0x3100 (0x18 + i % 7)
abbrev ECC_CORRECTED : Nat := okey 0x3100 0x20
abbrev ECC_UNCORRECTABLE : Nat := okey 0x3100 0x21
abbrev ECC_LAST_ADDRESS : Nat := okey 0x3100 0x22
abbrev REFRESH_FORCED : Nat := okey 0x3100 0x23
abbrev REFRESH_RATE : Nat := okey 0x3100 0x24
abbrev TRAINED_DELAYS : Nat := okey 0x3100 0x30
abbrev FIXED_DELAYS : Nat := okey 0x3100 0x40
abbrev AXIS_ENABLE (n : Nat) : Nat := okey (0x4800 + n % 8) 0x01
abbrev AXIS_COMMAND (n : Nat) : Nat := okey (0x4800 + n % 8) 0x02
abbrev AXIS_TARGET (n : Nat) : Nat := okey (0x4800 + n % 8) 0x03
abbrev PRESET_POSITION (n : Nat) : Nat := okey (0x4800 + n % 8) 0x04
abbrev AXIS_STATE (n : Nat) : Nat := okey (0x4800 + n % 8) 0x05
abbrev MOT_POSITION (n : Nat) : Nat := okey (0x4800 + n % 8) 0x06
abbrev VELOCITY (n : Nat) : Nat := okey (0x4800 + n % 8) 0x07
abbrev MOT_FAULT_CAUSE (n : Nat) : Nat := okey (0x4800 + n % 8) 0x08
abbrev POSITION_UNCERTAIN (n : Nat) : Nat := okey (0x4800 + n % 8) 0x09
abbrev HOME_INPUT (n : Nat) : Nat := okey (0x4800 + n % 8) 0x0A
abbrev HOME_CONFIG (n : Nat) : Nat := okey (0x4800 + n % 8) 0x0B
abbrev HOME_SPEED (n : Nat) : Nat := okey (0x4800 + n % 8) 0x0C
abbrev HOME_POSITION (n : Nat) : Nat := okey (0x4800 + n % 8) 0x0D
abbrev HOME_LIMIT (n : Nat) : Nat := okey (0x4800 + n % 8) 0x0E
abbrev FAULT_INPUT (n : Nat) : Nat := okey (0x4800 + n % 8) 0x0F
abbrev ISENSE_FULL_SCALE (n : Nat) : Nat := okey (0x4800 + n % 8) 0x10
abbrev OVERCURRENT_LIMIT (n : Nat) : Nat := okey (0x4800 + n % 8) 0x11
abbrev V_LIMIT (n : Nat) : Nat := okey (0x4800 + n % 8) 0x12
abbrev SEG_TRIGGER_UNIT (n : Nat) : Nat := okey (0x4800 + n % 8) 0x13
abbrev RUN_CURRENT (n : Nat) : Nat := okey (0x4800 + n % 8) 0x20
abbrev STRONG_CURRENT (n : Nat) : Nat := okey (0x4800 + n % 8) 0x21
abbrev HOLD_CURRENT (n : Nat) : Nat := okey (0x4800 + n % 8) 0x22
abbrev HOLD_DELAY (n : Nat) : Nat := okey (0x4800 + n % 8) 0x23
abbrev CHOP_OFF_TIME (n : Nat) : Nat := okey (0x4800 + n % 8) 0x24
abbrev STRONG_SPEED (n : Nat) : Nat := okey (0x4800 + n % 8) 0x25
abbrev MODE_HYST (n : Nat) : Nat := okey (0x4800 + n % 8) 0x26
abbrev STRONG_DIVISOR (n : Nat) : Nat := okey (0x4800 + n % 8) 0x27
abbrev MICROSTEP_TABLE (n : Nat) : Nat := okey (0x4800 + n % 8) 0x28
abbrev V_START (n : Nat) : Nat := okey (0x4800 + n % 8) 0x29
abbrev V_BREAK (n : Nat) : Nat := okey (0x4800 + n % 8) 0x2A
abbrev V_MAX (n : Nat) : Nat := okey (0x4800 + n % 8) 0x2B
abbrev V_STOP (n : Nat) : Nat := okey (0x4800 + n % 8) 0x2C
abbrev A1 (n : Nat) : Nat := okey (0x4800 + n % 8) 0x2D
abbrev A2 (n : Nat) : Nat := okey (0x4800 + n % 8) 0x2E
abbrev D2 (n : Nat) : Nat := okey (0x4800 + n % 8) 0x2F
abbrev D1 (n : Nat) : Nat := okey (0x4800 + n % 8) 0x30
abbrev SEG_FIRST (n : Nat) : Nat := okey (0x4800 + n % 8) 0x31
abbrev SEG_COUNT (n : Nat) : Nat := okey (0x4800 + n % 8) 0x32
abbrev MOT_COMMIT (n : Nat) : Nat := okey (0x4800 + n % 8) 0x38
abbrev MOT_COMMIT_PENDING (n : Nat) : Nat := okey (0x4800 + n % 8) 0x39
abbrev MOT_COMMIT_CAUSE (n : Nat) : Nat := okey (0x4800 + n % 8) 0x3A
abbrev SEGMENT_TABLE : Nat := okey 0x4800 0x60
abbrev FAILED_STARTS : Nat := okey 0x2300 0x01
abbrev ACTIVE_SLOT : Nat := okey 0x2300 0x02
abbrev TRIAL : Nat := okey 0x2300 0x03
abbrev UPDATE_SLOT : Nat := okey 0x2300 0x04
abbrev SLOT_STATE (i : Nat) : Nat := okey 0x2300 (0x05 + i % 2)
abbrev SLOT_VERSION (i : Nat) : Nat := okey 0x2300 (0x07 + i % 2)
abbrev BOOT_COMMAND : Nat := okey 0x2300 0x09
abbrev START_TIME : Nat := okey 0x2300 0x0A
abbrev JOURNAL_STATE : Nat := okey 0x2301 0x01
abbrev GENERATION : Nat := okey 0x2301 0x02
abbrev LOG_FILL : Nat := okey 0x2301 0x03
abbrev LAST_SEQ : Nat := okey 0x2301 0x04
abbrev COMPACTIONS : Nat := okey 0x2301 0x05
abbrev TORN_TAILS : Nat := okey 0x2301 0x06
abbrev REFUSED_WRITES : Nat := okey 0x2301 0x07
abbrev BARE_CAUSE : Nat := okey 0x2310 0x01
abbrev START_CAUSE (i : Nat) : Nat := okey 0x2310 (0x02 + i % 3)
abbrev BARE_ENTRIES : Nat := okey 0x2310 0x05
abbrev POWER_STATE : Nat := okey 0x2100 0x01
abbrev DEEPEST_STATE : Nat := okey 0x2100 0x02
abbrev GUARD : Nat := okey 0x2100 0x03
abbrev SLEEP_IDLE : Nat := okey 0x2100 0x04
abbrev WEB_RATE_ASSUMED : Nat := okey 0x2100 0x05
abbrev NEXT_SOURCE : Nat := okey 0x2100 0x06
abbrev SLACK : Nat := okey 0x2100 0x07
abbrev WAKE_LATE : Nat := okey 0x2100 0x08
abbrev RESIDENCY (i : Nat) : Nat := okey 0x2100 (0x10 + i % 5)
abbrev RESET_KIND : Nat := okey 0x2100 0x20
abbrev RESET_DETAIL : Nat := okey 0x2100 0x21
abbrev RESET_COMMAND : Nat := okey 0x2100 0x22
abbrev SUB_RESET : Nat := okey 0x2100 0x23
abbrev SUPPLY_STATUS : Nat := okey 0x2100 0x30
abbrev BROWNOUTS : Nat := okey 0x2100 0x31
abbrev CLOCK_STATUS : Nat := okey 0x2200 0x01
abbrev PCIE_CLOCK_MODE : Nat := okey 0x2200 0x02
abbrev CRYSTAL_OFFSET : Nat := okey 0x2200 0x03
abbrev CLOCK_FAILURES : Nat := okey 0x2200 0x04
abbrev PROPOSAL_ID : Nat := okey 0x2400 0x01
abbrev PROPOSAL_TARGET : Nat := okey 0x2400 0x02
abbrev PROPOSAL_VALUE : Nat := okey 0x2400 0x03
abbrev PROPOSAL_DIGEST : Nat := okey 0x2400 0x04
abbrev PROPOSAL_CHALLENGE : Nat := okey 0x2400 0x05
abbrev PROPOSAL_REMAINING : Nat := okey 0x2400 0x06
abbrev CONSENTS : Nat := okey 0x2400 0x07
abbrev CONSENT_MESSAGE : Nat := okey 0x2400 0x08
abbrev LAST_CAUSE : Nat := okey 0x2400 0x09
abbrev COUNTER_LINE : Nat := okey 0x2400 0x0A
abbrev COUNTER_HOST : Nat := okey 0x2400 0x0B
abbrev REFUSALS : Nat := okey 0x2400 0x0C
abbrev DEBUG_UNLOCK : Nat := okey 0x2400 0x10
abbrev FW_KEY (i : Nat) : Nat := okey 0x2400 (0x11 + i % 3)
abbrev FW_KEY_0 : Nat := okey 0x2400 0x14
abbrev CONSENT_KEY_LINE : Nat := okey 0x2400 0x21
abbrev CONSENT_KEY_HOST : Nat := okey 0x2400 0x22
abbrev GPIO_IN : Nat := okey 0x5020 0x01
abbrev GPIO_OUT : Nat := okey 0x5020 0x02
abbrev GPIO_DIR : Nat := okey 0x5020 0x03
abbrev JUNCTION_TEMP : Nat := okey 0x5021 0x01
abbrev JUNCTION_MAX : Nat := okey 0x5021 0x02
abbrev TEMP_HIGH_LIMIT : Nat := okey 0x5021 0x03
abbrev HOST_CELLS : Nat := okey 0x4900 0x01
abbrev LINE_MATCH : Nat := okey 0x4900 0x02
abbrev PUSH_FIRST : Nat := okey 0x4900 0x03
abbrev PUSH_COUNT : Nat := okey 0x4900 0x04
abbrev SCAN_START : Nat := okey 0x4900 0x05
abbrev SCAN_ROW_TIME : Nat := okey 0x4900 0x06
abbrev PUSH_SEQ : Nat := okey 0x4900 0x07
abbrev PUSH_BUFFER : Nat := okey 0x4900 0x10
abbrev FAULT_HELD (i : Nat) : Nat := okey 0x5001 (0x01 + i % 7)
abbrev FAULT_SUM : Nat := okey 0x5001 0x08
abbrev FAULT_LEDGER : Nat := okey 0x5001 0x09
abbrev FAULT_LOC : Nat := okey 0x5001 0x0A
abbrev FAULT_CHECK : Nat := okey 0x5001 0x0B
abbrev DEVICE_TYPE : Nat := okey 0x1000 0x00
abbrev DEVICE_NAME : Nat := okey 0x1008 0x00
abbrev HARDWARE_VERSION : Nat := okey 0x1009 0x00
abbrev SOFTWARE_VERSION : Nat := okey 0x100A 0x00
abbrev VENDOR_ID : Nat := okey 0x1018 0x01
abbrev PRODUCT_CODE : Nat := okey 0x1018 0x02
abbrev REVISION_NUMBER : Nat := okey 0x1018 0x03
abbrev COE_SERIAL : Nat := okey 0x1018 0x04
abbrev RXPDO0_COUNT : Nat := okey 0x1600 0x00
abbrev RXPDO0_ENTRY (i : Nat) : Nat := okey 0x1600 (0x01 + i % 16)
abbrev RXPDO1_COUNT : Nat := okey 0x1601 0x00
abbrev RXPDO1_ENTRY (i : Nat) : Nat := okey 0x1601 (0x01 + i % 16)
abbrev TXPDO0_COUNT : Nat := okey 0x1A00 0x00
abbrev TXPDO0_ENTRY (i : Nat) : Nat := okey 0x1A00 (0x01 + i % 16)
abbrev TXPDO1_COUNT : Nat := okey 0x1A01 0x00
abbrev TXPDO1_ENTRY (i : Nat) : Nat := okey 0x1A01 (0x01 + i % 16)
abbrev SM_TYPE (i : Nat) : Nat := okey 0x1C00 (0x01 + i % 4)
abbrev RX_ASSIGN_COUNT : Nat := okey 0x1C12 0x00
abbrev RX_ASSIGN (i : Nat) : Nat := okey 0x1C12 (0x01 + i % 2)
abbrev TX_ASSIGN_COUNT : Nat := okey 0x1C13 0x00
abbrev TX_ASSIGN (i : Nat) : Nat := okey 0x1C13 (0x01 + i % 2)
abbrev SYNC_MODE_OUT : Nat := okey 0x1C32 0x01
abbrev SYNC_MODE_IN : Nat := okey 0x1C33 0x01
abbrev EVENT_BITS (i : Nat) : Nat := okey 0x2500 (0x01 + i % 2)
abbrev EVENT_ACK (i : Nat) : Nat := okey 0x2500 (0x03 + i % 2)
abbrev EVENT_LOG_DROPPED : Nat := okey 0x2500 0x05
abbrev TRACE_DROPPED : Nat := okey 0x2500 0x06
abbrev ROUTE_LO (i : Nat) : Nat := okey 0x2501 (0x01 + i % 128)
abbrev ROUTE_HI (i : Nat) : Nat := okey 0x2502 (0x01 + i % 128)
end OD

namespace EV
abbrev COMP_CHANGE_TAKEN : Nat := 0x68
abbrev COMP_CHANGE_APPLIED : Nat := 0x69
abbrev COMP_CHANGE_REFUSED : Nat := 0x6A
abbrev COMP_CHANGE_FOLDED : Nat := 0x6B
abbrev COMP_PAGE_COMMITTED : Nat := 0x6C
abbrev COMP_RATE_CLASS : Nat := 0x6D
abbrev COMP_LANE_RESTART : Nat := 0x6E
abbrev COMP_DOT_UNCOVERED : Nat := 0x6F
abbrev WEB_LINE_BOUNDARY : Nat := 0x98
abbrev WEB_INDEX : Nat := 0x99
abbrev WEB_INDEX_MISMATCH : Nat := 0x9A
abbrev WEB_POSITION_STEP : Nat := 0x9B
abbrev WEB_QUAD_ILLEGAL : Nat := 0x9C
abbrev WEB_REVERSAL : Nat := 0x9D
abbrev WEB_FORWARD : Nat := 0x9E
abbrev WEB_HIGH_WATER_REGAINED : Nat := 0x9F
abbrev WEB_STOPPED : Nat := 0xA0
abbrev WEB_MOVING : Nat := 0xA1
abbrev WEB_PRESET_DONE : Nat := 0xA2
abbrev WEB_SOURCE_SWITCH : Nat := 0xA3
abbrev WEB_EMU_BEHIND : Nat := 0xA4
abbrev WEB_INDEX_MISSING : Nat := 0xA5
abbrev WEB_ORIGIN_UNDERRUN : Nat := 0xA6
abbrev PLAT_HOLD : Nat := 0x78
abbrev PLAT_RESUME : Nat := 0x79
abbrev PLAT_OVERSPEED_WARN : Nat := 0x7A
abbrev PLAT_OVERSPEED_CLEAR : Nat := 0x7B
abbrev PLAT_HOLD_CYCLING : Nat := 0x7C
abbrev PLAT_COOL_ON : Nat := 0x7D
abbrev PLAT_COOL_OFF : Nat := 0x7E
abbrev PLAT_TEMP_HARD : Nat := 0x7F
abbrev PLAT_TORN_LINE : Nat := 0x80
abbrev PLAT_SHADOW_TAKEN : Nat := 0x81
abbrev PLAT_COMMIT_REFUSED : Nat := 0x82
abbrev PLAT_RESUME_MISSED : Nat := 0x83
abbrev PLAT_BACKUP_VALID : Nat := 0x84
abbrev PLAT_SLIP : Nat := 0x85
abbrev PLAT_SLOT_DEFERRED : Nat := 0x86
abbrev OHL_ATTACHED : Nat := 0x88
abbrev OHL_DETACHED : Nat := 0x89
abbrev OHL_V2_FALLBACK : Nat := 0x8A
abbrev OHL_PORT_FAULT : Nat := 0x8B
abbrev OHL_CRC_RETRY : Nat := 0x8C
abbrev OHL_RETRAIN : Nat := 0x8D
abbrev OHL_PORT_READY : Nat := 0x8E
abbrev OHL_TELEMETRY_LOST : Nat := 0x8F
abbrev OHL_SUPPLY_FAULT : Nat := 0x90
abbrev OHL_SELFTEST_DONE : Nat := 0x91
abbrev OHL_SLOT_DISCARDED : Nat := 0x92
abbrev OHL_LIMITS_LOADED : Nat := 0x93
abbrev OHL_TORN_REPORT : Nat := 0x94
abbrev CAM_FRAME_DONE : Nat := 0xC0
abbrev CAM_FRAME_DROPPED : Nat := 0xC1
abbrev CAM_SHORT_FRAME : Nat := 0xC2
abbrev CAM_LONG_FRAME : Nat := 0xC3
abbrev CAM_UNTRIGGERED : Nat := 0xC4
abbrev CAM_TRIGGER_OVERRUN : Nat := 0xC5
abbrev CAM_SETTINGS_TAKEN : Nat := 0xC6
abbrev CAM_SETTINGS_LATE : Nat := 0xC7
abbrev CAM_COMMIT_REFUSED : Nat := 0xC8
abbrev CAM_PACKET_ERROR : Nat := 0xC9
abbrev CAM_RECORD_LOST : Nat := 0xCA
abbrev CAM_CCI_DONE : Nat := 0xCB
abbrev CAM_CCI_ERROR : Nat := 0xCC
abbrev PRF_WINDOW_DONE : Nat := 0xD0
abbrev PRF_FRAME_SKIPPED : Nat := 0xD1
abbrev PRF_FINDING : Nat := 0xD2
abbrev PRF_TRIAL : Nat := 0xD3
abbrev PRF_RESOLVED : Nat := 0xD4
abbrev PRF_UNRESOLVED : Nat := 0xD5
abbrev PRF_STREAK : Nat := 0xD6
abbrev PRF_BLOT : Nat := 0xD7
abbrev PRF_LOOP_LATE : Nat := 0xD8
abbrev PRF_REQUEST_REFUSED : Nat := 0xD9
abbrev PRF_WINDOW_INCOMPLETE : Nat := 0xDA
abbrev PRF_RECORD_LOST : Nat := 0xDB
abbrev TIME_COMPARE_MATCH : Nat := 0xA8
abbrev TIME_COMPARE_LATE : Nat := 0xA9
abbrev TIME_CAPTURE : Nat := 0xAA
abbrev TIME_CAPTURE_OVERRUN : Nat := 0xAB
abbrev TIME_NET_LOCKED : Nat := 0xAC
abbrev TIME_NET_UNLOCKED : Nat := 0xAD
abbrev TIME_NET_STEP : Nat := 0xAE
abbrev TIME_PULSE_OVERLAP : Nat := 0xAF
abbrev PACE_TAKEOVER : Nat := 0xB8
abbrev PACE_RETURN : Nat := 0xB9
abbrev PACE_HEARTBEAT_LOST : Nat := 0xBA
abbrev PACE_MIRROR_SKEW : Nat := 0xBB
abbrev PACE_QUOIN_STUCK : Nat := 0xBC
abbrev PACE_LINK_CHANGE : Nat := 0xBD
abbrev PACE_SYNC_SKEW : Nat := 0xBE
abbrev PACE_MIRROR_READY : Nat := 0xBF
abbrev DDR_TRAINING_DONE : Nat := 0x40
abbrev DDR_TRAINING_FAILED : Nat := 0x41
abbrev DDR_ECC_CORRECTED : Nat := 0x42
abbrev DDR_ECC_UNCORRECTABLE : Nat := 0x43
abbrev DDR_REFRESH_FORCED : Nat := 0x44
abbrev DDR_TEMP_RATE : Nat := 0x45
abbrev DDR_TRACK_ADJUST : Nat := 0x46
abbrev DDR_SELF_REFRESH : Nat := 0x47
abbrev MOT_MOVE_DONE : Nat := 0xDC
abbrev MOT_SEGMENT_DONE : Nat := 0xDD
abbrev MOT_CHAIN_DONE : Nat := 0xDE
abbrev MOT_HOMED : Nat := 0xDF
abbrev MOT_POSITION_UNCERTAIN : Nat := 0xE0
abbrev MOT_FAULT : Nat := 0xE1
abbrev MOT_MODE_CHANGE : Nat := 0xE2
abbrev MOT_SHADOW_TAKEN : Nat := 0xE3
abbrev MOT_COMMIT_REFUSED : Nat := 0xE4
abbrev MOT_HOLD_CURRENT : Nat := 0xE5
abbrev MOT_WAIT_TRIGGER : Nat := 0xE6
abbrev BOOT_READY : Nat := 0x10
abbrev BOOT_SLOT_FALLBACK : Nat := 0x11
abbrev BOOT_TRIAL_REVERTED : Nat := 0x12
abbrev BOOT_IMAGE_VERIFIED : Nat := 0x13
abbrev BOOT_IMAGE_REJECTED : Nat := 0x14
abbrev BOOT_BARE_FORME : Nat := 0x15
abbrev BOOT_ACTIVATED : Nat := 0x16
abbrev TYMP_COMPACTION_START : Nat := 0xEC
abbrev TYMP_COMPACTION_DONE : Nat := 0xED
abbrev TYMP_TORN_TAIL : Nat := 0xEE
abbrev TYMP_FULL : Nat := 0xEF
abbrev CLK_PCIE_REF_LOST : Nat := 0x08
abbrev CLK_PCIE_REF_RESTORED : Nat := 0x09
abbrev CLK_XTAL_DRIFT : Nat := 0x0A
abbrev CLK_REFCLK_SWITCH : Nat := 0x0B
abbrev PWR_STATE_CHANGE : Nat := 0xF0
abbrev PWR_BROWNOUT_WARN : Nat := 0xF1
abbrev PWR_BROWNOUT_CLEAR : Nat := 0xF2
abbrev PWR_WAKE_LATE : Nat := 0xF3
abbrev SEC_PROPOSAL : Nat := 0xF4
abbrev SEC_CONSENT_APPLIED : Nat := 0xF5
abbrev SEC_CONSENT_REFUSED : Nat := 0xF6
abbrev SEC_DEBUG_UNLOCKED : Nat := 0xF7
abbrev DISP_TE_BLANK : Nat := 0xE8
abbrev DISP_LINE_MATCH : Nat := 0xE9
abbrev DISP_FRAME_DONE : Nat := 0xEA
abbrev DISP_UNDERRUN : Nat := 0xEB
abbrev LEDGER_FAULT : Nat := 0x01
abbrev DETERMINISM_OFF : Nat := 0x02
abbrev EVENT_LOG_OVERFLOW : Nat := 0x03
abbrev DEVICE_TEMP_HIGH : Nat := 0x04
abbrev CPU_WATCHDOG_WARN : Nat := 0x18
abbrev CPU_FIRMWARE_FAULT : Nat := 0x19
abbrev NET_STATE_CHANGE : Nat := 0x20
abbrev NET_WATCHDOG : Nat := 0x21
abbrev NET_LINK_CHANGE : Nat := 0x22
abbrev NET_AL_REFUSED : Nat := 0x23
abbrev NET_SYNC_MISSED : Nat := 0x24
abbrev NET_FOE_DONE : Nat := 0x25
abbrev NET_FOE_ERROR : Nat := 0x26
abbrev NET_ALIAS_LOADED : Nat := 0x27
abbrev PCIE_LINK_UP : Nat := 0x28
abbrev PCIE_LINK_DOWN : Nat := 0x29
abbrev PCIE_LINK_DEGRADED : Nat := 0x2A
abbrev PCIE_HOT_RESET : Nat := 0x2B
abbrev PCIE_AER_ERROR : Nat := 0x2C
abbrev PCIE_WINDOW_DONE : Nat := 0x2D
abbrev PCIE_COMPLETION_TIMEOUT : Nat := 0x2E
abbrev DUCT_DESC_DONE : Nat := 0x30
abbrev DUCT_RING_HALTED : Nat := 0x31
abbrev DUCT_DOORBELL_INVALID : Nat := 0x32
abbrev DUCT_RING_PACED : Nat := 0x33
abbrev DUCT_RING_RESUMED : Nat := 0x34
abbrev DUCT_RING_PROMOTED : Nat := 0x35
abbrev DUCT_POOL_WAIT : Nat := 0x36
abbrev DUCT_EGRESS_STALLED : Nat := 0x37
abbrev GAL_STREAM_CURRENT : Nat := 0x48
abbrev GAL_STREAM_ERROR : Nat := 0x49
abbrev GAL_UNDERRUN_RISK : Nat := 0x4A
abbrev GAL_UNDERRUN_CLEAR : Nat := 0x4B
abbrev GAL_RESTART : Nat := 0x4C
abbrev IMP_FORME_READY : Nat := 0x58
abbrev IMP_FORME_ARMED : Nat := 0x59
abbrev IMP_FORME_PRINTING : Nat := 0x5A
abbrev IMP_FORME_PRINTED : Nat := 0x5B
abbrev IMP_FORME_RETIRED : Nat := 0x5C
abbrev IMP_FORME_FAULTED : Nat := 0x5D
abbrev IMP_LATE_DATA : Nat := 0x5E
abbrev IMP_SUBMIT_REFUSED : Nat := 0x5F
abbrev IMP_FORME_EMPTY : Nat := 0x60
end EV

/-! ### Abort codes (R41, R49, R52, R62, R67) -/

namespace AB
abbrev ok : Nat := 0
abbrev timedOut : Nat := 0x05040000
abbrev unsupported : Nat := 0x06010000
abbrev writeOnly : Nat := 0x06010001
abbrev readOnly : Nat := 0x06010002
abbrev noIndex : Nat := 0x06020000
abbrev notMappable : Nat := 0x06040041
abbrev pdoLimit : Nat := 0x06040042
abbrev length : Nat := 0x06070010
abbrev noSub : Nat := 0x06090011
abbrev range : Nat := 0x06090030
abbrev store : Nat := 0x08000020
abbrev locked : Nat := 0x08000021
abbrev state : Nat := 0x08000022
end AB

end Sys2Proof.Machine
end

