-- ==== Sys2Proof/Machine/State.lean ====
section
/-! DEFINITION. Machine/State.lean: everything the spec gives the RZ-2440 to remember, as plain data.

Objects (R14, R54) live in ONE store `od`, keyed `index * 256 + subindex`, their defaults and classes in
Machine/Dictionary.lean; DOMAIN objects live byte by byte in `dom`. The live sets of R26 live under the same keys in
`live` and `liveDom`. What no object holds (queues, transfers, positions, engines) has a field of its own here. A
value that an object shows of such a field is computed from the field (Machine/ObjectView.lean), so it has one home. -/

namespace Sys2Proof.Machine

open Sys2Proof

/-- Why a step stops with a fault. -/
inductive Fault where
  /-- Raised by no command of this model: the block reports its errors in its state. Safe. -/
  | none
  deriving DecidableEq, Repr

/-- Why a step refuses a command. -/
inductive Refusal where
  /-- Raised by an arm of `exec` whose command has no meaning yet. Safe: nothing is claimed of it. -/
  | notModelled (mnemonic : String)
  /-- Raised by DEBUG_INSTRUCTION while the port is unlocked: the manual gives no debug instruction (R2, R437). Safe. -/
  | debugUnitNotDescribed
  deriving DecidableEq, Repr

/-! ### Device: event fabric, ledgers -/

/-- An event log record (R475, R476); `x10`, `x18`, `x20` are the three 8 B words of EXTRA. -/
structure LogRec where
  event : Nat
  param : Nat
  seq : Nat
  loc : Nat
  x10 : Nat
  x18 : Nat
  x20 : Nat
  deriving DecidableEq, Repr

/-- The event fabric (R42 to R47, R475 to R480). -/
structure Dev where
  /-- R47: the on-chip event log buffer, oldest record first; ring 96's slots. -/
  evLog : List LogRec
  /-- R475: SEQ of the next log record, modulo 2^32. -/
  evSeq : Nat
  /-- R47: non-trace records dropped since the last EVENT_LOG_OVERFLOW record. -/
  dropsSince : Nat
  /-- R480: per event identifier, LOC of its last journaled occurrence plus 1. -/
  errStamp : SMap
  /-- R45: per PDO event bit, LOC plus 1 of the last occurrence that set it. -/
  pdoStamp : SMap
  /-- R38: the print line is halted until a SOFT or higher reset. -/
  ledgerHalt : Bool
  /-- R33: a line has been fired since determinism checking was last disabled. -/
  offFired : Bool
  deriving DecidableEq, Repr

/-- One ledger (R35, R36): its total and what each of its holders holds, in the order of R36. -/
structure Ledger where
  total : Nat
  held : Vector Nat 7
  deriving DecidableEq, Repr

/-! ### Object server, EtherCAT -/

/-- What an object request asks for (R48 to R53, R487). -/
inductive ReqKind where
  | read
  | write (data : List Byte)
  | readAll (fromOne : Bool)
  /-- R63: the SDO information service. -/
  | information (index : Option Nat)
  | writeAll (fromOne : Bool) (data : List Byte)
  deriving DecidableEq, Repr

/-- An object request with its path; `offset`, `length` and `last` belong to window requests (R78). -/
structure Req where
  path : Path
  idx : Nat
  sub : Nat
  kind : ReqKind
  offset : Nat
  length : Nat
  last : Bool
  segmented : Bool
  deriving DecidableEq, Repr

/-- An answer: to a mailbox request, a window request or a file transfer. -/
inductive Answer where
  | nothing
  | done (data : List Byte)
  | abort (code : Nat)
  | mailboxError (code : Nat)
  | fileError (code : Nat)
  | objects (list : List Nat)
  deriving DecidableEq, Repr

/-- A segmented DOMAIN transfer in progress (R49, R63, R81). -/
structure SegXfer where
  path : Path
  idx : Nat
  sub : Nat
  write : Bool
  /-- Where the next mailbox segment goes on. -/
  pos : Nat
  /-- Bytes taken, each piece at its offset, newest first. -/
  pieces : List (Nat × List Byte)
  deriving DecidableEq, Repr

/-- The payload of a journal record (R396). -/
inductive JPayload where
  /-- Values by key; a DOMAIN's value is the number its bytes spell. -/
  | objects (complete : Bool) (values : List (Nat × Nat))
  | nozzles (entries : List (Nat × Nat))
  | bytes (key : Nat) (data : List Byte)
  | boot (values : List (Nat × Nat))
  | error (event loc param cause : Nat)
  | consent (party counter : Nat)
  deriving DecidableEq, Repr

/-- What a journal record completes when its COMMIT word is programmed (R51, R396). -/
inductive JDone where
  | nothing
  /-- The writes that take effect, and the path that is then answered. -/
  | answer (path : Path) (writes : List (Nat × List Byte))
  | consented (party : Nat)
  | applied
  deriving DecidableEq, Repr

/-- A journal record written but for its COMMIT word. -/
structure JRec where
  payload : JPayload
  done : JDone
  deriving DecidableEq, Repr

/-- The object server (R48, R49): one request at a time, the rest in order. -/
structure Server where
  /-- R48: requests that have reached the server and are not yet served, oldest first, each with LOC of its cycle. -/
  waiting : List (Nat × Req)
  /-- R49: segmented transfers in progress. -/
  segs : List SegXfer
  /-- R51: the request in progress waits for its journal record. -/
  busy : Bool
  deriving DecidableEq, Repr

/-- The EtherCAT slave controller (R60 to R75). -/
structure Net where
  /-- R60, R80: the AL state in effect. -/
  al : AlState
  /-- R62: AL status code. -/
  alStatus : Nat
  /-- R75: a PRE-OPERATIONAL request waits for journal replay. -/
  preopWaiting : Bool
  /-- R488: the master has enabled the mailbox sync managers SM0 and SM1. -/
  smOn : Vector Bool 2
  /-- R73: configured station address, ESC register 0x0010. -/
  station : Nat
  /-- R74: the station alias loaded into the ESC. -/
  stationAlias : Nat
  /-- R75: bytes of the 0x52, 0x45, 0x53 sequence taken so far. -/
  resetSeq : Nat
  /-- R75: frames are forwarded. -/
  forwarding : Bool
  /-- R481: MII link state of ports 0 and 1. -/
  linkUp : Vector Bool 2
  /-- R71: process-data watchdog, in 100 µs. -/
  watchdog : Nat
  /-- R68: SYNC0 cycle time, ns; 0 = not configured. -/
  sync0Cycle : Nat
  /-- R417: LOC of the last SYNC0 edge. -/
  sync0Loc : Nat
  /-- R69: the Distributed Clocks system time in ns as last sampled, and LOC of that cycle. Between samples it runs on in the
  ESC, under the master's corrections; what it reads then is open (log entry 111). -/
  sysTime : Nat
  sysLoc : Nat
  /-- R68: outputs received since the SM2 event and not applied. -/
  outputs : Option (List Byte)
  /-- R70: the TxPDO image of the last input latch. -/
  inputs : List Byte
  /-- R316: the next SYNC0 edge is missing and has been reported. -/
  syncMissed : Bool
  /-- R72: where the next bytes of the rz2440.fw transfer in progress go. -/
  foe : Option Nat
  /-- R417: LOC of the last SM2 event, and the intervals to the ones before (the last 8). -/
  sm2Loc : Option Nat
  sm2Gaps : List Nat
  /-- R64, R67: the master has written its own mapping or assignment since the last default was loaded. -/
  pdoOwn : Bool
  /-- The last mailbox answer (SDO, complete access, information service, FoE). -/
  answer : Answer
  deriving DecidableEq, Repr

/-! ### PCI Express -/

/-- An access of a DMA ring to host memory: a posted write of bytes, or a read of so many, at an address, with or without No Snoop
(R91, R94, R107, R108). -/
inductive HostAccess where
  | write (address : Nat) (bytes : List Byte) (noSnoop : Bool)
  | read (address length : Nat) (noSnoop : Bool)
  deriving DecidableEq, Repr

/-- The endpoint and its BAR2 window (R77 to R86, R103). -/
structure Pcie where
  linkUp : Bool
  width : Nat
  speed : Nat
  /-- R420: a link has trained since the last reset. -/
  trained : Bool
  /-- R84, R420: D3hot. -/
  d3hot : Bool
  /-- R420: the link is in L2/L3 Ready. -/
  l23 : Bool
  /-- R421: level of PERST_N. -/
  perst : Bool
  /-- R84: configuration space of the function: command, BARs, Device Control, Device Control 2, AER status, MSI-X control. -/
  command : Nat
  bars : Vector Nat 6
  devCtl : Nat
  devCtl2 : Nat
  aer : Nat
  msixCtl : Nat
  /-- R84: MSI-X table, dword number to value; unlisted vector-control dwords read 1 (masked). -/
  msixTable : SMap
  /-- R84: MSI-X pending bits. -/
  msixPending : List Nat
  /-- R44, R105: MSI-X messages sent, by vector, oldest first. -/
  msixSent : List Nat
  /-- R84: Link Control and L1 PM Substates Control 1. -/
  linkCtl : Nat
  l1Ctl : Nat
  /-- R91, R94, R107, R108: the rings' accesses to host memory, oldest first. -/
  hostAccess : List HostAccess
  /-- R78: window registers. -/
  winAddr : Nat
  winLength : Nat
  winOffset : Nat
  winBusy : Bool
  /-- The window request in progress is a write. -/
  winWrite : Bool
  /-- R82: a request that a HOT reset cut off from its window is still being served. -/
  winLost : Bool
  winDone : Bool
  winCollision : Bool
  winStatus : Nat
  /-- R77: window data buffer, 61,440 B; unlisted bytes read 0. -/
  winBuf : SMap
  /-- R79: the result of a served window request that WIN_REQUEST_DONE has not published yet. -/
  winResult : Option Answer
  /-- Data of the last register or configuration read. -/
  readData : Nat
  deriving DecidableEq, Repr

/-! ### DUCT -/

inductive RingState where
  | disabled | running | stopped | halted
  deriving DecidableEq, Repr

/-- A descriptor (R93). -/
structure Desc where
  list : Nat
  total : Nat
  quiet : Bool
  last : Bool
  op : Nat
  forme : Nat
  count : Nat
  offset : Nat
  tag : Nat
  target : Nat
  seq : Nat
  deriving DecidableEq, Repr

/-- Where a transfer's staging buffer is (ledger 0, R36). -/
inductive Staging where
  | none | reading | writing | retained
  deriving DecidableEq, Repr

/-- A scatter-gather entry in progress (R94). -/
structure SgEntry where
  address : Nat
  length : Nat
  ns : Bool
  used : Nat
  deriving DecidableEq, Repr

/-- A descriptor in progress on a ring (R97 to R104). -/
structure Xfer where
  desc : Desc
  /-- R98, R100: past the start check, with its blocks reserved. -/
  started : Bool
  /-- R94: entries consumed. -/
  entries : Nat
  /-- R96: running sum of the entry lengths. -/
  sum : Nat
  entry : Option SgEntry
  /-- Bytes moved to or from the target. -/
  moved : Nat
  staging : Staging
  /-- R103: bytes that landed in a retained buffer. -/
  kept : List Byte
  /-- R102: bytes of the staging buffer of the present turn that have moved; R103: LOC of the last pre-emption; the transfer is of
  the high class until its turn ends. -/
  inBuf : Nat
  highTurn : Bool
  heldAt : Nat
  /-- R111: TO_DEVICE bytes taken, effective at completion. -/
  gathered : List Byte
  /-- R110: LOC of the entry read before the first record; records taken by a RECORDS descriptor, and LOC of the first. -/
  entryLoc : Nat
  records : Nat
  firstLoc : Nat
  /-- R110: host address behind the last record written, the room left there, and ENTRY_NS of its entry. -/
  recEnd : Nat
  recRoom : Nat
  recNs : Bool
  /-- R141, R146: the forme retired under the descriptor; its data is credited to no context. -/
  orphan : Bool
  deriving DecidableEq, Repr

/-- A DMA ring (R89 to R92). -/
structure Ring where
  base : Nat
  vector : Nat
  vecEn : Bool
  promote : Bool
  prio : Bool
  ns : Bool
  sizeLog2 : Nat
  state : RingState
  cause : Nat
  head : Nat
  tail : Nat
  errEntry : Nat
  errDesc : Nat
  lastTag : Nat
  high : Nat
  low : Nat
  poolWait : Bool
  promoted : Bool
  paced : Bool
  /-- R91: STOP taken; the descriptor in progress finishes. -/
  stopping : Bool
  /-- R102: the ring had the last turn of its class on the read side, and on the write side. -/
  turn : Bool
  turnOut : Bool
  xfer : Option Xfer
  deriving DecidableEq, Repr

/-- An egress ring's slots (R110): slot numbers awaiting the host with LOC of their records, oldest first, and the
producer's reservations. -/
structure Egress where
  awaiting : List (Nat × Nat)
  nextSlot : Nat
  reserved : Nat
  stalled : Bool
  deriving DecidableEq, Repr

/-! ### GAL and IMP -/

/-- Holders of a Galley block (ledger 1, R130). -/
inductive BlockHolder where
  | filling | filled | decoding | retained
  deriving DecidableEq, Repr

/-- A Galley block of a stream: its number in the Galley area, its place in the stream, its holder. -/
structure Block where
  num : Nat
  order : Nat
  holder : BlockHolder
  deriving DecidableEq, Repr

/-- A Galley stream of one forme and head (R114 to R135). `context` is false once the forme has retired and the blocks
are held for the head alone (R130). -/
structure Stream where
  forme : Nat
  head : Nat
  context : Bool
  blocks : List Block
  /-- R104: bytes credited. -/
  delivered : Nat
  /-- R88: the ring of the binding. -/
  bound : Option Nat
  /-- R93: END has completed. -/
  ended : Bool
  /-- R117: the header has passed causes 0x01 to 0x05. -/
  headerOk : Bool
  /-- R125: a check of the stream has failed; R126: the first stream line that is then never output. -/
  failed : Bool
  failAt : Nat
  /-- R127: a failure that changes nothing has been raised. -/
  reported : Bool
  version : Nat
  streamBytes : Nat
  /-- R131, R135: decode position (stream offset) and reference line. -/
  pos : Nat
  /-- R130: where the furthest band that has been opened ends; a restart leaves it. -/
  top : Nat
  ref : List Nat
  /-- R119: the band being decoded: its number, its lines left, its start and size; REPEAT lines left. -/
  band : Nat
  bandLeft : Nat
  bandStart : Nat
  bandBytes : Nat
  repeatLeft : Nat
  /-- Next stream line to decode. -/
  nextLine : Nat
  /-- R136: one above the highest stream line ever decoded. -/
  decoded : Nat
  /-- R125: stream offset at which the LAST band ends, once it is known. -/
  lastEnd : Option Nat
  /-- R118: recorded as current in 0x2003. -/
  current : Bool
  /-- R135: stream offsets of the headers of the bands decoded so far, by band number. -/
  bandAt : SMap
  /-- R130: first fire line (START + LINE_OFFSET) and the end line on this head; R119: the end line of the stream's bands,
  which an ABORT does not move. -/
  firstFire : Nat
  endFire : Nat
  layoutEnd : Nat
  /-- R137: FORME_HEADS and the LINE_OFFSET of every head as submit took them. -/
  heads : Nat
  offsets : List Nat
  /-- R164: one above the highest stream line composed. -/
  counted : Nat
  deriving DecidableEq, Repr

/-- A decompressor engine's status word (R135). -/
structure Engine where
  slot : Nat
  forme : Nat
  lines : Nat
  deriving DecidableEq, Repr

structure Gal where
  streams : List Stream
  engines : Vector Engine 8
  /-- R134: the underrun risk of a head is raised and not cleared. -/
  risk : Vector Bool 24
  deriving DecidableEq, Repr

inductive FormeState where
  | empty | loading | ready | armed | printing | printed | retired | faulted
  deriving DecidableEq, Repr

/-- A forme context (R136, R140). Its objects other than FORME_STATE are in `od`. -/
structure Forme where
  state : FormeState
  /-- R140, R141: the context entered FAULTED from PRINTING. -/
  fromPrinting : Bool
  /-- R130: the context entered FAULTED from ARMED; its other streams go on. -/
  fromArmed : Bool
  /-- R145: IMP_LATE_DATA has been raised; R141: it is due at the end of the cycle. -/
  lateRaised : Bool
  lateDue : Bool
  /-- R141: LOC plus 1 of the cycle in which the context entered FAULTED. -/
  faultLoc : Nat
  /-- R147: an ABORT waits for the held line. -/
  aborting : Bool
  deriving DecidableEq, Repr

/-! ### COMP -/

/-- A line decoded by GAL that waits for its lane: fire line, forme, stream line, dots. -/
structure DecodedLine where
  line : Nat
  forme : Nat
  y : Nat
  dots : List Nat
  deriving DecidableEq, Repr

/-- A composed line (R155): levels by head column, for the nozzles of the line's own parity and for partner-row
receivers (R161). `forme` is none for a blank line. -/
structure Composed where
  line : Nat
  forme : Option Nat
  own : List Nat
  partner : List Nat
  deriving DecidableEq, Repr

/-- A compositor lane (R155 to R169). -/
structure Lane where
  /-- Lines from GAL. -/
  input : List DecodedLine
  /-- The lead buffer, oldest first (R24: at most 32). -/
  lead : List Composed
  /-- R168: the row-delay store: committed lines whose rows are not all fired. -/
  delay : List Composed
  /-- The next fire line to compose. -/
  next : Nat
  /-- R171: highest fire line begun since the last reset; `begun` is 1 above it, 0 before any. -/
  begun : Nat
  /-- R169: from GAL_RESTART until the lane composes the stop line again. -/
  restart : Bool
  stopLine : Nat
  /-- R230: lines composed from the resume line on since GAL_RESTART. -/
  recomposed : Nat
  /-- R164: band in which COMP_DOT_UNCOVERED was last raised, plus 1. -/
  uncoveredBand : Nat
  /-- R144: the lines of the head that position steps have passed uncommitted, as (first, last). -/
  skips : List (Nat × Nat)
  deriving DecidableEq, Repr

/-- A pending item of the change log (R170): an entry change, a page, or a rate class. -/
inductive Item where
  | entry (nozzle value mask source : Nat)
  | page (page : Nat) (first last : Nat) (entries : List Nat) (source : Nat)
  | rate (plane cls : Nat)
  deriving DecidableEq, Repr

/-- An accepted item with its band; `immediate` under R176, `applied` once it is in effect on its own lane. -/
structure Pending where
  item : Item
  band : Nat
  immediate : Bool
  applied : Bool
  deriving DecidableEq, Repr

/-- A load of the nozzle table (R175): where the next bytes go, the bytes waiting, and who is answered. -/
structure TableLoad where
  pos : Nat
  data : List Nat        -- entries still to be taken
  source : Nat
  tag : Nat              -- R174: TAG of a ring's descriptor
  ring : Option Nat
  path : Option Path
  last : Bool            -- the bytes end the load
  deriving DecidableEq, Repr

structure Comp where
  lanes : Vector Lane 24
  /-- R170: pending items in acceptance order. -/
  items : List Pending
  /-- The folded nozzle table, table index to entry; unlisted entries read 0x0000_0800 (R153). -/
  table : SMap
  /-- R174: SEQ of the next change record. -/
  seq : Nat
  load : Option TableLoad
  /-- R165: the folded rate class of each plane. -/
  rate : Vector Nat 2
  /-- R165: accepted RATE items of each plane, as (first line, class), oldest first. -/
  rateLog : Vector (List (Nat × Nat)) 2
  /-- R165, R172: accepted entry changes and rate classes whose band no lane of theirs has composed yet. -/
  unapplied : List Pending
  /-- R177: LOC plus 1 of the last acceptance of an item. -/
  accepted : Nat
  /-- R308: LOC plus 1 of the folds of the present cycle, with their page, first and last entry. -/
  pageFolds : List (Nat × Nat × Nat × Nat)
  deriving DecidableEq, Repr

/-! ### PLAT -/

/-- A fire group of a body (R208): group number, start tick, 256 levels. -/
structure Group where
  num : Nat
  tick : Nat
  levels : List Nat
  deriving DecidableEq, Repr

/-- A trim named to a slot (R211), and the values that the nozzle has before it. -/
structure Trim where
  slot : Nat
  nozzle : Nat
  kern : Nat
  energy : Nat
  wasKern : Nat
  wasEnergy : Nat
  deriving DecidableEq, Repr

/-- A line command (R208): body and timing word. -/
structure Body where
  slot : Nat
  recipes : Nat
  groups : List Group
  trims : List Trim
  start : Nat
  u : Nat
  deriving DecidableEq, Repr

/-- A window of the concurrency rule (R214) in tick space: line × 64 + tick. -/
structure Window where
  start : Nat
  stop : Nat
  deriving DecidableEq, Repr

/-- A firing sequencer (R205 to R224). -/
structure Seqr where
  /-- R222: cool mode; the readings that wait for a boundary, with the LOC of each, oldest first; the last reading. -/
  cool : Bool
  readings : List (Nat × Int)
  lastTemp : Int
  /-- R225, R236: the head took cause TEMP_HARD of this hold, or of the last one and has read no lower since; R236: TORN. -/
  hard : Bool
  torn : Bool
  /-- R223: slots of ring 105 kept for the head's PLAT_COOL records. -/
  kept : Nat
  /-- R214: windows still open, and the tick at which the last slot built begins. -/
  windows : List Window
  /-- R224: first slot not yet committed. -/
  nextSlot : Nat
  /-- R214: band in which PLAT_SLIP was last raised, plus 1. -/
  slipBand : Nat
  /-- R34: body bytes of the band in progress, running CRC-32, and the band. -/
  crc : Option Nat
  crcBand : Nat
  /-- R211: trims issued for slots to come. -/
  trims : List Trim
  /-- R217: a commit is pending; its source (R228) for the records; R27: LOC plus 1 of the COMMIT. -/
  commit : Bool
  commitSource : Nat
  commitLoc : Nat
  /-- R209: slots committed and not acknowledged, lowest first. -/
  unacked : List Nat
  /-- R214, R224: bodies built for slots that a torn line or a retrain must send again. -/
  refire : List Body
  /-- R224: the torn slot to be fired again. -/
  tornSlot : Option Nat
  /-- R247: a PLAT_SET record waits for the first slot committed after READY. -/
  loadRecord : Bool
  deriving DecidableEq, Repr

/-- R225: a cause taken: its bit, the head concerned (0xFF for none), and the first LOC at which it acts. -/
structure Taken where
  cause : Nat
  head : Nat
  acts : Nat
  deriving DecidableEq, Repr

structure Plat where
  heads : Vector Seqr 24
  /-- R225: cause word of the hold; causes taken that have not acted; R234: LOC plus 1 of the last cause that joined a
  hold. -/
  cause : Nat
  taken : List Taken
  causeLoc : Nat
  /-- R226, R230: the hold is in force; the held line is 0x3600:11. -/
  held : Bool
  /-- R226: the head of the hold's event. -/
  causeHead : Nat
  /-- R230: WEB_FORWARD has been raised since the hold. -/
  forwardSeen : Bool
  /-- R229: BACKUP_VALID. -/
  backupValid : Bool
  /-- R223: PLAT_COOL records that wait for a slot of ring 105, oldest first: the LOC of each and its bytes from 0x08 on. -/
  coolOwed : List (Nat × List Byte)
  /-- R233: LOC of each hold entry within the window, newest first; HOLD_CYCLING. -/
  entries : List Nat
  cycling : Bool
  /-- R221: plane above R_max, and the consecutive boundaries above 1.01 R_max. -/
  overNow : Vector Bool 2
  overCount : Vector Nat 2
  /-- R221: end of the last slot's 64 ticks, in LOC ticks, per plane. -/
  slotEnd : Vector Rat 2
  /-- R221: the demanded rate, S of the last boundary record. -/
  demand : Rat
  /-- R411: initialisation has completed; HOLD_N is low before that. -/
  initDone : Bool
  deriving DecidableEq, Repr

/-! ### OHL -/

inductive PortState where
  | disabled | empty | training | descriptor | upgrade | ready | retrain | recover | fault
  deriving DecidableEq, Repr

/-- Where the ledger 4 credit of a held slot is. -/
inductive CreditAt where
  | available | inFlight | head
  deriving DecidableEq, Repr

/-- A slot held for a head (R252, R254). -/
structure HeldSlot where
  body : Body
  refire : Bool
  credit : CreditAt
  /-- R252: it waits to be sent; R259: it was reported torn and waits to be committed again. -/
  due : Bool
  torn : Bool
  deriving DecidableEq, Repr

/-- A forward frame sent and not acknowledged (R257): its FSEQ and what it is. -/
inductive Frame where
  | slot (slot groups : Nat) (refire : Bool)
  | group (slot num : Nat)
  | trim (t : Trim)
  | command (op arg : Nat)
  deriving DecidableEq, Repr

/-- A head port (R248 to R265). -/
structure Port where
  state : PortState
  /-- R238: OHLn_EN; filtered OHLn_DET_N low. -/
  en : Bool
  det : Bool
  /-- R249: failed training attempts; the head's VMAX; the version of the attach and in use. -/
  fails : Nat
  vmax : Nat
  version : Nat
  /-- R57: version 1 negotiated at the last attach. -/
  v1 : Bool
  /-- R246: descriptor chunks read so far, and reads with a bad CRC. -/
  chunks : List (Nat × List Byte)
  badReads : Nat
  /-- R247: serial of the last head attached since the last reset reaching PLAT. -/
  lastSerial : Option Nat
  /-- R249: descriptor checked, alignment done: the port waits at step 6; the attach is not complete. -/
  aligned : Bool
  attaching : Bool
  /-- Round trip reported by ECHO, and TIME_SET sent. -/
  latency : Nat
  /-- R241: next forward FSEQ; frames not acknowledged, oldest first. -/
  fseq : Nat
  unacked : List (Nat × Frame)
  /-- R241: the number of the next frame of the backchannel, once a telemetry frame has told it; frames lost by that count. -/
  backNext : Option Nat
  backLost : Nat
  /-- Frames sent to the head since the last attach began, oldest first. -/
  sent : List Frame
  /-- R252: slots held, lowest first; R263: the slot that the port took last, with LOC plus 1. -/
  slots : List HeldSlot
  fresh : Nat × Nat
  /-- R260, R263: bodies of the slots that a retraining port has discarded since it left READY, lowest first. -/
  lost : List Body
  /-- R258: an attempt of the retrain has succeeded, and the head has not reported READY yet. -/
  linkBack : Bool
  /-- R265: highest slot DONE; `anyDone` before the first. -/
  slotDone : Nat
  /-- R253: TRIM frames waiting to be sent. -/
  trims : List Trim
  /-- R257, R258: band of the last OHL_CRC_RETRY plus 1; NAKs in the last 100 µs; a timeout just before. -/
  retryBand : Nat
  naks : List Nat
  timeouts : Nat
  retrainFails : Nat
  /-- R254: band of the last OHL_SLOT_DISCARDED plus 1. -/
  discardBand : Nat
  /-- R259: TORN reported for slot M. -/
  tornAt : Option Nat
  /-- R261: OHL_SUPPLY_FAULT raised; telemetry lost. -/
  supplyRaised : Bool
  telemetryLost : Bool
  /-- R256: LINK reported to the platen. -/
  linkCause : Bool
  /-- R262: self-test in progress, chunks collected. -/
  selftest : Bool
  selfChunks : Nat
  selfDone : Bool
  selfFails : Nat
  deriving DecidableEq, Repr

/-! ### WEB -/

structure Latch where
  pos : Nat
  loc : Nat
  net : Nat
  speed : Int
  deriving DecidableEq, Repr

/-- The web position unit (R181 to R203). Positions are exact, in lines. -/
structure Web where
  /-- R181: source in effect; R201: the one before it, and LOC plus 1 of the change. -/
  source : Nat
  sourceBefore : Nat
  switchLoc : Nat
  /-- R183: filtered (A, B) of the two sources. -/
  ab : Vector (Bool × Bool) 2
  /-- R188: P, forward mark, low mark, high-water line. -/
  p : Rat
  forward : Rat
  low : Rat
  hwl : Nat
  /-- R190 -/
  frozen : Bool
  reversed : Bool
  /-- R191: WEB_HIGH_WATER_REGAINED is due. -/
  regainDue : Bool
  homed : Bool
  underrun : Bool
  /-- R193, R194: revolution phase and its lock; the last count was forward; a PRESET_AT_INDEX is pending. -/
  phase : Nat
  locked : Bool
  lastForward : Bool
  presetArmed : Bool
  /-- R196: net forward travel since the last eligible index; the missing event is raised. -/
  sinceIndex : Int
  missingRaised : Bool
  /-- R201: LOC plus 1 of the last illegal transition, and of the last index edge of the source in effect; 0 before any. -/
  illegalLoc : Nat
  indexLoc : Nat
  /-- R197: DIRECTION, speed in lines/s, edges of the window (LOC, forward), last two edges. -/
  direction : Nat
  moving : Bool
  speed : Rat
  edges : List (Nat × Bool)
  lastEdge : Nat
  prevEdge : Nat
  edgesSeen : Nat
  /-- R197: LOC at which the speed window began. Older edges are kept for R333. -/
  windowFrom : Nat
  /-- R189: per line crossed and not released: the line, LOC of the count edge that carried P to it or past it, P then. -/
  crossed : List (Nat × Nat × Rat)
  /-- R189: first LOC at which the next boundary may be released; R201: the last line released. -/
  releaseFrom : Nat
  released : Nat
  /-- R198: latch slots. -/
  latches : Vector Latch 4
  /-- R198: LOC plus 1 of each slot's latch; 0 before any. -/
  latchedAt : Vector Nat 4
  /-- R199, R200, R330: position less steps since the last preset, emulated counts emitted, EMU_BEHIND, LOC from which
  the next edge may be emitted, emulated indices emitted. -/
  emuBase : Rat
  emuCount : Int
  emuBehind : Bool
  emuFree : Nat
  emuIndex : Nat
  /-- R199: the last emulated movement emitted an index. -/
  emuZ : Bool
  /-- R203: snapshots taken by a read of WEB_POSITION_LO. -/
  snapHi : Nat
  snapHwlLo : Nat
  snapHwlHi : Nat
  deriving DecidableEq, Repr

/-! ### TIME -/

/-- The timebase unit (R314 to R324). -/
structure Time where
  /-- R316: the last pairs (ESC time, LOC), newest first, at most 8. -/
  pairs : List (Nat × Nat)
  /-- R316: the fit: NET at LOC0, LOC0 and the rate 1 + rho. -/
  net0 : Rat
  loc0 : Nat
  rate : Rat
  locked : Bool
  /-- R318, R319: match flags of TIME_CMP. -/
  matched : Vector Bool 16
  /-- R320: armed with a target already reached. -/
  lateArm : Vector Bool 16
  /-- R321: the pulses of each TRIG pin, in order: the LOC at which each begins and the LOC at which it ends. -/
  pulse : Vector (List (Nat × Nat)) 16
  /-- R322: VALID flags and filtered levels. -/
  valid : Vector Bool 8
  level : Vector Bool 8
  /-- R324: snapshots taken by a read of TIME_LOC_LO. -/
  snapLocHi : Nat
  snapNetLo : Nat
  snapNetHi : Nat
  deriving DecidableEq, Repr

/-! ### PACE -/

/-- The pace unit (R326 to R336). -/
structure Pace where
  /-- R335: role in effect; a change waits for the next cycle end. -/
  role : Nat
  /-- R331: QUOIN_N held low by this chip, LOC of the take, drivers enabled. -/
  quoinHeld : Bool
  takenAt : Nat
  driving : Bool
  /-- R331: a take is due (R332 lists the cases). -/
  takeDue : Bool
  /-- R328: link versions, 0 = down. -/
  upVersion : Nat
  dnVersion : Nat
  /-- R329: last BUSY from downstream. -/
  busyIn : Bool
  /-- R334: a BUSY of 1 has been received since the last cycle end. -/
  busyCycle : Bool
  /-- R329: BUSY sent upstream last. -/
  busyOut : Bool
  /-- R330: READY of this chip, consecutive good records, records missed, last record. -/
  ready : Bool
  good : Nat
  missed : Nat
  last : Option MirrorRec
  /-- R334: READY of the partner since (LOC), HANDBACK sent or received. -/
  readySince : Option Nat
  handback : Bool
  handbackSeen : Bool
  /-- R332: a record has been received since the reset. -/
  everRecord : Bool
  /-- R333: PACE drives HOLD_N low for 1 µs. -/
  holdPulse : Bool
  /-- R326: PACE_SYNC_OUT pulse. -/
  syncPulse : Bool
  /-- R330: emulated count at the last cycle end and its line. -/
  cycleCount : Int
  cycleLine : Nat
  /-- R335: the MASTER has released QUOIN_N by itself and has not been READY since. -/
  ownRelease : Bool
  /-- R330: mirror records sent, and pace-link frames sent (ENUM value, CYCLE line, BUSY), oldest first. -/
  recordsSent : List MirrorRec
  framesSent : List (Nat × Nat)
  deriving DecidableEq, Repr

/-! ### CAM and PRF -/

/-- A frame record's values (R282) while the frame is open and while PRF holds it. -/
structure FrameRec where
  fsn : Nat
  flags : Nat
  fsLoc : Nat
  feLoc : Nat
  trigPos : Nat
  trigLoc : Nat
  strobeLoc : Nat
  buffer : Nat
  setId : Nat
  lines : Nat
  shortLines : Nat
  longLines : Nat
  padLines : Nat
  cutLines : Nat
  badLines : Nat
  width : Nat
  height : Nat
  valid : Nat
  saturated : Nat
  sum : List Nat
  count : List Nat
  minV : Nat
  maxV : Nat
  /-- Stored lines so far, and per line the number of valid pixels (R273). -/
  stored : Nat
  validLens : List Nat
  deriving DecidableEq, Repr

/-- A camera port (R267 to R287). -/
structure Cam where
  frame : Option FrameRec
  trigPending : Bool
  trigPos : Nat
  trigLoc : Nat
  trigOver : Bool
  trigHeld : Bool
  /-- R270: a match of this cycle that waits for the Frame Start of the cycle: its position, and whether the platen held. -/
  trigNext : Option (Nat × Bool)
  strobeLoc : Nat
  /-- R280: writes of the settings set in progress or due at the next Frame Start; entries left. -/
  writing : Bool
  writesDue : Bool
  writesLeft : Nat
  deadline : Nat
  lateCounted : Bool
  /-- R281: frames carry SETTINGS_TORN; the frame at the original target carries it once. -/
  torn : Bool
  nakked : Bool
  tornFsn : Nat
  /-- R27, R280: a commit is pending; LOC plus 1 of its dispatch; R286: LATENCY at the COMMIT. -/
  commit : Bool
  commitLoc : Nat
  latency : Nat
  /-- R277: an immediate access is in progress, it is a read, and its data bytes; a COMMIT, or the writes of a set, wait for
  its end. -/
  cciBusy : Bool
  cciRead : Bool
  cciBytes : Nat
  commitWaiting : Bool
  writesWaiting : Bool
  /-- R276, R278: what CAM has sent over the port's CCI, from one start condition to the next, oldest first. -/
  cciSent : List (List Byte)
  /-- R280: LOC of the last Frame Start. -/
  fsLoc : Nat
  streaming : Bool
  /-- R268: a reset holds CAMp_RST_N low; CAMp_REFCLK runs. -/
  rstLow : Bool
  refclkOn : Bool
  /-- R406: the reference clock is held low after a change of REFCLK. -/
  refclkDue : Bool
  /-- R283: frames since CAM_RECORD_LOST was last raised. -/
  lostGap : Nat
  /-- Frames passed to PRF, oldest first. -/
  toPrf : List FrameRec
  deriving DecidableEq, Repr

/-- An open window or a summary (R293, R294): sums by (plane, column) and (plane, tile). -/
structure WindowSum where
  base : Nat              -- Y_s
  lines : Nat             -- WINDOW_LINES when it was opened
  cols : SMap             -- plane * 4096 + stored column
  tiles : SMap            -- plane * 4096 + tile row * 256 + tile column
  torn : Bool
  incomplete : Bool
  tookFrame : Bool        -- R294: a frame has been matched to it
  slot : Nat              -- summary slot, once closed
  params : SMap           -- R310: 0x4100:06 to :33 when it was opened
  flat : SMap             -- R310: FLAT_FIELD when it was opened
  offLine : Nat           -- R300: the highest paper line with a dot in it
  offsets : List Nat      -- R300: the LINE_OFFSETs of that dot's forme, by head
  deriving DecidableEq, Repr

/-- An attribution trial (R299). -/
structure Trial where
  port : Nat
  cls : Nat
  plane : Nat
  column : Nat
  lead : Nat
  undo : Nat
  band : Nat
  strength : Nat          -- F, in 1/256
  rest : List Nat         -- candidates after the lead
  waits : Bool            -- R305: no request for the lead has been taken yet
  deriving DecidableEq, Repr

/-- A PROPOSED finding that can be confirmed (R303). -/
structure Proposed where
  port : Nat
  seq : Nat
  nozzle : Nat
  cls : Nat
  plane : Nat
  column : Nat
  strength : Nat
  fsn : Nat
  base : Nat
  deriving DecidableEq, Repr

structure PrfLane where
  open_ : List WindowSum
  summaries : List WindowSum
  /-- Bases of the windows inspected on this port. -/
  inspected : List Nat
  fsn : Nat
  lostGap : Nat
  /-- R284: LOC plus 1 of a WINDOW_PROCESSED that has acted before its command. -/
  ahead : Nat
  deriving DecidableEq, Repr

structure Prf where
  lanes : Vector PrfLane 4
  trials : List Trial
  proposed : List Proposed
  findingSeq : Nat
  /-- R293: paper lines of torn slots. -/
  torn : List Nat
  /-- R307: FINDING records that wait for a slot of their port's ring, oldest first. -/
  owed : List (Nat × List Byte)
  deriving DecidableEq, Repr

/-! ### DDR -/

/-- Where a DRAM byte address lies (R341, R342): channel, raw channel address, burst in page, rank × 16 + bank, row. -/
structure DramPlace where
  channel : Nat
  raw : Nat
  burst : Nat
  bank : Nat
  row : Nat
  deriving DecidableEq, Repr

/-- A request in a bank queue (R347), with its place, its page hint and how often row hits have passed it. -/
structure Queued where
  req : DramReq
  place : DramPlace
  close : Bool
  /-- R345, R351: served as a read-modify-write. -/
  rmw : Bool
  /-- R351: the 8 check bytes that a write renews. -/
  check : List Byte
  passed : Nat
  deriving DecidableEq, Repr

structure Bank where
  queue : List Queued
  openRow : Option Nat
  /-- R351: the check buffer: raw address and bytes of the check burst it holds. -/
  check : Option (Nat × List Byte)
  debt : Nat
  deriving DecidableEq, Repr

structure Channel where
  /-- R362: STATE of the channel, as of the controller. -/
  state : Nat
  banks : Vector Bank 32
  /-- R349: the place in the bank rotation whose refresh falls due next, and whether a refresh goes to a bank pair. -/
  refNext : Nat
  refPair : Bool
  rateCode : Nat
  colPtr : Nat
  actPtr : Nat
  /-- R347: held writes are being issued together. -/
  draining : Bool
  /-- R343: requests placed by each requester in the present round. -/
  placed : Vector Nat 7
  /-- R347: reads issued whose data has not returned, oldest first. -/
  inFlight : List DramReq
  /-- R351: check bytes in the DRAM, by raw channel address. -/
  checks : List Host.Cell
  /-- R352: LOC plus 1 of the last DDR_ECC_CORRECTED and DDR_REFRESH_FORCED. -/
  eccStamp : Nat
  forcedStamp : Nat
  /-- R357: total change of each data delay since training: write delays of DQ 0 to 15, then read delays; whether it was reported;
  and LOC of the last tracking pass. -/
  drift : Vector Int 32
  driftRaised : Bool
  trackAt : Nat
  deriving DecidableEq, Repr

/-- The registers of a channel's pattern engine (R356, R362). -/
structure PatternEngine where
  ctrl : Nat
  addr : Nat
  pattern : Nat
  invert : Nat
  err : Nat
  deriving DecidableEq, Repr

structure Ddr where
  /-- R362: 0 OFF, 1 TRAINING, 2 RUN, 3 SELF_REFRESH, 4 FAULT. -/
  state : Nat
  /-- R340, R341, R351: what is in effect since the last training. -/
  fixed : Bool
  eccOn : Bool
  grain : Nat
  hash : Bool
  channels : Vector Channel 4
  engines : Vector PatternEngine 4
  /-- R345, R354, R359: requests that wait at their requesters, oldest first. -/
  waiting : List DramReq
  /-- R360: granules to which a write was accepted in the present cycle. -/
  written : List Nat
  /-- R353: next granule of the scrub, and LOC from which its pass counts. -/
  scrubPos : Nat
  scrubFrom : Nat
  /-- The last read returned: requester, data, poisoned. -/
  returned : Option (Nat × List Byte × Bool)
  /-- R355, R357, R358: the delays in use: as TRAINED_DELAYS, with the corrections of drift tracking, or as FIXED_DELAYS. -/
  inUse : List Byte
  /-- R359: delays kept at SLEEP entry and the junction temperature then. -/
  keptDelays : List Byte
  sleepTemp : Int
  /-- R338: bytes of the DRAM; unlisted bytes read 0 (log entry 4). -/
  mem : List Host.Cell
  deriving DecidableEq, Repr

/-! ### MOT -/

inductive AxisState where
  | disabled | idle | moving | segments | homing | fault
  deriving DecidableEq, Repr

/-- One phase's regulation (R365). -/
structure Phase where
  current : Int
  /-- R365: the newest bits of its bitstream, the newest first; the sinc³ filter spans 94. -/
  stream : List Bool
  /-- Leg commands: P and N high. -/
  legP : Bool
  legN : Bool
  /-- In slow decay for CHOP_OFF_TIME. -/
  decay : Bool
  /-- R378: the last sample exceeded OVERCURRENT_LIMIT. -/
  overNow : Bool
  deriving DecidableEq, Repr

/-- An axis (R364 to R379). Positions carry a 32-bit fraction: units of 2^-32 microstep. -/
structure Axis where
  state : AxisState
  x : Int
  v : Rat
  braking : Bool
  uncertain : Bool
  cause : Nat
  strong : Bool
  strongWanted : Bool
  holding : Bool
  phaseA : Phase
  phaseB : Phase
  /-- R365: LOC plus 1 of the last leg switch. -/
  switchLoc : Nat
  /-- R370: TARGET of the MOVE in progress. -/
  target : Int
  /-- R369: microsteps of the search, input found. -/
  homeTravel : Nat
  homeFound : Bool
  /-- R373: entry run, its progress (microseconds, or 1/256 L), P at its start, start position (microsteps) and velocity,
  waiting, matched, the chain's CLOCK once a segment has run. -/
  segment : Nat
  segElapsed : Rat
  segStartP : Rat
  segStartX : Rat
  segStartV : Rat
  segWaiting : Bool
  segMatched : Bool
  chainClock : Option Bool
  /-- R27, R376: a commit is pending; LOC plus 1 of the COMMIT. -/
  commit : Bool
  commitLoc : Nat
  deriving DecidableEq, Repr

/-! ### BOOT, TYMP, PWR, CLK, SEC, DISP, pins -/

inductive SlotStatus where
  | erased | writing | valid | invalid
  deriving DecidableEq, Repr

/-- A firmware slot (R383, R387). `factory` is the image that R484 puts into slot A before first power. -/
structure FwSlot where
  status : SlotStatus
  version : Nat
  image : List Byte
  factory : Bool
  deriving DecidableEq, Repr

inductive BootPhase where
  | starting | ready | bare
  deriving DecidableEq, Repr

/-- Boot and journal (R383 to R402). -/
structure Boot where
  phase : BootPhase
  slots : Vector FwSlot 2
  /-- Slot running (R402), and whether this start reverted a trial or fell back (R387). -/
  running : Nat
  /-- BOOT_STATUS mirror, class K (R388, R389). -/
  mirrorFails : Nat
  mirrorCause : Nat
  /-- R410: subsystems whose SUB resets are in progress, oldest first. -/
  subBusy : List Nat
  /-- R387: this start has reverted a trial. -/
  reverted : Bool
  /-- R390: this start has been counted. -/
  counted : Bool
  /-- R451: TEST_MODE as sampled at POR. -/
  testMode : Bool
  /-- R385: the digest of the DRAM part taken at step 4, the core part in core memory, and the DRAM part copied at step 8. -/
  digest : List Byte
  core : List Byte
  copied : List Byte
  deriving DecidableEq, Repr

/-- R395, R398: a pair that is not in use but still passes for one: the old pair until its erase. -/
structure TympPair where
  generation : Nat
  folded : Nat
  /-- R395: its image records. -/
  image : List Byte
  logBytes : Nat
  objs : SMap
  noz : SMap
  doms : SMap
  errors : List (Nat × Nat × Nat × Nat)
  deriving DecidableEq, Repr

/-- The journal (R395 to R399): what the flash holds, and the records whose COMMIT word is not programmed. -/
structure Tymp where
  /-- Committed values: objects, folded nozzle entries by table index, DOMAIN bytes. -/
  objs : SMap
  noz : SMap
  doms : SMap
  /-- R480: ERROR history, newest per identifier: (identifier, LOC, parameter, cause). -/
  errors : List (Nat × Nat × Nat × Nat)
  /-- JOURNAL_STATE (0x2301:01). -/
  state : Nat
  /-- R395: pair in use, its GENERATION, SEQ of the last record; bytes in the log sector, and of them those appended since
  the snapshot of a compaction. -/
  pair : Nat
  generation : Nat
  seq : Nat
  logBytes : Nat
  snapBytes : Nat
  /-- R395, R398: SNAPSHOT_SEQ of the pair in use, the snapshot of the compaction in progress, and the other pair, unless erased. -/
  folded : Nat
  snapSeq : Nat
  spare : Option TympPair
  /-- R395, R398: the image records of the pair in use, and those that the compaction in progress writes. -/
  image : List Byte
  newImage : List Byte
  /-- R397: the log of the pair in use ends in a torn tail. -/
  tailTorn : Bool
  open_ : List JRec
  /-- R397: no append is accepted until the compaction is done; the records that wait for it. -/
  blocked : Bool
  stalled : List JRec
  /-- R399: TYMP_FULL raised since the last compaction. -/
  fullRaised : Bool
  deriving DecidableEq, Repr

/-- The power manager (R415 to R424). -/
structure Pwr where
  /-- 0x2100:01: 0 RUN, 1 READY, 2 DOZE, 3 STANDBY, 4 SLEEP. -/
  state : Nat
  /-- R419: an exit is in progress; an entry is, into the state given. -/
  exiting : Bool
  entering : Option Nat
  /-- R419: LOC of the next event when a state was entered; none = no event. -/
  nextEvent : Option Nat
  /-- R425: LOC since which the state lasts, and LOC ticks spent in each state before. -/
  since : Nat
  resid : Vector Nat 5
  /-- R446: DEVICE_TEMP_HIGH may be raised again. -/
  tempArmed : Bool
  /-- R407: CLK_XTAL_DRIFT may be raised again. -/
  driftArmed : Bool
  /-- R424: SOFT (0, 0) and SUB (1, number) commands that wait for a low-power exit, oldest first. -/
  resetWaiting : List (Nat × Nat)
  /-- R419: BAR accesses that wait for it. -/
  held : List Instr
  /-- R394, R400: RESTART waits for flash work. -/
  restartWaiting : Bool
  deriving DecidableEq, Repr

structure Clk where
  rootLock : Bool
  ddrLock : Bool
  pcieRefOk : Bool
  sris : Bool
  bypass : Bool
  fallback : Bool
  deriving DecidableEq, Repr

/-- The security unit (R429 to R440). Keys are the nonvolatile store, bytes big-endian as numbers. -/
structure Sec where
  isOpen : Bool
  target : Nat              -- object key of the proposal
  value : List Byte
  party : Nat
  challenge : Nat
  deadline : Nat
  tagFails : Nat
  consents : Nat
  fwKeys : Vector Nat 4     -- 64 B each; 0 = empty
  keyLine : Option Nat      -- consent keys, 128 bits
  keyHost : Option Nat
  wrappedLine : Nat         -- objects 0x2400:21-22 as read, 24 B
  wrappedHost : Nat
  /-- R436: keys in effect when the proposal opened. -/
  propLine : Option Nat
  propHost : Option Nat
  unlocked : Bool
  deriving DecidableEq, Repr

/-- A region of a push (R465). -/
structure Region where
  x0 : Nat
  width : Nat
  y0 : Nat
  height : Nat
  deriving DecidableEq, Repr

/-- A push (R468, R469): its regions, and whether the firmware drew it. -/
structure Push where
  regions : List Region
  firmware : Bool
  deriving DecidableEq, Repr

/-- A transfer into the push buffer that lands when the push ends (R466): a ring's descriptor, or an object write. -/
structure Landing where
  ring : Option Nat
  path : Option Path
  offset : Nat
  data : List Byte
  deriving DecidableEq, Repr

/-- A DCS command sent over a DSI link, with its parameters (R463). -/
structure DsiPacket where
  link : Nat
  command : Nat
  params : List Byte
  deriving DecidableEq, Repr

/-- The bar display (R463 to R473). -/
structure Disp where
  panelOn : Bool
  /-- R463: LOC plus 1 of the exit from which the panel's start runs; 0 in reset. -/
  initFrom : Nat
  pending : Option Push
  running : Option Push
  /-- Rows of the running push, in its order, wholly sent on both links. -/
  rowsSent : Nat
  underrunRaised : Bool
  cause : Nat
  /-- R470: LOC plus 1 of the last DISP_TE_BLANK, and how many rows of the scan since have been reached. -/
  teLoc : Nat
  scanNext : Nat
  teSkew : Bool
  landing : List Landing
  /-- R467: cells to be redrawn by the firmware. -/
  redraw : List Nat
  /-- LOC plus 1 of the last repush of a cell. -/
  repushStamp : SMap
  /-- What the links have sent, oldest first. -/
  sent : List DsiPacket
  deriving DecidableEq, Repr

/-- Levels at the pins that no other field gives. -/
structure Pins where
  /-- R226, R411: HOLD_N as sensed through the filter (true = high). -/
  holdN : Bool
  /-- R331, R458: QUOIN_N as sensed through the filter (true = high). -/
  quoinN : Bool
  /-- R437: pin states captured by SAMPLE; data last shifted out. -/
  jtagSampled : List Bool
  jtagOut : Nat
  deriving DecidableEq, Repr

/-- The whole block. -/
structure State where
  /-- The commands that are waiting, first in, first out. -/
  pending : List Instr
  /-- R314, R315: LOC, 64 bits of 2.5 ns; class K. -/
  loc : Nat
  /-- The model's own: how many free values have been drawn (log entry 3). -/
  freeCtr : Nat
  /-- Object values by key `index * 256 + subindex`; unlisted keys read their default (R14, R17). -/
  od : SMap
  /-- DOMAIN bytes by `key * 2^24 + offset`; unlisted bytes read their default. -/
  dom : SMap
  /-- R26: live sets, under the keys of their shadow objects. -/
  live : SMap
  liveDom : SMap
  dev : Dev
  ledgers : Vector Ledger 7
  srv : Server
  net : Net
  pcie : Pcie
  rings : Vector Ring 128
  /-- Egress rings 96 to 105; ring 96's slots are the log buffer. -/
  egress : Vector Egress 10
  gal : Gal
  formes : Vector Forme 256
  comp : Comp
  plat : Plat
  ports : Vector Port 24
  web : Web
  time : Time
  pace : Pace
  cams : Vector Cam 4
  prf : Prf
  ddr : Ddr
  axes : Vector Axis 8
  boot : Boot
  tymp : Tymp
  pwr : Pwr
  clk : Clk
  sec : Sec
  disp : Disp
  pins : Pins
  deriving DecidableEq, Repr

/-! ### The machine right after power-on reset -/

def Ring.reset : Ring :=
  { base := 0, vector := 0, vecEn := false, promote := true, prio := false, ns := false, sizeLog2 := 3,
    state := .disabled, cause := 0, head := 0, tail := 0, errEntry := 0, errDesc := 0, lastTag := 0, high := 48,
    low := 16, poolWait := false, promoted := false, paced := false, stopping := false, turn := false, turnOut := false,
    xfer := none }

def Stream.fresh (forme head : Nat) : Stream :=
  { forme := forme, head := head, context := true, blocks := [], delivered := 0, bound := none, ended := false,
    headerOk := false, failed := false, failAt := 0, reported := false, version := 0, streamBytes := 0, pos := 0, top := 0, ref := [], band := 0, bandLeft := 0,
    bandStart := 0, bandBytes := 0, repeatLeft := 0, nextLine := 0, decoded := 0, lastEnd := none, current := false,
    bandAt := [], firstFire := 0, endFire := 0, layoutEnd := 0, heads := 0, offsets := [], counted := 0 }

def Forme.reset : Forme :=
  { state := .empty, fromPrinting := false, fromArmed := false, lateRaised := false, lateDue := false, faultLoc := 0,
    aborting := false }

def Lane.reset : Lane :=
  { input := [], lead := [], delay := [], next := 0, begun := 0, restart := false, stopLine := 0, recomposed := 0, uncoveredBand := 0,
    skips := [] }

def Comp.reset : Comp :=
  { lanes := Vector.replicate 24 Lane.reset, items := [], table := [], seq := 0, load := none,
    rate := Vector.replicate 2 0, rateLog := Vector.replicate 2 [],
    unapplied := [], accepted := 0, pageFolds := [] }

def Seqr.reset : Seqr :=
  { cool := false, readings := [], lastTemp := 0, hard := false, torn := false, kept := 2, windows := [], nextSlot := 1,
    slipBand := 0, crc := none, crcBand := 0, trims := [], commit := false, commitSource := 0, commitLoc := 0, unacked := [],
    refire := [], tornSlot := none, loadRecord := false }

def Plat.reset : Plat :=
  { heads := Vector.replicate 24 Seqr.reset, cause := 0, taken := [], causeLoc := 0, held := false, causeHead := 0,
    forwardSeen := false, backupValid := false, coolOwed := [], entries := [], cycling := false,
    overNow := Vector.replicate 2 false, overCount := Vector.replicate 2 0, slotEnd := Vector.replicate 2 0, demand := 0,
    initDone := false }

def Port.reset : Port :=
  { state := .disabled, en := false, det := false, fails := 0, vmax := 0, version := 0, v1 := false, chunks := [],
    badReads := 0, lastSerial := none, aligned := false, attaching := false, latency := 0, fseq := 0, unacked := [], backNext := none,
    backLost := 0, sent := [], slots := [], fresh := (0, 0), lost := [], linkBack := false, slotDone := 0, trims := [], retryBand := 0, naks := [], timeouts := 0, retrainFails := 0,
    discardBand := 0, tornAt := none, supplyRaised := false, telemetryLost := false,
    linkCause := false, selftest := false, selfChunks := 0, selfDone := false, selfFails := 0 }

def Latch.reset : Latch := { pos := 0, loc := 0, net := 0, speed := 0 }

def Web.reset : Web :=
  { source := 0, sourceBefore := 0, switchLoc := 0, ab := Vector.replicate 2 (false, false),
    p := 0, forward := 0, low := 0, hwl := 0, frozen := false,
    reversed := false, regainDue := false, homed := false, underrun := false, phase := 0, locked := false,
    lastForward := false, presetArmed := false, sinceIndex := 0, missingRaised := false, illegalLoc := 0, indexLoc := 0,
    direction := 0, moving := false, speed := 0, edges := [], lastEdge := 0, prevEdge := 0, edgesSeen := 0,
    windowFrom := 0, crossed := [], releaseFrom := 0, released := 0, latches := Vector.replicate 4 Latch.reset,
    latchedAt := Vector.replicate 4 0, emuBase := 0, emuCount := 0, emuBehind := false, emuFree := 0, emuIndex := 0, emuZ := false, snapHi := 0, snapHwlLo := 0, snapHwlHi := 0 }

def Time.reset : Time :=
  { pairs := [], net0 := 0, loc0 := 0, rate := 1, locked := false, matched := Vector.replicate 16 false,
    lateArm := Vector.replicate 16 false, pulse := Vector.replicate 16 [], valid := Vector.replicate 8 false,
    level := Vector.replicate 8 false, snapLocHi := 0, snapNetLo := 0, snapNetHi := 0 }

def Pace.reset : Pace :=
  { role := 0, quoinHeld := false, takenAt := 0, driving := false, takeDue := false, upVersion := 0, dnVersion := 0,
    busyIn := false, busyCycle := false, busyOut := false, ready := false, good := 0, missed := 0, last := none, readySince := none,
    handback := false, handbackSeen := false, everRecord := false, holdPulse := false, syncPulse := false,
    cycleCount := 0, cycleLine := 0, ownRelease := false, recordsSent := [], framesSent := [] }

def Cam.reset : Cam :=
  { frame := none, trigPending := false, trigPos := 0, trigLoc := 0, trigOver := false, trigHeld := false, trigNext := none,
    strobeLoc := 0, writing := false, writesDue := false, writesLeft := 0, deadline := 0, lateCounted := false,
    torn := false, nakked := false, tornFsn := 0, commit := false, commitLoc := 0, latency := 0, cciBusy := false,
    cciRead := false, cciBytes := 0, commitWaiting := false, writesWaiting := false, cciSent := [], fsLoc := 0,
    streaming := false, rstLow := true, refclkOn := false, refclkDue := false, lostGap := 0, toPrf := [] }

def Prf.reset : Prf :=
  { lanes := Vector.replicate 4 { open_ := [], summaries := [], inspected := [], fsn := 0, lostGap := 0, ahead := 0 },
    trials := [], proposed := [], findingSeq := 0, torn := [], owed := [] }

def Channel.reset : Channel :=
  { state := 0, refNext := 0, refPair := false, banks := Vector.replicate 32 { queue := [], openRow := none, check := none, debt := 0 }, rateCode := 0, colPtr := 0, actPtr := 0, draining := false,
    placed := Vector.replicate 7 0, inFlight := [], checks := [], eccStamp := 0, forcedStamp := 0,
    drift := Vector.replicate 32 0, driftRaised := false, trackAt := 0 }

def Ddr.reset : Ddr :=
  { state := 0, fixed := false, eccOn := false, grain := 8, hash := false,
    channels := Vector.replicate 4 Channel.reset, engines := Vector.replicate 4 ⟨0, 0, 0, 0, 0⟩, scrubPos := 0, scrubFrom := 0, returned := none, waiting := [], written := [],
    inUse := [], keptDelays := [], sleepTemp := 0, mem := [] }

def Phase.reset : Phase := { current := 0, stream := [], legP := false, legN := false, decay := false, overNow := false }

def Axis.reset : Axis :=
  { state := .disabled, x := 0, v := 0, braking := false, uncertain := true, cause := 0, strong := false,
    strongWanted := false, holding := false, phaseA := Phase.reset, phaseB := Phase.reset, switchLoc := 0, target := 0,
    homeTravel := 0, homeFound := false, segment := 0, segElapsed := 0, segStartP := 0, segStartX := 0, segStartV := 0,
    segWaiting := false, segMatched := false, chainClock := none, commit := false, commitLoc := 0 }

def Disp.reset : Disp :=
  { panelOn := false, initFrom := 0, pending := none, running := none, rowsSent := 0, underrunRaised := false, cause := 0,
    teLoc := 0, scanNext := 0, teSkew := false, landing := [], redraw := [], repushStamp := [], sent := [] }

/-- The start of a ledger: its whole total in the free holder (R40). -/
def Ledger.start (total : Nat) : Ledger := { total := total, held := (Vector.replicate 7 0).set 0 total }

def Net.reset : Net :=
  { al := .init, alStatus := 0, preopWaiting := false, smOn := Vector.replicate 2 false, station := 0, stationAlias := 0, resetSeq := 0,
    forwarding := false, linkUp := Vector.replicate 2 false, watchdog := 1000, sync0Cycle := 0, sync0Loc := 0, sysTime := 0, sysLoc := 0, outputs := none,
    inputs := [], syncMissed := false, foe := none, sm2Loc := none, sm2Gaps := [], pdoOwn := false, answer := .nothing }

def Pcie.reset : Pcie :=
  { linkUp := false, width := 0, speed := 0, trained := false, d3hot := false, l23 := false, perst := false,
    command := 0, bars := Vector.replicate 6 0, devCtl := 0x2810, devCtl2 := 0, aer := 0, msixCtl := 0, msixTable := [],
    msixPending := [], msixSent := [], linkCtl := 0, l1Ctl := 0, hostAccess := [], winAddr := 0, winLength := 0, winOffset := 0, winBusy := false, winWrite := false, winLost := false,
    winDone := false, winCollision := false, winStatus := 0, winBuf := [], winResult := none, readData := 0 }

def Server.reset : Server := { waiting := [], segs := [], busy := false }

def Gal.reset : Gal :=
  { streams := [], engines := Vector.replicate 8 { slot := 0, forme := 0, lines := 0 }, risk := Vector.replicate 24 false }

def Dev.reset : Dev :=
  { evLog := [], evSeq := 0, dropsSince := 0, errStamp := [], pdoStamp := [], ledgerHalt := false, offFired := false }

/-- R484: before first power slot A holds the factory image and slot B is erased; the journal is formatted. -/
def Boot.reset : Boot :=
  { phase := .starting,
    slots := #v[{ status := .valid, version := 0, image := [], factory := true },
                { status := .erased, version := 0, image := [], factory := false }],
    running := 0, mirrorFails := 0, mirrorCause := 0, subBusy := [], reverted := false, counted := false, testMode := false, digest := [], core := [],
    copied := [] }

def Tymp.reset : Tymp :=
  { objs := [], noz := [], doms := [], errors := [], state := 0, pair := 0, generation := 1, seq := 0, logBytes := 0,
    snapBytes := 0, folded := 0, snapSeq := 0, spare := none, image := [], newImage := [], tailTorn := false
    open_ := [], blocked := false, stalled := [], fullRaised := false }

def Pwr.reset : Pwr :=
  { state := 0, exiting := false, entering := none, nextEvent := none, since := 0, resid := Vector.replicate 5 0,
    tempArmed := true, driftArmed := true, resetWaiting := [], held := [], restartWaiting := false }

def Sec.reset : Sec :=
  { isOpen := false, target := 0, value := [], party := 0, challenge := 0, deadline := 0, tagFails := 0,
    consents := 0, fwKeys := Vector.replicate 4 0, keyLine := none, keyHost := none, wrappedLine := 0,
    wrappedHost := 0, propLine := none, propHost := none, unlocked := false }

/-- R36: the totals of the ledgers at reset (no Galley, egress or proof area is configured). -/
def ledgersReset : Vector Ledger 7 :=
  #v[Ledger.start 64, Ledger.start 0, Ledger.start 256, Ledger.start 768, Ledger.start 192, Ledger.start 0,
     Ledger.start 0]

/-- The block after a power-on reset, before the start of R386: nothing pends, every object has its default, every
unit is at its reset values (R414), and the nonvolatile stores are as R484 ships them. -/
def State.reset : State :=
  { pending := [], loc := 0, freeCtr := 0, od := [], dom := [], live := [], liveDom := [], dev := Dev.reset,
    ledgers := ledgersReset, srv := Server.reset, net := Net.reset, pcie := Pcie.reset,
    rings := Vector.replicate 128 Ring.reset,
    egress := Vector.replicate 10 { awaiting := [], nextSlot := 0, reserved := 0, stalled := false },
    gal := Gal.reset, formes := Vector.replicate 256 Forme.reset, comp := Comp.reset, plat := Plat.reset,
    ports := Vector.replicate 24 Port.reset, web := Web.reset, time := Time.reset, pace := Pace.reset,
    cams := Vector.replicate 4 Cam.reset, prf := Prf.reset, ddr := Ddr.reset,
    axes := Vector.replicate 8 Axis.reset, boot := Boot.reset, tymp := Tymp.reset, pwr := Pwr.reset,
    clk := { rootLock := false, ddrLock := false, pcieRefOk := false, sris := false, bypass := false,
             fallback := false },
    sec := Sec.reset, disp := Disp.reset,
    pins := { holdN := false, quoinN := true, jtagSampled := [], jtagOut := 0 } }

end Sys2Proof.Machine
end

