-- ==== Sys2Proof/Machine/Store.lean ====
section
/-! DEFINITION. Machine/Store.lean: the sparse stores of the block (objects, DOMAIN bytes, DRAM) in one canonical form:
keys strictly rising, no entry equal to what an unlisted key reads as. -/

namespace Sys2Proof.Machine

variable {α : Type}

/-- The value at key `k`; an unlisted key reads `d k`. -/
def kget (d : Nat → α) : List (Nat × α) → Nat → α
  | [], k => d k
  | (a, v) :: t, k => if a = k then v else kget d t k

/-- The store with key `k` set to `v`, in key order. -/
def kput (k : Nat) (v : α) : List (Nat × α) → List (Nat × α)
  | [] => [(k, v)]
  | (a, w) :: t => if k < a then (k, v) :: (a, w) :: t else if k = a then (k, v) :: t else (a, w) :: kput k v t

/-- The store without key `k`. -/
def kdel (k : Nat) : List (Nat × α) → List (Nat × α)
  | [] => []
  | (a, w) :: t => if a = k then kdel k t else (a, w) :: kdel k t

/-- Write `v` at `k`: writing what an unlisted key reads as removes the entry. -/
def kset [DecidableEq α] (d : Nat → α) (k : Nat) (v : α) (m : List (Nat × α)) : List (Nat × α) :=
  if v = d k then kdel k m else kput k v m

/-- Keys strictly rise from above `lo` on. -/
def krising : Nat → List (Nat × α) → Bool
  | _, [] => true
  | lo, (a, _) :: t => decide (lo < a + 1) && krising (a + 1) t

/-- The canonical form. -/
def kwf [DecidableEq α] (d : Nat → α) (m : List (Nat × α)) : Bool :=
  krising 0 m && m.all fun kv => !decide (kv.2 = d kv.1)

/-- What a byte of DRAM that nothing has written reads as (log entry 4). -/
def memDflt : Nat → BitVec 8 := fun _ => 0

/-- The canonical form of the DRAM contents. -/
def Memory.wf (m : List Host.Cell) : Bool := kwf memDflt m

/-- A byte of DRAM. -/
def Memory.read (m : List Host.Cell) (a : Nat) : BitVec 8 := kget memDflt m a

/-- Write a byte of DRAM. -/
def Memory.write (a : Nat) (b : BitVec 8) (m : List Host.Cell) : List Host.Cell := kset memDflt a b m

/-- Write consecutive bytes from `a` on. -/
def Memory.writes (a : Nat) : List Byte → List Host.Cell → List Host.Cell
  | [], m => m
  | b :: bs, m => Memory.writes (a + 1) bs (Memory.write a b m)

/-- Read `n` consecutive bytes from `a` on. -/
def Memory.reads (m : List Host.Cell) (a n : Nat) : List Byte := (List.range n).map fun i => Memory.read m (a + i)

/-! ### Bytes and numbers (R50: little-endian) -/

/-- The number that bytes hold, little-endian. -/
def leNum : List Byte → Nat
  | [] => 0
  | b :: bs => b.toNat + 256 * leNum bs

/-- The low `n` bytes of a number, little-endian. -/
def leBytes : Nat → Nat → List Byte
  | 0, _ => []
  | n + 1, x => BitVec.ofNat 8 (x % 256) :: leBytes n (x / 256)

/-- Bits `[hi:lo]` of a number. -/
def bits (x hi lo : Nat) : Nat := x / 2 ^ lo % 2 ^ (hi + 1 - lo)

/-- Bit `i` of a number. -/
def bit (x i : Nat) : Bool := x / 2 ^ i % 2 == 1

/-- A number with bit `i` set or cleared. -/
def setBit (x i : Nat) (b : Bool) : Nat :=
  match bit x i, b with
  | true, false => x - 2 ^ i
  | false, true => x + 2 ^ i
  | _, _ => x

/-- 1 for true. -/
def b2n (b : Bool) : Nat := if b then 1 else 0

/-- `x` held at most at `m`. -/
def satTo (m x : Nat) : Nat := min m x

/-- Round a rational to the nearest integer, halves up. -/
def roundRat (q : Rat) : Int := (q + 1 / 2).floor

/-! ### Updates of vectors and lists in place -/

/-- Update one element of a vector. -/
def vmod {n : Nat} (v : Vector α n) (i : Fin n) (f : α → α) : Vector α n := v.set i (f (v.get i))

/-- Update one element of a vector by number; numbers beyond it change nothing. -/
def vmodN {n : Nat} (v : Vector α n) (i : Nat) (f : α → α) : Vector α n :=
  if h : i < n then v.set i (f (v.get ⟨i, h⟩)) else v

/-- Element `i` of a vector; numbers beyond it read its last element. -/
def vgetN {n : Nat} (v : Vector α (n + 1)) (i : Nat) : α := v.get ⟨min i n, by omega⟩

/-- Update every element of a list that meets `p`. -/
def lmod (p : α → Bool) (f : α → α) (l : List α) : List α := l.map fun x => if p x then f x else x

/-! ### Objects -/

/-- The sine table of R366. -/
def sineTable : List Nat :=
  [0, 402, 804, 1206, 1608, 2010, 2412, 2814, 3216, 3617, 4019, 4420, 4821, 5222, 5623, 6023] ++
  [6424, 6824, 7223, 7623, 8022, 8421, 8820, 9218, 9616, 10014, 10411, 10808, 11204, 11600, 11996, 12391] ++
  [12785, 13179, 13573, 13966, 14359, 14751, 15142, 15533, 15924, 16313, 16703, 17091, 17479, 17866, 18253, 18639] ++
  [19024, 19408, 19792, 20175, 20557, 20939, 21319, 21699, 22078, 22456, 22834, 23210, 23586, 23960, 24334, 24707] ++
  [25079, 25450, 25820, 26189, 26557, 26925, 27291, 27656, 28020, 28383, 28745, 29106, 29465, 29824, 30181, 30538] ++
  [30893, 31247, 31600, 31952, 32302, 32651, 32999, 33346, 33692, 34036, 34379, 34721, 35061, 35400, 35738, 36074] ++
  [36409, 36743, 37075, 37406, 37736, 38064, 38390, 38715, 39039, 39361, 39682, 40001, 40319, 40635, 40950, 41263] ++
  [41575, 41885, 42194, 42500, 42806, 43109, 43411, 43712, 44011, 44308, 44603, 44897, 45189, 45479, 45768, 46055] ++
  [46340, 46624, 46905, 47185, 47464, 47740, 48014, 48287, 48558, 48827, 49095, 49360, 49624, 49885, 50145, 50403] ++
  [50659, 50913, 51166, 51416, 51664, 51911, 52155, 52398, 52638, 52877, 53113, 53348, 53580, 53811, 54039, 54266] ++
  [54490, 54713, 54933, 55151, 55367, 55582, 55794, 56003, 56211, 56417, 56620, 56822, 57021, 57218, 57413, 57606] ++
  [57797, 57985, 58171, 58356, 58537, 58717, 58895, 59070, 59243, 59414, 59582, 59749, 59913, 60075, 60234, 60391] ++
  [60546, 60699, 60850, 60998, 61144, 61287, 61429, 61567, 61704, 61838, 61970, 62100, 62227, 62352, 62475, 62595] ++
  [62713, 62829, 62942, 63053, 63161, 63267, 63371, 63472, 63571, 63668, 63762, 63853, 63943, 64030, 64114, 64196] ++
  [64276, 64353, 64428, 64500, 64570, 64638, 64703, 64765, 64826, 64883, 64939, 64992, 65042, 65090, 65136, 65179] ++
  [65219, 65258, 65293, 65327, 65357, 65386, 65412, 65435, 65456, 65475, 65491, 65504, 65515, 65524, 65530, 65534]

/-- What a byte of a DOMAIN object reads as by default: R167, R213, R290, R366; other DOMAINs are all 0. -/
def domDflt (k : Nat) : Nat :=
  let key := k / 2 ^ 24
  let off := k % 2 ^ 24
  if key = OD.DITHER then rev6 off
  else if 0x3500 ≤ key / 256 ∧ key / 256 < 0x3518 ∧ key % 256 = 0x31 then 8 * (off % 4) + off / 4
  else if key = OD.FLAT_FIELD then (if off % 4 = 1 then 0x10 else 0)
  else if 0x4800 ≤ key / 256 ∧ key / 256 < 0x4808 ∧ key % 256 = 0x28 then
    let v := sineTable.getD (off / 2) 0
    if off % 2 = 0 then v % 256 else v / 256
  else 0

/-- The reserved bytes of a DOMAIN's entries of 8 B: R358 (FIXED_DELAYS) and R465 (the region list of the push buffer). -/
def reservedByte (key off : Nat) : Bool :=
  (key == OD.FIXED_DELAYS || key == OD.PUSH_BUFFER && decide (0x1E400 ≤ off ∧ off < 0x1EC00)) && decide (6 ≤ off % 8)

/-- R16: a byte of a DOMAIN without its reserved bits: those of `reservedByte`, and [15:3] of a segment's FLAGS (R372). -/
def storedByte (key off v : Nat) : Nat :=
  if reservedByte key off ∨ (key = OD.SEGMENT_TABLE ∧ off % 16 = 15) then 0
  else if key = OD.SEGMENT_TABLE ∧ off % 16 = 14 then v % 8
  else v

namespace State

variable (s : State)

/-- The stored value of an object. -/
def o (key : Nat) : Nat := kget dfltOf s.od key

/-- An object read as a Boolean. -/
def ob (key : Nat) : Bool := s.o key != 0

/-- An object read as a signed number of its width. -/
def oi (key : Nat) : Int := signedOf (8 * bytesOf key) (s.o key)

/-- The value of an object in its live set (R26). -/
def l (key : Nat) : Nat := kget dfltOf s.live key

/-- Byte `off` of a DOMAIN object. -/
def dbyte (key off : Nat) : Nat := kget domDflt s.dom (key * 2 ^ 24 + off)

/-- Byte `off` of a DOMAIN object in its live set. -/
def lbyte (key off : Nat) : Nat := kget domDflt s.liveDom (key * 2 ^ 24 + off)

/-- Store an object value, cut to its width. -/
def setO (key v : Nat) (s : State) : State := { s with od := kset dfltOf key (wrapTo (8 * bytesOf key) v) s.od }

/-- Store a signed value. -/
def setI (key : Nat) (v : Int) (s : State) : State := s.setO key (unsignedOf (8 * bytesOf key) v)

/-- Store a Boolean. -/
def setB (key : Nat) (b : Bool) (s : State) : State := s.setO key (b2n b)

/-- Count one more; counters wrap at their width (log entry 5). -/
def bump (key : Nat) (s : State) : State := s.setO key (s.o key + 1)

/-- Count `n` more. -/
def bumpN (key n : Nat) (s : State) : State := s.setO key (s.o key + n)

/-- Store into the live set. -/
def setL (key v : Nat) (s : State) : State := { s with live := kset dfltOf key (wrapTo (8 * bytesOf key) v) s.live }

/-- Store bytes of a DOMAIN from `off` on; reserved bits take 0 (R16). -/
def setDom (key off : Nat) : List Byte → State → State
  | [], s => s
  | b :: bs, s =>
    let v := storedByte key off b.toNat
    setDom key (off + 1) bs { s with dom := kset domDflt (key * 2 ^ 24 + off) v s.dom }

/-- `n` bytes of a DOMAIN from `off` on. -/
def domBytes (key off n : Nat) : List Byte := (List.range n).map fun i => BitVec.ofNat 8 (s.dbyte key (off + i))

/-- A number of `n` bytes in a DOMAIN. -/
def domNum (key off n : Nat) : Nat := leNum (s.domBytes key off n)

/-- A number of `n` bytes in a DOMAIN's live set. -/
def liveNum (key off n : Nat) : Nat := leNum ((List.range n).map fun i => BitVec.ofNat 8 (s.lbyte key (off + i)))

/-- Copy the shadow set of the keys `p` holds of into their live set (R27). -/
def handOver (p : Nat → Bool) (s : State) : State :=
  { s with
    live := (s.od.filter fun kv => p kv.1).foldl (fun m kv => kput kv.1 kv.2 m) (s.live.filter fun kv => !p kv.1)
    liveDom := (s.dom.filter fun kv => p (kv.1 / 2 ^ 24)).foldl (fun m kv => kput kv.1 kv.2 m)
      (s.liveDom.filter fun kv => !p (kv.1 / 2 ^ 24)) }

end State

end Sys2Proof.Machine
end

