-- ==== Sys2Proof/Machine/Ops.lean ====
section
/-! DEFINITION. Machine/Ops.lean: the operations every subsystem shares: the event fabric (R42 to R47, R475 to R480),
the ledgers (R35 to R40), egress records (R110), journal records, free values and demand wakes. -/

namespace Sys2Proof.Machine

/-- Do `f` when `b`. -/
def whenDo (b : Bool) (f : State → State) (s : State) : State := if b then f s else s

/-- R386, R391, R415: OHL is initialised and has power, as in every state but SLEEP; the hold logic is taken to go on with it (log
entry 201). -/
def ohlOn (s : State) : Bool := s.boot.phase == .ready && s.pwr.state != 4

/-- R386, R391, R415: the print line, CAM, PRF, MOT and DISP are initialised and have clocks and power: not in DOZE, STANDBY or SLEEP. -/
def lineOn (s : State) : Bool := s.boot.phase == .ready && decide (s.pwr.state < 2)

/-- R391, R415: WEB and PACE are initialised and have power. -/
def webOn (s : State) : Bool := s.boot.phase != .starting && s.pwr.state != 4

/-- R189: a line boundary falls due in this cycle. -/
def boundaryDue (s : State) : Bool :=
  webOn s && !s.web.frozen && decide (s.web.releaseFrom ≤ s.loc) && decide (((s.web.hwl + 1 : Nat) : Rat) ≤ s.web.p)

/-- Do `f` for each element in order. -/
def eachDo {β : Type} (l : List β) (f : β → State → State) (s : State) : State := l.foldl (fun s x => f x s) s

/-- WEBP form of a position: whole lines in [63:16], fraction in [15:0]. -/
def webpOf (q : Rat) : Nat := (q * 65536).floor.toNat

/-- LOC ticks of 2.5 ns in a microsecond, a millisecond and a second (R314). -/
def ticksUs : Nat := 400
def ticksMs : Nat := 400000
def ticksSec : Nat := 400000000

/-- Draw a free value (log entry 3). -/
def drawFree (s : State) : Nat := Config.freeValue s.freeCtr

/-- The state after a free value has been drawn. -/
def freeDrawn (s : State) : State := { s with freeCtr := s.freeCtr + 1 }

/-! ### Power: demand wake -/

/-- R419: a demand starts the exit from DOZE, STANDBY or SLEEP, and reverses an entry. -/
def demandWake (s : State) : State :=
  if 2 ≤ s.pwr.state ∨ s.pwr.entering.isSome then { s with pwr := { s.pwr with exiting := true, entering := none } } else s

/-- R226, R333, R411, R458: the level of HOLD_N follows what this chip drives: it is low while PLAT holds or is not initialised, and
during the pulse of PACE. -/
def driveHold (s : State) : State :=
  { s with pins := { s.pins with holdN := !s.plat.held && s.plat.initDone && !s.pace.holdPulse } }

/-- The device is in RUN or READY, and neither leaves it nor comes back to it. -/
def awake (s : State) : Bool := decide (s.pwr.state < 2) && !s.pwr.exiting && s.pwr.entering.isNone

/-- R419: an access of a BAR: a demand wake; it is held until the exit from DOZE, STANDBY or SLEEP is complete. -/
def barAccess (c : Instr) (f : State → State) (s : State) : State :=
  let s := demandWake s
  if s.pwr.exiting then { s with pwr := { s.pwr with held := s.pwr.held ++ [c] } } else f s

/-! ### Answers of the object server -/

/-- A request of a path is answered. A window request that a HOT reset has cut off is answered to nobody (R82); of any
other, WIN_REQUEST_DONE publishes the answer (R79). -/
def answerTo (path : Path) (a : Answer) (s : State) : State :=
  match path with
  | .mailbox => { s with net := { s.net with answer := a } }
  | .window =>
    if s.pcie.winLost then { s with pcie := { s.pcie with winLost := false } }
    else if s.pcie.winBusy ∧ s.pcie.winResult.isNone then { s with pcie := { s.pcie with winResult := some a } }
    else s

/-! ### Journal records -/

/-- R396: bytes of a payload. -/
def payloadBytes : JPayload → Nat
  | .objects _ vs => (vs.map fun kv => bytesOf kv.1).foldl (· + ·) 0
  | .nozzles es => 4 * es.length
  | .bytes _ d => d.length
  | .boot _ => 6
  | .error _ _ _ _ => 12
  | .consent _ _ => 8

/-- R396: bytes of a record, CRC and COMMIT word included, a multiple of 16. -/
def recordSize (p : JPayload) : Nat := (16 + payloadBytes p + 8 + 15) / 16 * 16

/-- R383, R399: bytes of a log sector. -/
def logSector : Nat := 4194304

/-- R399: the log sector has room for a record. -/
def journalRoom (p : JPayload) (s : State) : Bool :=
  s.tymp.state != 4 && (s.tymp.blocked || decide (s.tymp.logBytes + recordSize p ≤ logSector))

/-- Write a journal record but for its COMMIT word (R396). While no append is accepted it is stalled (R397); a record
that finds no room is not written (R399). -/
def openRecord (p : JPayload) (d : JDone) (s : State) : State :=
  if ¬ journalRoom p s then s
  else if s.tymp.blocked then { s with tymp := { s.tymp with stalled := s.tymp.stalled ++ [⟨p, d⟩] } }
  else { s with tymp := { s.tymp with
      open_ := s.tymp.open_ ++ [⟨p, d⟩], seq := wrapTo 32 (s.tymp.seq + 1)
      logBytes := s.tymp.logBytes + recordSize p, snapBytes := s.tymp.snapBytes + recordSize p } }

/-- R480: the events that write an ERROR record. -/
def isJournaled (ev : Nat) : Bool :=
  [EV.LEDGER_FAULT, EV.DEVICE_TEMP_HIGH, EV.CPU_FIRMWARE_FAULT, EV.DDR_TRAINING_FAILED, EV.DDR_ECC_UNCORRECTABLE,
   EV.OHL_PORT_FAULT, EV.OHL_SUPPLY_FAULT, EV.PLAT_TEMP_HARD, EV.PLAT_TORN_LINE, EV.MOT_FAULT, EV.PACE_TAKEOVER,
   EV.PWR_BROWNOUT_WARN, EV.CLK_XTAL_DRIFT, EV.CLK_PCIE_REF_LOST, EV.SEC_DEBUG_UNLOCKED, EV.SEC_CONSENT_APPLIED,
   EV.BOOT_BARE_FORME, EV.TYMP_TORN_TAIL].contains ev

/-- R480: CAUSE of an ERROR record, for the events whose parameter carries a cause. -/
def journalCause (ev param : Nat) : Nat :=
  if ev = EV.OHL_PORT_FAULT ∨ ev = EV.MOT_FAULT then bits param 15 8 else 0

/-- R480: the ERROR record of an event, at most one per identifier per second. -/
def journalEvent (ev param : Nat) (s : State) : State :=
  let last := kget (fun _ => 0) s.dev.errStamp ev
  if isJournaled ev ∧ (last = 0 ∨ last - 1 + ticksSec ≤ s.loc) then
    openRecord (.error ev s.loc param (journalCause ev param)) .nothing
      { s with dev := { s.dev with errStamp := kput ev (s.loc + 1) s.dev.errStamp } }
  else s

/-! ### MSI-X -/

/-- R84: vector control of the MSI-X table resets to masked. -/
def msixDflt (k : Nat) : Nat := if k % 4 = 3 then 1 else 0

/-- R44, R84: signal a vector: sent, or pending while masked; nothing leaves while MSI-X is off or the link is down
(log entry 6). A message is a demand wake (R419). -/
def sendMsix (v : Nat) (s : State) : State :=
  let s := demandWake s
  if ¬ (bit s.pcie.msixCtl 15 ∧ s.pcie.linkUp ∧ bit s.pcie.command 2) then s
  else if bit s.pcie.msixCtl 14 ∨ bit (kget msixDflt s.pcie.msixTable (4 * v + 3)) 0 then
    { s with pcie := { s.pcie with msixPending := if s.pcie.msixPending.contains v then s.pcie.msixPending
                                                  else s.pcie.msixPending ++ [v] } }
  else { s with pcie := { s.pcie with msixSent := s.pcie.msixSent ++ [v] } }

/-! ### Routes -/

/-- The route word of an event (R44). The LOG bit of a trace event reads 1 (R477). -/
def routeWord (ev : Nat) (s : State) : Nat :=
  let w := s.o (if ev < 128 then OD.ROUTE_LO ev else OD.ROUTE_HI (ev - 128))
  if isTrace ev then setBit w 15 true else w

/-- R45: set a PDO event bit, and note when. -/
def setPdoBit (b : Nat) (s : State) : State :=
  let s := { s with dev := { s.dev with pdoStamp := kput b (s.loc + 1) s.dev.pdoStamp } }
  s.setO (OD.EVENT_BITS (b / 64)) (setBit (s.o (OD.EVENT_BITS (b / 64))) (b % 64) true)

/-- R44: the MSI-X and PDO routes of an event; `vector` overrides the route's MSI-X (R105). -/
def routeSignals (ev : Nat) (vector : Option Nat) (s : State) : State :=
  let w := routeWord ev s
  let s := match vector with
    | some v => sendMsix v s
    | none => whenDo (bit w 14) (sendMsix (bits w 13 8)) s
  whenDo (bit w 7) (setPdoBit (bits w 6 0)) s

/-! ### The event log -/

/-- R47, R477: records the on-chip buffer holds, and those it reserves for trace events. -/
def logSlots : Nat := 1638
def traceReserve : Nat := 204

/-- The owner of an event identifier, in the order of R42. -/
def eventOwner (ev : Nat) : Nat :=
  ([0x08, 0x10, 0x18, 0x20, 0x28, 0x30, 0x40, 0x48, 0x58, 0x68, 0x78, 0x88, 0x98, 0xA8, 0xB8, 0xC0, 0xD0, 0xDC, 0xE8,
    0xEC, 0xF0, 0xF4].filter (· ≤ ev)).length

/-- R46, R19: the number of the unit of its subsystem that raises an event: the ring, DRAM channel, decompressor engine, lane,
sequencer, port, compare or capture unit, proof lane, axis, core or MII port that the parameter names (R105, R180, R237, R266,
R288, R313, R325, R363, R382, R481), counted from 1. An event that names none comes from the subsystem's one other unit, 0
(DEDUCED, log entry 157). -/
def unitOfEvent (ev param : Nat) : Nat :=
  if 0x30 ≤ ev ∧ ev ≤ 0x37 then param % 128 + 1
  else if ev = EV.GAL_STREAM_CURRENT ∨ ev = EV.GAL_STREAM_ERROR then param % 8 + 1
  else if ev = EV.NET_LINK_CHANGE then param / 256 + 1
  else if ev = EV.TIME_CAPTURE ∨ ev = EV.TIME_CAPTURE_OVERRUN then param % 256 + 17
  else if [EV.CPU_WATCHDOG_WARN, EV.CPU_FIRMWARE_FAULT, EV.TIME_COMPARE_MATCH, EV.TIME_COMPARE_LATE, EV.COMP_CHANGE_TAKEN,
      EV.COMP_CHANGE_APPLIED, EV.COMP_CHANGE_REFUSED, EV.COMP_CHANGE_FOLDED, EV.COMP_LANE_RESTART, EV.COMP_DOT_UNCOVERED,
      EV.PLAT_COOL_ON, EV.PLAT_COOL_OFF, EV.PLAT_TEMP_HARD, EV.PLAT_TORN_LINE, EV.PLAT_SHADOW_TAKEN, EV.PLAT_COMMIT_REFUSED,
      EV.PLAT_SLIP, EV.PLAT_SLOT_DEFERRED].contains ev ∨ 0x41 ≤ ev ∧ ev ≤ 0x46 ∨ 0x88 ≤ ev ∧ ev ≤ 0x94 ∨ 0xC0 ≤ ev ∧ ev ≤ 0xE6 then
    param % 256 + 1
  else 0

/-- R46: the unit that raises an event: its subsystem, and its number there. -/
def eventUnit (ev param : Nat) : Nat × Nat := (eventOwner ev, unitOfEvent ev param)

/-- R46: a record goes behind those of its own unit, and before those of the same cycle from other units with a
higher identifier. The list is newest first. -/
def placeRecord (r : LogRec) : List LogRec → List LogRec
  | [] => [r]
  | x :: xs =>
    if x.loc = r.loc ∧ r.event < x.event ∧
        eventUnit x.event x.param ≠ eventUnit r.event r.param then
      { x with seq := r.seq } :: placeRecord { r with seq := x.seq } xs
    else r :: x :: xs

/-- Write a record to the log buffer, with the next SEQ (R475). -/
def writeLog (ev param x10 x18 x20 : Nat) (s : State) : State :=
  { s with dev := { s.dev with
      evLog := (placeRecord ⟨ev, param, s.dev.evSeq, s.loc, x10, x18, x20⟩ s.dev.evLog.reverse).reverse
      evSeq := wrapTo 32 (s.dev.evSeq + 1) } }

/-- R47: room for a record that is not a trace record. -/
def logRoom (s : State) : Bool := s.dev.evLog.length + traceReserve < logSlots

/-- R47: the EVENT_LOG_OVERFLOW record, once the buffer has room again, whatever the route word's LOG bit holds; the event's
other routes are those of its route word (R44). -/
def overflowRecord (s : State) : State :=
  if 0 < s.dev.dropsSince ∧ logRoom s then
    let s' := writeLog EV.EVENT_LOG_OVERFLOW (satTo 65535 s.dev.dropsSince) s.dev.dropsSince 0 0 s
    routeSignals EV.EVENT_LOG_OVERFLOW none { s' with dev := { s'.dev with dropsSince := 0 } }
  else s

/-- A log record of an event: written, or dropped and counted (R47, R477). -/
def logEvent (ev param x10 x18 x20 : Nat) (s : State) : State :=
  if isTrace ev then
    if s.dev.evLog.length < logSlots then writeLog ev param x10 x18 x20 s
    else ({ s with dev := { s.dev with evSeq := wrapTo 32 (s.dev.evSeq + 1) } }).bump OD.TRACE_DROPPED
  else
    let s := overflowRecord s
    if logRoom s then writeLog ev param x10 x18 x20 s
    else ({ s with dev := { s.dev with evSeq := wrapTo 32 (s.dev.evSeq + 1), dropsSince := s.dev.dropsSince + 1 } }).bump
      OD.EVENT_LOG_DROPPED

/-! ### Raising an event -/

/-- The routes of an event (R44); `quiet` events take none (R105), and `vector` overrides the route's MSI-X. -/
def routeEvent (ev param x10 x18 x20 : Nat) (quiet : Bool) (vector : Option Nat) (s : State) : State :=
  if quiet then s
  else routeSignals ev vector (whenDo (bit (routeWord ev s) 15) (logEvent ev param x10 x18 x20) s)

/-- A ring by number. -/
def ringOf (r : Nat) (s : State) : Ring := vgetN s.rings r

/-- R89: the number of pending descriptors. -/
def Ring.pendingCount (r : Ring) : Nat := (r.tail + 65536 - r.head) % 65536

/-- Records of an egress ring that await the host (R110). -/
def awaitingCount (r : Nat) (s : State) : Nat :=
  if r = 96 then s.dev.evLog.length else (vgetN s.egress (r - 96)).awaiting.length

/-- The number that PORT_STATE shows (R248). -/
def PortState.code : PortState → Nat
  | .disabled => 0 | .empty => 1 | .training => 2 | .descriptor => 3 | .upgrade => 4 | .ready => 5 | .retrain => 6
  | .recover => 7 | .fault => 8

/-- R110: the stall of an egress ring, raised once; `await` says that records await. -/
def stallOf (r : Nat) (await : Bool) (s : State) : State :=
  let e := vgetN s.egress (r - 96)
  if await ∧ (ringOf r s).pendingCount = 0 ∧ ¬ e.stalled then
    routeEvent EV.DUCT_EGRESS_STALLED r 0 (webpOf s.web.p) 0 false none
      { s with egress := vmodN s.egress (r - 96) fun e => { e with stalled := true } }
  else s

/-- R110: the stall of an egress ring; the record of its event awaits on ring 96, which may be stalled by it. -/
def stallCheck (r : Nat) (await : Bool) (s : State) : State :=
  let s := stallOf r await s
  stallOf 96 (!s.dev.evLog.isEmpty) s

/-- Raise an event with the EXTRA words of its record (R476). -/
def raiseX (ev param x10 x18 x20 : Nat) (s : State) : State :=
  let p := wrapTo 16 param
  let s := journalEvent ev p (routeEvent ev p x10 x18 x20 false none s)
  stallCheck 96 (!s.dev.evLog.isEmpty) s

/-- Raise an event whose record carries P (R476). -/
def raise (ev param : Nat) (s : State) : State := raiseX ev param 0 (webpOf s.web.p) 0 s

/-! ### Ledgers -/

/-- R35: move `n` of a resource from holder `a` to holder `b`, no more than `a` holds. -/
def Ledger.move (a b : Fin 7) (n : Nat) (l : Ledger) : Ledger :=
  let m := min n (l.held.get a)
  let h := l.held.set a (l.held.get a - m)
  { l with held := h.set b (h.get b + m) }

/-- LEDGER_SUM (R37). -/
def Ledger.sum (l : Ledger) : Nat := l.held.toList.foldl (· + ·) 0

/-- Move in ledger `k`. -/
def moveLedger (k : Fin 7) (a b : Fin 7) (n : Nat) (s : State) : State :=
  { s with ledgers := s.ledgers.set k ((s.ledgers.get k).move a b n) }

/-- What holder `a` of ledger `k` holds. -/
def heldOf (k a : Fin 7) (s : State) : Nat := (s.ledgers.get k).held.get a

/-- R40: restart ledger `k` with `total`, all of it free. -/
def startLedger (k : Fin 7) (total : Nat) (s : State) : State :=
  { s with ledgers := s.ledgers.set k (Ledger.start total) }

/-- R40: return all that holder `a` holds to the free holder. -/
def freeHolder (k a : Fin 7) (s : State) : State := moveLedger k a 0 (heldOf k a s) s

/-- Everything of ledger `k` is in its free holder. -/
def allFree (k : Fin 7) (s : State) : Bool := heldOf k 0 s == (s.ledgers.get k).total

/-- R38, R483: the latch of a mismatch keeps the first fault. -/
def latchFault (k : Fin 7) (check : Nat) (s : State) : State :=
  if s.o OD.FAULT_LEDGER = 0xFF then
    let l := s.ledgers.get k
    let s := eachDo (List.finRange 7) (fun i s => s.setO (OD.FAULT_HELD i) (l.held.get i)) s
    (((s.setO OD.FAULT_SUM l.sum).setO OD.FAULT_LEDGER k).setO OD.FAULT_LOC s.loc).setO OD.FAULT_CHECK check
  else s

/-- R38, R483: compare every sum with its total; 1 band boundary, 2 reset exit, 3 abort. The first fault since a SOFT or higher reset is
raised and latched, and halts the print line until the next; a later one is only counted. -/
def checkLedgers (check band : Nat) (s : State) : State :=
  eachDo (List.finRange 7) (fun k s =>
    let l := s.ledgers.get k
    if l.sum ≠ l.total then
      let first := s.o OD.FAULT_LEDGER == 0xFF
      let s := (latchFault k check s).bump (OD.LEDGER_FAULT_COUNT k)
      if ¬ first then s
      else raiseX EV.LEDGER_FAULT k (l.total + 2 ^ 32 * l.sum) band 0 { s with dev := { s.dev with ledgerHalt := true } }
    else s) s

/-! ### Egress records -/

/-- R110: slot size in bytes of rings 97 to 105. -/
def slotBytes (r : Nat) : Nat := if 101 ≤ r ∧ r ≤ 104 then 128 else 64

/-- R110: slots of ring `r`. -/
def egressSlots (r : Nat) (s : State) : Nat :=
  if s.o OD.EGRESS_AREA_SIZE = 0 ∨ r < 97 ∨ 105 < r then 0 else s.o (OD.EGRESS_SLOTS (r - 97))

/-- R110: bytes the slots of rings 97 to 105 need. -/
def egressNeed (slots : Nat → Nat) : Nat :=
  ((List.range 9).map fun i => slots i * slotBytes (97 + i)).foldl (· + ·) 0

/-- R110: DRAM address of slot `n` of ring `r`. -/
def slotAddress (r n : Nat) (s : State) : Nat :=
  s.o OD.EGRESS_AREA_BASE +
    ((List.range (r - 97)).map fun i => egressSlots (97 + i) s * slotBytes (97 + i)).foldl (· + ·) 0 + n * slotBytes r

/-- Slots of ring `r` that a producer can still take or reserve. -/
def egressFree (r : Nat) (s : State) : Nat :=
  let e := vgetN s.egress (r - 96)
  egressSlots r s - e.awaiting.length - e.reserved

/-- Reserve `n` slots of ring `r` for a producer (R489). -/
def reserveSlots (r n : Nat) (s : State) : State :=
  let s := moveLedger 6 0 1 n s
  { s with egress := vmodN s.egress (r - 96) fun e => { e with reserved := e.reserved + n } }

/-- Give `n` reserved slots of ring `r` back. -/
def unreserveSlots (r n : Nat) (s : State) : State :=
  let s := moveLedger 6 1 0 n s
  { s with egress := vmodN s.egress (r - 96) fun e => { e with reserved := e.reserved - n } }

/-! ### DRAM: address map (R341, R342), check bytes (R351) and writes -/

/-- R338: row bits of a density. -/
def rowBits (density : Nat) : Nat := if density ≤ 8 then 15 else if density ≤ 16 then 16 else 17

/-- R341, R342: the place of an address; `bank` counts rank × 16 + bank number. -/
def placeOf (a grain : Nat) (hash ecc : Bool) (n : Nat) (twoRanks : Bool) : DramPlace :=
  let h := if hash then a / 65536 % 4 else 0
  let ch := Nat.xor (a / 2 ^ grain % 4) h
  let c := a / 2 ^ (grain + 2) * 2 ^ grain + a % 2 ^ grain
  let r := if ecc then c / 1792 * 2048 + c % 1792 else c
  let row := r / 2 ^ 15 % 2 ^ n
  let bg := Nat.xor (bits r 12 11) (row % 4)
  let bk := Nat.xor (bits r 14 13) (row / 4 % 4)
  ⟨ch, r, bits r 10 6, (if twoRanks then 16 * (r / 2 ^ (15 + n) % 2) else 0) + 4 * bg + bk, row⟩

/-- The place of an address under what is in effect since the last training. -/
def placeNow (a : Nat) (s : State) : DramPlace :=
  placeOf a s.ddr.grain s.ddr.hash s.ddr.eccOn (rowBits (s.o OD.DENSITY)) (s.o OD.RANKS == 2)

/-- Update a channel. -/
def modChannel (c : Nat) (f : Channel → Channel) (s : State) : State :=
  { s with ddr := { s.ddr with channels := vmodN s.ddr.channels c f } }

/-- A channel by number. -/
def channelOf (c : Nat) (s : State) : Channel := vgetN s.ddr.channels c

/-- The 64 B granule of an address, by its first byte. -/
def granuleOf (a : Nat) : Nat := a / 64 * 64

/-- Update a bank of a channel. -/
def modBank (b : Nat) (f : Bank → Bank) (c : Channel) : Channel := { c with banks := vmodN c.banks b f }

/-- R351: the check bytes of the granule at `a`: one for each 8 B. -/
def checkBytes (a : Nat) (s : State) : List Byte :=
  (List.range 8).map fun i => Config.checkByte (Memory.reads s.ddr.mem (granuleOf a + 8 * i) 8)

/-- R351: raw address of the check burst that holds the check bytes of a burst. -/
def checkBurst (p : DramPlace) : Nat := p.raw / 2048 * 2048 + 1792 + p.burst / 8 * 64

/-- R351: the check bytes of a granule follow its data: in the check buffer that holds their burst, or in the DRAM. -/
def renewCheck (g : Nat) (s : State) : State :=
  let p := placeNow g s
  let a := checkBurst p
  let at_ := p.burst % 8 * 8
  let bs := checkBytes g s
  modChannel p.channel (fun c => match (vgetN c.banks p.bank).check with
    | some (h, held) =>
      if h = a then modBank p.bank (fun x => { x with check := some (a, held.take at_ ++ bs ++ held.drop (at_ + 8)) }) c
      else { c with checks := Memory.writes (a + at_) bs c.checks }
    | none => { c with checks := Memory.writes (a + at_) bs c.checks }) s

/-- R351: the check bytes of the granules that hold `n` bytes from `a` on are renewed, while inline ECC is in effect. -/
def renewChecks (a n : Nat) (s : State) : State :=
  if ¬ s.ddr.eccOn ∨ n = 0 then s
  else eachDo (List.range ((a + n - 1) / 64 + 1 - a / 64)) (fun i s => renewCheck (granuleOf a + 64 * i) s) s

/-- Write bytes to the DRAM, with their check bytes (R351; log entry 121). -/
def dramWrite (a : Nat) (bs : List Byte) (s : State) : State :=
  renewChecks a bs.length { s with ddr := { s.ddr with mem := Memory.writes a bs s.ddr.mem } }

/-! ### Egress records (R110) -/

/-- R110: write a record into the next free slot, which then awaits the host. -/
def putRecord (r : Nat) (bs : List Byte) (s : State) : State :=
  let n := (vgetN s.egress (r - 96)).nextSlot % max 1 (egressSlots r s)
  let s := dramWrite (slotAddress r n s) (bs.take (slotBytes r)) s
  let s := { s with egress := vmodN s.egress (r - 96) fun e =>
    { e with awaiting := e.awaiting ++ [(n, s.loc)], nextSlot := (n + 1) % max 1 (egressSlots r s) } }
  stallCheck r true (moveLedger 6 0 2 1 s)

/-- Write a record if a slot is free; `lost` says what its producer does otherwise. -/
def tryRecord (r : Nat) (bs : List Byte) (lost : State → State) (s : State) : State :=
  if 0 < egressFree r s then putRecord r bs s else lost s

/-- The 40 bytes of a log record (R475). -/
def LogRec.bytes (r : LogRec) : List Byte :=
  leBytes 1 1 ++ leBytes 1 r.event ++ leBytes 2 r.param ++ leBytes 4 r.seq ++ leBytes 8 r.loc ++ leBytes 8 r.x10 ++
    leBytes 8 r.x18 ++ leBytes 8 r.x20

/-! ### Reserved bits of objects -/

/-- R16, R215, R216, R324, R377: an object value without its reserved bits: RECIPE [19:0], RECIPE_SELECT [31:28] and [15:12],
TRIG_CONFIG [7:1] and HOME_CONFIG [7:2]. A 1 written to one is ignored. -/
def storedNum (key v : Nat) : Nat :=
  if 0x3500 ≤ key / 256 ∧ key / 256 < 0x3518 then
    if 0x20 ≤ key % 256 ∧ key % 256 ≤ 0x2F then v / 2 ^ 20 * 2 ^ 20
    else if key % 256 = 0x30 then v % 2 ^ 12 + v / 2 ^ 16 % 2 ^ 12 * 2 ^ 16
    else v
  else if OD.TRIG_CONFIG 0 ≤ key ∧ key ≤ OD.TRIG_CONFIG 15 ∧ (key - OD.TRIG_CONFIG 0) % 3 = 0 then v % 2
  else if 0x4800 ≤ key / 256 ∧ key / 256 < 0x4808 ∧ key % 256 = 0x0B then v % 4
  else v

/-! ### Planes, heads, negotiated versions -/

/-- Plane of a head: A is heads 0 to 11, B heads 12 to 23 (R3, R4). -/
def planeOf (h : Nat) : Nat := h / 12

/-- Set an entry of 0x2003 (R57): partner's highest version and version in use. -/
def setNegotiated (entry vmax used : Nat) (s : State) : State :=
  s.setO (OD.NEGOTIATED_VERSION (entry - 1)) (256 * vmax + used)

end Sys2Proof.Machine
end

