-- ==== Sys2Proof/Machine/Operands.lean ====
section
/-! DEFINITION. Machine/Operands.lean: nozzle identifiers, columns, overlaps and mates (R148 to R152), table entries
(R153) and CRC-32. -/

namespace Sys2Proof.Machine

/-! ### CRC-32 (IEEE 802.3; R34, R174, R228, R246) -/

/-- One bit of the reflected CRC-32. -/
def crcBit (c : Nat) : Nat := if c % 2 = 1 then Nat.xor (c / 2) 0xEDB88320 else c / 2

/-- One byte into a running CRC register. -/
def crcByte (c : Nat) (b : Byte) : Nat :=
  crcBit (crcBit (crcBit (crcBit (crcBit (crcBit (crcBit (crcBit (Nat.xor c b.toNat))))))))

/-- Bytes into a running CRC register, which starts at all ones. -/
def crcFeed (c : Nat) (bs : List Byte) : Nat := bs.foldl crcByte c

/-- The CRC-32 of bytes. -/
def crc32 (bs : List Byte) : Nat := Nat.xor (crcFeed 0xFFFFFFFF bs) 0xFFFFFFFF

/-! ### Nozzles -/

/-- R152: the head's grid is 1200 dpi. -/
def coarse (h : Nat) (s : State) : Bool := s.o (OD.NOZZLE_GRID h) == 1

/-- R149: the fields of an identifier. -/
def idHead (id : Nat) : Nat := bits id 23 16
def idRow (id : Nat) : Nat := bits id 13 11
def idIndex (id : Nat) : Nat := bits id 10 0

/-- R149: the identifier is valid. -/
def idValid (id : Nat) (s : State) : Bool :=
  decide (idHead id < 24) && bits id 15 14 == 0 && decide (idIndex id ≤ 2047) &&
    !(coarse (idHead id) s && decide (3 < idRow id))

/-- R149: the table index of a nozzle. -/
def tableIndex (h r k : Nat) : Nat := 16384 * h + 2048 * r + k

/-- The identifier of a table index. -/
def idOf (n : Nat) : Nat := n / 16384 * 65536 + n % 16384

/-- R148, R152: the head column a nozzle is known by: on a 1200 dpi head, the first of its two. -/
def columnOf (h r k : Nat) (s : State) : Nat := if coarse h s then 4 * k + 2 * (r / 2) else 4 * k + r / 2

/-- R148, R152: the nozzle of a head column that prints fire line `w`. -/
def nozzleAt (h c w : Nat) (s : State) : Nat :=
  let p := if coarse h s then c % 4 / 2 else c % 4
  tableIndex h (2 * p + w % 2) (c / 4)

/-- R150: global column. -/
def globalColumn (h c : Nat) : Nat := 8128 * (h % 12) + c

/-- R150: the other head of the overlap that holds a column, if one does. -/
def mateHead (h c : Nat) : Option Nat :=
  if 8128 ≤ c ∧ h % 12 < 11 then some (h + 1) else if c ≤ 63 ∧ 0 < h % 12 then some (h - 1) else none

/-- R150: the number of the overlap between heads `h` and `h` + 1. -/
def overlapOf (left : Nat) : Nat := if left < 12 then left else left - 1

/-- R150: the column on the mate's head at the same global column. -/
def mateColumn (_h c : Nat) : Nat := if 8128 ≤ c then c - 8128 else c + 8128

/-! ### Table entries (R153) -/

/-- The entry that an unlisted index of the nozzle table reads as. -/
def entryDflt : Nat → Nat := fun _ => 0x800

def entState (e : Nat) : Nat := bits e 31 30
def entDensity (e : Nat) : Int := signedOf 6 (bits e 29 24)
def entKern (e : Nat) : Nat := bits e 23 18
def entEnergy (e : Nat) : Nat := bits e 17 14
def entPattern (e : Nat) : Nat := bits e 13 11
def entHealth (e : Nat) : Nat := bits e 10 3

/-- R154: the bits of the print fields. -/
def printMask : Nat := 0xFFFFF800

/-- `(old & ~mask) | (value & mask)` (R172). -/
def mergeBits (old value mask : Nat) : Nat := Nat.xor old (Nat.land (Nat.xor old value) mask)

/-- The folded table's entry. -/
def folded (n : Nat) (s : State) : Nat := kget entryDflt s.comp.table n

/-- Write an entry of the folded table. -/
def setFolded (n v : Nat) (s : State) : State := { s with comp := { s.comp with table := kset entryDflt n v s.comp.table } }

/-- The folded table's bytes (R77 aperture 0, R111). -/
def tableBytes (off n : Nat) (s : State) : List Byte :=
  (List.range n).map fun i => BitVec.ofNat 8 (folded ((off + i) / 4) s / 256 ^ ((off + i) % 4) % 256)

end Sys2Proof.Machine
end

