-- ==== Sys2Proof/Machine/Formes.lean ====
section
/-! DEFINITION. Machine/Formes.lean: forme contexts and Galley streams as the other units see them (R99, R116, R136,
R140), and the fill of the ingest rings (R98 to R102). -/

namespace Sys2Proof.Machine

/-- FORME_STATE (R136). -/
def FormeState.code : FormeState → Nat
  | .empty => 0 | .loading => 1 | .ready => 2 | .armed => 3 | .printing => 4 | .printed => 5 | .retired => 6
  | .faulted => 7

/-- Holder of ledger 2 (R36); a RETIRED context is free. -/
def FormeState.holder : FormeState → Fin 7
  | .empty => 0 | .loading => 1 | .ready => 2 | .armed => 3 | .printing => 4 | .printed => 5 | .retired => 0
  | .faulted => 6

/-- A forme's context. -/
def formeOf (f : Nat) (s : State) : Forme := vgetN s.formes f

/-- Change a context. -/
def modForme (f : Nat) (g : Forme → Forme) (s : State) : State := { s with formes := vmodN s.formes f g }

/-- Change a forme's state, with its ledger transfer (R35, R140). -/
def setForme (f : Nat) (st : FormeState) (s : State) : State :=
  let old := (formeOf f s).state
  modForme f (fun c => { c with state := st })
    (if old.holder = st.holder then s else moveLedger 2 old.holder st.holder 1 s)

/-- R136, R476: raise an event of a forme that is no IMP_FORME_* event: its tag, and P as every other event. -/
def formeNotice (ev param f : Nat) (s : State) : State :=
  raiseX ev param (s.o (OD.FORME_TAG f)) (webpOf s.web.p) 0 s

/-- Raise an IMP_FORME_* event with the EXTRA words of R476. -/
def formeEvent (ev param f : Nat) (s : State) : State :=
  raiseX ev param (s.o (OD.FORME_TAG f)) s.web.hwl (s.o (OD.FORME_LAST_LINE f)) s

/-- The forme has a stream for the head. -/
def hasHead (f h : Nat) (s : State) : Bool := bit (s.o (OD.FORME_HEADS f)) h

/-- R116: the first fire line of forme `f` on head `h`. -/
def firstFireOf (f h : Nat) (s : State) : Nat := s.o (OD.FORME_START f) + s.o (OD.LINE_OFFSET f h)

/-- The line after the last fire line of forme `f` on head `h`. -/
def endFireOf (f h : Nat) (s : State) : Nat := firstFireOf f h s + s.o (OD.FORME_LENGTH f)

/-- R4: a plane is populated when one of its ports is enabled. -/
def populated (plane : Nat) (s : State) : Bool := (List.range 12).any fun i => s.ob (OD.OHL_PORT_ENABLE (12 * plane + i))

/-- The heads of populated planes. -/
def populatedHeads (s : State) : List Nat := (List.range 24).filter fun h => populated (planeOf h) s

/-- The numbers of the contexts that meet `p`, lowest first. -/
def formesWith (p : Forme → Bool) (s : State) : List Nat :=
  ((s.formes.toList.zip (List.range 256)).filter fun x => p x.1).map (·.2)

/-- The formes in one of the states `p`, with a stream for the head. -/
def formesOn (h : Nat) (p : FormeState → Bool) (s : State) : List Nat :=
  (formesWith (fun c => p c.state) s).filter fun f => hasHead f h s

/-- The member of a list with the lowest first fire line on the head. -/
def lowestFirst (h : Nat) (s : State) : List Nat → Option Nat
  | [] => none
  | f :: fs =>
    match lowestFirst h s fs with
    | none => some f
    | some g => some (if firstFireOf f h s ≤ firstFireOf g h s then f else g)

/-- R99: the current forme of a head. -/
def currentForme (h : Nat) (s : State) : Option Nat :=
  match lowestFirst h s (formesOn h (fun st => st == .armed || st == .printing) s) with
  | some f => some f
  | none => lowestFirst h s (formesOn h (fun st => st == .loading || st == .ready) s)

/-! ### Streams -/

/-- The stream of a forme's context on a head. -/
def streamOf (f h : Nat) (s : State) : Option Stream :=
  s.gal.streams.find? fun st => st.forme == f && st.head == h && st.context

/-- Change the stream of a forme's context on a head. -/
def modStream (f h : Nat) (g : Stream → Stream) (s : State) : State :=
  { s with gal := { s.gal with streams := lmod (fun st => st.forme == f && st.head == h && st.context) g s.gal.streams } }

/-- Blocks of a stream in one of the holders `p`. -/
def blocksIn (p : BlockHolder → Bool) (st : Stream) : Nat := (st.blocks.filter fun b => p b.holder).length

/-- R100: the holders FILL counts. -/
def fillHolder : BlockHolder → Bool
  | .retained => false
  | _ => true

/-- R99: the stream of the head's current forme. -/
def currentStream (h : Nat) (s : State) : Option Stream :=
  match currentForme h s with
  | some f => streamOf f h s
  | none => none

/-- R88, R99: the ring is bound to its head's current forme, whatever other pairs are bound to it. -/
def boundToCurrent (r : Nat) (s : State) : Bool :=
  match currentStream (r / 4) s with
  | some st => st.bound == some r
  | none => false

/-- R100: FILL of an ingest ring. -/
def fillOf (r : Nat) (s : State) : Nat :=
  if boundToCurrent r s then
    match currentStream (r / 4) s with
    | some st => blocksIn fillHolder st
    | none => 0
  else ((s.gal.streams.filter fun st => st.head == r / 4).map (blocksIn fillHolder)).foldl (· + ·) 0

/-- Change a ring. -/
def modRing (r : Nat) (g : Ring → Ring) (s : State) : State := { s with rings := vmodN s.rings r g }

/-- R102: a promoted ring leaves the high class when its FILL, `before` until now, reaches LOW. -/
def demoteCheck (r before : Nat) (s : State) : State :=
  let low := (ringOf r s).low
  let now := fillOf r s
  if (ringOf r s).promoted ∧ ((before < low ∧ low ≤ now) ∨ (low < before ∧ now ≤ low)) then
    modRing r (fun g => { g with promoted := false }) s
  else s

/-- Do `f`, and demote the rings of head `h` whose FILL reaches LOW by it. -/
def withDemotion (h : Nat) (f : State → State) (s : State) : State :=
  eachDo (List.range 4) (fun i t => demoteCheck (4 * h + i) (fillOf (4 * h + i) s) t) (f s)

/-! ### Galley blocks (R98, R128, R130) -/

/-- Holders of ledger 1 (R36). -/
def BlockHolder.code : BlockHolder → Fin 7
  | .filling => 1 | .filled => 2 | .decoding => 3 | .retained => 4

/-- Block numbers in use. -/
def usedBlocks (s : State) : List Nat := s.gal.streams.flatMap fun st => st.blocks.map (·.num)

/-- The `n` lowest free block numbers (log entry 7). -/
def freeBlocks (n : Nat) (s : State) : List Nat :=
  let used := usedBlocks s
  ((List.range (s.ledgers.get 1).total).filter fun b => !used.contains b).take n

/-- The place in the stream of the next block it needs (R98, log entry 8). -/
def nextBlock (st : Stream) : Nat :=
  st.blocks.foldl (fun m b => max m (b.order + 1)) ((st.delivered + 65535) / 65536)

/-- R98: blocks needed beyond those held, for a descriptor that ends at stream byte `stop`. -/
def blocksNeeded (st : Stream) (stop : Nat) : Nat := (stop + 65535) / 65536 - nextBlock st

/-- R99: ring `r` may take `n` blocks from the free pool. -/
def mayTake (r n : Nat) (s : State) : Bool :=
  let heads := (populatedHeads s).length
  let others := if populated (planeOf (r / 4)) s then heads - 1 else heads
  let keep := s.o OD.RESERVE_BLOCKS * (if boundToCurrent r s then others else heads)
  n == 0 || n + keep ≤ heldOf 1 0 s

/-- Reserve `n` blocks for a stream (R98). -/
def reserveBlocks (f h n : Nat) (s : State) : State :=
  let nums := freeBlocks n s
  moveLedger 1 0 1 n (modStream f h (fun st =>
    let o := nextBlock st
    { st with blocks := st.blocks ++ (nums.mapIdx fun i b => ⟨b, o + i, .filling⟩) }) s)

/-- DRAM address of stream byte `off`, if a block holds it (R128). -/
def streamAddress (st : Stream) (off : Nat) (s : State) : Option Nat :=
  match st.blocks.find? fun b => b.order == off / 65536 with
  | some b => some (s.o OD.GAL_AREA_BASE + b.num * 65536 + off % 65536)
  | none => none

/-- A byte of a stream. -/
def streamByte (st : Stream) (s : State) (off : Nat) : Byte :=
  match streamAddress st off s with
  | some a => Memory.read s.ddr.mem a
  | none => 0

/-- Bytes of a stream. -/
def streamBytesAt (st : Stream) (off n : Nat) (s : State) : List Byte :=
  (List.range n).map fun i => streamByte st s (off + i)

/-- Change the holder of the blocks of a stream that `p` picks; the ledger follows (R35). -/
def moveBlocks (f h : Nat) (p : Block → Bool) (dest : BlockHolder) (s : State) : State :=
  match streamOf f h s with
  | none => s
  | some st =>
    let moved := st.blocks.filter fun b => p b && b.holder != dest
    modStream f h (fun st => { st with blocks := lmod p (fun b => { b with holder := dest }) st.blocks })
      (eachDo moved (fun b s => moveLedger 1 b.holder.code dest.code 1 s) s)

/-- Free the blocks that `p` picks, of the streams that `q` picks. -/
def freeBlocksOf (q : Stream → Bool) (p : Stream → Block → Bool) (s : State) : State :=
  let gone := (s.gal.streams.filter q).flatMap fun st => st.blocks.filter (p st)
  let s := eachDo gone (fun b s => moveLedger 1 b.holder.code 0 1 s) s
  { s with gal := { s.gal with
      streams := (lmod q (fun st => { st with blocks := st.blocks.filter fun b => !p st b }) s.gal.streams).filter
        fun st => st.context || !st.blocks.isEmpty } }

/-! ### Restart bands and release (R130) -/

/-- R148, R152: the rows that a head has. -/
def rowsOf (h : Nat) (s : State) : Nat := if coarse h s then 4 else 8

/-- The largest row delay of a head, in whole lines (R168). -/
def maxDelay (h : Nat) (s : State) : Nat :=
  (List.range (rowsOf h s)).foldl (fun m r => max m (s.o (OD.ROW_OFFSET h r) / 64)) 0

/-- The smallest row delay of a head. -/
def minDelay (h : Nat) (s : State) : Nat :=
  (List.range (rowsOf h s)).foldl (fun m r => min m (s.o (OD.ROW_OFFSET h r) / 64)) 63

/-- The first slot of a head not yet acknowledged. -/
def lowestSlot (h : Nat) (s : State) : Nat :=
  let q := vgetN s.plat.heads h
  match q.unacked with
  | t :: _ => t
  | [] => q.nextSlot

/-- R130, R209: the head's lowest data line not yet acknowledged by OHL. -/
def lowestUnacked (h : Nat) (s : State) : Nat := lowestSlot h s - maxDelay h s

/-- The stream of a head that holds a fire line. -/
def streamAt (h line : Nat) (s : State) : Option Stream :=
  s.gal.streams.find? fun st => st.head == h && decide (st.firstFire ≤ line) && decide (line < st.endFire)

/-- LINE_OFFSET of the forme being printed on a head at fire line `w` (R116, R291). -/
def offsetAt (h w : Nat) (s : State) : Nat :=
  match streamAt h w s with
  | some st => st.offsets.getD h 0
  | none =>
    match currentForme h s with
    | some f => s.o (OD.LINE_OFFSET f h)
    | none => 0

/-- R291: the paper line on which the dots of data line `w` of a head fall. -/
def paperLine (h w : Nat) (s : State) : Nat := w - offsetAt h w s

/-- R226: the first line of the restart band that the platen names: the band of the lowest unacknowledged data line. -/
def restartLine (h : Nat) (s : State) : Nat := lowestUnacked h s / 64 * 64

/-- R130: the first fire line of the lower of the head's two restart bands. -/
def lowerLine (h : Nat) (s : State) : Nat :=
  let l := lowestUnacked h s
  match streamAt h l s with
  | some st => max st.firstFire ((l / 64 - 1) * 64)
  | none => l / 64 * 64

/-- The stream byte below which a stream holds no band that a restart may decode again. -/
def releaseLimit (st : Stream) (s : State) : Nat :=
  let l := lowerLine st.head s
  if st.endFire ≤ l then max st.top st.pos else kget (fun _ => 0) st.bandAt (l / 64 - st.firstFire / 64)

/-- R130 step 5, and blocks beyond the LAST band: return to GAL free what no restart of the head needs. -/
def releaseBlocks (h : Nat) (s : State) : State :=
  freeBlocksOf (fun st => st.head == h)
    (fun st b =>
      (b.holder == .retained && (b.order + 1) * 65536 ≤ releaseLimit st s) ||
      (b.holder == .retained && decide (st.endFire ≤ lowerLine h s)) ||
      (match st.lastEnd with
       | some e => decide (e ≤ b.order * 65536) && b.holder != .filling && decide (st.layoutEnd ≤ st.firstFire + st.decoded)
       | none => false)) s

end Sys2Proof.Machine
end

