-- ==== Sys2Proof/Machine/Galley.lean ====
section
/-! DEFINITION. Machine/Galley.lean: stream headers, band headers and line codes (R114 to R127), the decompressor
engines (R131 to R134) and the restart of a head (R135). -/

namespace Sys2Proof.Machine

/-! ### Underrun risk and promotion (R102, R134) -/

/-- A ring is in the high class (R102). -/
def Ring.isHigh (r : Ring) : Bool := r.prio || r.promoted

/-- R103: the ring has a descriptor started that still moves data. -/
def Ring.isBusy (r : Ring) : Bool :=
  r.state == .running && (match r.xfer with
    | some x => x.started && decide (x.entries < x.desc.count)
    | none => false)

/-- R46, R110: the awaiting records of a ring that may go out. A record of ring 96 goes out from the cycle after its own on, when
no other record of its cycle can come before it (DEDUCED, log entry 196). -/
def recordsReady (r : Nat) (s : State) : Nat :=
  if r = 96 then (s.dev.evLog.takeWhile fun e => e.loc != s.loc).length else awaitingCount r s

/-- R103: a descriptor's data goes through the write side of DUCT, to the host (OP 3 and 4), or through its read side. -/
def Desc.goesOut (d : Desc) : Bool := d.op == 3 || d.op == 4

/-- R102, R103: ring `r` is ready on the write side of DUCT (`out`) or on its read side: it has data to move, and, on an egress
ring, a record that awaits it. -/
def ringReady (out : Bool) (r : Nat) (s : State) : Bool :=
  (ringOf r s).isBusy && (match (ringOf r s).xfer with
    | some x => x.desc.goesOut == out && (x.desc.op != 4 || decide (x.records < recordsReady r s))
    | none => false)

/-- R103: a high-class ring is ready on that side. -/
def highReady (out : Bool) (s : State) : Bool := (List.range 128).any fun r => (ringOf r s).isHigh && ringReady out r s

/-- Holder of ledger 0 (R36). -/
def Staging.code : Staging → Fin 7
  | .none => 0 | .reading => 1 | .writing => 2 | .retained => 3

/-- Move the staging buffer of a ring's transfer (R103). -/
def setStaging (r : Nat) (dest : Staging) (s : State) : State :=
  match (ringOf r s).xfer with
  | none => s
  | some x =>
    let s := if x.staging.code = dest.code then s else moveLedger 0 x.staging.code dest.code 1 s
    modRing r (fun g => { g with xfer := g.xfer.map fun x => { x with staging := dest } }) s

/-- R103: a normal-class transfer is pre-empted. -/
def retainStaging (r : Nat) (s : State) : State :=
  modRing r (fun q => { q with xfer := q.xfer.map fun x => { x with heldAt := s.loc } }) (setStaging r .retained s)

/-- R103: a ring's transfer is of the high class: its ring is, or was when the buffer of its turn was taken or after (DESIGN CHOICE,
log entry 32). -/
def Ring.highTransfer (r : Ring) : Bool := r.isHigh || r.xfer.any fun x => x.highTurn && x.staging != .none

/-- R103: a ready high-class ring of the read side pre-empts that side's normal-class transfers at the next beat. The sides pre-empt
apart; on the write side a turn is one step, so no transfer is between its beats there (log entry 32). -/
def preempt (s : State) : State :=
  if highReady false s then
    eachDo ((List.range 128).filter fun r =>
        !(ringOf r s).highTransfer && (match (ringOf r s).xfer with
          | some x => x.staging == .reading || x.staging == .writing
          | none => false))
      retainStaging s
  else s

/-- R102: promotion of the ring bound to the stream that GAL_UNDERRUN_RISK names. -/
def promoteRing (st : Stream) (s : State) : State :=
  match st.bound with
  | some r =>
    if (ringOf r s).promote ∧ ¬ (ringOf r s).promoted then
      preempt (raise EV.DUCT_RING_PROMOTED r (modRing r (fun g => { g with
        promoted := true, xfer := g.xfer.map fun x => { x with highTurn := true } }) s))
    else s
  | none => s

/-- R134: the risk of a head is raised, or cleared. -/
def setRisk (h : Nat) (v : Bool) (s : State) : State :=
  { s with gal := { s.gal with risk := vmodN s.gal.risk h fun _ => v } }

/-- R134: raise or clear the underrun risk of a head, by the stream of its current forme. -/
def underrunCheck (h : Nat) (s : State) : State :=
  match currentStream h s with
  | none => s
  | some st =>
    let ahead := st.delivered - st.pos
    let under := s.o OD.UNDERRUN_BYTES
    let live := (formeOf st.forme s).state == .armed || (formeOf st.forme s).state == .printing
    if vgetN s.gal.risk h then
      if st.ended ∨ 2 * under ≤ ahead then raise EV.GAL_UNDERRUN_CLEAR h (setRisk h false s) else s
    else if live ∧ ¬ st.ended ∧ ahead < under then
      promoteRing st (raise EV.GAL_UNDERRUN_RISK h (setRisk h true s))
    else s

/-- R102: a ring that a stream of the current forme is bound to while the head's risk is raised. A ring that was demoted at LOW is
promoted again by each later descriptor of the forme while the risk stands, which the manual does not say (DESIGN CHOICE, log
entry 186). -/
def promoteBound (h : Nat) (s : State) : State :=
  match currentStream h s with
  | some st => if vgetN s.gal.risk h then promoteRing st s else s
  | none => s

/-! ### Stream errors (R125 to R127) -/

/-- R140: the forme enters FAULTED; its cause has source 2 (R125). -/
def faultForme (f cause : Nat) (s : State) : State :=
  let st := (formeOf f s).state
  let s := s.setO (OD.FORME_CAUSE f) (0x200 + cause)
  let s := modForme f (fun c => { c with
    fromPrinting := st == .printing, fromArmed := st == .armed, faultLoc := s.loc + 1 }) s
  formeEvent EV.IMP_FORME_FAULTED f f (setForme f .faulted s)

/-- A stream, among those of its forme and head. -/
def Stream.same (a b : Stream) : Bool :=
  a.forme == b.forme && a.head == b.head && a.context == b.context && a.firstFire == b.firstFire

/-- Change a stream of the head, whether its context has retired or not. -/
def modSame (st : Stream) (g : Stream → Stream) (s : State) : State :=
  { s with gal := { s.gal with streams := lmod (fun t => t.same st) g s.gal.streams } }

/-- R118: streams of the head before this one are decoded to their last line. -/
def earlierDone (st : Stream) (s : State) : Bool :=
  s.gal.streams.all fun e =>
    !(e.head == st.head && decide (e.firstFire < st.firstFire)) || decide (e.endFire ≤ e.firstFire + e.decoded)

/-- R118: record a stream that becomes current with a valid header. -/
def currentCheck (h : Nat) (s : State) : State :=
  eachDo s.gal.streams (fun st s =>
    let fs := (formeOf st.forme s).state
    if st.head = h ∧ st.context ∧ ¬ st.current ∧ st.headerOk ∧ (fs = .armed ∨ fs = .printing) ∧ earlierDone st s then
      raise EV.GAL_STREAM_CURRENT (256 * st.version + h)
        (setNegotiated (0x1B + h) st.version st.version
          (modStream st.forme h (fun st => { st with current := true }) s))
    else s) s

/-- R118, R134: what a change of the current forme means to the heads. -/
def headChecks (s : State) : State := eachDo (List.range 24) (fun h s => underrunCheck h (currentCheck h s)) s

/-- R126: the first stream line that a failure keeps from being output: the line of a decode error or of
poisoned data (R352), and for a check of the whole stream the line that decoding has reached. -/
def Stream.failLine (st : Stream) (cause : Nat) : Nat := if (6 ≤ cause ∧ cause ≤ 0xB) ∨ cause = 0xF then st.nextLine else st.decoded

/-- R125: a check of a stream fails. `benign` marks the failures of R127. -/
def streamError (st : Stream) (cause : Nat) (benign : Bool) (s : State) : State :=
  let s := raise EV.GAL_STREAM_ERROR (256 * cause + st.head) (s.bump OD.STREAM_ERRORS)
  if benign then modSame st (fun t => { t with reported := true }) s else
    let s := modSame st (fun t => { t with failed := true, failAt := st.failLine cause }) s
    if ¬ st.context then s else
    match (formeOf st.forme s).state with
    | .loading | .ready | .armed | .printing => headChecks (faultForme st.forme cause s)
    | _ => s

/-- R117, R125: causes 0x01 to 0x05, in table order; 0 = the header passes. -/
def headerCause (f h : Nat) (b : List Byte) (s : State) : Nat :=
  let w := fun o n => leNum ((b.drop o).take n)
  let phase := firstFireOf f h s % 64
  if w 0 4 ≠ 0x594C4147 ∨ w 5 1 ≠ 32 ∨ w 7 1 ≠ 0 ∨ w 0x18 4 ≠ 0 ∨ 64 ≤ w 6 1 then 1
  else if ((List.range 8).map fun i => w (4 * i) 4).foldl (· + ·) 0 % 2 ^ 32 ≠ 0 then 2
  else if w 4 1 ≠ 1 ∧ w 4 1 ≠ 2 then 3
  else if w 0xE 1 ≠ h ∨ w 0xF 1 ≠ f then 4
  else if w 8 4 ≠ s.o (OD.FORME_LENGTH f) ∨ w 8 4 = 0 ∨ w 0xC 2 ≠ s.o (OD.LINE_OFFSET f h) ∨ w 6 1 % 64 ≠ phase then 5
  else 0

/-- R117: check the header once its 32 bytes are credited. -/
def checkHeader (f h : Nat) (s : State) : State :=
  match streamOf f h s with
  | none => s
  | some st =>
    if st.headerOk ∨ st.failed ∨ st.delivered < 32 then s
    else
      let b := streamBytesAt st 0 32 s
      let c := headerCause f h b s
      if c = 0 then
        modStream f h (fun st => { st with
          headerOk := true, version := leNum ((b.drop 4).take 1), streamBytes := leNum ((b.drop 0x10).take 4),
          pos := 32 }) s
      else streamError st c false s

/-- R119: follow the band headers from stream byte `off` on to the end of the LAST band, if it is wholly delivered. Bands that are not
decoded yet are followed by their BAND_BYTES; one below 16 ends the search with no LAST band found (DESIGN CHOICE, log entry 208). -/
def findLast (st : Stream) (s : State) : Nat → Nat → Option Nat
  | 0, _ => none
  | fuel + 1, off =>
    if st.delivered < off + 16 then none
    else
      let n := leNum (streamBytesAt st (off + 8) 4 s)
      if n < 16 ∨ st.delivered < off + n then none
      else if bit (streamByte st s (off + 3)).toNat 0 then some (off + n)
      else findLast st s fuel (off + n)

/-- The end of the LAST band as far as it is delivered (R125). -/
def lastBandEnd (st : Stream) (s : State) : Option Nat :=
  match st.lastEnd with
  | some e => if e ≤ st.delivered then some e else none
  | none =>
    if st.headerOk then findLast st s 16400 (if 0 < st.bandLeft then st.bandStart + st.bandBytes else st.pos) else none

/-- R125, R127: the checks made when END completes, in table order. -/
def checkEnd (f h : Nat) (s : State) : State :=
  match streamOf f h s with
  | none => s
  | some st =>
    let done := decide (st.endFire ≤ st.firstFire + st.decoded)
    if st.failed ∨ st.reported then s else
    match lastBandEnd st s with
    | none => streamError st 0x0D false s
    | some e =>
      if st.streamBytes ≠ 0 ∧ st.streamBytes ≠ e then streamError st 0x0C done s
      else if e < st.delivered then streamError st 0x0E done s
      else s

/-- R125: TRAILING, once the LAST band is decoded. -/
def checkTrailing (f h : Nat) (s : State) : State :=
  match streamOf f h s with
  | none => s
  | some st =>
    match st.lastEnd with
    | some e => if e < st.delivered ∧ ¬ st.ended ∧ ¬ st.failed ∧ ¬ st.reported then streamError st 0x0E true s else s
    | none => s

/-! ### Lines (R115, R121 to R124) -/

/-- The outcome of decoding from a stream position. -/
inductive Decoded where
  | short                                  -- not every byte is delivered
  | bad (cause : Nat)
  | ok (dots : List Nat) (used : Nat)
  deriving DecidableEq, Repr

/-- R115: the four dots of a byte. -/
def dotsOf (b : Byte) : List Nat :=
  let x := b.toNat
  [x % 4, x / 4 % 4, x / 16 % 4, x / 64 % 4]

/-- R123: the bytes of a token after its first byte. -/
def tokenTail (b : Nat) : Nat :=
  if 128 ≤ b then (if b % 128 = 0 then 128 else b % 128)
  else if b % 32 = 30 then 1 else if b % 32 = 31 then 2 else 0

/-- R123: the dots of a token, from its first byte and the bytes after it. -/
def tokenDots (b : Nat) (t : List Byte) : List Nat :=
  if 128 ≤ b then t.flatMap dotsOf
  else
    let n := if b % 32 = 30 then 30 + leNum t else if b % 32 = 31 then leNum t else b % 32
    List.replicate n (b / 32 % 4)

/-- R123 to R125: the tokens of a line. `left` bounds the tokens, `used` counts the line's bytes, `room` the bytes left
in the band; `acc` holds the pieces decoded, last first. -/
def decodeTokens : Nat → List Byte → Nat → Nat → Nat → List (List Nat) → Decoded
  | left, bs, used, room, col, acc =>
    if col = 8192 then .ok acc.reverse.flatten used
    else if room ≤ used then .bad 0x0A
    else match left, bs with
    | 0, _ => .bad 0x0B
    | _ + 1, [] => .short
    | left + 1, b :: rest =>
      let n := tokenTail b.toNat
      if 2079 < used + 1 + n then .bad 0x0B
      else if rest.length < n then .short
      else
        let d := tokenDots b.toNat (rest.take n)
        if d.length = 0 ∨ 8192 < col + d.length then .bad 0x0A
        else decodeTokens left (rest.drop n) (used + 1 + n) room (col + d.length) (d :: acc)

/-- R122: XOR of a residual with the reference line. -/
def xorDots (a b : List Nat) : List Nat := List.zipWith (fun x y => Nat.xor x y) a b

/-- The reference line; all zeros at a restart point (R120). -/
def Stream.refLine (st : Stream) : List Nat := if st.ref.isEmpty then List.replicate 8192 0 else st.ref

/-- R119, R125: check the header of the band at the decode position: 0, or the cause. -/
def bandCause (st : Stream) (b : List Byte) : Nat :=
  let w := fun o n => leNum ((b.drop o).take n)
  let count := if w 2 1 % 64 = 0 then 64 else w 2 1 % 64
  let total := st.layoutEnd - st.firstFire
  let want := min (total - st.nextLine) (64 - (st.firstFire + st.nextLine) % 64)
  let last := st.nextLine + want == total
  if w 0 2 ≠ 0x5ABD ∨ 64 ≤ w 2 1 ∨ 2 ≤ w 3 1 then 6
  else if w 4 4 ≠ st.band ∨ w 12 4 ≠ st.nextLine ∨ count ≠ want ∨ w 3 1 ≠ b2n last then 7
  else if w 8 4 = 0 ∨ 16 + count * 2079 < w 8 4 then 8
  else 0

/-- R119: take the band header at the decode position. -/
def takeBand (st : Stream) (b : List Byte) : Stream :=
  let w := fun o n => leNum ((b.drop o).take n)
  { st with
    bandLeft := (if w 2 1 % 64 = 0 then 64 else w 2 1 % 64)
    bandStart := st.pos, bandBytes := w 8 4, top := max st.top (st.pos + w 8 4), pos := st.pos + 16, ref := [], repeatLeft := 0
    lastEnd := if w 3 1 = 1 then some (st.pos + w 8 4) else st.lastEnd
    bandAt := kput st.band st.pos st.bandAt }

/-- Decode the next line of a stream whose band is open: the line and the bytes used; `repeats` more lines follow. -/
def decodeLine (st : Stream) (s : State) : Decoded × Nat :=
  if 0 < st.repeatLeft then (.ok st.refLine 0, st.repeatLeft - 1)
  else
    match streamBytesAt st st.pos (min 2080 (st.delivered - st.pos)) s with
    | [] => (.short, 0)
    | b :: bs =>
      let x := b.toNat
      let room := st.bandStart + st.bandBytes - st.pos
      if x / 64 = 0 then
        let n := if x % 64 = 0 then 64 else x % 64
        if st.bandLeft < n then (.bad 0x0A, 0) else (.ok st.refLine 1, n - 1)
      else if x % 64 ≠ 0 ∨ (x / 64 = 2 ∧ st.version = 1) then (.bad 0x09, 0)
      else if x / 64 = 3 then
        if bs.length < 2048 then (.short, 0) else (.ok ((bs.take 2048).flatMap dotsOf) 2049, 0)
      else
        match decodeTokens 512 bs 1 room 0 [] with
        | .ok d used => (.ok (if x / 64 = 2 then xorDots st.refLine d else d) used, 0)
        | r => (r, 0)

/-- The outcome of taking one line from a stream: not delivered, an error, or the stream after it and the dots. -/
inductive NextLine where
  | wait
  | error (cause : Nat)
  | line (st : Stream) (dots : List Nat)
  deriving DecidableEq, Repr

/-- R131: take the next line of a stream, its band header first where a band starts. A band whose BAND_SIZE is found wrong (R125) at
its end fails with its last line, which is not output: the manual does not say that the error lies in that line (DESIGN CHOICE,
log entry 187). -/
def nextLine (st : Stream) (s : State) : NextLine :=
  let opened : Option Stream × Nat :=
    if 0 < st.bandLeft then (some st, 0)
    else if st.delivered < st.pos + 16 then (none, 0)
    else
      let b := streamBytesAt st st.pos 16 s
      let c := bandCause st b
      if c = 0 then (some (takeBand st b), 0) else (none, c)
  match opened with
  | (none, 0) => .wait
  | (none, c) => .error c
  | (some st, _) =>
    match decodeLine st s with
    | (.short, _) => .wait
    | (.bad c, _) => .error c
    | (.ok d used, more) =>
      let st' := { st with
        pos := st.pos + used, ref := d, repeatLeft := more, bandLeft := st.bandLeft - 1
        nextLine := st.nextLine + 1, decoded := max st.decoded (st.nextLine + 1)
        band := if st.bandLeft = 1 then st.band + 1 else st.band }
      if st.bandLeft = 1 ∧ st'.pos ≠ st.bandStart + st.bandBytes then .error 8 else .line st' d

/-! ### Engines (R131) -/

/-- R36: the line tokens a head holds: decoding, in the lead, committed or awaiting acknowledgement. -/
def tokensOf (h : Nat) (s : State) : Nat :=
  let l := vgetN s.comp.lanes h
  l.input.length + l.lead.length + (vgetN s.plat.heads h).unacked.length

/-- R131, R130, R147: the stream's lines are permitted: its forme is ARMED or PRINTING, or a restart decodes again what
a later state still needs; a FAULTED forme's other streams go on (log entry 9). -/
def permitted (st : Stream) (s : State) : Bool :=
  (!st.failed || decide (st.nextLine < st.failAt)) && st.headerOk &&
    (if st.context then
      let c := formeOf st.forme s
      match c.state with
      | .armed | .printing | .printed => true
      | .faulted => c.fromArmed || c.fromPrinting
      | _ => false
     else true)

/-- R132: the stream a head decodes: the earliest with lines left. -/
def decodeStream (h : Nat) (s : State) : Option Stream :=
  (s.gal.streams.filter fun st => st.head == h && decide (st.firstFire + st.nextLine < st.endFire)).foldl
    (fun b st => match b with
      | none => some st
      | some t => if st.firstFire < t.firstFire then some st else some t) none

/-- The next fire line of a lane: the one after the last composed, but never behind the high-water line outside a
restart (log entry 12). -/
def nextFire (h : Nat) (s : State) : Nat :=
  let l := vgetN s.comp.lanes h
  if l.restart then l.next else max l.next (s.web.hwl + 1)

/-- R131, R132, R156: the line is the head's next: the lane has every fire line before it, so that tokens are taken in
fire-line order (log entry 20). -/
def lineDue (st : Stream) (s : State) : Bool :=
  decide (st.firstFire + st.nextLine ≤ nextFire st.head s + (vgetN s.comp.lanes st.head).input.length)

/-- R131: the head has a line both delivered and permitted. -/
def readyLine (h : Nat) (s : State) : Option (Stream × NextLine) :=
  match decodeStream h s with
  | none => none
  | some st =>
    if permitted st s ∧ lineDue st s ∧ tokensOf h s < 32 then
      match nextLine st s with
      | .wait => none
      | r => some (st, r)
    else none

/-- A stream after a line: its decoding goes on, its blocks and its binding stay. -/
def putStream (old new : Stream) (s : State) : State :=
  modSame old (fun st => { new with blocks := st.blocks, bound := st.bound }) s

/-- R130 steps 3 and 4: the blocks an engine has read from, and passed. -/
def passBlocks (st : Stream) (s : State) : State :=
  let last := decide (st.endFire ≤ st.firstFire + st.nextLine)
  let touched := fun b : Block => !st.bandAt.isEmpty && decide (b.order * 65536 < st.pos)
  let passed := fun b : Block => decide ((b.order + 1) * 65536 ≤ st.pos) || (last && touched b)
  let dest := fun b : Block => if b.holder == .filled && touched b && !passed b then BlockHolder.decoding
    else if (b.holder == .filled || b.holder == .decoding) && passed b then .retained else b.holder
  let s := eachDo (st.blocks.filter fun b => dest b != b.holder) (fun b s => moveLedger 1 b.holder.code (dest b).code 1 s) s
  modSame st (fun t => { t with blocks := t.blocks.map fun b => { b with holder := dest b } }) s

/-- R135: the engine's status word. -/
def engineDone (e : Nat) (st : Stream) (s : State) : State :=
  { s with gal := { s.gal with engines := vmodN s.gal.engines e fun g =>
      { slot := st.head / 8, forme := st.forme, lines := wrapTo 16 (g.lines + 1) } } }

/-- A decoded line passes to its lane, with a token of ledger 3 (R131). -/
def outputLine (st : Stream) (dots : List Nat) (s : State) : State :=
  let line := st.firstFire + st.nextLine
  let d : DecodedLine := ⟨line, st.forme, st.nextLine, dots⟩
  let s := { s with comp := { s.comp with lanes := vmodN s.comp.lanes st.head fun l => { l with input := l.input ++ [d] } } }
  moveLedger 3 0 1 1 s

/-- R131: one line of head `h` decoded by engine `e`. -/
def decodeHead (e h : Nat) (s : State) : State :=
  match readyLine h s with
  | none => s
  | some (st, .line st' dots) =>
    let s := withDemotion h (fun s => passBlocks { st' with blocks := st.blocks } (putStream st st' s)) s
    let s := engineDone e st' (outputLine st dots s)
    let s := if st.context then s.setO (OD.DECODED_LINES st.forme h) st'.decoded else s
    let s := if st'.nextLine + st'.firstFire = st'.endFire then checkTrailing st.forme h s else s
    currentCheck h (underrunCheck h (releaseBlocks h s))
  | some (st, .error c) => streamError st c false s
  | some (_, .wait) => s

/-- R131: the engine's head with the smallest lead, ties going to the lowest number. -/
def pickHead (e : Nat) (s : State) : Option Nat :=
  ([e, e + 8, e + 16].filter fun h => (readyLine h s).isSome).foldl (fun b h =>
    match b with
    | none => some h
    | some g => if (vgetN s.comp.lanes h).lead.length < (vgetN s.comp.lanes g).lead.length then some h else some g) none

/-- LINE_DECODE (R131). -/
def execLineDecode (engine : Fin 8) (s : State) : Host.Outcome State Fault Refusal :=
  .next (whenDo (lineOn s) (fun s =>
    match pickHead engine s with
      | some h => decodeHead engine h s
      | none => s) s)

/-! ### Restart (R135) -/

/-- A stream set back to the header of the band that holds fire line `line`, or of its first band. -/
def Stream.rewind (st : Stream) (line : Nat) : Stream :=
  let b := line / 64 - st.firstFire / 64
  let y := (st.firstFire / 64 + b) * 64 - st.firstFire
  if st.firstFire + st.nextLine ≤ line then st
  else { st with
    pos := if b = 0 then 32 else kget (fun _ => st.pos) st.bandAt b
    ref := [], band := b, bandLeft := 0, repeatLeft := 0, nextLine := if b = 0 then 0 else y }

/-- R135: the platen names the restart band that starts at fire line `line`: the head's lines in GAL decoding are
discarded, and every stream of the head that reaches past it starts again at that band. R134: the bytes ahead of the position grow
by it. -/
def galRestart (h line : Nat) (s : State) : State :=
  let n := (vgetN s.comp.lanes h).input.length
  let s := moveLedger 3 1 0 n s
  let s := { s with comp := { s.comp with lanes := vmodN s.comp.lanes h fun l => { l with input := [] } } }
  let s := { s with gal := { s.gal with streams := (lmod (fun st => st.head == h && st.headerOk)
      (fun st => st.rewind line) s.gal.streams) } }
  underrunCheck h (raise EV.GAL_RESTART h s)

end Sys2Proof.Machine
end

