-- ==== Sys2Proof/Machine/Imposition.lean ====
section
/-! DEFINITION. Machine/Imposition.lean: submit, arming, the states of a forme and its end (R139 to R147). -/

namespace Sys2Proof.Machine

/-- R60: PRINT_ENABLE and MOTION_ENABLE of PRESS_CONTROL. -/
def printEnable (s : State) : Bool := bit (s.o OD.PRESS_CONTROL) 0
def holdRequest (s : State) : Bool := bit (s.o OD.PRESS_CONTROL) 1
def motionEnable (s : State) : Bool := bit (s.o OD.PRESS_CONTROL) 2

/-! ### Causes of a hold, and the head ports (R225, R256) -/

/-- The causes of R225 by bit. -/
def causeLead : Nat := 0
def causeRequest : Nat := 1
def causeEnable : Nat := 2
def causeOverspeed : Nat := 3
def causeLag : Nat := 4
def causeTempHard : Nat := 5
def causeTorn : Nat := 6
def causeLink : Nat := 7
def causeLedger : Nat := 8
def causeAbort : Nat := 9
def causeExternal : Nat := 10

/-- R225, R226: take a cause that acts from LOC `acts` on; while a hold is in force it joins the cause word. -/
def takeFrom (acts b head : Nat) (s : State) : State :=
  if s.plat.held then
    { s with plat := { s.plat with cause := setBit s.plat.cause b true, causeLoc := s.loc + 1 } }
  else { s with plat := { s.plat with taken := s.plat.taken ++ [⟨b, head, acts⟩] } }

/-- R225: take a cause: it acts at the first boundary of a later cycle. -/
def takeCause (b head : Nat) (s : State) : State := takeFrom (s.loc + 1) b head s

/-- A head port. -/
def portOf (h : Nat) (s : State) : Port := vgetN s.ports h

/-- Change a port. -/
def modPort (h : Nat) (g : Port → Port) (s : State) : State := { s with ports := vmodN s.ports h g }

/-- A forme with a stream for the head is ARMED or PRINTING (R250, R256, R260, R262). -/
def headActive (h : Nat) (s : State) : Bool :=
  !(formesOn h (fun st => st == .armed || st == .printing) s).isEmpty

/-- R256: an enabled port that is not READY reports LINK while a forme with a stream for its head is ARMED or
PRINTING. -/
def linkCheck (h : Nat) (s : State) : State :=
  let p := portOf h s
  if p.state ≠ .ready ∧ p.state ≠ .disabled ∧ headActive h s ∧ ¬ p.linkCause then
    takeCause causeLink h (modPort h (fun p => { p with linkCause := true }) s)
  else s

/-- R256 for every port. -/
def linkChecks (s : State) : State := eachDo (List.range 24) linkCheck s

/-! ### Arming (R140, R142) -/

/-- R142: arming is permitted. -/
def armingPermitted (s : State) : Bool := s.net.al == .op && printEnable s && !s.dev.ledgerHalt

/-- R140: the high-water line has reached START − ARM_LEAD. -/
def armingReached (f : Nat) (s : State) : Bool := decide (s.o (OD.FORME_START f) ≤ s.web.hwl + s.o OD.ARM_LEAD)

/-- R140: READY to ARMED; its lines become permitted (R131), and its heads' links count (R256). -/
def armForme (f : Nat) (s : State) : State :=
  linkChecks <| headChecks (formeEvent EV.IMP_FORME_ARMED f f (setForme f .armed s))

/-- R140: every stream has a valid header, and is ended or long enough. -/
def formeFilled (f : Nat) (s : State) : Bool :=
  (List.range 24).all fun h => !hasHead f h s ||
    (match streamOf f h s with
     | some st => st.headerOk && !st.failed && (st.ended || decide (s.o OD.READY_BLOCKS * 65536 ≤ st.delivered))
     | none => false)

/-- R140, R141: LOADING to READY, and on to ARMED when the arming line has been crossed. -/
def readyCheck (f : Nat) (s : State) : State :=
  if (formeOf f s).state = .loading ∧ formeFilled f s then
    let s := formeEvent EV.IMP_FORME_READY f f (setForme f .ready s)
    if armingReached f s ∧ armingPermitted s then armForme f s else s
  else s

/-- R140: every END has completed and the high-water line has passed the last fire line on every head (log entry 10). A forme that
an ABORT ends stays PRINTING until it retires (R147). -/
def printedCheck (f : Nat) (s : State) : State :=
  if (formeOf f s).state = .printing ∧ ¬ (formeOf f s).aborting ∧ ((List.range 24).all fun h => !hasHead f h s ||
      (decide (endFireOf f h s ≤ s.web.hwl) && (match streamOf f h s with
        | some st => st.ended
        | none => false))) then
    headChecks (formeEvent EV.IMP_FORME_PRINTED f f (setForme f .printed s))
  else s

/-- A ring with a descriptor started for the pair (R141). -/
def inProgress (f h : Nat) (s : State) : Bool :=
  (List.range 4).any fun i => match (ringOf (4 * h + i) s).xfer with
    | some x => x.started && x.desc.op == 1 && x.desc.forme == f && !x.orphan
    | none => false

/-- R119: the stream offset at which the band `k` bands behind offset `off` begins, or at which the LAST band ends, by the headers that
are delivered. -/
def bandWalk (st : Stream) (s : State) : Nat → Nat → Option Nat
  | 0, off => some off
  | k + 1, off =>
    if st.delivered < off + 16 then none
    else
      let n := leNum (streamBytesAt st (off + 8) 4 s)
      if n < 16 then none
      else if bit (streamByte st s (off + 3)).toNat 0 then some (off + n)
      else bandWalk st s k (off + n)

/-- R119, R135: the stream offset at which band `n` begins, also of a band that has not been opened yet. -/
def bandOffset (st : Stream) (n : Nat) (s : State) : Option Nat :=
  let known := st.bandAt.foldl (fun m kv => max m (kv.1 + 1)) 0
  if n < known then some (kget (fun _ => 0) st.bandAt n)
  else match st.lastEnd with
    | some e => some e
    | none => bandWalk st s (n - known) (if known = 0 then 32 else st.top)

/-- R130: the block holds a byte of a band that a restart of its head may decode again, when the forme ends before fire
line `stop` on the head: of a band at or above the lower restart band, whether it has been opened or not. -/
def blockNeeded (st : Stream) (stop : Nat) (s : State) (b : Block) : Bool :=
  let last := min stop st.endFire
  let ends := match bandOffset st ((last - 1) / 64 - st.firstFire / 64 + 1) s with
    | some high => decide (b.order * 65536 < high)
    | none => true
  st.headerOk && decide (st.firstFire < last) && decide (lowerLine st.head s < last) &&
    decide (releaseLimit st s < (b.order + 1) * 65536) && ends

/-- R130, R146: one stream of a retiring forme gives up its blocks; what a restart needs is kept for the head. -/
def retireStream (f h stop : Nat) (s : State) : State :=
  match streamOf f h s with
  | none => s
  | some st =>
    let busy := inProgress f h s
    let needed := blockNeeded st stop s
    let keep := fun b : Block => needed b && !(busy && b.holder == .filling)
    let s := eachDo (st.blocks.filter fun b => keep b && b.holder != .retained)
      (fun b s => moveLedger 1 b.holder.code 4 1 s) s
    let s := eachDo (st.blocks.filter fun b => !keep b && !(busy && b.holder == .filling))
      (fun b s => moveLedger 1 b.holder.code 0 1 s) s
    let s := { s with gal := { s.gal with streams := ((lmod (fun t => t.forme == f && t.head == h && t.context)
        (fun t => { t with
          context := false, bound := none, endFire := min t.endFire stop
          blocks := (t.blocks.filter fun b => keep b || (busy && b.holder == .filling)).map fun b =>
            if keep b then { b with holder := .retained } else b }) s.gal.streams).filter
        fun t => t.context || !t.blocks.isEmpty || t.forme != f || t.head != h) } }
    let n := ((vgetN s.comp.lanes h).input.filter fun d => d.forme == f && decide (stop ≤ d.line)).length
    let s := moveLedger 3 1 0 n s
    { s with comp := { s.comp with lanes := vmodN s.comp.lanes h fun l =>
        { l with input := l.input.filter fun d => !(d.forme == f && decide (stop ≤ d.line)) } } }

/-- R141, R146: what becomes of a ring's descriptor when its forme retires: one in progress runs on without a context; one
that is fetched and still waits to start is let go, and is fetched and checked again (DESIGN CHOICE, log entry 163). -/
def Ring.orphaned (f : Nat) (r : Ring) : Ring :=
  match r.xfer with
  | some x =>
    if x.desc.op = 1 ∧ x.desc.forme = f then
      if x.started then { r with xfer := some { x with orphan := true } }
      else { r with xfer := none, poolWait := false }
    else r
  | none => r

/-- R141: the rings that carry a descriptor of the forme lose their context. -/
def orphanRings (f : Nat) (s : State) : State := { s with rings := s.rings.map (Ring.orphaned f) }

/-- R140, R146: the context enters RETIRED with everything returned; `stop` is the forme's end line on a head. -/
def retireForme (f source : Nat) (stop : Nat → Nat) (s : State) : State :=
  let s := eachDo (List.range 24) (fun h s => retireStream f h (stop h) s) s
  let s := orphanRings f s
  let s := modForme f (fun c => { c with aborting := false }) (setForme f .retired s)
  headChecks (formeEvent EV.IMP_FORME_RETIRED (256 * source + f) f s)

/-- R140: PRINTED to RETIRED, once no block is held and no line awaits acknowledgement. -/
def retiredCheck (f : Nat) (s : State) : State :=
  if (formeOf f s).state = .printed ∧ ((List.range 24).all fun h => !hasHead f h s ||
      (decide (endFireOf f h s ≤ lowestUnacked h s) && (match streamOf f h s with
        | some st => st.blocks.isEmpty
        | none => true))) then
    retireForme f 0 (fun h => endFireOf f h s) s
  else s

/-- The checks that follow a completed descriptor, an acknowledged slot or a boundary (R140). -/
def formeChecks (f : Nat) (s : State) : State := retiredCheck f (printedCheck f (readyCheck f s))

/-- R140 for every forme. -/
def allFormeChecks (s : State) : State := eachDo (List.range 256) formeChecks s

/-- R141, R145: at the end of a cycle, IMP_LATE_DATA of a forme whose arming line was crossed in it and that is LOADING
still. -/
def lateNotices (s : State) : State :=
  eachDo (formesWith (·.lateDue) s) (fun f s =>
    if (formeOf f s).state = .loading then
      formeNotice EV.IMP_LATE_DATA f f (modForme f (fun c => { c with lateDue := false, lateRaised := true }) s)
    else modForme f (fun c => { c with lateDue := false }) s) s

/-- R142, R145: what a line boundary does in IMP. -/
def impBoundary (s : State) : State :=
  eachDo (List.range 256) (fun f s =>
    match (formeOf f s).state with
    | .ready => if armingReached f s ∧ armingPermitted s then armForme f s else s
    | .loading =>
      if armingReached f s ∧ ¬ (formeOf f s).lateRaised then
        modForme f (fun c => { c with lateDue := true }) s
      else s
    | .printing => printedCheck f s
    | .printed => retiredCheck f s
    | _ => s) s

/-! ### Submit (R139) -/

/-- R139: the states whose fire windows a submit may not overlap. -/
def FormeState.occupies : FormeState → Bool
  | .loading | .ready | .armed | .printing | .printed => true
  | _ => false

/-- R139, check 6. -/
def overlaps (f : Nat) (s : State) : Bool :=
  (formesWith (fun c => c.state.occupies) s).any fun g => g != f && (List.range 24).any fun h =>
    hasHead f h s && hasHead g h s && decide (firstFireOf f h s < endFireOf g h s) &&
      decide (firstFireOf g h s < endFireOf f h s)

/-- R139: the cause of the first check that fails; 0 = submit passes. -/
def submitCause (f : Nat) (s : State) : Nat :=
  let st := (formeOf f s).state
  let heads := (List.range 24).filter fun h => hasHead f h s
  if st ≠ .empty ∧ st ≠ .retired then 1
  else if s.o (OD.FORME_LENGTH f) = 0 then 2
  else if s.o (OD.FORME_HEADS f) = 0 then 3
  else if heads.any (fun h => !populated (planeOf h) s) then 4
  else if heads.any (fun h => decide (firstFireOf f h s ≤ s.web.hwl)) then 5
  else if overlaps f s then 6
  else if 2 ^ 48 - 1 < s.o (OD.FORME_START f) + s.o (OD.FORME_LENGTH f) + 1087 then 7
  else 0

/-- R137: submit clears the read-only subindices 07 to 0A and 30 to 67. -/
def clearForme (f : Nat) (s : State) : State :=
  { s with od := s.od.filter fun kv => !(kv.1 / 256 == 0x3300 + f &&
      (0x07 ≤ kv.1 % 256 && kv.1 % 256 ≤ 0x0A || 0x30 ≤ kv.1 % 256)) }

/-- R139: the streams of a forme that enters LOADING. -/
def newStreams (f : Nat) (s : State) : List Stream :=
  ((List.range 24).filter fun h => hasHead f h s).map fun h =>
    { Stream.fresh f h with
      firstFire := firstFireOf f h s, endFire := endFireOf f h s, layoutEnd := endFireOf f h s
      heads := s.o (OD.FORME_HEADS f), offsets := (List.range 24).map fun i => s.o (OD.LINE_OFFSET f i) }

/-- SUBMIT (R139): the abort code and the state after it. -/
def submitForme (f : Nat) (s : State) : Nat × State :=
  let c := submitCause f s
  if c = 0 then
    let s := clearForme f s
    let s := modForme f (fun _ => { Forme.reset with state := (formeOf f s).state }) s
    (AB.ok, setForme f .loading { s with gal := { s.gal with streams := s.gal.streams ++ newStreams f s } })
  else
    let s := s.setO (OD.FORME_CAUSE f) (0x100 + c)
    (AB.store, if c = 2 then formeEvent EV.IMP_FORME_EMPTY f f s
      else formeNotice EV.IMP_SUBMIT_REFUSED (256 * c + f) f s)

/-! ### Abort (R146, R147) -/

/-- R141: the boundary of this cycle commits the forme's next line on some head. -/
def commitDue (f : Nat) (s : State) : Bool :=
  boundaryDue s && (List.range 24).any fun h => match streamAt h (s.web.hwl + 1) s with
    | some st => st.context && st.forme == f
    | none => false

/-- R141, R147: the forme counts as printing for an ABORT. -/
def printsForAbort (f : Nat) (s : State) : Bool :=
  let c := formeOf f s
  c.state == .printing || (c.state == .faulted && c.fromPrinting) || (c.state == .armed && commitDue f s)

/-- FORME_CAUSE of an ABORT (R136): source 3, and of a FAULTED forme the cause code that FORME_CAUSE holds, be it a refused
submit's (DESIGN CHOICE, log entry 166). -/
def abortCause (f : Nat) (s : State) : State :=
  s.setO (OD.FORME_CAUSE f) (0x300 + (if (formeOf f s).state = .faulted then s.o (OD.FORME_CAUSE f) % 256 else 0))

/-- R147: the forme ends at the held line; FORME_CAUSE takes source 3 then and not before (DESIGN CHOICE, log entry 165). -/
def abortAt (f line : Nat) (s : State) : State :=
  let s := (abortCause f s).setO (OD.FORME_LAST_LINE f) line
  checkLedgers 3 (s.web.hwl / 64) (retireForme f 3 (fun h => min line (endFireOf f h s)) s)

/-- ABORT (R146, R147): the abort code and the state after it. -/
def abortForme (f : Nat) (s : State) : Nat × State :=
  match (formeOf f s).state with
  | .empty | .retired => (AB.state, s)
  | st =>
    if printsForAbort f s then
      if s.plat.held then (AB.ok, abortAt f (s.o OD.HELD_LINE) s)
      else (AB.ok, modForme f (fun c => { c with aborting := true }) s)
    else
      let s := abortCause f s
      let reached := fun h => if s.plat.held then s.o OD.HELD_LINE else (vgetN s.plat.heads h).nextSlot
      let s := retireForme f 3 (fun h => if st = .printed then endFireOf f h s else min (endFireOf f h s) (reached h)) s
      (AB.ok, checkLedgers 3 (s.web.hwl / 64) s)

/-- R144: the first line of head `h` that a forward step from `hwlBefore` passes uncommitted. -/
def firstPassed (h hwlBefore : Nat) (s : State) : Nat := max (hwlBefore + 1) (vgetN s.plat.heads h).nextSlot

/-- R144: a forward step carries the high-water line over fire lines of an armed forme; a line that the head has committed before,
above a held line, does not count. -/
def skipLines (hwlBefore hwlAfter : Nat) (s : State) : State :=
  eachDo (List.range 256) (fun f s =>
    if (formeOf f s).state = .armed ∨ (formeOf f s).state = .printing then
      s.bumpN (OD.FORME_SKIPPED f) (((List.range 24).map fun h =>
        if hasHead f h s then min (endFireOf f h s) (hwlAfter + 1) - max (firstFireOf f h s) (firstPassed h hwlBefore s)
        else 0).foldl (· + ·) 0)
    else s) s

end Sys2Proof.Machine
end

