-- ==== Sys2Proof/Machine/Journal.lean ====
section
/-! DEFINITION. Machine/Journal.lean: the Tympan journal (R395 to R400): records committed, replay, compaction. The answer
that a commit gives to an object request is in Machine/ObjectServer.lean. -/

namespace Sys2Proof.Machine

/-- Update the journal. -/
def modTymp (f : Tymp → Tymp) (s : State) : State := { s with tymp := f s.tymp }

/-- R434, R439: the counter object of a party: 1 line, 2 host. -/
def counterKey (party : Nat) : Nat := if party = 1 then OD.COUNTER_LINE else OD.COUNTER_HOST

/-- The object is a DOMAIN. -/
def isDomain (key : Nat) : Bool :=
  match objRow key with
  | some r => (match r.ty with
    | .dom _ => true
    | _ => false)
  | none => false

/-- Put object values into a store of committed values. -/
def putValues (vs : List (Nat × Nat)) (m : SMap) : SMap := vs.foldl (fun m kv => kset dfltOf kv.1 kv.2 m) m

/-- Put DOMAIN bytes into a store of committed bytes. -/
def putBytes (key : Nat) (d : List Byte) (m : SMap) : SMap :=
  (d.mapIdx fun i b => (key * 2 ^ 24 + i, b.toNat)).foldl (fun m kv => kset domDflt kv.1 kv.2 m) m

/-- R397: what a complete record makes of the journal's values: a later record of a key overrides an earlier one. -/
def applyRecord (p : JPayload) (t : Tymp) : Tymp :=
  match p with
  | .objects _ vs => { t with
      objs := putValues (vs.filter fun kv => !isDomain kv.1) t.objs
      doms := (vs.filter fun kv => isDomain kv.1).foldl (fun m kv => putBytes kv.1 (leBytes (bytesOf kv.1) kv.2) m) t.doms }
  | .boot vs => { t with objs := putValues vs t.objs }
  | .nozzles es => { t with noz := es.foldl (fun m kv => kset entryDflt kv.1 kv.2 m) t.noz }
  | .bytes key d => { t with doms := putBytes key d t.doms }
  | .error ev loc param cause => { t with errors := (ev, loc, param, cause) :: t.errors.filter fun e => e.1 != ev }
  | .consent party n => { t with objs := kset dfltOf (counterKey party) n t.objs }

/-! ### Bytes (R395, R396) -/

/-- R396: TYPE of a record. -/
def recordType : JPayload → Byte
  | .objects .. | .bytes _ _ => 1
  | .nozzles _ => 2
  | .boot _ => 3
  | .error .. => 4
  | .consent _ _ => 5

/-- R396: KEY of a record. The OBJECT record of a complete access names the first subindex that it holds. -/
def recordKey : JPayload → Nat
  | .objects complete vs => ((vs.head?.map (·.1)).getD 0) * 256 + b2n complete
  | .bytes key _ => key * 256
  | .nozzles es => (es.head?.map (·.1)).getD 0
  | .boot _ => 0
  | .error ev .. => ev
  | .consent party _ => party

/-- R396: PAYLOAD of a record. -/
def recordPayload : JPayload → List Byte
  | .objects _ vs => vs.flatMap fun kv => leBytes (bytesOf kv.1) kv.2
  | .bytes _ d => d
  | .nozzles es => es.flatMap fun kv => leBytes 4 kv.2
  | .boot vs => vs.flatMap fun kv => leBytes 1 kv.2
  | .error _ loc param cause => leBytes 8 loc ++ leBytes 2 param ++ leBytes 2 cause
  | .consent _ n => leBytes 8 n

/-- R396: a complete record. -/
def journalRecord (seq : Nat) (p : JPayload) : List Byte :=
  let body := [0xA5#8, recordType p] ++ leBytes 2 (recordPayload p).length ++ leBytes 4 seq ++ leBytes 4 (recordKey p) ++
    leBytes 4 0 ++ recordPayload p
  let body := body ++ List.replicate (recordSize p - 8 - body.length) 0
  body ++ leBytes 4 (crc32 body) ++ leBytes 4 0

/-- R396: entries by table index as the records that carry them: runs of consecutive indices, 1,024 at most. -/
def nozzleRuns : List (Nat × Nat) → List (List (Nat × Nat))
  | [] => []
  | e :: es => match nozzleRuns es with
    | (f :: fs) :: rs => if f.1 = e.1 + 1 ∧ fs.length < 1023 then (e :: f :: fs) :: rs else [e] :: (f :: fs) :: rs
    | rs => [e] :: rs

/-- R388: the objects that a BOOT record carries. -/
def bootKeys : List Nat :=
  [OD.FAILED_STARTS, OD.ACTIVE_SLOT, OD.TRIAL, OD.START_CAUSE 0, OD.START_CAUSE 1, OD.START_CAUSE 2]

/-- R398 step 2: the live state as the records of an image. -/
def liveRecords (t : Tymp) : List JPayload :=
  let counters := [OD.COUNTER_LINE, OD.COUNTER_HOST]
  let own := t.objs.filter fun kv => !bootKeys.contains kv.1 && !counters.contains kv.1
  let doms := (t.doms.map fun kv => kv.1 / 2 ^ 24).eraseDups
  own.map (fun kv => .objects false [kv]) ++ [.boot (bootKeys.map fun k => (k, kget dfltOf t.objs k))] ++
    ([1, 2].filterMap fun p => (t.objs.find? fun kv => kv.1 == counterKey p).map fun kv => .consent p kv.2) ++
    (nozzleRuns t.noz).map .nozzles ++
    doms.map (fun k => .bytes k ((List.range (bytesOf k)).map fun i => BitVec.ofNat 8 (kget domDflt t.doms (k * 2 ^ 24 + i)))) ++
    t.errors.map fun e => .error e.1 e.2.1 e.2.2.1 e.2.2.2

/-- Put a numbered record among others by its place. -/
def insertPlace (r : Nat × JPayload) : List (Nat × JPayload) → List (Nat × JPayload)
  | [] => [r]
  | q :: qs => if Config.imagePlace r.1 < Config.imagePlace q.1 then r :: q :: qs else q :: insertPlace r qs

/-- R395, R398: the image records, whose order and SEQ are open (log entry 3). -/
def imageRecords (t : Tymp) : List Byte :=
  let placed := ((liveRecords t).mapIdx fun i p => (i, p)).foldl (fun rs r => insertPlace r rs) []
  (placed.mapIdx fun i r => journalRecord (wrapTo 32 (Config.imageSeq i)) r.2).flatten

/-- R395: a pair header. -/
def pairHeader (generation snapshotSeq : Nat) (active : Bool) (image : List Byte) : List Byte :=
  let h := [0x54#8, 0x59#8, 0x4D#8, 0x50#8, 1#8, 0#8, 0#8, 0#8] ++ leBytes 4 generation ++ leBytes 4 image.length ++
    leBytes 4 (crc32 image) ++ leBytes 4 snapshotSeq
  h ++ leBytes 4 (crc32 h) ++ leBytes 4 (if active then 0 else 0xFFFFFFFF)

/-- LOG_FILL in percent (R401); a corrupt journal has no log. -/
def logFill (s : State) : Nat := if s.tymp.state = 4 then 0 else s.tymp.logBytes * 100 / logSector

/-- R395, R398: the GENERATION after `g`, a field from 1 to 0xFFFF_FFFE; behind the last it begins anew (DESIGN CHOICE, log entry 226). -/
def nextGeneration (g : Nat) : Nat := if 0xFFFFFFFE ≤ g then 1 else g + 1

/-- R401: the count of the compaction in progress, which its image holds (log entry 226). -/
def countCompaction (s : State) : Tymp :=
  { s.tymp with objs := putValues [(OD.COMPACTIONS, (s.bump OD.COMPACTIONS).o OD.COMPACTIONS)] s.tymp.objs }

/-- R398: compaction starts: the spare pair is erased, and the snapshot is at the last record: the live state goes to image records. -/
def startCompaction (s : State) : State :=
  if s.tymp.state = 2 then s
  else raise EV.TYMP_COMPACTION_START (nextGeneration s.tymp.generation) (modTymp (fun t => { t with
    state := 2, snapBytes := 0, snapSeq := t.seq, spare := none, newImage := imageRecords (countCompaction s) }) s)

/-- R398: compaction starts at a log 75 % full. -/
def compactionCheck (s : State) : State :=
  if s.tymp.state = 1 ∧ 3 * logSector ≤ 4 * s.tymp.logBytes then startCompaction s else s

/-- R396: the records whose COMMIT words are outstanding are completed, oldest first; nothing that waits for them is answered. -/
def completeOpen (s : State) : State :=
  if s.tymp.state = 0 ∨ s.tymp.state = 4 then s
  else modTymp (fun t => t.open_.foldl (fun t r => applyRecord r.payload t) { t with open_ := [] }) s

/-- Write a record and program its COMMIT word at once, behind those of the records before it: the ROM's own records (R388, R390). While
no append is accepted it waits (R397). Before the replay, what a reset has left open is a torn tail, which nothing completes (log entry
225). -/
def journalNow (p : JPayload) (s : State) : State :=
  let s := completeOpen s
  if ¬ journalRoom p s then s
  else if s.tymp.blocked then openRecord p .nothing s
  else compactionCheck (modTymp (fun t => { applyRecord p t with
    seq := wrapTo 32 (t.seq + 1), logBytes := t.logBytes + recordSize p, snapBytes := t.snapBytes + recordSize p }) s)

/-- R399: a class J write finds no room. -/
def journalRefused (s : State) : State :=
  let s := s.bump OD.REFUSED_WRITES
  if s.tymp.state = 4 ∨ s.tymp.fullRaised then s
  else raise EV.TYMP_FULL 0 (modTymp (fun t => { t with fullRaised := true }) s)

/-- R399, R401: JOURNAL_STATE: FULL from the write refused for want of room to the switch-over. -/
def journalState (s : State) : Nat := if s.tymp.fullRaised ∧ s.tymp.state ≠ 4 then 3 else s.tymp.state

/-- R397: class J values are restored from the journal; those with no record take their defaults. -/
def replay (s : State) : State :=
  { s with
    od := s.tymp.objs.foldl (fun m kv => kput kv.1 kv.2 m) (s.od.filter fun kv => clsOf kv.1 != .j)
    dom := s.tymp.doms.foldl (fun m kv => kput kv.1 kv.2 m) (s.dom.filter fun kv => clsOf (kv.1 / 2 ^ 24) != .j)
    comp := { s.comp with table := s.tymp.noz } }

/-- The pair in use. -/
def Tymp.inUse (t : Tymp) : TympPair :=
  { generation := t.generation, folded := t.folded, image := t.image, logBytes := t.logBytes, objs := t.objs, noz := t.noz, doms := t.doms,
    errors := t.errors }

/-- R398 steps 4 to 6: the switch-over: the pair just written is in use, with the records appended since the snapshot. The old pair is
erased in the background (step 7; `commitRecord`). JOURNAL_FORMAT leaves none, and its image is empty (R394). -/
def switchPair (s : State) : State :=
  let format := decide (s.tymp.generation = 0)
  let objs := if format then s.tymp.objs else (countCompaction s).objs
  modTymp (fun t => { t with
    objs := objs
    state := 1, pair := 1 - t.pair, generation := nextGeneration t.generation, logBytes := t.snapBytes, blocked := false
    folded := t.snapSeq, image := t.newImage, newImage := [], tailTorn := false
    spare := if format then none else some t.inUse
    stalled := [], fullRaised := false }) (if format then s else s.bump OD.COMPACTIONS)

/-- TYMP_COMPACTION_DONE (R398): the stalled writes are released into the new log. -/
def compactionDone (s : State) : State :=
  if s.tymp.state ≠ 2 then s
  else
    let waiting := s.tymp.stalled
    let s := eachDo waiting (fun r s => openRecord r.payload r.done s) (switchPair s)
    compactionCheck (raise EV.TYMP_COMPACTION_DONE s.tymp.generation s)

/-- R395: the pair that the device uses: of those written whose CRCs are correct the one of higher GENERATION. -/
def choosePair (ok : Vector Bool 2) (t : Tymp) : Option Nat :=
  let gen := fun n => if n = t.pair then some t.generation else t.spare.map (·.generation)
  let passes := fun n => vgetN ok n && (gen n).isSome
  if passes 0 ∧ (passes 1 → (gen 1).getD 0 < (gen 0).getD 0) then some 0 else if passes 1 then some 1 else none

/-- R395: pair `n` is in use from now on; the other does not pass. -/
def openPair (n : Nat) (t : Tymp) : Tymp :=
  if n = t.pair then t
  else match t.spare with
    | none => t
    | some p => { t with
        pair := n, spare := none, generation := p.generation, folded := p.folded, image := p.image, tailTorn := false, logBytes := p.logBytes, objs := p.objs
        noz := p.noz, doms := p.doms, errors := p.errors, open_ := [] }

/-- R397: a torn tail: the event, the count, and a compaction before any append. -/
def tornTail (s : State) : State :=
  let s := s.bump OD.TORN_TAILS
  let s := modTymp (fun t => { t with objs := putValues [(OD.TORN_TAILS, s.o OD.TORN_TAILS)] t.objs }) s
  startCompaction (raise EV.TYMP_TORN_TAIL 0 (modTymp (fun t => { t with blocked := true, tailTorn := true }) s))

/-- R394, R396: JOURNAL_FORMAT: an empty image of generation 1 in pair 0, and pair 1 erased. SEQ is never reused. -/
def formatJournal (s : State) : State :=
  let s := { s with tymp := { Tymp.reset with
    state := 2, generation := 0, pair := 1, seq := s.tymp.seq, snapSeq := s.tymp.seq } }
  raise EV.TYMP_COMPACTION_START 1 s

/-- R72, R111: the compacted image: header and image records of the live state at the last record. -/
def journalImageBytes (s : State) : List Byte :=
  let image := imageRecords s.tymp
  pairHeader s.tymp.generation s.tymp.seq true image ++ image

end Sys2Proof.Machine
end

