-- ==== Sys2Proof/Machine/Compositor.lean ====
section
/-! DEFINITION. Machine/Compositor.lean: the compositor lanes (R155 to R169) and the change log (R170 to R177). -/

namespace Sys2Proof.Machine

/-- Change a lane. -/
def modLane (h : Nat) (g : Lane → Lane) (s : State) : State :=
  { s with comp := { s.comp with lanes := vmodN s.comp.lanes h g } }

/-- A lane. -/
def laneOf (h : Nat) (s : State) : Lane := vgetN s.comp.lanes h

/-! ### The table in effect (R170) -/

/-- What an item makes of the entry of nozzle `n`. -/
def Item.apply (n : Nat) (old : Nat) : Item → Nat
  | .entry m v mask _ => if m = n then mergeBits old v (Nat.land mask printMask) else old
  | .page g first last es _ =>
    if n / 1024 = g ∧ first ≤ n % 1024 ∧ n % 1024 ≤ last then
      mergeBits old (es.getD (n % 1024 - first) 0x800) printMask
    else old
  | .rate _ _ => old

/-- R170: the entry of nozzle `n` at band `b`. -/
def entryAt (n b : Nat) (s : State) : Nat :=
  s.comp.items.foldl (fun e p => if p.immediate || decide (p.band ≤ b) then p.item.apply n e else e) (folded n s)

/-- R170: the rate class of a plane at band `b`. -/
def rateAt (plane b : Nat) (s : State) : Nat :=
  s.comp.items.foldl (fun c p =>
    match p.item with
    | .rate q cls => if q = plane ∧ (p.immediate || decide (p.band ≤ b)) then cls else c
    | _ => c) (vgetN s.comp.rate plane)

/-! ### Stages 2 to 5 of a line (R157 to R166) -/

/-- What the stages need to know of the line. -/
structure LineCtx where
  head : Nat
  forme : Nat
  w : Nat          -- fire line
  y : Nat          -- forme line
  heads : Nat      -- FORME_HEADS of its forme (R137)
  offsets : List Nat   -- LINE_OFFSET of its forme, by head (R137)
  deriving DecidableEq, Repr

/-- What the stages of a decoded line of head `h` need: its stream keeps what submit took (R137). -/
def lineCtx (h : Nat) (d : DecodedLine) (s : State) : LineCtx :=
  match streamAt h d.line s with
  | some st => ⟨h, d.forme, d.line, d.y, st.heads, st.offsets⟩
  | none => ⟨h, d.forme, d.line, d.y, 0, []⟩

/-- DITHER (R167). -/
def dither (i : Nat) (s : State) : Nat := s.dbyte OD.DITHER (i % 64)

/-- R157, R158: the mask bit of overlap `q` at offset `o` for forme line `y`. -/
def maskBit (q o y : Nat) (s : State) : Bool :=
  let phi := y / 2 % 64
  match s.o (OD.FRISKET_SELECT q) with
  | 0 => decide (o < dither (phi + 5 * o) s)
  | m => bit (s.dbyte (OD.FRISKET_MASK (m - 1)) (8 * o + phi / 8)) (phi % 8)

/-- R157: the head prints the dots of column `c` itself. -/
def keeps (x : LineCtx) (c : Nat) (s : State) : Bool :=
  match mateHead x.head c with
  | none => true
  | some m => if x.head < m then maskBit (overlapOf x.head) (c - 8128) x.y s else !maskBit (overlapOf m) c x.y s

/-- Stages 2 and 3 (R152, R157): the level of the nozzle known by column `c`, from the decoded dots. -/
def gridLevel (x : LineCtx) (dots : List Nat) (s : State) (c : Nat) : Nat :=
  let d := fun c => if keeps x c s then dots.getD c 0 else 0
  if coarse x.head s then (if c % 2 = 0 then max (d c) (d (c + 1)) else 0) else d c

/-- R160: a WEAK nozzle's dot is selected. -/
def weakSelected (h c w : Nat) (s : State) : Bool :=
  decide (dither (w / 2 + globalColumn h c + 32) s < s.o OD.WEAK_SHARE)

/-- R160: the dot of level `d` that the nozzle of column `c` gives away. -/
def givesAway (x : LineCtx) (e c : Nat) (s : State) : Bool :=
  entState e == 2 || (entState e == 1 && weakSelected x.head c x.w s)

/-- A receiver of a gift (R161). -/
inductive Receiver where
  | column (c : Nat)
  | partner (c : Nat)
  | mate
  deriving DecidableEq, Repr

/-- R161, R162: who receives a dot of level `d` from column `c`. A SUB_PATTERN of 7, which only a page can bring, has no
receiver (DESIGN CHOICE, log entry 167). -/
def receivers (x : LineCtx) (e c d : Nat) (half : Bool) (s : State) : List (Receiver × Nat) :=
  let step := if coarse x.head s then 2 else 1
  let left := if step ≤ c then c - step else c + step
  let right := if c + step ≤ 8191 then c + step else c - step
  let alt := if x.w / 2 % 2 = 0 then left else right
  match entPattern e with
  | 0 => []
  | 1 => if half ∧ ¬ coarse x.head s then [(.partner c, d)] else [(.column alt, d)]
  | 2 => [(.column alt, d)]
  | 3 => [(.column left, d)]
  | 4 => [(.column right, d)]
  | 5 => if left = right then [(.column left, d)]
    else [(.column left, (d + 1) / 2), (.column right, d / 2)].filter fun g => g.2 != 0
  | 6 => if (mateHead x.head c).isSome then [(.mate, d)] else [(.column alt, d)]
  | _ => []

/-- R151: the mate's fire line for the same forme line. -/
def mateLine (x : LineCtx) (m : Nat) : Nat := x.w + x.offsets.getD m 0 - x.offsets.getD x.head 0

/-- R162: a receiver takes the gift: it is neither DEAD nor MASKED. An OVERLAP gift whose mate's head has no stream in the
forme counts as taken by the mate's entry alone, although no lane prints it (DESIGN CHOICE, log entry 168). -/
def takesGift (x : LineCtx) (r : Receiver) (from_ : Nat) (s : State) : Bool :=
  let e := match r with
    | .column c => entryAt (nozzleAt x.head c x.w s) (x.w / 64) s
    | .partner c => entryAt (nozzleAt x.head c (x.w + 1) s) (x.w / 64) s
    | .mate =>
      match mateHead x.head from_ with
      | some m => entryAt (nozzleAt m (mateColumn x.head from_) (mateLine x m) s) (mateLine x m / 64) s
      | none => 0
  entState e < 2

/-- A gift: its donor's column, its receiver, its level, whether it is taken. -/
structure Gift where
  from_ : Nat
  dest : Receiver
  level : Nat
  taken : Bool
  deriving DecidableEq, Repr

/-- R162: every gift of a line; a pattern without receiver is a dropped gift (R164). -/
def giftsOf (x : LineCtx) (lv : List Nat) (half : Bool) (s : State) : List Gift :=
  (lv.mapIdx fun c d => (c, d)).flatMap fun (c, d) =>
    if d = 0 then [] else
      let e := entryAt (nozzleAt x.head c x.w s) (x.w / 64) s
      if givesAway x e c s then
        match receivers x e c d half s with
        | [] => [⟨c, .mate, d, false⟩]
        | rs => rs.map fun r => ⟨c, r.1, r.2, takesGift x r.1 c s⟩
      else []

/-- R163: the level that the mate's nozzle gives to column `c` under OVERLAP: the donor's entry and selection at its own
fire line, the dot from this head's own stream. -/
def mateGift (x : LineCtx) (dots : List Nat) (s : State) (c : Nat) : Nat :=
  match mateHead x.head c with
  | none => 0
  | some m =>
    if ¬ bit x.heads m then 0 else
    let w := mateLine x m
    let cm := mateColumn x.head c
    let mx : LineCtx := { x with head := m, w := w }
    let raw := fun c' => if keeps mx c' s then dots.getD (mateColumn m c') 0 else 0
    let d := if coarse m s then (if cm % 2 = 0 then max (raw cm) (raw (cm + 1)) else 0) else raw cm
    let e := entryAt (nozzleAt m cm w s) (w / 64) s
    if entPattern e = 6 ∧ givesAway mx e cm s then d else 0

/-- R166: density trim of a level. -/
def trimLevel (h c w e v : Nat) (s : State) : Nat :=
  let j : Int := dither (w / 2 + globalColumn h c) s
  let t := entDensity e
  if v = 0 then 0 else if j < t then min 3 (v + 1) else if j < -t then v - 1 else v

/-- R160: the level a nozzle keeps of its own dot. -/
def ownLevel (x : LineCtx) (e c d : Nat) (s : State) : Nat :=
  if 2 ≤ entState e ∨ givesAway x e c s then 0 else d

/-- The sum of the gifts taken by a receiver. -/
def giftSum (gs : List Gift) (r : Receiver) : Nat := ((gs.filter fun g => g.dest == r && g.taken).map (·.level)).foldl (· + ·) 0

/-- R152, R163: what the mate's nozzles give to the nozzle of column `c`: a 1200 dpi nozzle serves two columns. -/
def mateGifts (x : LineCtx) (dots : List Nat) (s : State) (c : Nat) : Nat :=
  if coarse x.head s then (if c % 2 = 0 then mateGift x dots s c + mateGift x dots s (c + 1) else 0)
  else mateGift x dots s c

/-- Stages 2 to 5 for a decoded line: the levels of the line's own parity, those of partner receivers, and the gifts
dropped (R164). -/
def composeDots (x : LineCtx) (dots : List Nat) (half : Bool) (s : State) : List Nat × List Nat × Nat :=
  let cols := List.range 8192
  let lv := cols.map (gridLevel x dots s)
  let gs := giftsOf x lv half s
  let own := (lv.mapIdx fun c d =>
    let e := entryAt (nozzleAt x.head c x.w s) (x.w / 64) s
    let got := if 2 ≤ entState e then 0 else giftSum gs (.column c) + mateGifts x dots s c
    trimLevel x.head c x.w e (min 3 (ownLevel x e c d s + got)) s)
  let par := if gs.any fun g => match g.dest with
      | .partner _ => true
      | _ => false
    then cols.map fun c =>
      let e := entryAt (nozzleAt x.head c (x.w + 1) s) (x.w / 64) s
      trimLevel x.head c x.w e (min 3 (giftSum gs (.partner c))) s
    else []
  (own, par, (gs.filter fun g => !g.taken).length)

/-! ### Composing (R155, R156, R168) -/

/-- R144: a position step has passed the line of the head. -/
def passedByStep (h w : Nat) (s : State) : Bool := (laneOf h s).skips.any fun r => decide (r.1 ≤ w) && decide (w ≤ r.2)

/-- R156: where the line comes from: blank, a decoded line, or not there yet. -/
def lineSource (h w : Nat) (s : State) : Option (Option DecodedLine) :=
  match streamAt h w s with
  | none => some none
  | some _ =>
    match (laneOf h s).input with
    | d :: _ => if d.line = w then some (some d) else none
    | [] => none

/-- R211: the trim command of a nozzle whose KERN_TRIM or ENERGY_TRIM changes from data line `w` on; a row that its head
does not have (R152) has none. -/
def issueTrim (n w old new : Nat) (s : State) : State :=
  let h := n / 16384
  if (entKern old = entKern new ∧ entEnergy old = entEnergy new) ∨ rowsOf h s ≤ n % 16384 / 2048 then s
  else
    let t : Trim := ⟨w + s.o (OD.ROW_OFFSET h (n % 16384 / 2048)) / 64, n, entKern new, entEnergy new, entKern old, entEnergy old⟩
    { s with
      plat := { s.plat with heads := vmodN s.plat.heads h fun q => { q with trims := q.trims ++ [t] } }
      ports := vmodN s.ports h fun p => { p with trims := p.trims ++ [t] } }

/-- R153: the entry of nozzle `n` with the items that are in effect on its own lane. -/
def appliedEntry (n : Nat) (s : State) : Nat :=
  s.comp.items.foldl (fun e p => if p.applied then p.item.apply n e else e) (folded n s)

/-- R211: the trim commands of an item that takes effect from line `w` on, between the states before and after. -/
def issueTrims (it : Item) (w : Nat) (old new : State) : State :=
  match it with
  | .entry n _ _ _ => issueTrim n w (appliedEntry n old) (appliedEntry n new) new
  | .page g first last _ _ => eachDo (List.range (last + 1 - first)) (fun i t =>
      issueTrim (1024 * g + first + i) w (appliedEntry (1024 * g + first + i) old) (appliedEntry (1024 * g + first + i) new) t) new
  | .rate _ _ => new

/-- R304: a host or line-party change of a nozzle sets its HEALTH to 0 and ends its trials; a page carries HEALTH of its
own. -/
def hostOverride (it : Item) (s : State) : State :=
  match it with
  | .entry n _ _ source =>
    if source = 1 ∨ source = 2 then
      setFolded n (folded n s - 8 * entHealth (folded n s)) { s with prf := { s.prf with
        trials := s.prf.trials.filter fun t => !(t.lead :: t.rest).contains n } }
    else s
  | .page g first last _ _ =>
    let hit := fun n : Nat => n / 1024 == g && decide (first ≤ n % 1024) && decide (n % 1024 ≤ last)
    { s with prf := { s.prf with trials := s.prf.trials.filter fun t => !(t.lead :: t.rest).any hit } }
  | .rate _ _ => s

/-- R170, R211, R304: an item takes effect on its own lane, with line `w` the first one composed under it. -/
def takeEffect (p : Pending) (w : Nat) (s : State) : State :=
  let t := { s with comp := { s.comp with items := lmod (· == p) (fun q => { q with applied := true }) s.comp.items } }
  hostOverride p.item (issueTrims p.item (if p.immediate then w else 64 * p.band) s t)

/-- The lane that an item is of: the own lane of its nozzle or page, and any lane of the plane for a rate class. -/
def Item.ofLane (h : Nat) : Item → Bool
  | .entry n _ _ _ => n / 16384 == h
  | .page g _ _ _ _ => g / 16 == h
  | .rate q _ => q == planeOf h

/-- R165, R172: the event of an accepted item whose band its lane composes. -/
def appliedEvent (h : Nat) (it : Item) (s : State) : State :=
  match it with
  | .entry _ _ _ _ => raise EV.COMP_CHANGE_APPLIED h s
  | .page _ _ _ _ _ => s
  | .rate q cls => raise EV.COMP_RATE_CLASS (256 * q + cls) s

/-- R165, R172: items whose band the lane now begins take effect, and the events of entry changes and rate classes are
raised. -/
def applyItems (h w : Nat) (s : State) : State :=
  let due := fun p : Pending => (p.immediate || decide (p.band ≤ w / 64)) && p.item.ofLane h
  let s := eachDo (s.comp.items.filter fun p => !p.applied && due p) (fun p s => takeEffect p w s) s
  let said := s.comp.unapplied.filter due
  eachDo said (fun p s => appliedEvent h p.item s)
    { s with comp := { s.comp with unapplied := s.comp.unapplied.filter fun p => !due p } }

/-- R164: line `y` of a stream has been composed. -/
def noteComposed (st : Stream) (y : Nat) (s : State) : State :=
  modSame st (fun t => { t with counted := max t.counted (y + 1) }) s

/-- R164: count dropped gifts, with one event per band; a line composed again is not counted again (log entry 13). -/
def countUncovered (h w y n : Nat) (s : State) : State :=
  match streamAt h w s with
  | none => s
  | some st =>
    let t := noteComposed st y s
    if n = 0 ∨ y < st.counted then t
    else
      let t := t.bumpN (OD.UNCOVERED_DOTS h) n
      if (laneOf h t).uncoveredBand = w / 64 + 1 then t
      else raise EV.COMP_DOT_UNCOVERED h (modLane h (fun l => { l with uncoveredBand := w / 64 + 1 }) t)

/-- R168, R169: a composed line enters the lead buffer; below the head's resume line it goes on into the row-delay
store, and its token is returned. -/
def enterLine (h : Nat) (c : Composed) (decoded : Bool) (s : State) : State :=
  let resume := (vgetN s.plat.heads h).nextSlot
  let s := modLane h (fun l => { l with
    next := c.line + 1, begun := max l.begun (c.line + 1)
    input := if decoded then l.input.drop 1 else l.input
    recomposed := if resume ≤ c.line then l.recomposed + 1 else l.recomposed
    restart := l.restart && decide (c.line < l.stopLine) }) s
  if c.line < resume then
    let s := if decoded then moveLedger 3 1 0 1 s else s
    if c.own.isEmpty ∧ c.partner.isEmpty then s else modLane h (fun l => { l with delay := l.delay ++ [c] }) s
  else
    moveLedger 3 (if decoded then 1 else 0) 2 1 (modLane h (fun l => { l with lead := l.lead ++ [c] }) s)

/-- R144, R156: a line that a step has passed gives its token back. -/
def discardPassed (h : Nat) (s : State) : State :=
  let w := nextFire h s
  let gone := ((laneOf h s).input.filter fun d => decide (d.line < w)).length
  moveLedger 3 1 0 gone (modLane h (fun l => { l with input := l.input.filter fun d => !decide (d.line < w) }) s)

/-- R177: the lane would begin a new band in the cycle in which an item was accepted. The acceptance did not count the band
as begun, so the lane waits for the next cycle (DESIGN CHOICE, log entry 169). -/
def bandWaits (h w : Nat) (s : State) : Bool :=
  s.comp.accepted == s.loc + 1 && decide ((laneOf h s).begun ≤ w / 64 * 64)

/-- Compose the next line of a lane, if its source, a token and room in the lead buffer are there. -/
def composeLine (h : Nat) (s : State) : State :=
  let s := discardPassed h s
  let w := nextFire h s
  if bandWaits h w s then s else
  let full := decide (32 ≤ (laneOf h s).lead.length)
  match lineSource h w s with
  | none => s
  | some none =>
    if full ∨ (32 ≤ tokensOf h s) ∨ heldOf 3 0 s = 0 then s
    else
      let s := applyItems h w s
      enterLine h ⟨w, none, [], []⟩ false s
  | some (some d) =>
    if full then s
    else
      let s := applyItems h w s
      if passedByStep h w s then enterLine h ⟨w, none, [], []⟩ true s
      else
        let (own, par, dropped) := composeDots (lineCtx h d s) d.dots (rateAt (planeOf h) (w / 64) s == 1) s
        enterLine h ⟨w, some d.forme, own, par⟩ true (countUncovered h w d.y dropped s)

/-! ### Folding (R173) -/

/-- R171: the heads an item affects. -/
def affectedHeads (s : State) : Item → List Nat
  | .entry n _ _ _ =>
    let h := n / 16384
    match mateHead h (columnOf h (n % 16384 / 2048) (n % 2048) s) with
    | some m => [h, m]
    | none => [h]
  | .page g _ _ _ _ =>
    let h := g / 16
    (if 0 < h % 12 then [h - 1] else []) ++ [h] ++ (if h % 12 < 11 then [h + 1] else [])
  | .rate q _ => (List.range 12).map (12 * q + ·)

/-- The head that requests an item (R171); a rate class has none. -/
def requestingHead : Item → Option Nat
  | .entry n _ _ _ => some (n / 16384)
  | .page g _ _ _ _ => some (g / 16)
  | .rate _ _ => none

/-- R171: line `w` of head `m` in the fire lines of the requesting head. -/
def translateLine (req : Option Nat) (m w : Nat) (s : State) : Nat :=
  match req, streamAt m w s with
  | some h, some st =>
    if h = m then w else w + st.offsets.getD h 0 - st.offsets.getD m 0
  | _, _ => w

/-- R173: a head no longer needs the item to stay pending. -/
def foldReady (p : Pending) (h : Nat) (s : State) : Bool :=
  decide (p.band ≤ translateLine (requestingHead p.item) h (lowerLine h s) s / 64) && !p.immediate ||
    (formesOn h (fun st => st == .armed || st == .printing) s).isEmpty

/-- R170, R211, R304: a fold puts an item into effect that no lane had composed a line under. -/
def foldEffect (p : Pending) (h : Nat) (old new : State) : State :=
  if p.applied then new else hostOverride p.item (issueTrims p.item (nextFire h old) old new)

/-- R165, R173: a rate class that is folded acts at the next line composed, and its event goes with it. -/
def rateFolded (p : Pending) (s : State) : State :=
  let mine := fun u : Pending => u.item == p.item && u.band == p.band
  { s with comp := { s.comp with unapplied := lmod mine (fun u => { u with immediate := true }) s.comp.unapplied } }

/-- R173: fold an item into the table, and write its journal record. R175: with the last page of a write the write is answered once
it is journaled; a segment that has waited for the fold with no page of its own is answered. The fold of a rate class raises COMP_CHANGE_FOLDED
with 0xFE or 0xFF, as its request does (DESIGN CHOICE, log entry 170). -/
def foldItem (p : Pending) (s : State) : State :=
  match p.item with
  | .entry n _ _ _ =>
    let v := p.item.apply n (folded n s)
    let t := foldEffect p (n / 16384) s (setFolded n v s)
    raise EV.COMP_CHANGE_FOLDED (n / 16384) (openRecord (.nozzles [(n, folded n t)]) .nothing t)
  | .page g first last es _ =>
    let vs := (List.range (last + 1 - first)).map fun i => (1024 * g + first + i, es.getD i 0x800)
    let (answered, freed, load) : Option Path × Option Path × Option TableLoad := match s.comp.load with
      | some l => if l.data.isEmpty then (if l.last then (l.path, none, none) else (none, l.path, none)) else (none, none, some l)
      | none => (none, none, none)
    let s := foldEffect p (g / 16) s (eachDo vs (fun nv s => setFolded nv.1 nv.2 s) { s with comp := { s.comp with
      load := load, pageFolds := (s.loc + 1, g, first, last) :: s.comp.pageFolds.filter fun x => x.1 == s.loc + 1 } })
    let s := match freed with
      | none => s
      | some q => answerTo q (.done []) s
    let s := match answered with
      | none => openRecord (.nozzles vs) .nothing s
      | some q => if journalRoom (.nozzles vs) s then openRecord (.nozzles vs) (.answer q []) s
                  else answerTo q (.abort AB.store) (journalRefused s)
    raise EV.COMP_CHANGE_FOLDED (g / 16) s
  | .rate q cls =>
    raise EV.COMP_CHANGE_FOLDED (0xFE + q)
      (rateFolded p { s with comp := { s.comp with rate := vmodN s.comp.rate q fun _ => cls } })

/-- CHANGES_PENDING (R178). -/
def pendingEntries (s : State) : Nat :=
  (s.comp.items.filter fun p => match p.item with
    | .entry _ _ _ _ => true
    | _ => false).length

/-- Two items that set a nozzle or a plane in common. -/
def Item.shares : Item → Item → Bool
  | .entry n _ _ _, .entry m _ _ _ => n == m
  | .entry n _ _ _, .page g first last _ _ => n / 1024 == g && decide (first ≤ n % 1024) && decide (n % 1024 ≤ last)
  | .page g first last _ _, .entry n _ _ _ => n / 1024 == g && decide (first ≤ n % 1024) && decide (n % 1024 ≤ last)
  | .page g first last _ _, .page g' first' last' _ _ => g == g' && decide (first ≤ last') && decide (first' ≤ last)
  | .rate q _, .rate q' _ => q == q'
  | _, _ => false

/-- R173: the first item that every affected head lets go of, is folded; one behind an earlier item of the same nozzle waits
for that one, so that no composed line changes by the fold. -/
def foldFirst : List Pending → List Pending → State → State
  | _, [], s => s
  | before, p :: rest, s =>
    if ((affectedHeads s p.item).all fun h => foldReady p h s) ∧ ¬ before.any (fun q => q.item.shares p.item) then
      foldItem p { s with comp := { s.comp with items := before ++ rest } }
    else foldFirst (before ++ [p]) rest s

/-! ### Records on ring 105 (R174, R228) -/

/-- R223: the slots of ring 105 that changes may take: two per head, and those owed, are kept for PLAT_COOL. -/
def changeSlots (s : State) : Nat := egressFree 105 s - 48 - s.plat.coolOwed.length

/-- The common header of a change record (R174): TYPE, SOURCE, SEQ, LOC. -/
def changeHeader (type source loc : Nat) (s : State) : List Byte :=
  leBytes 1 type ++ leBytes 1 source ++ leBytes 2 s.comp.seq ++ leBytes 4 loc

/-- Write the record of a change of LOC `loc`; SEQ counts (R174). -/
def recordAt (loc type source : Nat) (body : List Byte) (s : State) : State :=
  let s' := putRecord 105 (changeHeader type source loc s ++ body) s
  ({ s' with comp := { s'.comp with seq := wrapTo 16 (s.comp.seq + 1) } }).setO OD.CHANGE_SEQ s.comp.seq

/-- Write a change record of the present cycle (R174). -/
def changeRecord (type source : Nat) (body : List Byte) (s : State) : State := recordAt s.loc type source body s

/-- R176: the band a record carries while determinism checking is off. -/
def recordBand (immediate : Bool) (b : Nat) : Nat := if immediate then 2 ^ 64 - 1 else b

/-- The records of an accepted item (R174). -/
def itemRecords (it : Item) (band source tag old new : Nat) (immediate : Bool) (s : State) : State :=
  let b := leBytes 8 (recordBand immediate band)
  match it with
  | .entry n _ mask _ =>
    changeRecord 0x51 source (b ++ leBytes 4 (idOf n) ++ leBytes 4 old ++ leBytes 4 new ++ leBytes 4 mask ++
      leBytes 4 tag ++ leBytes 4 0) s
  | .page g first last es _ =>
    let img := (List.range 1024).map fun i => if first ≤ i ∧ i ≤ last then es.getD (i - first) 0x800 else 0
    let s := changeRecord 0x52 source (b ++ leBytes 4 g ++ leBytes 4 (crc32 (img.flatMap (leBytes 4))) ++ leBytes 4 tag ++
      leBytes 4 (first + 65536 * last) ++ leBytes 8 0) s
    eachDo (List.range 128) (fun i s =>
      changeRecord 0x53 source (((img.drop (8 * i)).take 8).flatMap (leBytes 4)) s) s
  | .rate q cls => changeRecord 0x54 source (b ++ leBytes 4 (q + 256 * cls) ++ leBytes 20 0) s

/-- R171: the earliest band of an item. -/
def earliestBand (it : Item) (s : State) : Nat :=
  let req := requestingHead it
  ((affectedHeads s it).map fun a => translateLine req a (max ((laneOf a s).begun - 1) s.web.hwl) s / 64).foldl max 0 +
    s.o OD.CHANGE_MARGIN

/-- R33: determinism checking is off. -/
def dchkOff (s : State) : Bool := !s.ob OD.DCHK_ENABLE

/-- Accept an item at a band, with its records (R172, R174, R176). A rate class taken while determinism checking is off has no band; its
span of R165 then begins and ends at the lowest next line of the plane's lanes (DESIGN CHOICE, log entry 211). -/
def acceptItem (it : Item) (band source tag old new : Nat) (s : State) : State :=
  let imm := dchkOff s
  let s := itemRecords it band source tag old new imm s
  let p : Pending := ⟨it, band, imm, false⟩
  let s := { s with comp := { s.comp with
    items := s.comp.items ++ [p], unapplied := s.comp.unapplied ++ [p], accepted := s.loc + 1 } }
  match it with
  | .rate q cls =>
    let first := if imm then ((List.range 12).map fun i => nextFire (12 * q + i) s).foldl min (2 ^ 64) else 64 * band
    { s with comp := { s.comp with rateLog := vmodN s.comp.rateLog q fun l => l ++ [(first, cls)] } }
  | _ => s

/-- The highest band of the pending items that hold nozzle `n` (R171). -/
def pendingBand (n : Nat) (s : State) : Nat :=
  s.comp.items.foldl (fun b p => match p.item with
    | .entry m _ _ _ => if m = n then max b p.band else b
    | .page g first last _ _ => if n / 1024 = g ∧ first ≤ n % 1024 ∧ n % 1024 ≤ last then max b p.band else b
    | .rate _ _ => b) 0

/-- R172: the cause that refuses an entry change; 0 = accepted. -/
def requestCause (id value mask band source : Nat) (s : State) : Nat :=
  let n := tableIndex (idHead id) (idRow id) (idIndex id)
  let it := Item.entry n value mask source
  let early := max (earliestBand it s) (pendingBand n s)
  let b := if band = 0 then early else band
  if ¬ idValid id s then 1
  else if entPattern (mergeBits (entryAt n b s) value mask) = 7 ∧ entPattern mask ≠ 0 then 2
  else if Nat.land mask printMask = 0 then 3
  else if ¬ dchkOff s ∧ band ≠ 0 ∧ band < early then 4
  else if 256 ≤ pendingEntries s then 5
  else if changeSlots s = 0 then 6
  else if source = 3 ∧ entState (entryAt n b s) = 3 then 7
  else 0

/-- R172: an entry change, from a party (1, 2) or from PRF (3): the cause and the state after it. While determinism checking is off
R176 gives the item no band, and the manual does not say which entry is OLD in the record or what REQ_BAND_TAKEN shows: the model
takes the band of REQ_BAND, or the earliest of R171, for both (DESIGN CHOICE, log entry 188). -/
def requestChange (id value mask band tag source : Nat) (s : State) : Nat × State :=
  let c := requestCause id value mask band source s
  if c ≠ 0 then (c, raise EV.COMP_CHANGE_REFUSED (256 * c + idHead id % 256) s)
  else
    let n := tableIndex (idHead id) (idRow id) (idIndex id)
    let it := Item.entry n value mask source
    let b := if band = 0 then max (earliestBand it s) (pendingBand n s) else band
    let old := entryAt n b s
    let s := setFolded n (mergeBits (folded n s) value (Nat.land mask 0x7FF)) s
    let new := mergeBits (mergeBits old value mask) value mask
    let s := (acceptItem it b source tag old new s).setO OD.REQ_BAND_TAKEN b
    (0, raise EV.COMP_CHANGE_TAKEN (idHead id) s)

/-- The party of a path (R178). -/
def sourceOf : Path → Nat
  | .mailbox => 1
  | .window => 2

/-- REQ_COMMAND = SUBMIT (R172, R178): the abort code and the state after it. -/
def submitRequest (source : Nat) (s : State) : Nat × State :=
  let (c, s) := requestChange (s.o OD.REQ_NOZZLE) (s.o OD.REQ_VALUE) (s.o OD.REQ_MASK) (s.o OD.REQ_BAND) (s.o OD.REQ_TAG) source s
  if c = 0 then (AB.ok, s) else (AB.store, s.setO OD.REQ_CAUSE c)

/-- R165, R172: a rate class request: the abort code and the state after it. -/
def requestRate (plane cls source : Nat) (s : State) : Nat × State :=
  if 1 < cls then (AB.range, s)
  else if changeSlots s = 0 then
    (AB.store, (raise EV.COMP_CHANGE_REFUSED (256 * 6 + 0xFE + plane) s).setO OD.REQ_CAUSE 6)
  else
    let it := Item.rate plane cls
    let b := earliestBand it s
    let s := (acceptItem it b source 0 0 0 s).setO OD.REQ_BAND_TAKEN b
    (AB.ok, raise EV.COMP_CHANGE_TAKEN (0xFE + plane) (s.setO (if plane = 0 then OD.RATE_CLASS_A else OD.RATE_CLASS_B) cls))

/-! ### Loads of the table (R175) -/

/-- A load of the table begins or goes on: entries from table index `pos` on; `last` when the bytes end it. -/
def loadTable (pos : Nat) (bs : List Byte) (source tag : Nat) (ring : Option Nat) (path : Option Path)
    (last : Bool) (s : State) : State :=
  let es := (List.range (bs.length / 4)).map fun i => leNum ((bs.drop (4 * i)).take 4)
  { s with comp := { s.comp with load := some ⟨pos, es, source, tag, ring, path, last⟩ } }

/-- A page is pending (R175). -/
def pagePending (s : State) : Bool := s.comp.items.any fun p => match p.item with
  | .page _ _ _ _ _ => true
  | _ => false

/-- R175: the next page of a load is accepted, once no page pends and ring 105 has its 129 slots. -/
def acceptPage (s : State) : State :=
  match s.comp.load with
  | none => s
  | some l =>
    if pagePending s ∨ l.data.isEmpty ∨ changeSlots s < 129 then s
    else
      let g := l.pos / 1024
      let first := l.pos % 1024
      let n := min l.data.length (1024 - first)
      let it := Item.page g first (first + n - 1) (l.data.take n) l.source
      let b := earliestBand it s
      let s := (acceptItem it b l.source l.tag 0 0 s).bump OD.PAGES_COMMITTED
      let rest := l.data.drop n
      let s := { s with comp := { s.comp with load :=
        if rest.isEmpty ∧ (l.path.isNone ∨ ¬ l.last) then none else some { l with pos := l.pos + n, data := rest } } }
      let s := match l.path with
        | some q => if rest.isEmpty ∧ ¬ l.last then answerTo q (.done []) s else s
        | none => s
      raise EV.COMP_PAGE_COMMITTED g s

/-! ### Restart (R169) -/

/-- R169: the lane's lead lines give their tokens back, its row-delay store is cleared, and it composes from `line` on;
`stop` is the line at which the restart is over. -/
def laneRestart (h line stop : Nat) (s : State) : State :=
  let n := (laneOf h s).lead.length
  let s := moveLedger 3 2 0 n s
  let s := modLane h (fun l => { l with
    lead := [], delay := [], next := line, restart := true, stopLine := stop, recomposed := 0 }) s
  raise EV.COMP_LANE_RESTART h s

/-- R144: a forward step takes the lines it passes out of every lead buffer, their tokens go back, and no head commits
them. -/
def stepLanes (hwlBefore hwlAfter : Nat) (s : State) : State :=
  eachDo (List.range 24) (fun h s =>
    let s := modLane h (fun l => { l with skips := l.skips ++ [(firstPassed h hwlBefore s, hwlAfter)] }) s
    let gone := ((laneOf h s).lead.filter fun c => decide (c.line ≤ hwlAfter)).length
    let s := moveLedger 3 2 0 gone
      (modLane h (fun l => { l with lead := l.lead.filter fun c => !decide (c.line ≤ hwlAfter) }) s)
    { s with plat := { s.plat with heads := vmodN s.plat.heads h fun q =>
      if hwlBefore < q.nextSlot then { q with nextSlot := max q.nextSlot (hwlAfter + 1) } else q } }) s

/-- R146, R156: the lines of an aborted forme that the lead buffer of a head holds, from `stop` on, give their tokens back,
and the lane composes from there again; where lines of another forme follow, they become blank lines, whose tokens come
from COMP free at once. -/
def blankHead (f stop h : Nat) (s : State) : State :=
  let mine := fun c : Composed => c.forme == some f && decide (stop ≤ c.line)
  match (laneOf h s).lead.find? mine with
  | none => s
  | some c =>
    let tail := (laneOf h s).lead.filter fun d => decide (c.line ≤ d.line)
    if tail.all fun d => mine d || d.forme.isNone then
      moveLedger 3 2 0 tail.length (modLane h (fun l => { l with
        lead := l.lead.filter fun d => !decide (c.line ≤ d.line)
        next := c.line, recomposed := l.recomposed - tail.length }) s)
    else modLane h (fun l => { l with lead := lmod mine (fun c => ⟨c.line, none, [], []⟩) l.lead }) s

/-- R146 for every head. -/
def blankForme (f stop : Nat) (s : State) : State := eachDo (List.range 24) (blankHead f stop) s

/-! ### Commands -/

/-- LINE_COMPOSE (R155). -/
def execLineCompose (head : Fin 24) (s : State) : Host.Outcome State Fault Refusal :=
  .next (whenDo (lineOn s) (fun s => composeLine head s) s)

end Sys2Proof.Machine
end

