-- ==== Sys2Proof/Machine/OhlQueue.lean ====
section
/-! DEFINITION. Machine/OhlQueue.lean: the head ports as the platen sees them: which are attached, and what becomes of
a committed slot (R252, R254). -/

namespace Sys2Proof.Machine

/-- A firing sequencer. -/
def seqrOf (h : Nat) (s : State) : Seqr := vgetN s.plat.heads h

/-- Change a sequencer. -/
def modSeqr (h : Nat) (g : Seqr → Seqr) (s : State) : State :=
  { s with plat := { s.plat with heads := vmodN s.plat.heads h g } }

/-- The port is attached: its head has been taken and its link lives or is being regained. -/
def portAttached (h : Nat) (s : State) : Bool :=
  match (portOf h s).state with
  | .ready | .recover => true
  | .retrain => !(portOf h s).attaching
  | _ => false

/-! ### What a held slot holds (R254) -/

/-- Change the held slot `t` of a port. -/
def modHeld (h t : Nat) (g : HeldSlot → HeldSlot) (s : State) : State :=
  modPort h (fun p => { p with slots := lmod (fun x => x.body.slot == t) g p.slots }) s

/-- R39, R254: a held slot gives its credit and its token back. -/
def releaseHeld (x : HeldSlot) (s : State) : State :=
  match x.credit with
  | .available => moveLedger 3 3 0 1 s
  | .inFlight => moveLedger 3 4 0 1 (moveLedger 4 1 0 1 s)
  | .head => moveLedger 3 4 0 1 (moveLedger 4 2 0 1 s)

/-- Discard the held slots that `p` picks; the frames that carried them are no longer awaited. -/
def dropHeld (h : Nat) (p : Nat → Bool) (s : State) : State :=
  let gone := (portOf h s).slots.filter fun x => p x.body.slot
  modPort h (fun q => { q with
    slots := q.slots.filter fun x => !p x.body.slot
    unacked := q.unacked.filter fun e => match e.2 with
      | .slot t _ _ => !p t
      | .group t _ => !p t
      | _ => true }) (eachDo gone releaseHeld s)

/-! ### Taking a slot (R252, R254, R259) -/

/-- R254: OHL_SLOT_DISCARDED, at most once per band. -/
def slotDiscarded (h t : Nat) (s : State) : State :=
  let s := s.bump (OD.DISCARDED_SLOTS h)
  if (portOf h s).discardBand = t / 64 + 1 then s
  else
    let s := modPort h (fun p => { p with discardBand := t / 64 + 1 }) s
    if populated (planeOf h) s then raise EV.OHL_SLOT_DISCARDED h s else s

/-- R192, R259: a torn slot that a position step has passed is never committed again. -/
def dropPassed (h n : Nat) (s : State) : State :=
  dropHeld h (fun t => decide (t < n) && (portOf h s).slots.any fun x => x.torn && x.body.slot == t) s

/-- R252, R259: a READY port takes a committed slot. A torn slot that it still holds keeps its credit and its token, and is
sent again. -/
def holdSlot (h : Nat) (b : Body) (refire hasToken : Bool) (s : State) : State :=
  if ((portOf h s).slots.any fun x => x.body.slot == b.slot) then
    let s := if hasToken then moveLedger 3 3 0 1 s else s
    modHeld h b.slot (fun x => { x with body := b, refire := refire, due := true, torn := false }) s
  else
    let s := if hasToken then s else moveLedger 3 0 3 1 s
    modPort h (fun p => { p with slots := p.slots ++ [⟨b, refire, .available, true, false⟩] }) s

/-- R211, R254: the trims of a slot that a port cannot take: a head that stays attached gets them before its next slot (log
entry 172). -/
def lateTrims (h n : Nat) (s : State) : State :=
  let later := fun l : List Trim =>
    if portAttached h s then l.map fun t => if t.slot ≤ n then { t with slot := n + 1 } else t
    else l.filter fun t => decide (n < t.slot)
  modPort h (fun p => { p with trims := later p.trims }) s

/-- A committed slot reaches its port: a READY port holds it, and any other gives its token back (R252, R254). A retraining port
keeps the body until the retrain ends, for the slot is committed again (R206). `again` says that its TRIM frames are sent once more, as part of the body (R211, R259). -/
def ohlAccept (h : Nat) (b : Body) (refire again hasToken : Bool) (s : State) : State :=
  if (portOf h s).state = .ready then
    let s := holdSlot h b refire hasToken (dropPassed h b.slot s)
    let s := modPort h (fun p => { p with
      fresh := (b.slot, s.loc + 1), trims := if again then b.trims ++ p.trims else p.trims }) s
    modSeqr h (fun q => { q with unacked := q.unacked ++ [b.slot] }) s
  else
    let s := if hasToken then moveLedger 3 3 0 1 s else s
    let s := if portAttached h s ∧ (portOf h s).state = .retrain then
        modSeqr h (fun q => { q with unacked := q.unacked ++ [b.slot] }) (modPort h (fun p => { p with lost := p.lost ++ [b] }) s)
      else s
    slotDiscarded h b.slot (lateTrims h b.slot s)

end Sys2Proof.Machine
end

