-- ==== Sys2Proof/Machine/Platen.lean ====
section
/-! DEFINITION. Machine/Platen.lean: slots and their bodies (R205 to R216), the shadow set (R217, R218, R228), rates
(R220, R221), temperatures (R222, R223), holds and resumes (R224 to R234). -/

namespace Sys2Proof.Machine

/-! ### Rates (R220) -/

/-- R165: the plane fires under the HALF class in slot `t`: from the first slot that fires a line of a HALF item's band
or later, to the last that fires a line below the next FULL item's band. -/
def halfSpan (plane t : Nat) (s : State) : Bool :=
  let heads := (List.range 12).map (12 * plane + ·)
  let first := (heads.map fun h => minDelay h s).foldl min 63
  let last := (heads.map fun h => maxDelay h s).foldl max 0
  let log := vgetN s.comp.rateLog plane
  (List.range log.length).any fun i =>
    let r := log.getD i (0, 0)
    r.2 == 1 && decide (r.1 + first ≤ t) && (match (log.drop (i + 1)).find? fun q => q.2 == 0 with
      | some q => decide (t < q.1 + last)
      | none => true)

/-- R7, R58: the entry of a port of the plane holds version 1. -/
def planeCapped (plane : Nat) (s : State) : Bool :=
  (List.range 12).any fun i => s.o (OD.NEGOTIATED_VERSION (12 * plane + i)) % 256 == 1

/-- R220: R_max of a plane, in lines/s, without the HALF class. -/
def rateMaxFull (plane : Nat) (s : State) : Nat := if planeCapped plane s then 40000 else 120000

/-- R220: R_max of a plane in slot `t`. -/
def rateMax (plane t : Nat) (s : State) : Nat :=
  if halfSpan plane t s then min 60000 (rateMaxFull plane s) else rateMaxFull plane s

/-- R220: u_min for a rate, in LOC ticks. -/
def uMinOf (rate : Nat) : Rat := 400000000 / (64 * (101 / 100 * rate))

/-- R242: the longest sub-line that U carries, in LOC ticks. -/
def subLineMax : Rat := 0xFFFFFFFF / 256

/-- R207: the sub-line of a slot at speed `v`, in LOC ticks; a record with no forward speed runs at the longest one (DESIGN
CHOICE, log entry 14). -/
def subLine (rate : Nat) (v : Rat) : Rat :=
  if v ≤ 0 then subLineMax else if 101 / 100 * (rate : Rat) < v then uMinOf rate else 400000000 / (64 * v)

/-- R242: U of a sub-line, in 2.5 ns ÷ 256. -/
def subLineWord (u : Rat) : Nat := min 0xFFFFFFFF (roundRat (u * 256)).toNat

/-! ### Recipes and the shadow set (R215 to R218) -/

/-- R215: the length of a recipe's train, in 2.5 ns. -/
def trainLength (r : Nat) : Nat := bits r 63 60 * (bits r 59 50 + bits r 49 40) + bits r 39 30 + bits r 29 20

/-- The numbers of the recipes that a RECIPE_SELECT value names. -/
def selected (sel : Nat) : List Nat :=
  [bits sel 27 24, bits sel 23 20, bits sel 19 16, bits sel 11 8, bits sel 7 4, bits sel 3 0]

/-- R217: the keys of a head's shadow set. -/
def platShadow (key : Nat) : Bool :=
  decide (0x3500 ≤ key / 256) && decide (key / 256 < 0x3518) && decide (0x20 ≤ key % 256) && decide (key % 256 ≤ 0x33)

/-- R218, causes 0x01 to 0x04, of a shadow set; 0 = it passes. -/
def setCause (h : Nat) (s : State) : Nat :=
  let rs := (selected (s.o (OD.RECIPE_SELECT h))).map fun i => s.o (OD.RECIPE h i)
  let rot := (List.range 32).map fun i => s.dbyte (OD.ROTATION h) i
  let longest := (rs.map trainLength).foldl max 0 + 15
  if rs.any fun r => bits r 29 20 == 0 || (bits r 63 60 != 0 && bits r 59 50 == 0) then 1
  else if rs.any fun r => decide (s.o (OD.FIRE_WIDTH_MAX h) < bits r 29 20 + 15) ||
      decide (s.o (OD.BRAYER_WIDTH_MAX h) < bits r 59 50) then 2
  else if (s.o (OD.FIRE_GROUP_COUNT h) * 2 : Rat) * uMinOf (rateMaxFull (planeOf h) s) < longest then 3
  else if ¬ (List.range 32).all fun b => rot.contains b then 4
  else 0

/-- COMMIT of a head's shadow set (R218): the abort code and the state after it. -/
def commitPlaten (h source : Nat) (s : State) : Nat × State :=
  let refuse := fun c => raise EV.PLAT_COMMIT_REFUSED (256 * c + h) s
  if s.ob (OD.PLAT_COMMIT_PENDING h) then (AB.locked, s)
  else
    let c := setCause h s
    if c ≠ 0 then (AB.range, refuse c)
    else if changeSlots s < 7 then (AB.store, refuse 5)
    else (AB.ok, modSeqr h (fun q => { q with commit := true, commitSource := source, commitLoc := s.loc + 1 })
      ((reserveSlots 105 7 s).setB (OD.PLAT_COMMIT_PENDING h) true))

/-- R228: the 192 bytes of a head's live set image. -/
def setImage (h : Nat) (s : State) : List Byte :=
  ((List.range 16).flatMap fun i => leBytes 8 (s.l (OD.RECIPE h i))) ++ leBytes 4 (s.l (OD.RECIPE_SELECT h)) ++
    ((List.range 32).map fun i => BitVec.ofNat 8 (s.lbyte (OD.ROTATION h) i)) ++ leBytes 1 (s.l (OD.ROT_STEP h)) ++
    leBytes 1 (s.l (OD.FIRE_GROUP_COUNT h)) ++ List.replicate 26 0

/-- R228: PLAT_SET and its six PLAT_SET_DATA records, from the 7 slots reserved. -/
def setRecords (h source line : Nat) (s : State) : State :=
  let img := setImage h s
  let s := unreserveSlots 105 7 s
  let s := changeRecord 0x55 source (leBytes 8 line ++ leBytes 4 h ++ leBytes 4 (s.o (OD.LIVE_SEQ h)) ++
    leBytes 4 (crc32 img) ++ leBytes 12 0) s
  eachDo (List.range 6) (fun i s => changeRecord 0x56 source ((img.drop (32 * i)).take 32) s) s

/-- R27, R217: the hand-over at the commitment of slot `n`; a COMMIT of the boundary's own cycle waits for the next. -/
def takeShadow (h n : Nat) (s : State) : State :=
  let q := seqrOf h s
  let s := if q.loadRecord then
      setRecords h 5 n (modSeqr h (fun q => { q with loadRecord := false }) s) else s
  if ¬ q.commit ∨ q.commitLoc = s.loc + 1 then s
  else
    let s := s.handOver fun k => platShadow k && k / 256 == 0x3500 + h
    let s := (s.bump (OD.LIVE_SEQ h)).setB (OD.PLAT_COMMIT_PENDING h) false
    let s := modSeqr h (fun q => { q with commit := false }) s
    raise EV.PLAT_SHADOW_TAKEN h (setRecords h q.commitSource n s)

/-! ### Bodies (R205, R208, R210 to R214) -/

/-- The composed line `w` of a head, if its rows are not all fired. -/
def lineHeld (h w : Nat) (s : State) : Option Composed := (laneOf h s).delay.find? fun c => c.line == w

/-- R205: the levels of the 256 nozzles of group-in-row `b` of row `r` in slot `t`, and their data line. -/
def groupLevels (h t r b : Nat) (s : State) : List Nat × Nat :=
  let d := s.o (OD.ROW_OFFSET h r) / 64
  let w := t - d
  let lv := match if t < d then none else lineHeld h w s with
    | none => []
    | some c => if r % 2 = w % 2 then c.own else c.partner
  (if lv.isEmpty then [] else (List.range 256).map fun i => lv.getD (columnOf h r (256 * b + i) s) 0, w)

/-- A group that fires: its number, nominal tick, window length, levels. -/
structure Due where
  num : Nat
  tick : Nat
  window : Nat
  levels : List Nat
  deriving DecidableEq, Repr

/-- R216: the recipes for levels 1 to 3 of a head, as three nibbles. -/
def recipesInUse (h : Nat) (s : State) : Nat :=
  if (seqrOf h s).cool then bits (s.l (OD.RECIPE_SELECT h)) 27 16 else bits (s.l (OD.RECIPE_SELECT h)) 11 0

/-- R214: the window of a group in ticks. -/
def windowTicks (h t r b w : Nat) (lv : List Nat) (s : State) : Nat :=
  let sel := recipesInUse h s
  let train := ([1, 2, 3].filter fun l => lv.contains l).foldl (fun m l =>
    max m (trainLength (s.l (OD.RECIPE h (sel / 16 ^ (l - 1) % 16))))) 0
  let kern := (lv.mapIdx fun i l => if l = 0 then 0
    else entKern (entryAt (tableIndex h r (256 * b + i)) (w / 64) s)).foldl max 0
  (((train + 15 : Nat) : Rat) / uMinOf (rateMax (planeOf h) t s)).ceil.toNat + kern

/-- R152, R212, R213: the groups that fire in slot `t`, in position order. -/
def dueGroups (h t : Nat) (s : State) : List Due :=
  (List.range 32).flatMap fun i =>
    let block := s.lbyte (OD.ROTATION h) ((i + s.l (OD.ROT_STEP h) * t) % 32)
    let p := block / 8
    let b := block % 8
    [2 * p, 2 * p + 1].filterMap fun r =>
      let (lv, w) := groupLevels h t r b s
      if rowsOf h s ≤ r ∨ lv.all (· == 0) then none
      else some ⟨8 * r + b, 2 * i + s.o (OD.ROW_OFFSET h r) % 64, windowTicks h t r b w lv s, lv⟩

/-- Insert a group behind those with the same or an earlier tick. -/
def insertDue (d : Due) : List Due → List Due
  | [] => [d]
  | x :: xs => if x.tick ≤ d.tick then x :: insertDue d xs else d :: x :: xs

/-- R214, step 1: groups in order of nominal tick, position order where equal. -/
def sortDue (l : List Due) : List Due := l.foldl (fun acc d => insertDue d acc) []

/-- R214, step 2: the earliest tick at or after `at_` at which fewer than `limit` windows are open. -/
def earliestTick (ws : List Window) (limit at_ : Nat) : Nat :=
  let free := fun t => decide ((ws.filter fun w => decide (w.start ≤ t) && decide (t < w.stop)).length < limit)
  ((ws.map (·.stop)).filter fun t => decide (at_ < t) && free t).foldl
    (fun m t => if free at_ then m else if m = at_ then t else min m t) at_

/-- R214: schedule the groups of a slot: the groups with their start ticks, the windows, the total slip. -/
def schedule (t limit : Nat) : List Due → List Window → List Group → Nat → List Group × List Window × Nat
  | [], ws, gs, slip => (gs, ws, slip)
  | d :: ds, ws, gs, slip =>
    let nominal := 64 * t + d.tick
    let start := earliestTick ws limit nominal
    schedule t limit ds (ws ++ [⟨start, start + d.window⟩]) (gs ++ [⟨d.num, start - 64 * t, d.levels⟩])
      (slip + (start - nominal))

/-- Insert a group in ascending start-tick order (R208). -/
def insertGroup (g : Group) : List Group → List Group
  | [] => [g]
  | x :: xs => if x.tick ≤ g.tick then x :: insertGroup g xs else g :: x :: xs

/-- R208: the fields of a body, for its byte form in the signature (log entry 15). -/
def Body.fields (b : Body) : List Nat :=
  [b.slot, b.recipes] ++ (b.groups.flatMap fun g => [g.num, g.tick] ++ g.levels) ++
    (b.trims.flatMap fun t => [t.nozzle, t.kern, t.energy])

/-- R34: a slot's body enters the running CRC of its band; a completed band is written with its number. -/
def signBody (h : Nat) (b : Body) (s : State) : State :=
  let q := seqrOf h s
  let band := b.slot / 64
  let close := fun (c k : Nat) (s : State) =>
    (s.setO (OD.BAND_SIGNATURE h) (Nat.xor c 0xFFFFFFFF)).setO (OD.SIGNATURE_BAND h) k
  let s := match q.crc with
    | some c => if q.crcBand ≠ band then close c q.crcBand s else s
    | none => s
  let c0 := match q.crc with
    | some c => if q.crcBand = band then c else 0xFFFFFFFF
    | none => 0xFFFFFFFF
  let c := crcFeed c0 (Config.bodyBytes b.fields)
  if b.slot % 64 = 63 then modSeqr h (fun q => { q with crc := none, crcBand := band }) (close c band s)
  else modSeqr h (fun q => { q with crc := some c, crcBand := band }) s

/-- R208, R214: build the body of slot `t`; its windows stay open for later slots, and its slip is counted. -/
def buildBody (h t : Nat) (s : State) : Body × State :=
  let q := seqrOf h s
  let ws := q.windows.filter fun w => decide (64 * t < w.stop)
  let (gs, ws, slip) := schedule t (s.l (OD.FIRE_GROUP_COUNT h)) (sortDue (dueGroups h t s)) ws [] 0
  let trims := q.trims.filter fun x => x.slot == t
  let b : Body := ⟨t, recipesInUse h s, gs.foldl (fun acc g => insertGroup g acc) [], trims, 0, 0⟩
  let s := modSeqr h (fun q => { q with windows := ws, trims := q.trims.filter fun x => decide (t < x.slot) }) s
  let s := s.bumpN (OD.SLIP_TICKS h) slip
  let s := if slip ≠ 0 ∧ (seqrOf h s).slipBand ≠ t / 64 + 1 then
      raise EV.PLAT_SLIP h (modSeqr h (fun q => { q with slipBand := t / 64 + 1 }) s) else s
  (b, signBody h b s)

/-! ### Commitment (R206) -/

/-- R140: the forme's first line is committed; FORME_FIRST_LINE and FORME_LAST_LINE (R136). R141: one that entered FAULTED in
this cycle counts as FAULTED from PRINTING. -/
def noteLine (h n : Nat) (s : State) : State :=
  match streamAt h n s with
  | none => s
  | some st =>
    let f := st.forme
    if ¬ st.context then s
    else
      let s := if s.o (OD.FORME_FIRST_LINE f) = 0 then s.setO (OD.FORME_FIRST_LINE f) n else s
      let s := s.setO (OD.FORME_LAST_LINE f) (max n (s.o (OD.FORME_LAST_LINE f)))
      let c := formeOf f s
      if c.state = .armed then formeEvent EV.IMP_FORME_PRINTING f f (setForme f .printing s)
      else if c.state = .faulted ∧ c.fromArmed ∧ c.faultLoc = s.loc + 1 then
        modForme f (fun c => { c with fromPrinting := true, fromArmed := false }) s
      else s

/-- R168: the composed line leaves the lead for the row-delay store; lines whose rows are all fired leave the store. -/
def moveLine (h n : Nat) (s : State) : State :=
  let keep := n - maxDelay h s
  match (laneOf h s).lead with
  | c :: rest =>
    if c.line = n then
      moveLedger 3 2 3 1 (modLane h (fun l => { l with
        lead := rest
        delay := (l.delay.filter fun d => decide (keep ≤ d.line)) ++
          (if c.own.isEmpty ∧ c.partner.isEmpty then [] else [c]) }) s)
    else s
  | [] => s

/-- R33: the first and last line fired while determinism checking is off. -/
def noteFired (n : Nat) (s : State) : State :=
  if ¬ dchkOff s then s
  else
    let s := if s.dev.offFired then s
      else { s with dev := { s.dev with offFired := true } }.setO OD.DCHK_OFF_FIRST_LINE n
    s.setO OD.DCHK_OFF_LAST_LINE n

/-- R206, R208: commit slot `n` on a head, with its timing; a refired slot keeps the body of its first attempt. -/
def commitHead (h n start u : Nat) (s : State) : State :=
  let hasLine := match (laneOf h s).lead with
    | c :: _ => c.line == n
    | [] => false
  let s := takeShadow h n s
  let s := noteFired n (noteLine h n (moveLine h n s))
  let q := seqrOf h s
  let (b, s, again) := match q.refire.find? fun b => b.slot == n with
    | some b => (b, s, true)
    | none => let (b, s) := buildBody h n s; (b, s, false)
  let torn := q.tornSlot == some n
  let s := modSeqr h (fun q => { q with
    nextSlot := n + 1, refire := q.refire.filter fun b => b.slot != n
    tornSlot := if torn then none else q.tornSlot }) s
  ohlAccept h { b with start := start, u := u } (torn && again) again hasLine s

/-- R206: commit slot `n` on every head of a populated plane whose resume line permits it. -/
def commitSlot (n : Nat) (timing : Nat → Nat × Nat) (s : State) : State :=
  eachDo (List.range 24) (fun h s =>
    if n < (seqrOf h s).nextSlot then s
    else if populated (planeOf h) s then commitHead h n (timing (planeOf h)).1 (timing (planeOf h)).2 s
    else modSeqr h (fun q => { q with nextSlot := n + 1 }) s) s

/-! ### Holds (R225, R226) -/

/-- R225: a printing head: its plane is populated and its port attached. -/
def printingHead (h : Nat) (s : State) : Bool := populated (planeOf h) s && portAttached h s

/-- R225: the lead of a head at boundary `n`: consecutive composed lines from `n` on. -/
def leadFrom : Nat → List Composed → Nat
  | _, [] => 0
  | n, c :: cs => if c.line = n then leadFrom (n + 1) cs + 1 else if c.line < n then leadFrom n cs else 0

/-- The lowest set bit of a cause word. -/
def lowestBit (w : Nat) : Nat := ((List.range 11).find? fun i => bit w i).getD 15

/-- R226: the held line of every head is named to GAL and its lane. -/
def restartHead (h : Nat) (s : State) : State :=
  let line := restartLine h s
  laneRestart h line (seqrOf h s).nextSlot (galRestart h line s)

/-- R233: count a hold entry; more than HOLD_CYCLE_COUNT within the window raise the event once. -/
def countHold (s : State) : State :=
  let win := s.o OD.HOLD_CYCLE_WINDOW * ticksMs
  let es := s.loc :: s.plat.entries.filter fun t => decide (s.loc < t + win)
  let s := { s with plat := { s.plat with entries := es } }
  if s.o OD.HOLD_CYCLE_COUNT ≠ 0 ∧ s.o OD.HOLD_CYCLE_COUNT < es.length ∧ ¬ s.plat.cycling then
    raise EV.PLAT_HOLD_CYCLING es.length { s with plat := { s.plat with cycling := true } }
  else s

/-- R147: the aborts that wait for the held line. -/
def finishAborts (n : Nat) (s : State) : State :=
  eachDo (formesWith (·.aborting) s) (fun f s => blankForme f n (abortAt f n s)) s

/-- R190: the platen names the held line to WEB, which freezes below it. -/
def freezeAt (n : Nat) (s : State) : State := { s with web := { s.web with hwl := n - 1, frozen := true } }

/-- R224, R235: RESUME_LINE of a head is its resume line as a hold sets it (log entry 218). -/
def noteResume (h : Nat) (s : State) : State := s.setO (OD.RESUME_LINE h) (seqrOf h s).nextSlot

/-- R226: the hold at line `n` with a cause word and the head concerned. -/
def holdAt (n word head : Nat) (s : State) : State :=
  let n := ((List.range 24).filter fun h => populated (planeOf h) s).foldl (fun m h => min m (seqrOf h s).nextSlot) n
  let s := eachDo (List.range 24) noteResume ((freezeAt n s).setO OD.HELD_LINE n)
  let s := { s with
    plat := { s.plat with
      held := true, cause := word, taken := [], causeHead := head, forwardSeen := false, backupValid := false }
    pins := { s.pins with holdN := false } }
  let s := s.bump OD.HOLD_COUNT
  let s := raiseX EV.PLAT_HOLD (256 * lowestBit word + head) word n 0 s
  let s := eachDo ((List.range 24).filter fun h => printingHead h s) restartHead s
  finishAborts n (countHold s)

/-! ### Temperature (R222, R223) -/

/-- R223: the slots of ring 105 that no head's reserve holds. -/
def coolSpare (s : State) : Nat :=
  egressFree 105 s - ((List.range 24).map fun h => (seqrOf h s).kept).foldl (· + ·) 0

/-- R223: write the oldest PLAT_COOL record that is owed. -/
def coolPay (s : State) : State :=
  match s.plat.coolOwed with
  | r :: rest =>
    if 0 < coolSpare s then recordAt r.1 0x57 4 r.2 { s with plat := { s.plat with coolOwed := rest } } else s
  | [] => s

/-- R223: a slot that is spare goes into the reserve of a head that lacks one, once nothing is owed. -/
def coolKeep (h : Nat) (s : State) : State :=
  if s.plat.coolOwed.isEmpty ∧ (seqrOf h s).kept < 2 ∧ 0 < coolSpare s then modSeqr h (fun q => { q with kept := q.kept + 1 }) s
  else s

/-- R223: as slots of ring 105 come free, what is owed is written and every head has its two slots again. -/
def coolRefill (s : State) : State :=
  eachDo (List.range 48) (fun i s => coolKeep (i % 24) s) (eachDo s.plat.coolOwed (fun _ s => coolPay s) s)

/-- R223, R228: a PLAT_COOL record of head `h`, from the two slots kept for it. Once both are in use and the ring stays full
it is owed (DESIGN CHOICE, log entry 171). -/
def coolRecord (h n : Nat) (cool : Bool) (temp : Int) (s : State) : State :=
  let s := coolRefill s
  let bytes := leBytes 8 n ++ leBytes 4 (h + 256 * b2n cool) ++ leBytes 4 (unsignedOf 16 temp) ++ leBytes 16 0
  if 0 < (seqrOf h s).kept ∧ 0 < egressFree 105 s then
    coolRefill (changeRecord 0x57 4 bytes (modSeqr h (fun q => { q with kept := q.kept - 1 }) s))
  else { s with plat := { s.plat with coolOwed := s.plat.coolOwed ++ [(s.loc, bytes)] } }

/-- R222, R223: enter or leave cool mode at boundary `n`. -/
def setCool (h n : Nat) (cool : Bool) (temp : Int) (s : State) : State :=
  if (seqrOf h s).cool = cool then s
  else
    let s := (modSeqr h (fun q => { q with cool := cool }) s).setB (OD.COOL_MODE h) cool
    raise (if cool then EV.PLAT_COOL_ON else EV.PLAT_COOL_OFF) h (coolRecord h n cool temp s)

/-- R222: a reading of a head is evaluated at boundary `n`. -/
def evalReading (h n : Nat) (t : Int) (s : State) : State :=
  if s.oi (OD.TEMP_HARD h) ≤ t then
    raise EV.PLAT_TEMP_HARD h (setCool h n true t
      (takeFrom s.loc causeTempHard h (modSeqr h (fun q => { q with hard := true }) s)))
  else if s.oi (OD.TEMP_SOFT h) ≤ t then setCool h n true t s
  else if t ≤ s.oi (OD.TEMP_SOFT h) - s.o (OD.TEMP_HYST h) then setCool h n false t s
  else s

/-- R222: a head's waiting readings, evaluated at boundary `n`; those of the boundary's own cycle wait for the next. -/
def evalTemp (h n : Nat) (s : State) : State :=
  let due := (seqrOf h s).readings.filter fun r => decide (r.1 < s.loc)
  eachDo due (fun r s => evalReading h n r.2 s)
    (modSeqr h (fun q => { q with readings := q.readings.filter fun r => !decide (r.1 < s.loc) }) s)

/-- R225, R236: the temperature at and below which cause TEMP_HARD of a head is cleared. -/
def hardLimit (h : Nat) (s : State) : Int := s.oi (OD.TEMP_HARD h) - s.o (OD.TEMP_HYST h)

/-- R236: HARD of a head: its last reading is at or above the limit after a hard-limit hold. -/
def hardReads (h : Nat) (s : State) : Bool := (seqrOf h s).hard && decide (hardLimit h s ≤ (seqrOf h s).lastTemp)

/-- R225: cause TEMP_HARD of a head is not cleared. -/
def hardHolds (h : Nat) (s : State) : Bool := (seqrOf h s).hard && decide (hardLimit h s < (seqrOf h s).lastTemp)

/-- R222, R261: a TEMP reading reaches the platen: it counts at the next boundary. -/
def tempReading (h : Nat) (t : Int) (s : State) : State :=
  modSeqr h (fun q => { q with
    readings := q.readings ++ [(s.loc, t)], lastTemp := t
    hard := q.hard && (s.plat.held || decide (hardLimit h s ≤ t)) }) s

/-! ### The boundary (R206, R221, R234) -/

/-- A boundary record (R189): line, speed in lines/s, LOC of the count edge, overshoot in lines. -/
structure BoundaryRec where
  line : Nat
  speed : Rat
  edgeLoc : Nat
  overshoot : Rat
  deriving DecidableEq, Repr

/-- R207: the crossing time in LOC ticks. -/
def BoundaryRec.crossing (b : BoundaryRec) : Rat :=
  if b.speed ≤ 0 then b.edgeLoc else b.edgeLoc - b.overshoot * 400000000 / b.speed

/-- R207, R221: a plane's own start, sub-line, and lag in sub-lines of the slot. -/
def slotTiming (b : BoundaryRec) (plane : Nat) (s : State) : Rat × Rat × Rat :=
  let u := subLine (rateMax plane b.line s) b.speed
  let start := b.crossing + s.o OD.LINE_DELAY * u
  let stop := vgetN s.plat.slotEnd plane
  if start < stop then (stop, u, (stop - start) / u) else (start, u, 0)

/-- R221: the warnings of a plane, and its count of boundaries above 1.01 R_max. -/
def rateCheck (b : BoundaryRec) (plane : Nat) (s : State) : State :=
  if ¬ populated plane s then s
  else
    let r : Rat := rateMax plane b.line s
    let overNow := decide (r < b.speed)
    let was := vgetN s.plat.overNow plane
    let n := if 101 / 100 * r < b.speed then vgetN s.plat.overCount plane + 1 else 0
    let s := { s with plat := { s.plat with
      overNow := vmodN s.plat.overNow plane fun _ => overNow, overCount := vmodN s.plat.overCount plane fun _ => n } }
    if overNow ∧ ¬ was then raise EV.PLAT_OVERSPEED_WARN plane s
    else if was ∧ ¬ overNow then raise EV.PLAT_OVERSPEED_CLEAR plane s
    else s

/-- The planes that are populated. -/
def planesOf (s : State) : List Nat := [0, 1].filter fun p => populated p s

/-- R226: the head that all of these name, or 0xFF. -/
def commonHead : List Nat → Nat
  | [] => 0xFF
  | h :: hs => if hs.all (· == h) then h else 0xFF

/-- R221, R225: the causes that act at the boundary, with the head concerned: those taken before, and those of the
boundary itself. -/
def boundaryCauses (b : BoundaryRec) (s : State) : Nat × Nat :=
  let due := s.plat.taken.filter fun t => decide (t.acts ≤ s.loc)
  let low := (List.range 24).filter fun h => printingHead h s &&
    decide (leadFrom b.line (laneOf h s).lead < s.o OD.LEAD_LOW)
  let overspeed := (planesOf s).any fun p => decide (65 ≤ vgetN s.plat.overCount p)
  let lag := (planesOf s).any fun p => decide (16 < (slotTiming b p s).2.2)
  let own := low.map (fun h => (causeLead, h)) ++ (if overspeed then [(causeOverspeed, 0xFF)] else []) ++
    (if lag then [(causeLag, 0xFF)] else []) ++ (if s.dev.ledgerHalt then [(causeLedger, 0xFF)] else [])
  let all := due.map (fun t => (t.cause, t.head)) ++ own
  (all.foldl (fun w c => setBit w c.1 true) 0, commonHead (all.map (·.2)))

/-- R221: where a plane's next slot may start: from a slot above 1.01 R_max on, at the end of the 64 ticks of the slot
before, until the lag is worked off (DEDUCED: the rule says it of that case); otherwise nothing holds it back (0). -/
def slotStop (b : BoundaryRec) (plane : Nat) (s : State) : Rat :=
  let t := slotTiming b plane s
  if 101 / 100 * (rateMax plane b.line s : Rat) < b.speed ∨ 0 < t.2.2 then t.1 + 64 * t.2.1 else 0

/-- R221: the demanded rate is S of the boundary record. -/
def noteDemand (b : BoundaryRec) (s : State) : State := { s with plat := { s.plat with demand := b.speed } }

/-- R206: the platen evaluates a boundary: it commits the line's slot, or holds at the line. -/
def platBoundary (b : BoundaryRec) (s : State) : State :=
  let s := linkChecks s
  let s := eachDo (List.range 24) (fun h s => evalTemp h b.line s) s
  let s := rateCheck b 1 (rateCheck b 0 (noteDemand b s))
  let (word, head) := boundaryCauses b s
  if word ≠ 0 then holdAt b.line (s.plat.taken.foldl (fun w t => setBit w t.cause true) word) head s
  else
    let t := fun p => slotTiming b p s
    let timing := fun p => ((roundRat (t p).1).toNat, subLineWord (t p).2.1)
    let lag := ((planesOf s).map fun p => (t p).2.2.floor.toNat).foldl max 0
    let s' := commitSlot b.line timing s
    ({ s' with plat := { s'.plat with slotEnd := #v[slotStop b 0 s, slotStop b 1 s] } }).setO OD.PLAT_LAG lag

/-- R66, R236: this chip drives HOLD_N low: a hold, its start (R411), or a takeover (R333). -/
def holdDriven (s : State) : Bool := s.plat.held || !s.plat.initDone || s.pace.holdPulse

/-! ### Resume (R229 to R231) -/

/-- R226, R235: HOLD_CAUSE; a ledger fault joins the cause word of a hold in force (R38). -/
def holdCause (s : State) : Nat :=
  if s.plat.held then setBit s.plat.cause causeLedger (bit s.plat.cause causeLedger || s.dev.ledgerHalt) else 0

/-- R225: every cause in the cause word is cleared. -/
def causesCleared (s : State) : Bool :=
  let w := s.plat.cause
  !(bit w causeRequest && holdRequest s) &&
  !(bit w causeEnable && !(s.net.al == .op && printEnable s)) &&
  !(bit w causeTempHard && (List.range 24).any fun h => hardHolds h s) &&
  !(bit w causeTorn && (List.range 24).any fun h => (seqrOf h s).torn) &&
  !(bit w causeLink && (List.range 24).any fun h => (vgetN s.ports h).linkCause) &&
  !s.dev.ledgerHalt

/-- R230, R234: the four conditions under which the freeze ends; in the cycle of a new cause it does not. -/
def mayResume (s : State) : Bool :=
  s.plat.held && s.plat.causeLoc != s.loc + 1 && s.plat.forwardSeen && !s.web.reversed &&
  decide (s.web.p ≤ ((s.o OD.HELD_LINE : Nat) : Rat) - s.o OD.RESUME_CLEARANCE) && causesCleared s &&
  ((List.range 24).all fun h => !printingHead h s || decide (s.o OD.LEAD_RESUME ≤ (laneOf h s).recomposed))

/-- R190, R230: the freeze ends. -/
def endFreeze (s : State) : State :=
  let n := s.o OD.HELD_LINE
  let s := driveHold { s with
    plat := { s.plat with
      held := false, cause := 0, backupValid := false, overCount := Vector.replicate 2 0
      heads := s.plat.heads.mapIdx fun h q => { q with hard := hardReads h s } }
    web := { s.web with frozen := false } }
  raiseX EV.PLAT_RESUME n 0 n 0 s

/-- R229: PLAT_BACKUP_LINES. -/
def backupLines (s : State) : Nat :=
  (s.web.p.ceil - ((s.o OD.HELD_LINE : Int) - s.o OD.RUNUP_LINES)).toNat

/-- R229: the first WEB_STOPPED after a hold, or after a missed resume, starts the backup report. -/
def platStopped (s : State) : State :=
  if s.plat.held ∧ ¬ s.plat.backupValid then
    raise EV.PLAT_BACKUP_VALID 0 { s with plat := { s.plat with backupValid := true } }
  else s

/-- R230, R231: what a movement of P means to a held platen; `before` is P before it. -/
def platMoved (before : Rat) (s : State) : State :=
  let limit : Rat := ((s.o OD.HELD_LINE : Nat) : Rat) - s.o OD.RESUME_CLEARANCE
  if s.plat.held ∧ s.web.frozen ∧ before ≤ limit ∧ limit < s.web.p then
    raise EV.PLAT_RESUME_MISSED (s.o OD.HELD_LINE) { s with plat := { s.plat with backupValid := false } }
  else s

/-! ### Torn lines (R224) -/

/-- R293: the windows with a line of a torn slot carry TORN. -/
def tornWindows (h m : Nat) (s : State) : State :=
  { s with prf := { s.prf with torn := s.prf.torn ++ ((List.range 8).map fun r =>
    paperLine h (m - s.o (OD.ROW_OFFSET h r) / 64) s) } }

/-- R224: a head reports slot `m` torn: its slots from `m` on count as not fired, and its resume line is `m`. `again` are
the bodies to be sent again whole. R234: a boundary of the same cycle is not committed. -/
def tornReport (h m : Nat) (again : List Body) (s : State) : State :=
  let s := raiseX EV.PLAT_TORN_LINE h 0 m 0 (s.bump OD.TORN_LINES)
  let s := modSeqr h (fun q => { q with
    torn := true, tornSlot := some m, nextSlot := min q.nextSlot m
    unacked := q.unacked.filter fun t => decide (t < m)
    refire := again ++ q.refire.filter fun b => !(again.any fun a => a.slot == b.slot) }) s
  let s := takeFrom s.loc causeTorn h (tornWindows h m (noteResume h s))
  if s.plat.held then
    let n := min (s.o OD.HELD_LINE) m
    restartHead h ((freezeAt n s).setO OD.HELD_LINE n)
  else s

/-! ### Aborts and commands -/

/-- ABORT of a forme (R146, R147), with its composed lines made blank. -/
def abortCommand (f : Nat) (s : State) : Nat × State :=
  let (c, t) := abortForme f s
  if c = AB.ok then
    if (formeOf f t).state = .retired then (c, blankForme f (if s.plat.held then s.o OD.HELD_LINE else 0) t)
    else (c, takeCause causeAbort 0xFF t)
  else (c, t)

/-- R61: leaving OPERATIONAL or PRINT_ENABLE going to 0 takes cause ENABLE. -/
def platDisable (s : State) : State := takeCause causeEnable 0xFF s

/-- HOLD_N_FALL (R225, R227): a falling edge that this chip did not drive. -/
def execHoldNFall (s : State) : Host.Outcome State Fault Refusal :=
  .next (whenDo (ohlOn s) (fun s =>
    if s.plat.held ∨ ¬ s.plat.initDone ∨ s.pace.holdPulse then s
      else
        let s := { s with pins := { s.pins with holdN := false } }
        if s.ob OD.EXTERNAL_HOLD then takeCause causeExternal 0xFF s else s) s)

/-- R233: HOLD_CYCLING is cleared. -/
def clearCycling (s : State) : State := { s with plat := { s.plat with cycling := false } }

/-- HOLD_CYCLING_CLEAR (R233). -/
def execHoldCyclingClear (s : State) : Host.Outcome State Fault Refusal := .next (clearCycling s)

end Sys2Proof.Machine
end

