-- ==== Sys2Proof/Machine/Camera.lean ====
section
/-! DEFINITION. Machine/Camera.lean: the proof camera ports (R267 to R288). -/

namespace Sys2Proof.Machine

/-- A camera port. -/
def camOf (p : Nat) (s : State) : Cam := vgetN s.cams p

/-- Change a camera port. -/
def modCam (p : Nat) (g : Cam → Cam) (s : State) : State := { s with cams := vmodN s.cams p g }

/-- Raise an event of a camera port (R288). -/
def camEvent (ev arg p : Nat) (s : State) : State := raise ev (256 * (arg % 256) + p) s

/-- R278: the keys of a port's settings set. -/
def camShadow (p key : Nat) : Bool := key / 256 == 0x4000 + p && decide (0x10 ≤ key % 256) && decide (key % 256 ≤ 0x18)

/-- R282: the FLAGS bits of a frame record. -/
def flagShort : Nat := 0
def flagLong : Nat := 1
def flagDropped : Nat := 2
def flagUntriggered : Nat := 3
def flagOverrun : Nat := 4
def flagNoEnd : Nat := 5
def flagLineCrc : Nat := 6
def flagTorn : Nat := 7
def flagHeld : Nat := 8
def flagOverflow : Nat := 9

/-! ### Triggers and strobes (R270) -/

/-- R267: the port takes packets of its own virtual channel only. -/
def takesPacket (p vc : Nat) (s : State) : Bool := s.ob (OD.CAM_PORT_ENABLE p) && s.o (OD.VIRTUAL_CHANNEL p) == vc

/-- R270: the command brings a Frame Start that port `p` takes. -/
def startOf (p : Nat) (s : State) : Instr → Bool
  | .frameStart channel => channel.port.val == p && takesPacket p channel.vc s
  | _ => false

/-- R270: a match of the trigger unit becomes pending. -/
def pendTrigger (p pos loc : Nat) (held : Bool) (s : State) : State :=
  modCam p (fun c => { c with trigPending := true, trigPos := pos, trigLoc := loc, trigOver := false, trigHeld := held }) s

/-- A match of compare unit `u` at position `pos` reaches the ports that name it. Where a trigger is pending and a Frame Start is
still to come in this cycle, the match waits for it: it is the next frame's. A strobe match in the cycle of a Frame End counts as
before it when its command comes first (DESIGN CHOICE, log entry 194). -/
def camMatch (u pos : Nat) (s : State) : State :=
  eachDo (List.range 4) (fun p s =>
    if ¬ s.ob (OD.CAM_PORT_ENABLE p) then s
    else
      let s := if s.o (OD.STROBE_UNIT p) = u then modCam p (fun c => { c with strobeLoc := s.loc }) s else s
      if s.o (OD.TRIGGER_UNIT p) ≠ u then s
      else if (camOf p s).trigPending ∧ lineOn s ∧ s.pending.any (startOf p s) then
        modCam p (fun c => { c with trigNext := some (pos, holdDriven s) }) s
      else if (camOf p s).trigPending then
        camEvent EV.CAM_TRIGGER_OVERRUN 0 p ((modCam p (fun c => { c with trigOver := true }) s).bump (OD.MISSED_TRIGGERS p))
      else pendTrigger p pos s.loc (holdDriven s) s) s

/-! ### Settings (R276 to R281) -/

/-- R276: LOC ticks of one CCI bit period. -/
def cciBit (p : Nat) (s : State) : Nat :=
  match s.o (OD.CCI_RATE p) with
  | 0 => 4000
  | 1 => 1000
  | _ => 400

/-- R276: the expected time of an access with byte 0 `sizes`, in LOC ticks. -/
def cciTime (p sizes : Nat) (s : State) : Nat := (3 + 9 * (1 + bits sizes 1 0 + bits sizes 4 2)) * cciBit p s

/-- R276: what a write sends: the device address, the register address and the data, each most significant byte first. -/
def cciWriteBytes (p sizes reg data : Nat) (s : State) : List Byte :=
  leBytes 1 (2 * s.o (OD.CCI_DEVICE p)) ++ (leBytes (bits sizes 1 0) reg).reverse ++ (leBytes (bits sizes 4 2) data).reverse

/-- R276: what a read sends: the register address, and after a repeated start the device address for reading. -/
def cciReadBytes (p sizes reg : Nat) (s : State) : List (List Byte) :=
  [leBytes 1 (2 * s.o (OD.CCI_DEVICE p)) ++ (leBytes (bits sizes 1 0) reg).reverse, leBytes 1 (2 * s.o (OD.CCI_DEVICE p) + 1)]

/-- R281: the set whose writes run has become live already: no COMMIT is pending, or the one that is waits for them. -/
def writesLive (p : Nat) (s : State) : Bool := !(camOf p s).commit || (camOf p s).commitWaiting

/-- R278: the entries of the set whose writes run. -/
def setCount (p : Nat) (s : State) : Nat := if writesLive p s then s.l (OD.CCI_COUNT p) else s.o (OD.CCI_COUNT p)

/-- R278: what entry `i` of the set sends. -/
def entryBytes (p i : Nat) (s : State) : List Byte :=
  let byte := if writesLive p s then s.lbyte (OD.CCI_LIST p) else s.dbyte (OD.CCI_LIST p)
  let at_ := fun o n => leNum ((List.range n).map fun j => BitVec.ofNat 8 (byte (8 * i + o + j)))
  cciWriteBytes p (at_ 0 1) (at_ 2 2) (at_ 4 4) s

/-- R278: byte 0 of a used entry is good. -/
def sizesOk (b : Nat) : Bool :=
  (bits b 1 0 == 1 || bits b 1 0 == 2) && decide (1 ≤ bits b 4 2) && decide (bits b 4 2 ≤ 4) && bits b 7 5 == 0

/-- The time of the shadow set (R278). -/
def setTime (p : Nat) (s : State) : Nat :=
  ((List.range (s.o (OD.CCI_COUNT p))).map fun i => cciTime p (s.dbyte (OD.CCI_LIST p) (8 * i)) s).foldl (· + ·) 0

/-- SETTINGS_DEADLINE in LOC ticks. -/
def deadlineTicks (p : Nat) (s : State) : Nat := s.o (OD.SETTINGS_DEADLINE p) * ticksUs

/-- R279: the cause that refuses a COMMIT; 0 = it passes. -/
def camCommitCause (p : Nat) (s : State) : Nat :=
  let w := s.o (OD.WIDTH p)
  let h := s.o (OD.HEIGHT p)
  if w = 0 ∨ h = 0 ∨ w % 4 ≠ 0 ∨ 4096 < w ∨ 4096 < h ∨ 8192 < s.o (OD.X_OFFSET p) + w ∨
      4 * s.o OD.FRAME_BUFFER_BYTES < 5 * w * h then 1
  else if s.o (OD.SET_ID p) = s.o (OD.LIVE_ID p) then 2
  else if 32 < s.o (OD.CCI_COUNT p) ∨ ¬ ((List.range (s.o (OD.CCI_COUNT p))).all fun i =>
      sizesOk (s.dbyte (OD.CCI_LIST p) (8 * i)) && s.dbyte (OD.CCI_LIST p) (8 * i + 1) == 0) then 3
  else if deadlineTicks p s < setTime p s then 4
  else 0

/-- R27, R281: the whole set becomes live. -/
def camHandOver (p : Nat) (s : State) : State :=
  let id := s.o (OD.SET_ID p)
  let s := ((s.handOver (camShadow p)).setB (OD.CAM_COMMIT_PENDING p) false).setO (OD.LIVE_ID p) id
  let s := modCam p (fun c => { c with commit := false, torn := c.nakked, nakked := false, lateCounted := false }) s
  camEvent EV.CAM_SETTINGS_TAKEN id p s

/-- R281: TARGET_FSN moves on by one; the frame at the old target carries SETTINGS_TORN. -/
def settingsLate (p : Nat) (s : State) : State :=
  let t := s.o (OD.TARGET_FSN p)
  let first := !(camOf p s).lateCounted
  let s := (modCam p (fun c => { c with tornFsn := t, lateCounted := true }) s).setO (OD.TARGET_FSN p) (t + 1)
  if first then camEvent EV.CAM_SETTINGS_LATE 0 p (s.bump (OD.SETTINGS_LATE p)) else s

/-- R281: the last write of a set completes after its deadline, but after the hand-over too: it is counted, and the open frame
carries SETTINGS_TORN where it is the target (DESIGN CHOICE, log entry 99). -/
def settingsLateLive (p : Nat) (s : State) : State :=
  let tear := fun (f : FrameRec) =>
    if f.fsn = s.o (OD.TARGET_FSN p) then { f with flags := setBit f.flags flagTorn true } else f
  let s := modCam p (fun c => { c with lateCounted := true, frame := c.frame.map tear }) s
  camEvent EV.CAM_SETTINGS_LATE 0 p (s.bump (OD.SETTINGS_LATE p))

/-- The writes of a set are over (R280, R281). -/
def writesDone (p : Nat) (s : State) : State :=
  let c := camOf p s
  let live := writesLive p s
  let s := modCam p (fun c => { c with writing := false }) s
  if live then (if c.deadline < s.loc ∧ ¬ c.lateCounted then settingsLateLive p s else s)
  else if ¬ s.ob (OD.CAM_PORT_ENABLE p) then (camHandOver p s).setO (OD.TARGET_FSN p) 1
  else if c.deadline < s.loc ∧ ¬ c.lateCounted then settingsLate p s
  else s

/-- R276, R278: entry `i` of the set goes out. -/
def sendEntry (p i : Nat) (s : State) : State :=
  let bs := entryBytes p i s
  modCam p (fun c => { c with cciSent := c.cciSent ++ [bs] }) s

/-- R280: start the writes of the set under a deadline. -/
def startWrites (p deadline : Nat) (s : State) : State :=
  let n := setCount p s
  let s := modCam p (fun c => { c with
    writing := true, writesDue := false, writesWaiting := false, writesLeft := n, deadline := deadline, nakked := false
    lateCounted := false }) s
  if n = 0 then writesDone p s else sendEntry p 0 s

/-- R280: the deadline of a frame that starts at LOC `start`, for the latency of the COMMIT (R286). -/
def frameDeadline (p start : Nat) (s : State) : Nat :=
  start + if (camOf p s).latency = 0 then 0 else deadlineTicks p s

/-- R280: dispatch an accepted COMMIT. -/
def dispatchCommit (p : Nat) (s : State) : State :=
  let f := s.o (OD.FSN p)
  let lat := (camOf p s).latency
  let dead := frameDeadline p (camOf p s).fsLoc s
  let s := modCam p (fun c => { c with commitLoc := s.loc + 1 }) s
  if f = 0 ∨ ¬ s.ob (OD.CAM_PORT_ENABLE p) then startWrites p (2 ^ 64) (s.setO (OD.TARGET_FSN p) (f + 1 + lat))
  else if s.loc < dead ∧ s.loc + setTime p s ≤ dead then startWrites p dead (s.setO (OD.TARGET_FSN p) (f + lat))
  else modCam p (fun c => { c with writesDue := true }) (s.setO (OD.TARGET_FSN p) (f + 1 + lat))

/-- R280: a COMMIT that was dispatched in the cycle of a Frame Start counts as arriving after it: what it started is taken
back and it is dispatched again. -/
def redispatch (p : Nat) (s : State) : State :=
  let c := camOf p s
  if c.commit ∧ ¬ c.commitWaiting ∧ c.commitLoc = s.loc + 1 then
    dispatchCommit p (modCam p (fun c => { c with
      writing := false, writesDue := false, cciSent := if c.writing then c.cciSent.dropLast else c.cciSent }) s)
  else s

/-- R277: a COMMIT that has waited is dispatched when neither an immediate access nor writes of the set before it are left. -/
def dispatchWaiting (p : Nat) (s : State) : State :=
  let c := camOf p s
  if c.commitWaiting ∧ ¬ c.cciBusy ∧ ¬ c.writing ∧ ¬ c.writesWaiting then
    dispatchCommit p (modCam p (fun c => { c with commitWaiting := false }) s)
  else s

/-- COMMIT of a port's settings (R279): the abort code and the state after it. While an immediate access is in progress it
waits (R277); so it does while the writes of a set that is live already still run (DESIGN CHOICE, log entry 99). -/
def commitCamera (p : Nat) (s : State) : Nat × State :=
  if s.ob (OD.CAM_COMMIT_PENDING p) then (AB.locked, s)
  else
    let c := camCommitCause p s
    if c ≠ 0 then (AB.range, camEvent EV.CAM_COMMIT_REFUSED c p (s.setO (OD.CAM_COMMIT_CAUSE p) c))
    else
      let s := modCam p (fun c => { c with commit := true, latency := s.o (OD.CAM_LATENCY p) }) (s.setB (OD.CAM_COMMIT_PENDING p) true)
      (AB.ok, if (camOf p s).cciBusy ∨ (camOf p s).writing then modCam p (fun c => { c with commitWaiting := true }) s else dispatchCommit p s)

/-- A CCI write of a set completes, or is refused by the sensor (R281). -/
def cciWriteEnd (p : Nat) (nak : Bool) (s : State) : State :=
  let c := camOf p s
  if ¬ c.writing then s
  else if nak then
    let live := writesLive p s
    dispatchWaiting p (writesDone p (camEvent EV.CAM_CCI_ERROR 0 p (modCam p (fun c => { c with
      nakked := !live, torn := c.torn || live, writesLeft := 0 }) s)))
  else
    let s := modCam p (fun c => { c with writesLeft := c.writesLeft - 1 }) s
    if c.writesLeft ≤ 1 then dispatchWaiting p (writesDone p s) else sendEntry p (setCount p s + 1 - c.writesLeft) s

/-- R277: no immediate access is served while one, or a settings write sequence, is in progress. -/
def cciRefused (p : Nat) (s : State) : Bool := (camOf p s).cciBusy || (camOf p s).writing

/-- A write of CCI_COMMAND (R277): 1 read, 2 write, with CCI_REG, CCI_SIZES and CCI_DATA. Sizes outside the ranges of R278 are
carried out as they stand (DESIGN CHOICE, log entry 195). -/
def cciCommand (p v : Nat) (s : State) : Nat × State :=
  if v ≠ 1 ∧ v ≠ 2 then (AB.range, s)
  else if cciRefused p s then (AB.state, s)
  else
    let sizes := s.o (OD.CCI_SIZES p)
    let sent := if v = 1 then cciReadBytes p sizes (s.o (OD.CCI_REG p)) s
      else [cciWriteBytes p sizes (s.o (OD.CCI_REG p)) (s.o (OD.CCI_DATA p)) s]
    (AB.ok, modCam p (fun c => { c with
      cciBusy := true, cciRead := decide (v = 1), cciBytes := bits sizes 4 2, cciSent := c.cciSent ++ sent })
      (s.setO (OD.CCI_STATUS p) 1))

/-- The end of an immediate access (R277); a COMMIT or a set's writes that waited for it go on. -/
def cciEnd (p : Nat) (nak : Bool) (data : Nat) (s : State) : State :=
  let c := camOf p s
  if ¬ c.cciBusy then s
  else
    let s := modCam p (fun c => { c with cciBusy := false, cciRead := false }) s
    let s := if nak then camEvent EV.CAM_CCI_ERROR 0 p (s.setO (OD.CCI_STATUS p) 2)
      else
        let s := if c.cciRead then s.setO (OD.CCI_DATA p) (data % 256 ^ c.cciBytes) else s
        camEvent EV.CAM_CCI_DONE 0 p (s.setO (OD.CCI_STATUS p) 0)
    dispatchWaiting p (if c.writesWaiting then startWrites p c.deadline s else s)

/-! ### Frames (R271 to R275) -/

/-- The frame buffers in use, by number. -/
def buffersUsed (s : State) : List Nat :=
  (List.range 4).flatMap fun p =>
    let c := camOf p s
    ((match c.frame with
      | some f => [f]
      | none => []) ++ c.toPrf).filterMap fun f => if bit f.flags flagDropped then none else some f.buffer

/-- The lowest free frame buffer (log entry 16). -/
def freeBuffer (s : State) : Option Nat :=
  (List.range (s.ledgers.get 5).total).find? fun b => !(buffersUsed s).contains b

/-- R289: DRAM address of a frame buffer. -/
def bufferAddress (b : Nat) (s : State) : Nat := s.o OD.PRF_AREA_BASE + b * s.o OD.FRAME_BUFFER_BYTES

/-- The 128 bytes of a frame record (R282). -/
def frameRecord (p : Nat) (f : FrameRec) (s : State) : List Byte :=
  leBytes 1 0x61 ++ leBytes 1 p ++ leBytes 2 f.flags ++ leBytes 4 f.fsn ++ leBytes 8 f.fsLoc ++ leBytes 8 f.feLoc ++
    leBytes 8 f.trigPos ++ leBytes 8 f.trigLoc ++ leBytes 8 f.strobeLoc ++
    leBytes 8 (if bit f.flags flagDropped then 0 else bufferAddress f.buffer s) ++ leBytes 2 f.setId ++
    leBytes 2 f.lines ++ leBytes 2 f.shortLines ++ leBytes 2 f.longLines ++ leBytes 2 f.padLines ++
    leBytes 2 f.cutLines ++ leBytes 2 f.badLines ++ leBytes 2 f.width ++ leBytes 4 f.valid ++ leBytes 4 f.saturated ++
    (f.sum.flatMap fun x => leBytes 4 x) ++ (f.count.flatMap fun x => leBytes 4 x) ++
    leBytes 2 (if f.valid = 0 then 0x3FF else f.minV) ++ leBytes 2 (if f.valid = 0 then 0 else f.maxV) ++ leBytes 12 0

/-- R275: four 10-bit pixels in five bytes. -/
def packGroup (a b c d : Nat) : List Byte := leBytes 5 (a + 2 ^ 10 * b + 2 ^ 20 * c + 2 ^ 30 * d)

/-- R275: a stored line's bytes. -/
def packLine : List Nat → List Byte
  | a :: b :: c :: d :: rest => packGroup a b c d ++ packLine rest
  | _ => []

/-- Store line `y` of a frame in its buffer. -/
def storeLine (f : FrameRec) (y : Nat) (px : List Nat) (s : State) : State :=
  if bit f.flags flagDropped then s
  else dramWrite (bufferAddress f.buffer s + y * f.width * 5 / 4) (packLine px) s

/-- R273: a frame is closed: the lines that did not arrive are pad lines. -/
def closeFrame (p : Nat) (noEnd : Bool) (s : State) : State :=
  match (camOf p s).frame with
  | none => s
  | some f =>
    let pad := f.height - f.stored
    let s := eachDo (List.range pad) (fun i s =>
      storeLine f (f.stored + i) (List.replicate f.width (s.l (OD.PAD_VALUE p))) s) s
    let f := { f with
      feLoc := s.loc, padLines := pad, strobeLoc := if s.o (OD.STROBE_UNIT p) = 0xFF then 0 else (camOf p s).strobeLoc
      flags := setBit (setBit (setBit f.flags flagNoEnd noEnd) flagShort (decide (0 < pad))) flagLong (decide (0 < f.cutLines))
      validLens := f.validLens ++ List.replicate pad 0 }
    let dropped := bit f.flags flagDropped
    let s := modCam p (fun c => { c with
      frame := none, toPrf := c.toPrf ++ [f], lostGap := c.lostGap - 1 }) s
    let s := { s with prf := { s.prf with lanes := vmodN s.prf.lanes p fun l => { l with fsn := f.fsn } } }
    let s := if dropped then s else moveLedger 5 1 2 1 s
    let s := tryRecord (101 + p) (frameRecord p f s) (fun s =>
      let s := s.bump (OD.CAM_RECORDS_LOST p)
      if (camOf p s).lostGap = 0 then
        camEvent EV.CAM_RECORD_LOST 0 p (modCam p (fun c => { c with lostGap := 64 }) s)
      else s) s
    let s := if bit f.flags flagShort then camEvent EV.CAM_SHORT_FRAME f.fsn p s else s
    let s := if bit f.flags flagLong then camEvent EV.CAM_LONG_FRAME f.fsn p s else s
    if dropped then s else camEvent EV.CAM_FRAME_DONE f.fsn p s

/-- R281: at the Frame Start of the target frame the set becomes live. Where its writes still run and their deadline is past, the
target moves on instead (log entry 99). -/
def frameHandOver (p fsn : Nat) (s : State) : State :=
  let c := camOf p s
  if c.commit ∧ ¬ c.commitWaiting ∧ s.o (OD.TARGET_FSN p) = fsn then
    if (c.writing ∨ c.writesDue) ∧ c.deadline ≤ s.loc then settingsLate p s else camHandOver p s
  else s

/-- R277, R280: the writes of a late set start at the Frame Start, or after the immediate access in progress. -/
def lateWrites (p : Nat) (s : State) : State :=
  let dead := frameDeadline p s.loc s
  if ¬ (camOf p s).writesDue ∨ (camOf p s).writesWaiting then s
  else if (camOf p s).cciBusy then modCam p (fun c => { c with writesWaiting := true, deadline := dead }) s
  else startWrites p dead s

/-- Open a frame at a Frame Start (R270, R271, R272). A trigger match of the same cycle is the next frame's. -/
def openFrame (p : Nat) (s : State) : State :=
  let fsn := wrapTo 32 (s.o (OD.FSN p) + 1)
  let fresh := (camOf p s).commitLoc == s.loc + 1
  let s := modCam p (fun c => { c with streaming := true, fsLoc := s.loc }) (s.setO (OD.FSN p) fsn)
  let s := if fresh then redispatch p s else frameHandOver p fsn (lateWrites p s)
  let c := camOf p s
  let buf := if heldOf 5 0 s = 0 then none else freeBuffer s
  let trig := c.trigPending && c.trigLoc != s.loc && s.o (OD.TRIGGER_UNIT p) != 0xFF
  let flags := setBit (setBit (setBit (setBit (setBit 0 flagDropped buf.isNone) flagUntriggered (!trig)) flagOverrun
    (trig && c.trigOver)) flagHeld (trig && c.trigHeld)) flagTorn (c.torn || (c.tornFsn == fsn && fsn != 0))
  let f : FrameRec := {
    fsn := fsn, flags := flags, fsLoc := s.loc, feLoc := 0, trigPos := if trig then c.trigPos else 0
    trigLoc := if trig then c.trigLoc else 0, strobeLoc := 0, buffer := buf.getD 0, setId := s.o (OD.LIVE_ID p), lines := 0
    shortLines := 0, longLines := 0, padLines := 0, cutLines := 0, badLines := 0, width := s.l (OD.WIDTH p)
    height := s.l (OD.HEIGHT p), valid := 0, saturated := 0, sum := [0, 0, 0, 0], count := [0, 0, 0, 0], minV := 1023
    maxV := 0, stored := 0, validLens := [] }
  let s := modCam p (fun c => { c with
    frame := some f, trigPending := if trig then false else c.trigPending
    trigOver := if trig then false else c.trigOver, trigNext := none }) s
  let s := match c.trigNext with
    | some (pos, held) => pendTrigger p pos s.loc held s
    | none => s
  let s := if buf.isSome then moveLedger 5 0 1 1 s
    else camEvent EV.CAM_FRAME_DROPPED fsn p (s.bump (OD.FRAMES_DROPPED p))
  if trig then s else camEvent EV.CAM_UNTRIGGERED fsn p s

/-! ### Pixel packets (R269, R273, R274) -/

/-- Bits per pixel of a port's data type. -/
def pixelBits (p : Nat) (s : State) : Nat :=
  match s.o (OD.DATA_TYPE p) with
  | 0x2A => 8
  | 0x2B => 10
  | _ => 12

/-- Pixel `i` of a payload, as CSI-2 packs RAW8, RAW10 and RAW12 (log entry 17), scaled to 12 bits (R274). -/
def rawPixel (bpp : Nat) (bs : List Byte) (i : Nat) : Nat :=
  let at_ := fun k => (bs.getD k 0).toNat
  match bpp with
  | 8 => 16 * at_ i
  | 10 => 4 * (4 * at_ (5 * (i / 4) + i % 4) + at_ (5 * (i / 4) + 4) / 4 ^ (i % 4) % 4)
  | _ => 16 * at_ (3 * (i / 2) + i % 2) + at_ (3 * (i / 2) + 2) / 16 ^ (i % 2) % 16

/-- R274: the stored value of a 12-bit pixel. -/
def correctPixel (black gain x : Nat) : Nat := (min 1023 (max 0 ((((x : Int) - black) * gain + 512) / 1024))).toNat

/-- R282: a valid pixel of column `x`, line `y` enters the statistics. -/
def countPixel (f : FrameRec) (y x v : Nat) : FrameRec :=
  let c := 2 * (y % 2) + x % 2
  { f with
    valid := f.valid + 1, saturated := f.saturated + (if v = 1023 then 1 else 0)
    sum := f.sum.set c (f.sum.getD c 0 + v), count := f.count.set c (f.count.getD c 0 + 1)
    minV := min f.minV v, maxV := max f.maxV v }

/-- A line of pixels arrives for an open frame. A bad line beyond HEIGHT counts in CUT_LINES alone (DESIGN CHOICE, log entry 193). -/
def takeLine (p : Nat) (f : FrameRec) (payload : List Byte) (crcOk full : Bool) (s : State) : State :=
  let f := { f with
    lines := f.lines + 1
    flags := setBit (setBit f.flags flagLineCrc (!crcOk || bit f.flags flagLineCrc)) flagOverflow (full || bit f.flags flagOverflow) }
  let put := fun (f : FrameRec) (s : State) => modCam p (fun c => { c with frame := some f }) s
  if f.height ≤ f.stored then put { f with cutLines := f.cutLines + 1 } s
  else
    let pad := s.l (OD.PAD_VALUE p)
    let y := f.stored
    if ¬ crcOk ∨ full then
      let s := (storeLine f y (List.replicate f.width pad) s).bump (OD.BAD_LINES_TOTAL p)
      put { f with badLines := f.badLines + 1, stored := y + 1, validLens := f.validLens ++ [0] } s
    else
      let bpp := pixelBits p s
      let n := 8 * payload.length / bpp
      let x0 := s.l (OD.X_OFFSET p)
      let len := min f.width (n - x0)
      let px := (List.range len).map fun x =>
        correctPixel (s.l (OD.BLACK_LEVEL p)) (s.l (OD.GAIN p)) (rawPixel bpp payload (x0 + x))
      let s := storeLine f y (px ++ List.replicate (f.width - len) pad) s
      let f := if bit f.flags flagDropped then f
        else (px.mapIdx fun x v => (x, v)).foldl (fun f xv => countPixel f y xv.1 xv.2) f
      put { f with
        shortLines := f.shortLines + (if n < x0 + f.width then 1 else 0)
        longLines := f.longLines + (if x0 + f.width < n then 1 else 0)
        stored := y + 1, validLens := f.validLens ++ [len] } s

/-- PIXEL_PACKET (R267, R269): a pixel packet of another type than the port's is counted with the other packets; one that arrives
with no frame open is ignored, with no count and no event (DESIGN CHOICE, log entry 192). -/
def pixelPacket (p vc dt : Nat) (payload : List Byte) (crcOk full : Bool) (s : State) : State :=
  if ¬ takesPacket p vc s then s
  else if s.o (OD.DATA_TYPE p) ≠ dt then s.bump (OD.OTHER_PACKETS p)
  else
    match (camOf p s).frame with
    | none => s
    | some f =>
      let s := takeLine p f payload crcOk full s
      let s := if crcOk then s else camEvent EV.CAM_PACKET_ERROR 2 p s
      if full then camEvent EV.CAM_PACKET_ERROR 3 p s else s

/-- OTHER_PACKET (R267): a header with a multi-bit error, or a packet of data type `dt` that carries no line: long packets,
from 0x10 on, are counted, and short ones ignored. -/
def otherPacket (p vc dt : Nat) (multiBit : Bool) (s : State) : State :=
  if ¬ s.ob (OD.CAM_PORT_ENABLE p) then s
  else if multiBit then camEvent EV.CAM_PACKET_ERROR 1 p (s.bump (OD.ECC_ERRORS p))
  else if takesPacket p vc s ∧ 0x10 ≤ dt then s.bump (OD.OTHER_PACKETS p) else s

/-! ### Enabling (R271) -/

/-- A write of PORT_ENABLE, after the object has its new value: a frame that is open is ended with its buffer returned
(R39), and the ledgers are checked (R38); FSN counts from TRUE on. A COMMIT that is pending stays pending, with the TARGET_FSN
it has, and what it still has to write (DESIGN CHOICE, log entry 213). -/
def camEnabled (p : Nat) (was on : Bool) (s : State) : State :=
  if was = on then s
  else if on then modCam p (fun c => { c with tornFsn := 0 }) (s.setO (OD.FSN p) 0)
  else
    let s := match (camOf p s).frame with
      | some f => checkLedgers 3 (s.web.hwl / 64) (if bit f.flags flagDropped then s else moveLedger 5 1 0 1 s)
      | none => s
    modCam p (fun c => { c with frame := none, trigPending := false, trigNext := none }) s

/-- R287: TORN: frames now carry SETTINGS_TORN. -/
def camTorn (c : Cam) : Bool := c.torn || c.frame.any fun f => bit f.flags flagTorn

/-- R268: the level of CAMp_RST_N. -/
def camRstN (p : Nat) (s : State) : Bool := !(s.ob (OD.SENSOR_RESET p) || (camOf p s).rstLow)

/-- R268, R285: CAM is initialised: the resets of its pins end, and the reference clocks that REFCLK asks for run. -/
def startCams (s : State) : State :=
  { s with cams := s.cams.mapIdx fun p c => { c with rstLow := false, refclkOn := s.ob (OD.REFCLK p) } }

/-- R406: a change of REFCLK holds the clock low until CLK_REFCLK_SWITCH. -/
def refclkChange (p : Nat) (s : State) : State := modCam p (fun c => { c with refclkOn := false, refclkDue := true }) s

/-- R284: a Frame End of the same port and channel is still to come in this cycle. -/
def frameEndToCome (channel : CamChannel) (s : State) : Bool := s.pending.contains (.frameEnd channel)

/-- R284: a Frame End closes the open frame; one in the cycle of a Frame Start belongs to the frame before it. -/
def endFrame (p : Nat) (s : State) : State :=
  match (camOf p s).frame with
  | none => s
  | some f => if f.fsLoc = s.loc then s else closeFrame p false s

/-! ### Commands -/

/-- FRAME_END (R267, R271, R282, R284). -/
def execFrameEnd (channel : CamChannel) (s : State) : Host.Outcome State Fault Refusal :=
  .next (whenDo (lineOn s) (fun s => if takesPacket channel.port channel.vc s then endFrame channel.port s else s) s)

/-- PIXEL_PACKET (R269). -/
def execPixelPacket (port : Fin 4) (id : PacketId) (payload : List Byte) (crcOk bufferFull : Bool) (s : State) :
    Host.Outcome State Fault Refusal :=
  .next (whenDo (lineOn s) (fun s => pixelPacket port id.vc id.dt payload crcOk bufferFull s) s)

/-- OTHER_PACKET (R267). -/
def execOtherPacket (port : Fin 4) (id : PacketId) (multiBitEcc : Bool) (s : State) : Host.Outcome State Fault Refusal :=
  .next (whenDo (lineOn s) (fun s => otherPacket port id.vc id.dt multiBitEcc s) s)

/-- CCI_WRITE_COMPLETE (R281). -/
def execCciWriteComplete (port : Fin 4) (nak : Bool) (s : State) : Host.Outcome State Fault Refusal :=
  .next (whenDo (lineOn s) (fun s => cciWriteEnd port nak s) s)

/-- CAM_CCI_DONE (R277). -/
def execCamCciDone (port : Fin 4) (nak : Bool) (data : BitVec 32) (s : State) : Host.Outcome State Fault Refusal :=
  .next (whenDo (lineOn s) (fun s => cciEnd port nak data.toNat s) s)

/-- STREAMING_TIMEOUT (R287). -/
def execStreamingTimeout (port : Fin 4) (s : State) : Host.Outcome State Fault Refusal :=
  .next (whenDo (lineOn s) (fun s => modCam port (fun c => { c with streaming := false }) s) s)

/-- CLK_REFCLK_SWITCH (R406): the clock starts at the new frequency. -/
def execClkRefclkSwitch (port : Fin 4) (s : State) : Host.Outcome State Fault Refusal :=
  .next (if (camOf port s).refclkDue then
      raise EV.CLK_REFCLK_SWITCH port
        (modCam port (fun c => { c with refclkOn := s.ob (OD.REFCLK port), refclkDue := false }) s)
    else s)

end Sys2Proof.Machine
end

