-- ==== Sys2Proof/Machine/Crypto.lean ====
section
/-! DEFINITION. Machine/Crypto.lean: the algorithms that the manual names: SHA-256, HMAC-SHA-256, AES-128 and its key wrap
(RFC 3394), ECDSA on P-256 (FIPS 186-4). Their definitions are those of the standards that R429, R433 and R436 name (log
entry 19). -/

namespace Sys2Proof.Machine

/-! ### SHA-256 -/

/-- The round constants of SHA-256. -/
def shaK : List (BitVec 32) :=
  [0x428a2f98, 0x71374491, 0xb5c0fbcf, 0xe9b5dba5, 0x3956c25b, 0x59f111f1, 0x923f82a4, 0xab1c5ed5] ++
  [0xd807aa98, 0x12835b01, 0x243185be, 0x550c7dc3, 0x72be5d74, 0x80deb1fe, 0x9bdc06a7, 0xc19bf174] ++
  [0xe49b69c1, 0xefbe4786, 0x0fc19dc6, 0x240ca1cc, 0x2de92c6f, 0x4a7484aa, 0x5cb0a9dc, 0x76f988da] ++
  [0x983e5152, 0xa831c66d, 0xb00327c8, 0xbf597fc7, 0xc6e00bf3, 0xd5a79147, 0x06ca6351, 0x14292967] ++
  [0x27b70a85, 0x2e1b2138, 0x4d2c6dfc, 0x53380d13, 0x650a7354, 0x766a0abb, 0x81c2c92e, 0x92722c85] ++
  [0xa2bfe8a1, 0xa81a664b, 0xc24b8b70, 0xc76c51a3, 0xd192e819, 0xd6990624, 0xf40e3585, 0x106aa070] ++
  [0x19a4c116, 0x1e376c08, 0x2748774c, 0x34b0bcb5, 0x391c0cb3, 0x4ed8aa4a, 0x5b9cca4f, 0x682e6ff3] ++
  [0x748f82ee, 0x78a5636f, 0x84c87814, 0x8cc70208, 0x90befffa, 0xa4506ceb, 0xbef9a3f7, 0xc67178f2]

/-- The initial hash value of SHA-256. -/
def shaStart : List (BitVec 32) :=
  [0x6a09e667, 0xbb67ae85, 0x3c6ef372, 0xa54ff53a, 0x510e527f, 0x9b05688c, 0x1f83d9ab, 0x5be0cd19]

/-- One round of SHA-256 over the working variables and the sixteen words of the schedule window. -/
def shaRound (st : List (BitVec 32) × List (BitVec 32)) (k : BitVec 32) : List (BitVec 32) × List (BitVec 32) :=
  match st.1 with
  | [a, b, c, d, e, f, g, h] =>
    let w := fun i => st.2.getD i 0
    let s1 := e.rotateRight 6 ^^^ e.rotateRight 11 ^^^ e.rotateRight 25
    let ch := (e &&& f) ^^^ (~~~e &&& g)
    let t1 := h + s1 + ch + k + w 0
    let s0 := a.rotateRight 2 ^^^ a.rotateRight 13 ^^^ a.rotateRight 22
    let maj := (a &&& b) ^^^ (a &&& c) ^^^ (b &&& c)
    let g0 := (w 1).rotateRight 7 ^^^ (w 1).rotateRight 18 ^^^ (w 1) >>> 3
    let g1 := (w 14).rotateRight 17 ^^^ (w 14).rotateRight 19 ^^^ (w 14) >>> 10
    ([t1 + s0 + maj, a, b, c, d + t1, e, f, g], st.2.tail ++ [w 0 + g0 + w 9 + g1])
  | _ => st

/-- Bytes as a number, the first byte highest. -/
def beNum (l : List Byte) : Nat := l.foldl (fun n b => 256 * n + b.toNat) 0

/-- The low `n` bytes of a number, highest first. -/
def beBytes (n x : Nat) : List Byte := (List.range n).map fun i => BitVec.ofNat 8 (x / 256 ^ (n - 1 - i))

/-- Chunks of `n` elements, `count` of them. -/
def chunksOf {α : Type} (n : Nat) : Nat → List α → List (List α)
  | 0, _ => []
  | count + 1, l => l.take n :: chunksOf n count (l.drop n)

/-- One block of SHA-256. -/
def shaBlock (h : List (BitVec 32)) (block : List Byte) : List (BitVec 32) :=
  let w := (chunksOf 4 16 block).map fun c => BitVec.ofNat 32 (beNum c)
  List.zipWith (· + ·) h (shaK.foldl shaRound (h, w)).1

/-- SHA-256 of a byte string. -/
def sha256 (m : List Byte) : List Byte :=
  let zeros := (119 - m.length % 64) % 64
  let padded := m ++ 0x80#8 :: List.replicate zeros 0 ++ beBytes 8 (8 * m.length)
  ((chunksOf 64 (padded.length / 64) padded).foldl shaBlock shaStart).flatMap fun x => beBytes 4 x.toNat

/-- HMAC-SHA-256 under a key of at most 64 bytes. -/
def hmacSha256 (key m : List Byte) : List Byte :=
  let k := key ++ List.replicate (64 - key.length) 0
  sha256 ((k.map (· ^^^ 0x5C#8)) ++ sha256 ((k.map (· ^^^ 0x36#8)) ++ m))

/-! ### AES-128 and the key wrap -/

/-- The S-box of AES. -/
def aesBox : List Nat :=
  [0x63, 0x7c, 0x77, 0x7b, 0xf2, 0x6b, 0x6f, 0xc5, 0x30, 0x01, 0x67, 0x2b, 0xfe, 0xd7, 0xab, 0x76] ++
  [0xca, 0x82, 0xc9, 0x7d, 0xfa, 0x59, 0x47, 0xf0, 0xad, 0xd4, 0xa2, 0xaf, 0x9c, 0xa4, 0x72, 0xc0] ++
  [0xb7, 0xfd, 0x93, 0x26, 0x36, 0x3f, 0xf7, 0xcc, 0x34, 0xa5, 0xe5, 0xf1, 0x71, 0xd8, 0x31, 0x15] ++
  [0x04, 0xc7, 0x23, 0xc3, 0x18, 0x96, 0x05, 0x9a, 0x07, 0x12, 0x80, 0xe2, 0xeb, 0x27, 0xb2, 0x75] ++
  [0x09, 0x83, 0x2c, 0x1a, 0x1b, 0x6e, 0x5a, 0xa0, 0x52, 0x3b, 0xd6, 0xb3, 0x29, 0xe3, 0x2f, 0x84] ++
  [0x53, 0xd1, 0x00, 0xed, 0x20, 0xfc, 0xb1, 0x5b, 0x6a, 0xcb, 0xbe, 0x39, 0x4a, 0x4c, 0x58, 0xcf] ++
  [0xd0, 0xef, 0xaa, 0xfb, 0x43, 0x4d, 0x33, 0x85, 0x45, 0xf9, 0x02, 0x7f, 0x50, 0x3c, 0x9f, 0xa8] ++
  [0x51, 0xa3, 0x40, 0x8f, 0x92, 0x9d, 0x38, 0xf5, 0xbc, 0xb6, 0xda, 0x21, 0x10, 0xff, 0xf3, 0xd2] ++
  [0xcd, 0x0c, 0x13, 0xec, 0x5f, 0x97, 0x44, 0x17, 0xc4, 0xa7, 0x7e, 0x3d, 0x64, 0x5d, 0x19, 0x73] ++
  [0x60, 0x81, 0x4f, 0xdc, 0x22, 0x2a, 0x90, 0x88, 0x46, 0xee, 0xb8, 0x14, 0xde, 0x5e, 0x0b, 0xdb] ++
  [0xe0, 0x32, 0x3a, 0x0a, 0x49, 0x06, 0x24, 0x5c, 0xc2, 0xd3, 0xac, 0x62, 0x91, 0x95, 0xe4, 0x79] ++
  [0xe7, 0xc8, 0x37, 0x6d, 0x8d, 0xd5, 0x4e, 0xa9, 0x6c, 0x56, 0xf4, 0xea, 0x65, 0x7a, 0xae, 0x08] ++
  [0xba, 0x78, 0x25, 0x2e, 0x1c, 0xa6, 0xb4, 0xc6, 0xe8, 0xdd, 0x74, 0x1f, 0x4b, 0xbd, 0x8b, 0x8a] ++
  [0x70, 0x3e, 0xb5, 0x66, 0x48, 0x03, 0xf6, 0x0e, 0x61, 0x35, 0x57, 0xb9, 0x86, 0xc1, 0x1d, 0x9e] ++
  [0xe1, 0xf8, 0x98, 0x11, 0x69, 0xd9, 0x8e, 0x94, 0x9b, 0x1e, 0x87, 0xe9, 0xce, 0x55, 0x28, 0xdf] ++
  [0x8c, 0xa1, 0x89, 0x0d, 0xbf, 0xe6, 0x42, 0x68, 0x41, 0x99, 0x2d, 0x0f, 0xb0, 0x54, 0xbb, 0x16]

/-- A byte through the S-box. -/
def subByte (b : Byte) : Byte := BitVec.ofNat 8 (aesBox.getD b.toNat 0)

/-- A byte through the inverse S-box. -/
def invSubByte (b : Byte) : Byte := BitVec.ofNat 8 (aesBox.idxOf b.toNat)

/-- Doubling in the field of AES. -/
def aesDouble (b : Byte) : Byte := (b <<< 1) ^^^ (if b.msb then 0x1B else 0)

/-- A product in the field of AES by a factor below 16. -/
def aesTimes (n : Nat) (b : Byte) : Byte :=
  let d := aesDouble b
  let q := aesDouble d
  let o := aesDouble q
  (if n % 2 = 1 then b else 0) ^^^ (if n / 2 % 2 = 1 then d else 0) ^^^ (if n / 4 % 2 = 1 then q else 0) ^^^
    (if n / 8 % 2 = 1 then o else 0)

/-- Two byte strings, bit by bit. -/
def xorBytes (a b : List Byte) : List Byte := List.zipWith (· ^^^ ·) a b

/-- The next round key of AES-128. -/
def nextKey (k : List Byte) (rcon : Byte) : List Byte :=
  let last := k.drop 12
  let t := xorBytes ((last.tail ++ last.take 1).map subByte) [rcon, 0, 0, 0]
  let w0 := xorBytes (k.take 4) t
  let w1 := xorBytes ((k.drop 4).take 4) w0
  let w2 := xorBytes ((k.drop 8).take 4) w1
  w0 ++ w1 ++ w2 ++ xorBytes last w2

/-- The round keys of AES-128, last first. -/
def roundKeys (key : List Byte) : List (List Byte) :=
  [0x01#8, 0x02#8, 0x04#8, 0x08#8, 0x10#8, 0x20#8, 0x40#8, 0x80#8, 0x1B#8, 0x36#8].foldl
    (fun ks r => nextKey (ks.headD []) r :: ks) [key]

/-- The inverse of ShiftRows and SubBytes. -/
def invShiftSub (s : List Byte) : List Byte :=
  (List.range 16).map fun i => invSubByte (s.getD ((16 + i - 4 * (i % 4)) % 16) 0)

/-- The inverse of MixColumns. -/
def invMix (s : List Byte) : List Byte :=
  (List.range 16).map fun i =>
    let at_ := fun r => s.getD (i / 4 * 4 + (i + r) % 4) 0
    aesTimes 14 (at_ 0) ^^^ aesTimes 11 (at_ 1) ^^^ aesTimes 13 (at_ 2) ^^^ aesTimes 9 (at_ 3)

/-- The inverse rounds of AES-128. -/
def invRounds : List (List Byte) → List Byte → List Byte
  | [], s => s
  | [k], s => xorBytes (invShiftSub s) k
  | k :: ks, s => invRounds ks (invMix (xorBytes (invShiftSub s) k))

/-- AES-128 decryption of a block. -/
def aesDecrypt (key block : List Byte) : List Byte :=
  match roundKeys key with
  | [] => block
  | k :: ks => invRounds ks (xorBytes block k)

/-- One step of the unwrapping of RFC 3394 for two blocks: (A, R1, R2). -/
def unwrapStep (kek : List Byte) (st : List Byte × List Byte × List Byte) (t : Nat) : List Byte × List Byte × List Byte :=
  let a := xorBytes st.1 (beBytes 8 t)
  if t % 2 = 0 then
    let b := aesDecrypt kek (a ++ st.2.2)
    (b.take 8, st.2.1, b.drop 8)
  else
    let b := aesDecrypt kek (a ++ st.2.1)
    (b.take 8, b.drop 8, st.2.2)

/-- RFC 3394: unwrap 24 bytes into a 128-bit key; none when the integrity check fails. -/
def keyUnwrap (kek wrapped : List Byte) : Option (List Byte) :=
  let (a, r1, r2) := [12, 11, 10, 9, 8, 7, 6, 5, 4, 3, 2, 1].foldl (unwrapStep kek)
    (wrapped.take 8, (wrapped.drop 8).take 8, (wrapped.drop 16).take 8)
  if a = List.replicate 8 0xA6#8 then some (r1 ++ r2) else none

/-! ### ECDSA on P-256 -/

/-- The prime, the order, the coefficient b and the base point of P-256. -/
def p256P : Nat := 0xffffffff00000001000000000000000000000000ffffffffffffffffffffffff
def p256N : Nat := 0xffffffff00000000ffffffffffffffffbce6faada7179e84f3b9cac2fc632551
def p256B : Nat := 0x5ac635d8aa3a93e7b3ebbd55769886bc651d06b0cc53b0f63bce3c3e27d2604b
def p256G : Nat × Nat :=
  (0x6b17d1f2e12c4247f8bce6e563a440f277037d812deb33a0f4a13945d898c296,
   0x4fe342e2fe1a7f9b8ee7eb4a7c0f9e162bce33576b315ececbb6406837bf51f5)

/-- `b ^ e` modulo `m`, over the `bits_` low bits of `e`. -/
def powMod (m : Nat) : Nat → Nat → Nat → Nat
  | 0, _, _ => 1
  | bits_ + 1, b, e =>
    let r := powMod m bits_ (b * b % m) (e / 2)
    if e % 2 = 1 then b * r % m else r

/-- The inverse modulo a prime. -/
def invMod (m x : Nat) : Nat := powMod m 256 (x % m) (m - 2)

/-- A difference modulo `m`. -/
def subMod (m a b : Nat) : Nat := (a + m - b % m) % m

/-- A point with the given slope of the line through `(x1, y1)` and `x2`. -/
def chord (l x1 y1 x2 : Nat) : Nat × Nat :=
  let x := subMod p256P (subMod p256P (l * l % p256P) x1) x2
  (x, subMod p256P (l * subMod p256P x1 x % p256P) y1)

/-- Doubling of a point; none is the point at infinity. -/
def pointDouble : Option (Nat × Nat) → Option (Nat × Nat)
  | none => none
  | some (x, y) =>
    if y = 0 then none
    else some (chord ((3 * x * x + (p256P - 3)) % p256P * invMod p256P (2 * y) % p256P) x y x)

/-- The sum of two points. -/
def pointAdd : Option (Nat × Nat) → Option (Nat × Nat) → Option (Nat × Nat)
  | none, q => q
  | q, none => q
  | some (x1, y1), some (x2, y2) =>
    if x1 = x2 then (if y1 = y2 then pointDouble (some (x1, y1)) else none)
    else some (chord (subMod p256P y2 y1 * invMod p256P (subMod p256P x2 x1) % p256P) x1 y1 x2)

/-- A multiple of a point, over the `bits_` low bits of the factor. -/
def pointTimes : Nat → Nat → Option (Nat × Nat) → Option (Nat × Nat)
  | 0, _, _ => none
  | bits_ + 1, k, q =>
    let r := pointTimes bits_ (k / 2) (pointDouble q)
    if k % 2 = 1 then pointAdd q r else r

/-- R430: a point on P-256. -/
def onCurve (x y : Nat) : Bool :=
  decide (x < p256P) && decide (y < p256P) && y * y % p256P == (x * x * x + (p256P - 3) * x + p256B) % p256P

/-- R429: the ECDSA verification of a digest. -/
def ecdsaVerify (key digest r s : List Byte) : Bool :=
  let (x, y) := (beNum (key.take 32), beNum (key.drop 32))
  let (r, s) := (beNum r, beNum s)
  if r = 0 ∨ p256N ≤ r ∨ s = 0 ∨ p256N ≤ s ∨ ¬ onCurve x y then false
  else
    let w := invMod p256N s
    match pointAdd (pointTimes 256 (beNum digest * w % p256N) (some p256G)) (pointTimes 256 (r * w % p256N) (some (x, y))) with
    | none => false
    | some (v, _) => v % p256N == r

end Sys2Proof.Machine
end

