-- ==== Sys2Proof/Machine/Image.lean ====
section
/-! DEFINITION. Machine/Image.lean: firmware images and their slots (R384, R387, R393, R429, R430). -/

namespace Sys2Proof.Machine

/-- R383: bytes of a firmware slot. -/
def slotSize : Nat := 16777216

/-- R402: 0 ERASED, 1 WRITING, 2 VALID, 3 INVALID. -/
def SlotStatus.code : SlotStatus → Nat
  | .erased => 0
  | .writing => 1
  | .valid => 2
  | .invalid => 3

/-- A slot by number: 0 A, 1 B. -/
def slotOf (n : Nat) (s : State) : FwSlot := vgetN s.boot.slots n

/-- Update a slot. -/
def modSlot (n : Nat) (f : FwSlot → FwSlot) (s : State) : State :=
  { s with boot := { s.boot with slots := vmodN s.boot.slots n f } }

/-- R430: the key of a firmware key slot; none when it is empty. Slot 0 is fused. -/
def firmwareKey (n : Nat) (s : State) : Option (List Byte) :=
  if n = 0 then some ((Config.fusedKey ++ List.replicate 64 0).take 64)
  else if 3 < n ∨ vgetN s.sec.fwKeys n = 0 then none
  else some (beBytes 64 (vgetN s.sec.fwKeys n))

/-- A field of an image, little-endian. -/
def imgField (img : List Byte) (off n : Nat) : Nat := leNum ((img.drop off).take n)

/-- R384: IMAGE_BYTES of the header. -/
def imageBytes (img : List Byte) : Nat := imgField img 0x0C 4

/-- R384: the header meets its table. -/
def headerMeets (img : List Byte) : Bool :=
  decide (32 ≤ img.length) && img.take 4 == [0x52#8, 0x5A#8, 0x46#8, 0x57#8] && imgField img 4 1 == 1 &&
    imgField img 6 2 == 0 && (img.drop 0x14).take 12 == List.replicate 12 0#8 &&
    imageBytes img != 0 && decide (imageBytes img ≤ slotSize) &&
    decide (65536 ≤ imgField img 0x10 4) && decide (imgField img 0x10 4 ≤ 524288) &&
    decide (imgField img 0x10 4 + 72 ≤ imageBytes img)

/-- R429: the signature block names the header's key slot, the slot holds a key, and the signature verifies. -/
def signatureOk (img : List Byte) (s : State) : Bool :=
  let body := img.take (imageBytes img - 72)
  let block := (img.drop (imageBytes img - 72)).take 72
  block.length == 72 && block.take 4 == [0x52#8, 0x5A#8, 0x53#8, 0x47#8] && imgField block 4 1 == imgField img 5 1 &&
    imgField block 5 3 == 0 &&
    (match firmwareKey (imgField img 5 1) s with
     | some key => ecdsaVerify key (sha256 body) ((block.drop 8).take 32) ((block.drop 40).take 32)
     | none => false)

/-- R387: an image passes. -/
def imagePasses (img : List Byte) (s : State) : Bool :=
  headerMeets img && decide (imageBytes img ≤ img.length) && signatureOk img s

/-- R384: VERSION of an image. -/
def imageVersion (img : List Byte) : Nat := imgField img 8 4

/-- The image in a slot (R484). -/
def imageOf (x : FwSlot) : List Byte := if x.factory then Config.factoryImage else x.image

/-- R384: the core part of an image, and its DRAM part, which ends before the signature block. -/
def corePart (img : List Byte) : List Byte := img.take (imgField img 0x10 4)
def dramPart (img : List Byte) : List Byte := (img.take (imageBytes img - 72)).drop (imgField img 0x10 4)

/-- R387: what verification makes of a slot. The factory image passes (R484). -/
def verifySlot (x : FwSlot) (s : State) : FwSlot :=
  if x.factory then { x with status := .valid, version := Config.factoryVersion.toNat }
  else if x.image.isEmpty then { x with status := .erased, version := 0 }
  else if imagePasses x.image s then { x with status := .valid, version := imageVersion x.image }
  else { x with status := .invalid, version := 0 }

/-- R393: the slot that a write goes to. -/
def targetSlot (s : State) : Nat := if s.boot.phase = .bare then min 1 (s.o OD.UPDATE_SLOT) else 1 - s.boot.running

/-- Bytes with `bs` placed at `off`, erased bytes between. -/
def placeBytes (off : Nat) (bs img : List Byte) : List Byte :=
  (img ++ List.replicate (off - img.length) 0xFF#8).take off ++ bs ++ img.drop (off + bs.length)

/-- R393: bytes of an image arrive; the first byte erases the slot. -/
def imageStore (off : Nat) (bs : List Byte) (s : State) : State :=
  let n := targetSlot s
  if bs.isEmpty then s
  else if off = 0 then modSlot n (fun _ => { status := .writing, version := 0, image := bs, factory := false }) s
  else if (slotOf n s).status = .writing then modSlot n (fun x => { x with image := placeBytes off bs x.image }) s
  else s

/-- R393: the last byte of an image has been written: the slot is verified. -/
def imageEnd (s : State) : Bool × State :=
  let n := targetSlot s
  if (slotOf n s).status ≠ .writing then (false, s)
  else
    let x := verifySlot (slotOf n s) s
    let s := modSlot n (fun _ => x) s
    if x.status = .valid then (true, raise EV.BOOT_IMAGE_VERIFIED n s) else (false, raise EV.BOOT_IMAGE_REJECTED n s)

/-- R393, R111: a ring has written up to `last`: the last byte is the one that IMAGE_BYTES names. False: the image failed. -/
def imageReached (last : Nat) (s : State) : Bool × State :=
  let img := (slotOf (targetSlot s) s).image
  if (slotOf (targetSlot s) s).status = .writing ∧ 32 ≤ img.length ∧ imageBytes img ≤ last then imageEnd s
  else (true, s)

end Sys2Proof.Machine
end

