-- ==== Sys2Proof/Machine/Clocks.lean ====
section
/-! DEFINITION. Machine/Clocks.lean: the relation between LOC and NET (R316) and the crystal check (R407). -/

namespace Sys2Proof.Machine

/-- The fitted NET at a LOC, in ns, exactly (R316). -/
def netAt (t : Time) (loc : Nat) : Rat := t.net0 + ((loc : Int) - (t.loc0 : Int) : Rat) * (5 / 2) * t.rate

/-- NET now: the fitted value for the LOC of the cycle, in whole ns (R316). -/
def netNow (s : State) : Nat :=
  if s.time.pairs.isEmpty then wrapTo 64 (Config.netUnset s.net.sysTime s.net.sysLoc s.loc) else unsignedOf 64 (netAt s.time s.loc).floor

/-- Whether every pair lies on the line through `p` and `q`. -/
def collinear (p q : Nat × Nat) (l : List (Nat × Nat)) : Bool :=
  l.all fun r => ((r.1 : Int) - p.1) * ((q.2 : Int) - p.2) == ((q.1 : Int) - p.1) * ((r.2 : Int) - p.2)

/-- R316: the fit of pairs, newest first: the line they lie on; where there is no such line, open (log entry 3). -/
def fitPairs (l : List (Nat × Nat)) (t : Time) : Time :=
  match l with
  | [] => { t with pairs := [] }
  | [p] => { t with pairs := [p], net0 := p.1, loc0 := p.2, rate := Config.fitRate [p] }
  | p :: q :: rest =>
    if p.2 ≠ q.2 ∧ collinear p q rest then
      { t with pairs := l, net0 := p.1, loc0 := p.2, rate := ((p.1 : Int) - q.1 : Rat) / ((p.2 : Int) - q.2 : Rat) / (5 / 2) }
    else { t with pairs := l, net0 := Config.fitNet l, loc0 := p.2, rate := Config.fitRate l }

/-- The magnitude of a rational. -/
def absRat (q : Rat) : Rat := if q < 0 then -q else q

/-- How far a pair lies from the fit, in ns. -/
def offFit (t : Time) (p : Nat × Nat) : Rat := absRat ((p.1 : Rat) - netAt t p.2)

/-- NET_RATE: the reported rho in 10^-9 (R316). -/
def netRate (s : State) : Int := roundRat ((s.time.rate - 1) * 1000000000)

/-- R407: CLK_XTAL_DRIFT above 100 ppm, once until the offset is below 80 ppm. -/
def driftCheck (s : State) : State :=
  if ¬ s.time.locked then s
  else
    let off := -netRate s
    if off.natAbs < 80000 then { s with pwr := { s.pwr with driftArmed := true } }
    else if 100000 < off.natAbs ∧ s.pwr.driftArmed then
      raise EV.CLK_XTAL_DRIFT (unsignedOf 16 (saturateSigned 16 (off.tdiv 1000))) { s with pwr := { s.pwr with driftArmed := false } }
    else s

/-- R316: NET_LOCKED set or cleared, with its event. -/
def setNetLock (b : Bool) (s : State) : State :=
  if s.time.locked = b then s
  else raise (if b then EV.TIME_NET_LOCKED else EV.TIME_NET_UNLOCKED) 0 { s with time := { s.time with locked := b } }

/-- R316: a pair of ESC time and LOC. -/
def takePair (esc : Nat) (s : State) : State :=
  let win : Rat := s.o OD.NET_LOCK_WINDOW
  let p := (esc, s.loc)
  let stepped := !s.time.pairs.isEmpty && decide (1000 < offFit s.time p)
  if stepped then
    let s := if win < offFit s.time p then setNetLock false s else s
    driftCheck (raise EV.TIME_NET_STEP 0 { s with time := fitPairs [p] s.time })
  else
    let s := { s with time := fitPairs ((p :: s.time.pairs).take 8) s.time }
    let inside := s.time.pairs.all fun q => decide (offFit s.time q ≤ win)
    driftCheck (if ¬ inside then setNetLock false s
      else if s.time.pairs.length = 8 then setNetLock true s else s)

/-- NET_PAIR_SAMPLE (R69, R316): the ESC's 64-bit system time at this LOC, and the pair that TIME takes of it. -/
def execNetPairSample (escTime : Nat) (s : State) : Host.Outcome State Fault Refusal :=
  let esc := wrapTo 64 escTime
  .next (takePair esc { s with net := { s.net with sysTime := esc, sysLoc := s.loc } })

end Sys2Proof.Machine
end

