-- ==== Sys2Proof/Machine/Web.lean ====
section
/-! DEFINITION. Machine/Web.lean: the web position unit (R181 to R204): counts, lines, marks, the index, steps, presets,
speed, latches and the emulated encoder. The release of a boundary is in Machine/Boundary.lean. -/

namespace Sys2Proof.Machine

/-- R185: lines per count. -/
def ratio (s : State) : Rat := (s.o OD.SCALE_NUM : Rat) / (s.o OD.SCALE_DEN : Rat)

/-- R191: REVERSE_WINDOW in lines. -/
def reverseWindow (s : State) : Rat := s.o OD.REVERSE_WINDOW * ratio s

/-- R187, R410: a forme is ARMED or PRINTING. -/
def formesBusy (s : State) : Bool :=
  s.formes.toList.any fun f => f.state == .armed || f.state == .printing

/-- R181, R327: the source that the objects select. -/
def sourceWanted (s : State) : Nat := if s.pace.role = 1 ∨ s.pace.role = 2 then 0 else s.o OD.WEB_SOURCE

/-- R201: the source whose edges count in this cycle: a change of the source comes after them. -/
def sourceNow (s : State) : Nat := if s.web.switchLoc = s.loc + 1 then s.web.sourceBefore else s.web.source

/-- R201: the platen took a hold at the boundary of this cycle, which comes after the steps of the cycle. -/
def heldNow (s : State) : Bool := s.plat.held && s.plat.entries.head? == some s.loc

/-! ### Latches (R198) -/

/-- R197: S in 0.01 lines/s, rounded toward zero. -/
def speedNow (s : State) : Int :=
  let m := (absRat s.web.speed * 100).floor
  if s.web.speed < 0 then -m else m

/-- R198: slot `k` takes P, LOC, NET and S; slot 0 also feeds WEB_LINE_AT_SYNC and WEB_SPEED. -/
def latchSlot (k : Nat) (s : State) : State :=
  let entry : Latch := ⟨webpOf s.web.p, s.loc, netNow s, speedNow s⟩
  let s := { s with web := { s.web with
    latches := vmodN s.web.latches k fun _ => entry, latchedAt := vmodN s.web.latchedAt k fun _ => s.loc + 1 } }
  if k = 0 then (s.setO OD.WEB_LINE_AT_SYNC s.web.p.floor.toNat).setO OD.WEB_SPEED (speedNow s).natAbs else s

/-- R198, R201: a slot latched in the cycle of a movement of P has P as it stands at the cycle's end. -/
def relatch (s : State) : State :=
  let now := fun k => vgetN s.web.latchedAt k == s.loc + 1
  let s := { s with web := { s.web with
    latches := s.web.latches.mapIdx fun k l => if now k then { l with pos := webpOf s.web.p } else l } }
  if now 0 then s.setO OD.WEB_LINE_AT_SYNC s.web.p.floor.toNat else s

/-! ### The emulated encoder (R199, R200, R330) -/

/-- R199: the count that the web's motion calls for. -/
def emuTarget (s : State) : Int := (s.web.emuBase * s.o OD.EMU_COUNTS_PER_LINE).floor

/-- R200: LOC ticks between emitted edges. -/
def emuGap : Nat := 20

/-- `n` counts toward `target` from `c`. -/
def toward (c target : Int) (n : Nat) : Int := if c ≤ target then min target (c + n) else max target (c - n)

/-- R199, R200, R333: the emulated count after a movement from a target of `old`. A chip that does not drive keeps its
count level; one that holds QUOIN_N and does not drive yet owes the counts. Counts owed before leave one per 50 ns. -/
def emulate (old : Int) (s : State) : State :=
  let t := emuTarget s
  let w := s.web
  if s.pace.quoinHeld ∧ ¬ s.pace.driving then s
  else if ¬ s.pace.driving then { s with web := { w with emuCount := t, emuBehind := false } }
  else if w.emuBehind then s
  else
    let room := if s.loc < w.emuFree then 0 else (s.loc - w.emuFree) / emuGap + 1
    let n := min (old - w.emuCount).natAbs room
    let c := toward w.emuCount old n
    let free := w.emuFree + n * emuGap
    let now := c ≠ t ∧ free ≤ s.loc
    let c := if now then toward c t 1 else c
    let s := { s with web := { w with emuCount := c, emuFree := if now then s.loc + emuGap else free } }
    if 4 < (t - c).natAbs then raise EV.WEB_EMU_BEHIND 0 { s with web := { s.web with emuBehind := true } } else s

/-- R199: the emulated indices of a count that moved P from `before`: in forward travel one for each multiple of the revolution
that it reaches or passes over, none in reverse. Z is high from an index to the next emulated count (log entry 77). -/
def emulateIndex (before : Rat) (s : State) : State :=
  let epl := s.o OD.EMU_COUNTS_PER_LINE
  let rev := s.o OD.EMU_COUNTS_PER_REV
  let old := (before * epl).floor
  let new := (s.web.p * epl).floor
  if rev = 0 ∨ ¬ s.pace.driving then { s with web := { s.web with emuZ := false } }
  else if old = new then s
  else
    let n := (new / rev - old / rev).toNat
    { s with web := { s.web with emuIndex := s.web.emuIndex + n, emuZ := n != 0 } }

/-- R199: the levels of PACE_OUT_A, PACE_OUT_B and PACE_OUT_Z: a forward count has A leading B; Z is high in the count of
an emulated index (DESIGN CHOICE, log entry 77). A chip that does not drive leaves them low. -/
def paceOut (s : State) : Bool × Bool × Bool :=
  let n := s.web.emuCount % 4
  (s.pace.driving && (n == 1 || n == 2), s.pace.driving && (n == 2 || n == 3),
   s.pace.driving && s.o OD.EMU_COUNTS_PER_REV != 0 && s.web.emuZ)

/-- EMULATOR_CATCH_UP (R200): the owed counts are emitted. -/
def execEmulatorCatchUp (s : State) : Host.Outcome State Fault Refusal :=
  .next (whenDo (webOn s) (fun s =>
    if s.pace.driving then
        { s with web := { s.web with emuCount := emuTarget s, emuBehind := false, emuFree := s.loc + emuGap } }
      else s) s)

/-! ### Counts (R183 to R191) -/

/-- R186: the origin is passed: the event once, and HOMED cleared. -/
def originUnderrun (s : State) : State :=
  let s := if s.web.underrun then s else raise EV.WEB_ORIGIN_UNDERRUN 0 { s with web := { s.web with underrun := true } }
  { s with web := { s.web with homed := false } }

/-- R193, R196: the revolution phase and the net travel since the index. -/
def movePhase (fwd : Bool) (s : State) : State :=
  let cpr := s.o OD.COUNTS_PER_REV
  if cpr = 0 then s
  else
    let w := s.web
    let phase := if fwd then (if cpr ≤ w.phase + 1 then 0 else w.phase + 1)
      else if w.phase = 0 then cpr - 1 else w.phase - 1
    let since := w.sinceIndex + if fwd then 1 else -1
    let s := { s with web := { w with phase := phase, sinceIndex := since } }
    if 2 * (cpr : Int) ≤ since ∧ ¬ w.missingRaised then
      raise EV.WEB_INDEX_MISSING 0 { s with web := { s.web with missingRaised := true } }
    else s

/-- R197: the count's edge: WEB_MOVING after a stop, and the edge lists. -/
def noteEdge (fwd : Bool) (s : State) : State :=
  let s := if s.web.moving then s else
    raise EV.WEB_MOVING (b2n (!fwd)) { s with web := { s.web with moving := true, direction := if fwd then 1 else 2 } }
  { s with web := { s.web with
      edges := (s.loc, fwd) :: s.web.edges, prevEdge := s.web.lastEdge, lastEdge := s.loc
      edgesSeen := min 2 (s.web.edgesSeen + 1), lastForward := fwd } }

/-- R191: marks, WEB_REVERSAL, WEB_FORWARD after a movement of P. DIRECTION inside the reversal window: the first edge after a stop
sets it (`noteEdge`), and it is forward again once P exceeds the forward mark (DESIGN CHOICE, log entry 190). -/
def moveMarks (s : State) : State :=
  let w := s.web
  if w.reversed then
    let low := min w.low w.p
    if low + reverseWindow s < w.p then
      raise EV.WEB_FORWARD 0 { s with
        web := { w with reversed := false, direction := 1, forward := w.p, low := low }
        plat := { s.plat with forwardSeen := s.plat.forwardSeen || s.plat.held } }
    else { s with web := { w with low := low, forward := max w.forward w.p } }
  else if reverseWindow s < w.forward - w.p then
    raiseX EV.WEB_REVERSAL 0 0 (webpOf w.p) w.hwl { s with
      web := { w with reversed := true, direction := 2, regainDue := true, low := w.p, forward := w.p } }
  else { s with web := { w with
    forward := max w.forward w.p, direction := if w.forward < w.p then 1 else w.direction } }

/-- R191: WEB_HIGH_WATER_REGAINED, when P reaches HWL + 1 from below; `before` is P before the movement. -/
def regainCheck (before : Rat) (s : State) : State :=
  let line : Rat := ((s.web.hwl + 1 : Nat) : Rat)
  if s.web.regainDue ∧ before < line ∧ line ≤ s.web.p then
    raise EV.WEB_HIGH_WATER_REGAINED (s.web.hwl + 1) { s with web := { s.web with regainDue := false } }
  else s

/-- R189: the crossing that a later release of the line reports. A freeze keeps the last crossing, and forgets those of
lines that P has left again. -/
def noteCrossing (before : Rat) (s : State) : State :=
  let w := s.web
  let n := w.p.floor.toNat
  let kept := w.crossed.filter fun c => decide (w.hwl < c.1) && (!w.frozen || decide ((c.1 : Rat) ≤ w.p))
  let kept := if before.floor < w.p.floor ∧ w.hwl < n then
      (if w.frozen then (n, s.loc, w.p) :: kept.filter (·.1 != n)
       else if kept.any (·.1 == n) then kept else (n, s.loc, w.p) :: kept)
    else kept
  { s with web := { w with crossed := kept } }

/-- R185 to R191: one legal count. -/
def applyCount (fwd : Bool) (s : State) : State :=
  let s := whenDo (s.formes.toList.any fun f => f.state == .loading || f.state == .ready) demandWake s
  let before := s.web.p
  let old := emuTarget s
  let s := noteEdge fwd (movePhase fwd s)
  let k := ratio s
  let p := if fwd then before + k else before - k
  let s := if p < 0 then originUnderrun { s with web := { s.web with p := 0, emuBase := s.web.emuBase - before } }
    else { s with web := { s.web with p := p, emuBase := s.web.emuBase + (p - before) } }
  let s := noteCrossing before (regainCheck before (moveMarks s))
  let s := emulate old (emulateIndex before s)
  relatch (platMoved before s)

/-- R183, R184: a change of the filtered (A, B) state of the source in effect. -/
def decodeState (old new : Bool × Bool) (s : State) : State :=
  if old = new then s
  else if old.1 ≠ new.1 ∧ old.2 ≠ new.2 then
    let s := { s.bump OD.QUAD_ERRORS with web := { s.web with illegalLoc := s.loc + 1 } }
    raise EV.WEB_QUAD_ILLEGAL (s.o OD.QUAD_ERRORS) s
  else applyCount (Bool.xor (Bool.xor new.1 old.2) (s.ob OD.DIRECTION_INVERT)) s

/-- R182, R322: `n` samples in a row have agreed on the level; a pulse of fewer is discarded (log entry 152). -/
def agreed (n : Nat) (x : Samples) : Bool := decide (max 1 n ≤ x.run)

/-- R182: the filtered level of a line. -/
def filterLine (old : Bool) (x : Samples) (s : State) : Bool := if agreed (s.o OD.FILTER_SAMPLES) x then x.level else old

/-- QUADRATURE_COUNT (R182, R183): the inputs A and B of a source as their samples show them; a change of the filtered state
counts; a WEB without power counts nothing. -/
def execQuadratureCount (source : Fin 2) (a b : Samples) (s : State) : Host.Outcome State Fault Refusal :=
  let old := s.web.ab.get source
  let new := (filterLine old.1 a s, filterLine old.2 b s)
  let s := { s with web := { s.web with ab := vmod s.web.ab source fun _ => new } }
  .next (if webOn s ∧ sourceNow s = source.val then decodeState old new s else s)

/-! ### Steps (R192) -/

/-- R192: a position step of `delta` counts. A step emits no emulated index, also where it lands on one or passes it: R199 speaks of
the motion of the web (DESIGN CHOICE, log entry 209). R201: a hold of this cycle comes after it, and has its high-water line. -/
def applyStep (delta : Int) (s : State) : State :=
  let before := s.web.p
  let by_ : Rat := delta * ratio s
  let p := max 0 (before + by_)
  let hwl := if heldNow s then s.web.released else s.web.hwl
  let hwl' := if 0 < delta then hwl + (p.floor - before.floor).toNat else hwl
  let s := { s with web := { s.web with
    p := p, forward := max 0 (s.web.forward + by_), low := min s.web.low p
    hwl := if heldNow s then s.web.hwl else hwl' } }
  let s := if before + by_ < 0 then originUnderrun s else s
  let s := if hwl < hwl' then stepLanes hwl hwl' (skipLines hwl hwl' s) else s
  let s := s.setI OD.LAST_STEP delta
  let s := raiseX EV.WEB_POSITION_STEP (unsignedOf 16 (saturateSigned 16 delta)) (unsignedOf 32 delta) hwl hwl' s
  relatch (platMoved before s)

/-! ### Presets and commands (R187) -/

/-- R165: the fire lines begin anew: the class in effect holds from the first on, and the pending items keep their bands. -/
def rateLogAnew (s : State) : State :=
  let pending := fun q : Nat => s.comp.items.filterMap fun p => match p.item with
    | .rate r cls => if r = q then some (64 * p.band, cls) else none
    | _ => none
  { s with comp := { s.comp with rateLog := (s.comp.rate.mapIdx fun q cls => (0, cls) :: pending q) } }

/-- R187: P, F and HWL at PRESET_LINE, homed. Every lane and sequencer goes on from the line above it, and what the position steps
passed before and the bands of rate classes taken before are of the old lines. -/
def preset (s : State) : State :=
  let n := s.o OD.PRESET_LINE
  let p : Rat := n
  let s := { s with web := { s.web with
    p := p, forward := p, low := min s.web.low p, hwl := n, homed := true, underrun := false, presetArmed := false
    crossed := [], emuBase := p, emuCount := (p * s.o OD.EMU_COUNTS_PER_LINE).floor, emuBehind := false } }
  let s := eachDo (List.range 24) (fun h s =>
    let held := (laneOf h s).lead.length
    let s := moveLedger 3 2 0 held
      (modLane h (fun l => { l with lead := [], delay := [], next := n + 1, restart := false, skips := [] }) s)
    modSeqr h (fun q => { q with nextSlot := n + 1 }) s) s
  raise EV.WEB_PRESET_DONE n (relatch (rateLogAnew s))

/-- R194, R196: the phase is unlocked. -/
def unlockPhase (s : State) : State := { s with web := { s.web with locked := false, sinceIndex := 0 } }

/-- R194: a change of COUNTS_PER_REV unlocks the phase. -/
def revolutionChanged (s : State) : State := unlockPhase { s with web := { s.web with phase := 0 } }

/-- R187: the state refuses a value of WEB_COMMAND. -/
def webRefused (v : Nat) (s : State) : Bool := (v == 1 || v == 2) && (formesBusy s || s.web.frozen)

/-- WEB_COMMAND (R187): the abort code and the state. -/
def webCommand (v : Nat) (s : State) : Nat × State :=
  if webRefused v s then (AB.state, s)
  else match v with
  | 1 => (AB.ok, unlockPhase (preset s))
  | 2 => (AB.ok, { s with web := { s.web with presetArmed := true } })
  | 3 => (AB.ok, latchSlot 2 s)
  | 4 => (AB.ok, (s.setO OD.QUAD_ERRORS 0).setO OD.INDEX_MISMATCHES 0)
  | _ => (AB.range, s)

/-- STROBE (R203): a write of 1 to WEB_LATCH. -/
def execStrobe (s : State) : Host.Outcome State Fault Refusal :=
  .next (whenDo (webOn s) (fun s => latchSlot 2 s) s)

/-! ### The index (R193 to R196) -/

/-- R194: the deviation reduced into half a revolution either way. -/
def deviation (phase index cpr : Nat) : Int :=
  let d := ((phase : Int) - index) % cpr
  if (cpr : Int) < 2 * d then d - cpr else d

/-- R195: what a mismatch does. -/
def indexPolicy (d : Int) (s : State) : State :=
  match s.o OD.INDEX_POLICY with
  | 1 => applyStep (-d) { s with web := { s.web with phase := s.o OD.INDEX_PHASE } }
  | 2 => s.setI OD.STEP_PENDING (-d)
  | _ => s

/-- R194: the edge locks the phase at INDEX_PHASE. -/
def lockPhase (s : State) : State :=
  raise EV.WEB_INDEX (s.o OD.INDEX_PHASE) { s with web := { s.web with phase := s.o OD.INDEX_PHASE, locked := true } }

/-- R194: an eligible index edge. -/
def evaluateIndex (s : State) : State :=
  let cpr := s.o OD.COUNTS_PER_REV
  let s := { s with web := { s.web with sinceIndex := 0, missingRaised := false } }
  if s.web.presetArmed then
    if cpr = 0 then raise EV.WEB_INDEX 0 (preset s) else lockPhase (preset s)
  else if cpr = 0 then raise EV.WEB_INDEX 0 s
  else if ¬ s.web.locked then lockPhase s
  else
    let phase := s.web.phase
    let d := deviation phase (s.o OD.INDEX_PHASE) cpr
    let s := raise EV.WEB_INDEX phase s
    if d.natAbs ≤ s.o OD.INDEX_TOLERANCE then s
    else
      let s := raise EV.WEB_INDEX_MISMATCH (unsignedOf 16 (saturateSigned 16 d)) s
      indexPolicy d (((s.setO OD.INDEX_EXPECTED (s.o OD.INDEX_PHASE)).setO OD.INDEX_ACTUAL phase).bump OD.INDEX_MISMATCHES)

/-- R182: Z of a source has been high for FILTER_SAMPLES samples. -/
def indexFiltered (high : Nat) (s : State) : Bool := agreed (s.o OD.FILTER_SAMPLES) ⟨true, high⟩

/-- R194, R201: a rising edge of the filtered Z of a source. In the sample of an illegal transition it is latched and neither locks
nor presets nor begins a revolution anew: R201 gives its comparison alone no place there (DESIGN CHOICE, log entry 210). -/
def indexEdge (source : Fin 2) (s : State) : State :=
  if ¬ webOn s ∨ sourceNow s ≠ source.val then s
  else
    let eligible := s.web.lastForward && s.web.edgesSeen != 0 && !s.web.reversed
    let s := { s with web := { s.web with indexLoc := s.loc + 1 } }
    latchSlot 1 (if eligible ∧ s.web.illegalLoc ≠ s.loc + 1 then evaluateIndex s else s)

/-- INDEX_EDGE (R182, R194): Z of a source has risen, and has been high for so many samples; a pulse that the filter discards, or an
edge that has acted already in this cycle (`indexFirst`), does nothing. -/
def execIndexEdge (edge : ZEdge) (s : State) : Host.Outcome State Fault Refusal :=
  .next (whenDo (indexFiltered edge.high s && s.web.indexLoc != s.loc + 1) (indexEdge edge.source) s)

/-- R201: an index edge of the source in effect is to come in this cycle. -/
def indexToCome (s : State) : Bool := s.pending.any fun c => match c with
  | .indexEdge edge => sourceNow s == edge.source.val && indexFiltered edge.high s
  | _ => false

/-- R201: the index edges of a cycle are evaluated before a step is applied, also where their commands are still to come. -/
def indexFirst (s : State) : State :=
  if indexToCome s ∧ s.web.indexLoc ≠ s.loc + 1 then
    eachDo [0, 1] (fun (source : Fin 2) s => whenDo (sourceNow s == source.val) (indexEdge source) s) s
  else s

/-- R195: the revolution phase moves with the step that brings the count back to the index. -/
def correctPhase (delta : Int) (s : State) : State :=
  let cpr := s.o OD.COUNTS_PER_REV
  { s with web := { s.web with phase := if cpr = 0 then s.web.phase else (((s.web.phase : Int) + delta) % cpr).toNat } }

/-- STEP_PENDING_APPLY (R195, R201): the pending step at a boundary in a gutter; a hold of this cycle comes after it. -/
def execStepPendingApply (s : State) : Host.Outcome State Fault Refusal :=
  .next (whenDo (webOn s) (fun s =>
    let s := indexFirst s
    let delta := s.oi OD.STEP_PENDING
    let awaits := (List.range 24).any fun h =>
      (laneOf h s).lead.any (fun c => c.forme.isSome) || (laneOf h s).delay.any fun c => decide (s.web.hwl < c.line + maxDelay h s)
    if delta ≠ 0 ∧ (¬ s.web.frozen ∨ heldNow s) ∧ ¬ (s.formes.toList.any fun f => f.state == .printing) ∧ ¬ awaits then
        applyStep delta ((correctPhase delta s).setO OD.STEP_PENDING 0)
      else s) s)

/-! ### Speed (R197) -/

/-- Lines/s of `n` counts in `ticks`; two edges with one timestamp give none, and the value is free (log entry 3). -/
def rateOver (n ticks : Nat) (s : State) : Rat × State :=
  if ticks = 0 then ((drawFree s : Rat), freeDrawn s) else (n * ratio s * 400000000 / ticks, s)

/-- R197: the speed from the edges of the window, newest first. -/
def windowSpeed (es : List (Nat × Bool)) (s : State) : Rat × State :=
  let w := s.web
  match es, es.getLast? with
  | (t2, f) :: _ :: _, some (t1, _) =>
    if ¬ w.moving then (0, s)
    else if es.all (·.2 == f) then
      let (v, s) := rateOver (es.length - 1) (t2 - t1) s
      (if f then v else -v, s)
    else slow w s
  | _, _ => slow w s
where
  /-- R197: from the last two edges ever seen, limited by the time since the last. -/
  slow (w : Web) (s : State) : Rat × State :=
    if ¬ w.moving then (0, s)
    else
      let (v, s) := if w.edgesSeen < 2 then rateOver 1 0 s else rateOver 1 (w.lastEdge - w.prevEdge) s
      let v := if s.loc = w.lastEdge then v else min v (ratio s * 400000000 / (s.loc - w.lastEdge : Nat))
      (if w.lastForward then v else -v, s)

/-- SPEED_WINDOW_CLOSE (R197). The edges of the last microsecond are kept for R333. -/
def execSpeedWindowClose (s : State) : Host.Outcome State Fault Refusal :=
  .next (whenDo (webOn s) (fun s =>
    let (v, s) := windowSpeed (s.web.edges.filter fun e => decide (s.web.windowFrom < e.1)) s
    { s with web := { s.web with
      speed := v, windowFrom := s.loc, edges := s.web.edges.filter fun e => decide (s.loc < e.1 + ticksUs) } }) s)

/-- WEB_STOPPED (R197): no count edge for STOP_TIMEOUT. -/
def execWebStopped (s : State) : Host.Outcome State Fault Refusal :=
  .next (whenDo (webOn s) (fun s =>
    if s.web.moving then
        platStopped (raise EV.WEB_STOPPED 0 { s with web := { s.web with speed := 0, direction := 0, moving := false } })
      else s) s)

/-! ### Sources and sleep -/

/-- R181: a change of the source takes effect at a line boundary. -/
def switchSource (s : State) : State :=
  if s.web.source = sourceWanted s then s
  else raise EV.WEB_SOURCE_SWITCH (sourceWanted s) { s with web := { s.web with
    source := sourceWanted s, sourceBefore := s.web.source, switchLoc := s.loc + 1 } }

/-- R202, R203, R414: entry to SLEEP returns WEB to its reset values: P, HWL, the phase and its lock, HOMED, the latches, FROZEN
and the snapshots; S and DIRECTION are stopped at its exit (R197). The levels of its pins stay. -/
def webSleep (s : State) : State := { s with web := { Web.reset with ab := s.web.ab } }

end Sys2Proof.Machine
end

