-- ==== Sys2Proof/Machine/Motion.lean ====
section
/-! DEFINITION. Machine/Motion.lean: the stepper axes (R364 to R382): phase currents, moves, homing, segments, commits,
stops and faults. Positions are in units of 2^-32 microstep (R368). -/

namespace Sys2Proof.Machine

/-- An axis by number. -/
def axisOf (a : Nat) (s : State) : Axis := vgetN s.axes a

/-- Update an axis. -/
def modAxis (a : Nat) (f : Axis → Axis) (s : State) : State := { s with axes := vmodN s.axes a f }

/-- An event with its axis in [7:0] (R382). -/
def axisEvent (ev a arg : Nat) (s : State) : State := raise ev (a + 256 * arg) s

/-- R368: POSITION, the microstep of a position. -/
def microOf (x : Int) : Int := (x + 2 ^ 31) / 2 ^ 32

/-- R368: a position of `m` microsteps, held in 32 + 32 bits. -/
def fixOf (m : Rat) : Int := signedOf 64 (unsignedOf 64 (roundRat (m * 2 ^ 32)))

/-- R368: seconds in a tick of the profile generator. -/
def tickSec : Rat := 1 / 100000

/-- The axis moves (R370, R381). -/
def AxisState.moves : AxisState → Bool
  | .moving | .segments | .homing => true
  | _ => false

/-- STATE (R380). -/
def AxisState.code : AxisState → Nat
  | .disabled => 0
  | .idle => 1
  | .moving => 2
  | .segments => 3
  | .homing => 4
  | .fault => 5

/-! ### Currents (R365 to R367) -/

/-- R366: entry `k` of the microstep table in effect. -/
def tableAt (a k : Nat) (s : State) : Nat := s.liveNum (OD.MICROSTEP_TABLE a) (2 * k) 2

/-- R366: the complement C[k]. -/
def tableC (a k : Nat) (s : State) : Nat := if k = 0 then 65535 else tableAt a (256 - k) s

/-- R366: the table values of phases A and B at a microstep. -/
def tableValues (a : Nat) (x : Int) (s : State) : Int × Int :=
  let e := (x % 1024).toNat
  let k := e % 256
  let t : Int := tableAt a k s
  let c : Int := tableC a k s
  match e / 256 with
  | 0 => (t, c)
  | 1 => (c, -t)
  | 2 => (-t, -c)
  | _ => (-c, t)

/-- R367: the electrical position: every microstep in quiet mode, coarse ones in strong mode. -/
def electricalPos (a : Nat) (s : State) : Int :=
  let x := microOf (axisOf a s).x
  if (axisOf a s).strong then
    let g : Int := 256 / max 1 (s.l (OD.STRONG_DIVISOR a))
    x / g * g
  else x

/-- R367, R377: the mode current in mA. -/
def modeCurrent (a : Nat) (s : State) : Nat :=
  if (axisOf a s).holding then s.l (OD.HOLD_CURRENT a)
  else if (axisOf a s).strong then s.l (OD.STRONG_CURRENT a)
  else s.l (OD.RUN_CURRENT a)

/-- R378: the causes that hold the outputs low. -/
def lowCause (cause : Nat) : Bool := cause == 1 || cause == 2 || cause == 7

/-- R364, R378: the axis's outputs are low whatever its targets. -/
def outputsLow (x : Axis) : Bool :=
  x.state == .disabled || (x.state == .fault && lowCause x.cause)

/-- R365: the leg commands of a phase for its target. -/
def driveLegs (low : Bool) (target : Rat) (p : Phase) : Phase :=
  if low ∨ target = 0 then { p with legP := false, legN := false, decay := false }
  else if p.decay then { p with legP := false, legN := false }
  else { p with legP := decide (0 < target), legN := decide (target < 0) }

/-- R366: the target currents in mA. -/
def targets (a : Nat) (s : State) : Rat × Rat :=
  let (ta, tb) := tableValues a (electricalPos a s) s
  ((ta * modeCurrent a s : Rat) / 65535, (tb * modeCurrent a s : Rat) / 65535)

/-- R365: the legs after a change of targets; a switch is noted. -/
def refreshLegs (a : Nat) (s : State) : State :=
  let x := axisOf a s
  let (ta, tb) := targets a s
  let pa := driveLegs (outputsLow x) ta x.phaseA
  let pb := driveLegs (outputsLow x) tb x.phaseB
  let same := pa.legP == x.phaseA.legP && pa.legN == x.phaseA.legN && pb.legP == x.phaseB.legP && pb.legN == x.phaseB.legN
  modAxis a (fun x => { x with
    phaseA := pa, phaseB := pb, switchLoc := if same then x.switchLoc else s.loc + 1 }) s

/-- R367, R377: the mode current becomes HOLD_CURRENT. -/
def goHold (a : Nat) (s : State) : State :=
  if (axisOf a s).holding then s
  else axisEvent EV.MOT_HOLD_CURRENT a 0 (modAxis a (fun x => { x with holding := true }) s)

/-- R367: a motion has ended; with HOLD_DELAY 0 the holding current comes at once. -/
def atRest (a : Nat) (s : State) : State :=
  let s := modAxis a (fun x => { x with state := .idle, v := 0, braking := false, segWaiting := false }) s
  if s.l (OD.HOLD_DELAY a) = 0 then goHold a s else s

/-! ### Faults (R378) -/

/-- R378: a fault. In FAULT only one that holds the outputs low, under a cause that does not, counts (log entry 189). -/
def faultAxis (a cause : Nat) (s : State) : State :=
  if (axisOf a s).state = .fault ∧ ¬ (lowCause cause ∧ ¬ lowCause (axisOf a s).cause) then s
  else
    let s := modAxis a (fun x => { x with
      state := .fault, v := 0, braking := false, segWaiting := false, uncertain := true, cause := cause }) s
    let s := if lowCause cause ∧ s.l (OD.HOLD_DELAY a) ≠ 0 then s else goHold a s
    axisEvent EV.MOT_FAULT a cause (refreshLegs a s)

/-- The level of capture input `i` (R322). -/
def inputLevel (i : Nat) (s : State) : Bool := vgetN s.time.level i

/-- R378: the input named by FAULT_INPUT is low. -/
def bridgeFault (a : Nat) (s : State) : Bool := s.o (OD.FAULT_INPUT a) < 8 && !inputLevel (s.o (OD.FAULT_INPUT a)) s

/-- R369: the home input is at its active level. -/
def homeActive (a : Nat) (s : State) : Bool :=
  s.o (OD.HOME_INPUT a) < 8 && (inputLevel (s.o (OD.HOME_INPUT a)) s != bit (s.o (OD.HOME_CONFIG a)) 0)

/-! ### The shadow set (R376) -/

/-- R376: the keys of an axis's shadow set. -/
def motShadow (a key : Nat) : Bool := key / 256 == 0x4800 + a && decide (0x20 ≤ key % 256) && decide (key % 256 ≤ 0x32)

/-- R376: the windows of an axis: live, and pending while a commit is. -/
def windowsOf (a : Nat) (s : State) : List (Nat × Nat) :=
  [(s.l (OD.SEG_FIRST a), s.l (OD.SEG_COUNT a))] ++
    if (axisOf a s).commit then [(s.o (OD.SEG_FIRST a), s.o (OD.SEG_COUNT a))] else []

/-- Two windows share an entry. -/
def sharesEntry (w v : Nat × Nat) : Bool := decide (max w.1 v.1 < min (w.1 + w.2) (v.1 + v.2))

/-- R372: entry `e` lies in the live or pending window of an axis in state SEGMENTS. -/
def segmentLocked (e : Nat) (s : State) : Bool :=
  (List.range 8).any fun a => (axisOf a s).state == .segments && (windowsOf a s).any fun w => sharesEntry w (e, 1)

/-- R376: the cause that refuses a commit; 0 = it passes. -/
def motCause (a : Nat) (s : State) : Nat :=
  let full := s.o (OD.ISENSE_FULL_SCALE a)
  let t := fun k => s.domNum (OD.MICROSTEP_TABLE a) (2 * k) 2
  let w := (s.o (OD.SEG_FIRST a), s.o (OD.SEG_COUNT a))
  if (List.range 255).any fun k => decide (t (k + 1) < t k) then 1
  else if s.o (OD.RUN_CURRENT a) = 0 ∨ s.o (OD.STRONG_CURRENT a) = 0 ∨ full < s.o (OD.RUN_CURRENT a) ∨
      full < s.o (OD.STRONG_CURRENT a) ∨ full < s.o (OD.HOLD_CURRENT a) then 2
  else if s.o (OD.V_BREAK a) < s.o (OD.V_START a) ∨ s.o (OD.V_BREAK a) < s.o (OD.V_STOP a) ∨
      s.o (OD.V_MAX a) < s.o (OD.V_BREAK a) ∨ s.o (OD.V_LIMIT a) < s.o (OD.V_MAX a) then 3
  else if 1024 < w.1 + w.2 ∨ ((List.range 8).any fun b => b != a && (windowsOf b s).any (sharesEntry w)) then 4
  else if s.o (OD.STRONG_SPEED a) ≠ 0 ∧ s.o (OD.STRONG_SPEED a) ≤ s.o (OD.MODE_HYST a) then 5
  else 0

/-- COMMIT of an axis (R376): the abort code and the state after it. -/
def commitMotion (a : Nat) (s : State) : Nat × State :=
  if (axisOf a s).commit then (AB.locked, s)
  else
    let c := motCause a s
    if c ≠ 0 then (AB.range, axisEvent EV.MOT_COMMIT_REFUSED a c (s.setO (OD.MOT_COMMIT_CAUSE a) c))
    else (AB.ok, (modAxis a (fun x => { x with commit := true, commitLoc := s.loc + 1 }) s).setB (OD.MOT_COMMIT_PENDING a) true)

/-- R27, R376: the hand-over at a boundary of the axis; a COMMIT of the boundary's own cycle waits for the next. -/
def takeAxisShadow (a : Nat) (s : State) : State :=
  if ¬ (axisOf a s).commit ∨ (axisOf a s).commitLoc = s.loc + 1 then s
  else
    let s := (s.handOver (motShadow a)).setB (OD.MOT_COMMIT_PENDING a) false
    refreshLegs a (axisEvent EV.MOT_SHADOW_TAKEN a 0 (modAxis a (fun x => { x with commit := false }) s))

/-! ### Modes (R367) -/

/-- R367: the first multiple of `g` among the microsteps from `m` (not with it) to `n`. -/
def crosses (g m n : Int) : Bool :=
  if m < n then m / g != n / g else if n < m then (-m) / g != (-n) / g else false

/-- R367: an axis has moved to position `x` at speed `v`: the mode wanted, and its change at a common microstep. -/
def moveTo (a : Nat) (x : Int) (v : Rat) (s : State) : State :=
  let old := axisOf a s
  let speed := absRat v
  let strongAt := s.l (OD.STRONG_SPEED a)
  let want := if strongAt ≠ 0 ∧ (strongAt : Rat) ≤ speed then true
    else if speed ≤ ((strongAt : Nat) : Rat) - s.l (OD.MODE_HYST a) ∨ strongAt = 0 then false
    else old.strongWanted
  let g : Int := 256 / max 1 (s.l (OD.STRONG_DIVISOR a))
  let change := want != old.strong && crosses g (microOf old.x) (microOf x)
  let s := modAxis a (fun y => { y with
    x := x, v := v, strongWanted := want, strong := if change then want else y.strong
    holding := y.holding && v == 0 && microOf x == microOf y.x }) s
  let s := if change then axisEvent EV.MOT_MODE_CHANGE a (b2n want) s else s
  refreshLegs a s

/-! ### Moves (R371) and homing (R369) -/

/-- R371: which part of the trapezoid runs at a speed. -/
def movePart (a : Nat) (braking : Bool) (v : Rat) (s : State) : Nat :=
  if braking then (if (s.l (OD.V_BREAK a) : Rat) < v then 4 else 5)
  else if v < (s.l (OD.V_BREAK a) : Rat) then 1 else if v < (s.l (OD.V_MAX a) : Rat) then 2 else 3

/-- R371: the braking distance in microsteps. -/
def brakeDistance (a : Nat) (v : Rat) (s : State) : Rat :=
  let vb : Rat := s.l (OD.V_BREAK a)
  let vs : Rat := s.l (OD.V_STOP a)
  let d1 : Rat := s.l (OD.D1 a)
  let d2 : Rat := s.l (OD.D2 a)
  if vb < v then (v * v - vb * vb) / (2 * d2) + (vb * vb - vs * vs) / (2 * d1) else (v * v - vs * vs) / (2 * d1)

/-- R371: the speed one tick on. -/
def nextSpeed (a : Nat) (braking : Bool) (v : Rat) (s : State) : Rat :=
  let vb : Rat := s.l (OD.V_BREAK a)
  if braking then
    max (s.l (OD.V_STOP a)) (if vb < v then max vb (v - s.l (OD.D2 a) * tickSec) else v - s.l (OD.D1 a) * tickSec)
  else if v < vb then min vb (v + s.l (OD.A1 a) * tickSec)
  else min (s.l (OD.V_MAX a)) (v + s.l (OD.A2 a) * tickSec)

/-- R368: no more than V_LIMIT. -/
def limitSpeed (a : Nat) (v : Rat) (s : State) : Rat := min (s.o (OD.V_LIMIT a)) v

/-- R371: one tick of a MOVE, at the mean of the speeds at its ends. -/
def tickMove (a : Nat) (s : State) : State :=
  let x := axisOf a s
  let goal : Rat := x.target
  let pos : Rat := (x.x : Rat) / 2 ^ 32
  let fwd := decide (pos < goal)
  let remain := absRat (goal - pos)
  let v := limitSpeed a (absRat x.v) s
  let braking := x.braking || decide (remain ≤ brakeDistance a v s)
  let v' := limitSpeed a (nextSpeed a braking v s) s
  let d := (v + v') / 2 * tickSec
  if remain ≤ d ∨ (braking ∧ v' = 0) then
    let s := moveTo a (fixOf goal) 0 s
    axisEvent EV.MOT_MOVE_DONE a 0 (takeAxisShadow a (refreshLegs a (atRest a s)))
  else
    let s' := moveTo a (fixOf (if fwd then pos + d else pos - d)) (if fwd then v' else -v')
      (modAxis a (fun x => { x with braking := braking }) s)
    if movePart a x.braking v s ≠ movePart a braking v' s then takeAxisShadow a s' else s'

/-- R369: one tick of HOME: the search ends at the first microstep of the tick if the input is active, else with HOME_LIMIT
microsteps; what the tick travels after the microstep found counts from HOME_POSITION. -/
def tickHome (a : Nat) (s : State) : State :=
  let x := axisOf a s
  let rev := bit (s.o (OD.HOME_CONFIG a)) 1
  let dir : Int := if rev then -1 else 1
  let v := limitSpeed a (absRat x.v) s
  let v' := if x.homeFound then max 0 (v - s.l (OD.D1 a) * tickSec) else v
  let pos := (x.x : Rat) / 2 ^ 32 + dir * ((v + v') / 2 * tickSec)
  let m := microOf x.x
  let steps := (microOf (fixOf pos) - m).natAbs
  let left := s.o (OD.HOME_LIMIT a) - x.homeTravel
  if x.homeFound then
    let s := moveTo a (fixOf pos) (dir * v') s
    if v' = 0 then
      axisEvent EV.MOT_HOMED a 0 (refreshLegs a (atRest a (modAxis a (fun x => { x with uncertain := false }) s)))
    else s
  else if steps ≠ 0 ∧ homeActive a s then
    let s := moveTo a (fixOf pos) (dir * v') s
    refreshLegs a (modAxis a (fun x => { x with
      homeFound := true, x := fixOf (pos + s.oi (OD.HOME_POSITION a) - (m + dir)) }) s)
  else if left ≤ steps then faultAxis a 6 (moveTo a (fixOf (m + dir * left)) (dir * v') s)
  else modAxis a (fun x => { x with homeTravel := x.homeTravel + steps }) (moveTo a (fixOf pos) (dir * v') s)

/-! ### Segments (R372 to R375) -/

/-- An entry of the segment table (R372). -/
structure SegEntry where
  duration : Nat
  delta : Int
  vEnd : Int
  nextEntry : Nat
  flags : Nat
  deriving DecidableEq, Repr

/-- R372: entry `e`. -/
def segEntry (e : Nat) (s : State) : SegEntry :=
  let n := fun off size => s.domNum OD.SEGMENT_TABLE (16 * e + off) size
  ⟨n 0 4, signedOf 32 (n 4 4), signedOf 32 (n 8 4), n 12 2, n 14 2⟩

/-- R373: the chain ends with velocity `v`. -/
def endChain (a : Nat) (v : Rat) (s : State) : State :=
  if v = 0 then axisEvent EV.MOT_CHAIN_DONE a 0 (refreshLegs a (atRest a s)) else faultAxis a 4 s

/-- R373, R374: enter entry `e` with start velocity `v`; skipped entries are passed over. -/
def enterSegment (a : Nat) : Nat → Nat → Rat → Rat → State → State
  | 0, e, _, _, s => modAxis a (fun x => { x with segment := e }) s
  | fuel + 1, e, v, p, s =>
    if e = 0xFFFF then endChain a v s
    else if ¬ sharesEntry (s.l (OD.SEG_FIRST a), s.l (OD.SEG_COUNT a)) (e, 1) then faultAxis a 4 s
    else
      let g := segEntry e s
      let s := modAxis a (fun x => { x with segment := e, segStartV := v }) s
      if g.duration = 0 then
        if g.delta = 0 then enterSegment a fuel g.nextEntry v p s else faultAxis a 3 s
      else if (axisOf a s).chainClock.getD (bit g.flags 0) ≠ bit g.flags 0 then faultAxis a 4 s
      else
        let wait := bit g.flags 1
        let s := modAxis a (fun x => { x with
          chainClock := some (bit g.flags 0), segElapsed := 0, segStartP := p, segStartX := (x.x : Rat) / 2 ^ 32
          segWaiting := wait, segMatched := false }) s
        if wait then
          let s := axisEvent EV.MOT_WAIT_TRIGGER a (s.o (OD.SEG_TRIGGER_UNIT a)) s
          if v = 0 ∧ s.l (OD.HOLD_DELAY a) = 0 then refreshLegs a (goHold a s) else s
        else s

/-- R373: the Hermite path over a duration `d` at fraction `u`: position from the start, and its derivative by u. -/
def hermite (v0 delta v1 d u : Rat) : Rat × Rat :=
  ((u * u * u - 2 * u * u + u) * d * v0 + (3 * u * u - 2 * u * u * u) * delta + (u * u * u - u * u) * d * v1,
   (3 * u * u - 4 * u + 1) * d * v0 + (6 * u - 6 * u * u) * delta + (3 * u * u - 2 * u) * d * v1)

/-- R373: the largest magnitude of the path's derivative by u between two fractions, at an end or where it turns. -/
def peakSlope (v0 delta v1 d u w : Rat) : Rat :=
  let slope := fun t => (hermite v0 delta v1 d t).2
  let a := 3 * d * v0 - 6 * delta + 3 * d * v1
  let turn := (4 * d * v0 - 6 * delta + 2 * d * v1) / (2 * a)
  let ends := max (absRat (slope u)) (absRat (slope w))
  if a ≠ 0 ∧ u < turn ∧ turn < w then max ends (absRat (slope turn)) else ends

/-- R375: progress of a clocked segment in 1/256 L: it only increases. -/
def webProgress (x : Axis) (s : State) : Rat := max x.segElapsed ((s.web.p - x.segStartP) * 256)

/-- R373: the segment's end at its exact end position, and what follows it. -/
def endSegment (a : Nat) (g : SegEntry) (s : State) : State :=
  let x := axisOf a s
  let p := if bit g.flags 0 then x.segStartP + (g.duration : Rat) / 256 else s.web.p
  let vSec : Rat := if bit g.flags 0 then g.vEnd * s.web.speed else g.vEnd
  let s := moveTo a (fixOf (x.segStartX + g.delta)) vSec s
  let s := if bit g.flags 2 then axisEvent EV.MOT_SEGMENT_DONE a (x.segment % 256) s else s
  let before := (s.l (OD.SEG_FIRST a), s.l (OD.SEG_COUNT a))
  let s := takeAxisShadow a s
  let after := (s.l (OD.SEG_FIRST a), s.l (OD.SEG_COUNT a))
  enterSegment a 1024 (if before = after then g.nextEntry else after.1) g.vEnd p s

/-- R368: the place within `room` microsteps of `here` that is nearest to `goal`. -/
def within (room here goal : Rat) : Rat := max (here - room) (min (here + room) goal)

/-- R368: the microsteps that an axis may travel in a tick. -/
def tickRoom (a : Nat) (s : State) : Rat := s.o (OD.V_LIMIT a) * tickSec

/-- R373: a waiting axis goes on at its start velocity for `t` seconds, or `t` lines in a clocked chain, and at most `room` microsteps. -/
def waitAtSpeed (a : Nat) (t room : Rat) (s : State) : State :=
  let x := axisOf a s
  let v := if x.chainClock = some true then x.segStartV * s.web.speed else x.segStartV
  let here := (x.x : Rat) / 2 ^ 32
  if (s.o (OD.V_LIMIT a) : Rat) < absRat v then faultAxis a 5 s
  else moveTo a (fixOf (within room here (here + x.segStartV * t))) v s

/-- R368, R373, R375: run segments with `avail` microseconds; fuel bounds the segments that can end within a tick. The path velocity of a
clocked chain is its slope at the speed V of WEB; where P steps on, the axis follows the path with at most `room` microsteps in the tick,
and a segment ends once the axis has reached its end (log entry 224). -/
def runSegment (a : Nat) : Nat → Rat → Rat → State → State
  | 0, _, _, s => s
  | fuel + 1, avail, room, s =>
    let x := axisOf a s
    if x.state ≠ .segments then s
    else if x.segWaiting then waitAtSpeed a (avail / if x.chainClock = some true then 256 else 1000000) room s
    else
      let g := segEntry x.segment s
      let dur : Rat := g.duration
      let clock := bit g.flags 0
      let progress := if clock then webProgress x s else x.segElapsed + avail
      let backed := clock && decide ((s.web.p - x.segStartP) * 256 < x.segElapsed)
      let d : Rat := if clock then dur / 256 else dur / 1000000
      let rate : Rat := if clock then s.web.speed else 1
      let (pos, slope) := hermite x.segStartV g.delta g.vEnd d (min 1 (progress / dur))
      let here := (x.x : Rat) / 2 ^ 32
      let way := absRat (x.segStartX + pos - here)
      let peak := peakSlope x.segStartV g.delta g.vEnd d (x.segElapsed / dur) (min 1 (progress / dur)) / d * absRat rate
      if g.duration = 0 then enterSegment a 1024 x.segment x.segStartV s.web.p s
      else if ¬ backed ∧ (s.o (OD.V_LIMIT a) : Rat) < peak then faultAxis a 5 s
      else if dur ≤ progress ∧ (¬ clock ∨ way ≤ room) then runSegment a fuel (progress - dur) (room - way) (endSegment a g s)
      else
        let goal := x.segStartX + pos
        moveTo a (fixOf (if clock then within room here goal else goal)) (if backed then 0 else slope / d * rate)
          (modAxis a (fun x => { x with segElapsed := min dur progress }) s)

/-- R373: more segments than can end in a tick: each takes at least 1 µs, or 1/256 L of the travel of P. -/
def segmentFuel (a : Nat) (s : State) : Nat :=
  16 + if (axisOf a s).chainClock = some true then ((s.web.p - (axisOf a s).segStartP) * 256).floor.toNat else 0

/-- R373: one tick in state SEGMENTS. A waiting axis goes on at its start velocity until its unit has matched. -/
def tickSegments (a : Nat) (s : State) : State :=
  let x := axisOf a s
  if x.segWaiting then
    let s := waitAtSpeed a (if x.chainClock = some true then s.web.speed * tickSec else tickSec) (tickRoom a s) s
    if x.segMatched ∧ (axisOf a s).state = .segments then modAxis a (fun y => { y with
      segWaiting := false, segElapsed := 0, segStartP := s.web.p, segStartX := (y.x : Rat) / 2 ^ 32 }) s
    else s
  else runSegment a (segmentFuel a s) 10 (tickRoom a s) s

/-- R319, R373: a compare unit matches: the axes that wait for it. -/
def motMatch (u : Nat) (s : State) : State :=
  eachDo (List.range 8) (fun a s =>
    if (axisOf a s).segWaiting ∧ s.o (OD.SEG_TRIGGER_UNIT a) = u then modAxis a (fun x => { x with segMatched := true }) s
    else s) s

/-! ### The tick and the commands -/

/-- R368: one tick of one axis. -/
def tickAxis (a : Nat) (s : State) : State :=
  let s := if bridgeFault a s then faultAxis a 2 s else s
  match (axisOf a s).state with
  | .moving => tickMove a s
  | .homing => tickHome a s
  | .segments => tickSegments a s
  | _ => takeAxisShadow a s

/-- R378: a sample trips the overcurrent limit: the second in a row of a phase. -/
def tripsOver (a : Nat) (ia ib : Int) (s : State) : Bool :=
  let x := axisOf a s
  let limit := s.o (OD.OVERCURRENT_LIMIT a)
  (x.phaseA.overNow && decide (limit < ia.natAbs)) || (x.phaseB.overNow && decide (limit < ib.natAbs))

/-- R365: tap `k` of the sinc³ filter of ratio 32: the ways to write `k` as a sum of three numbers below 32. -/
def sincTap (k : Nat) : Nat :=
  let choose := fun n => n * (n - 1) / 2
  choose (k + 2) + 3 * choose (k - 62) - 3 * choose (k - 30) - choose (k - 94)

/-- R365: the output of the filter over a bitstream, newest bit first: a 1 counts +1 and a 0 counts -1; at most 32,768. -/
def sincSum (bs : List Bool) : Int :=
  (bs.take 94).mapIdx (fun k b => if b then (sincTap k : Int) else -(sincTap k : Int)) |>.foldl (· + ·) 0

/-- R365: the bitstream once 32 further bits have come, the latest in bit 0. -/
def streamWith (w : BitVec 32) (bs : List Bool) : List Bool := (((List.range 32).map fun i => w.getLsbD i) ++ bs).take 94

/-- R365: the current sample of a bitstream in mA. -/
def sampleOf (a : Nat) (bs : List Bool) (s : State) : Int :=
  roundRat ((s.o (OD.ISENSE_FULL_SCALE a) : Rat) * sincSum bs / 32768)

/-- R365: the samples of both phases that 32 further bits each give. -/
def newSamples (a : Nat) (wa wb : BitVec 32) (s : State) : Int × Int :=
  (sampleOf a (streamWith wa (axisOf a s).phaseA.stream) s, sampleOf a (streamWith wb (axisOf a s).phaseB.stream) s)

/-- R365: the bitstreams of an axis go on. -/
def takeBits (a : Nat) (wa wb : BitVec 32) (s : State) : State :=
  modAxis a (fun x => { x with
    phaseA := { x.phaseA with stream := streamWith wa x.phaseA.stream }
    phaseB := { x.phaseB with stream := streamWith wb x.phaseB.stream } }) s

/-- R365: samples within 1 µs after a leg switch are ignored. -/
def sampleIgnored (a : Nat) (s : State) : Bool :=
  (axisOf a s).switchLoc != 0 && decide (s.loc + 1 < (axisOf a s).switchLoc + ticksUs)

/-- A phase of an axis is driven. -/
def phaseDriven (a : Nat) (phaseB : Bool) (s : State) : Bool :=
  let p := if phaseB then (axisOf a s).phaseB else (axisOf a s).phaseA
  p.legP || p.legN

/-- R322: CAP_FILTER samples have agreed on a level of an input that it does not have yet; a shorter pulse is discarded. -/
def captureFiltered (input : Fin 8) (x : Samples) (s : State) : Bool :=
  agreed (s.o OD.CAP_FILTER) x && x.level != s.time.level.get input

/-- R379: a tick of the present cycle that has yet to come ends the move or faults the axis, or another fault of the cycle does: a
stop request leaves the axis to it. -/
def settlesItself (a : Nat) (s : State) : Bool :=
  s.pending.any fun c => match c with
    | .profileTick =>
      let after := (axisOf a (tickAxis a s)).state
      after == .fault || ((axisOf a s).state == .moving && after == .idle)
    | .faultInputLow i => s.o (OD.FAULT_INPUT a) == i.val
    | .captureEdge i e => s.o (OD.FAULT_INPUT a) == i.val && !e.level && captureFiltered i e s
    | .senseTimeout x phaseB => x.val == a && phaseDriven a phaseB s
    | .currentSample x wa wb => x.val == a && !sampleIgnored a s && tripsOver a (newSamples a wa wb s).1 (newSamples a wa wb s).2 s
    | _ => false

/-- R377, R379: a stop request. -/
def stopAxis (a : Nat) (s : State) : State :=
  if ¬ (axisOf a s).state.moves ∨ settlesItself a s then s
  else
    let s := modAxis a (fun x => { x with
      state := .idle, v := 0, braking := false, segWaiting := false, uncertain := true }) s
    checkLedgers 3 (s.web.hwl / 64) (refreshLegs a (axisEvent EV.MOT_POSITION_UNCERTAIN a 0 (goHold a s)))

/-- R61, R66: a stop request to every axis. -/
def stopAxes (s : State) : State := eachDo (List.range 8) stopAxis s

/-- PROFILE_TICK (R368). -/
def execProfileTick (s : State) : Host.Outcome State Fault Refusal :=
  .next (whenDo (lineOn s) (fun s => eachDo (List.range 8) tickAxis s) s)

/-- R370: the device permits a motion. -/
def motionPermitted (a : Nat) (s : State) : Bool :=
  s.net.al == .op && motionEnable s && s.ob (OD.AXIS_ENABLE a) && (axisOf a s).state == .idle

/-- R371: MOVE. -/
def startMove (a : Nat) (s : State) : State :=
  let goal := s.oi (OD.AXIS_TARGET a)
  if microOf (axisOf a s).x = goal then axisEvent EV.MOT_MOVE_DONE a 0 s
  else refreshLegs a <| modAxis a (fun x => { x with
    state := .moving, target := goal, braking := false
    holding := x.holding && s.l (OD.V_START a) == 0
    v := if microOf x.x < goal then (s.l (OD.V_START a) : Rat) else -(s.l (OD.V_START a) : Rat) }) s

/-- R370: a command that is not permitted. -/
def motRefused (a v : Nat) (s : State) : Bool :=
  let x := axisOf a s
  match v with
  | 1 => !(motionPermitted a s && !x.uncertain)
  | 2 => !(motionPermitted a s && !x.uncertain && decide (1 ≤ s.l (OD.SEG_COUNT a)))
  | 3 => !(motionPermitted a s && s.o (OD.HOME_INPUT a) != 0xFF)
  | 5 => x.state != .idle
  | 6 => x.state != .fault
  | _ => false

/-- COMMAND (R370): the abort code and the state after it. -/
def motCommand (a v : Nat) (s : State) : Nat × State :=
  if motRefused a v s then (AB.state, s)
  else match v with
  | 1 => (AB.ok, startMove a s)
  | 2 => (AB.ok, enterSegment a 1024 (s.l (OD.SEG_FIRST a)) 0 s.web.p
      (modAxis a (fun x => { x with state := .segments, chainClock := none, segWaiting := false }) s))
  | 3 =>
    let v := limitSpeed a (s.o (OD.HOME_SPEED a)) s
    (AB.ok, refreshLegs a <| modAxis a (fun x => { x with
      state := .homing, homeTravel := 0, homeFound := false, holding := false
      v := if bit (s.o (OD.HOME_CONFIG a)) 1 then -v else v }) s)
  | 4 => (AB.ok, stopAxis a s)
  | 5 => (AB.ok, axisEvent EV.MOT_HOMED a 1 (refreshLegs a
      (modAxis a (fun x => { x with x := fixOf (s.oi (OD.PRESET_POSITION a)), uncertain := false }) s)))
  | 6 => (AB.ok, refreshLegs a (modAxis a (fun x => { x with
      state := .idle, cause := 0 }) s))
  | _ => (AB.range, s)

/-- R378, R380: a write of AXIS_ENABLE, already stored: an axis in FAULT stays there; a moving one is stopped. -/
def axisEnabled (a : Nat) (s : State) : State :=
  if (axisOf a s).state = .fault then s
  else if s.ob (OD.AXIS_ENABLE a) then
    refreshLegs a (modAxis a (fun x => { x with state := if x.state = .disabled then .idle else x.state }) s)
  else refreshLegs a (modAxis a (fun x => { x with state := .disabled }) (stopAxis a s))

/-- CURRENT_SAMPLE (R365, R378): the bits of both bitstreams over 32 MOT_MCLK cycles, which the filter turns into a sample of each phase.
A sample that is ignored has its bits in the filter all the same (log entry 130). -/
def execCurrentSample (axis : Fin 8) (ia ib : BitVec 32) (s : State) : Host.Outcome State Fault Refusal :=
  .next (whenDo (lineOn s) (fun s =>
    let a := axis.val
    let (na, nb) := newSamples a ia ib s
    let s := takeBits a ia ib s
    let limit := s.o (OD.OVERCURRENT_LIMIT a)
    if sampleIgnored a s then s
      else
        let (ta, tb) := targets a s
        let take := fun (i : Int) (t : Rat) (p : Phase) => { p with
          current := i, overNow := decide (limit < i.natAbs)
          decay := p.decay || ((p.legP || p.legN) && decide (absRat t ≤ (i.natAbs : Rat))) }
        let trip := tripsOver a na nb s
        let s := modAxis a (fun x => { x with phaseA := take na ta x.phaseA, phaseB := take nb tb x.phaseB }) s
        if trip then faultAxis a 1 s else refreshLegs a s) s)

/-- CHOP_OFF_TIME_END (R365): the phase is driven again. -/
def execChopOffTimeEnd (axis : Fin 8) (phaseB : Bool) (s : State) : Host.Outcome State Fault Refusal :=
  .next (whenDo (lineOn s) (fun s =>
    refreshLegs axis (modAxis axis (fun x =>
      if phaseB then { x with phaseB := { x.phaseB with decay := false } }
      else { x with phaseA := { x.phaseA with decay := false } }) s)) s)

/-- SENSE_TIMEOUT (R378): a bitstream stays constant while its phase is driven. -/
def execSenseTimeout (axis : Fin 8) (phaseB : Bool) (s : State) : Host.Outcome State Fault Refusal :=
  .next (whenDo (lineOn s) (fun s =>
    if phaseDriven axis phaseB s then faultAxis axis 7 s else s) s)

/-- R378, R451: a capture input is low: the axes that name it fault. -/
def faultPin (input : Fin 8) (s : State) : State :=
  eachDo (List.range 8) (fun a s => if lineOn s ∧ s.o (OD.FAULT_INPUT a) = input then faultAxis a 2 s else s) s

/-- HOLD_DELAY_EXPIRY (R367): at rest, in whatever state. -/
def execHoldDelayExpiry (axis : Fin 8) (s : State) : Host.Outcome State Fault Refusal :=
  .next (whenDo (lineOn s) (fun s =>
    let x := axisOf axis s
    if x.v = 0 ∧ x.state ≠ .moving ∧ x.state ≠ .homing then refreshLegs axis (goHold axis s) else s) s)

/-- R378: what a reset reaching MOT, and entry to SLEEP, leave of the axes. -/
def motReset (s : State) : State :=
  { s with axes := Vector.ofFn fun a =>
    { Axis.reset with state := if s.ob (OD.AXIS_ENABLE a) then .idle else .disabled } }

end Sys2Proof.Machine
end

