-- ==== Sys2Proof/Machine/Display.lean ====
section
/-! DEFINITION. Machine/Display.lean: the bar display (R463 to R474). The end of a push is in Machine/Ductor.lean. -/

namespace Sys2Proof.Machine

/-- Update the display. -/
def modDisp (f : Disp → Disp) (s : State) : State := { s with disp := f s.disp }

/-- R465: bytes of the push buffer that hold anything. -/
def pushBufferUsed : Nat := 0x1EC00

/-- R465: write the push buffer; reserved bytes ignore writes. -/
def pushBufferWrite (off : Nat) (bs : List Byte) (s : State) : State :=
  s.setDom OD.PUSH_BUFFER off (bs.take (pushBufferUsed - off))

/-- R465: entry `i` of the region list. -/
def regionAt (i : Nat) (s : State) : Region :=
  let n := fun off size => s.domNum OD.PUSH_BUFFER (0x1E400 + 8 * i + off) size
  ⟨n 0 2, n 2 2, n 4 1, n 5 1⟩

/-- R467: the cell of a head. -/
def cellRegion (h : Nat) : Region := ⟨160 * (h % 12), 160, 32 * (h / 12), 32⟩

/-- Two regions share a pixel. -/
def Region.meets (a b : Region) : Bool :=
  decide (a.x0 < b.x0 + b.width) && decide (b.x0 < a.x0 + a.width) && decide (a.y0 < b.y0 + b.height) &&
    decide (b.y0 < a.y0 + a.height)

/-- R468: the region does not lie on the panel. -/
def Region.bad (r : Region) : Bool :=
  r.width == 0 || r.height == 0 || decide (1920 < r.x0 + r.width) || decide (64 < r.y0 + r.height)

/-- R468: the region touches a cell of the firmware. -/
def touchesFirmware (r : Region) (s : State) : Bool :=
  (List.range 24).any fun h => !bit (s.o OD.HOST_CELLS) h && r.meets (cellRegion h)

/-- R468: the cause that refuses a push; 0 = it is accepted. -/
def pushCause (first count : Nat) (s : State) : Nat :=
  let rs := (List.range (min count 256)).map fun i => regionAt (first + i) s
  if 256 < first + count then 1
  else if rs.any Region.bad then 2
  else if rs.any fun r => touchesFirmware r s then 3
  else if s.disp.pending.isSome then 4
  else 0

/-- R468: the abort of a cause. -/
def pushAbort (c : Nat) : Nat := if c = 3 then AB.store else if c = 4 then AB.state else AB.range

/-- R468: a host push: the abort code and the state after it. -/
def hostPush (first count : Nat) (s : State) : Nat × State :=
  let c := pushCause first count s
  if c ≠ 0 then (pushAbort c, modDisp (fun d => { d with cause := c }) s)
  else
    let s := (s.setO OD.PUSH_FIRST first).setO OD.PUSH_COUNT count
    let p : Push := ⟨(List.range count).map (fun i => regionAt (first + i) s), false⟩
    (AB.ok, modDisp (fun d => { d with pending := some p }) s)

/-- R467: the firmware draws the cell of head `h`. -/
def firmwareCell (h : Nat) (s : State) : Bool := !bit (s.o OD.HOST_CELLS) h

/-- R467, R469: the firmware's push of the cells that it has to redraw takes the pending slot when that is free. -/
def firmwareTurn (s : State) : State :=
  let cells := s.disp.redraw.filter fun h => firmwareCell h s
  if s.disp.pending.isSome ∨ ¬ s.disp.panelOn ∨ cells.isEmpty then s
  else modDisp (fun d => { d with pending := some ⟨cells.map cellRegion, true⟩, redraw := [] }) s

/-- R467: cells that the firmware redraws at the next push. -/
def redrawCells (cells : List Nat) (s : State) : State :=
  firmwareTurn (modDisp (fun d => { d with redraw := d.redraw ++ cells.filter fun h => !d.redraw.contains h }) s)

/-! ### The panel's start (R463) -/

/-- R463: the start-up commands of a link. -/
def startUpCommands (link : Nat) : List DsiPacket :=
  [⟨link, 0x11, []⟩, ⟨link, 0x3A, [0x77#8]⟩, ⟨link, 0x35, [0x00#8]⟩, ⟨link, 0x29, []⟩]

/-- R463, R471: an exit from reset or from a power state: the panel's start begins. -/
def startPanel (s : State) : State := modDisp (fun d => { d with initFrom := s.loc + 1 }) s

/-- R450, R463: the level of DISP_RST_N: low in reset and for 10 ms of the panel's start. -/
def dispRstN (s : State) : Bool :=
  s.disp.panelOn || (s.disp.initFrom != 0 && decide (s.disp.initFrom - 1 + 10 * ticksMs ≤ s.loc))

/-- R450: the DSI links are in the LP-11 stop state: in reset, until the panel's start. -/
def dsiLp11 (s : State) : Bool := s.disp.initFrom == 0

/-- PANEL_INIT (R463): the panel's start-up on both links, and a push of every cell that the firmware draws (R467). -/
def execPanelInit (s : State) : Host.Outcome State Fault Refusal :=
  .next (whenDo (lineOn s) (fun s =>
    if s.disp.panelOn then s
      else redrawCells (List.range 24) (modDisp (fun d => { d with
        panelOn := true, sent := d.sent ++ startUpCommands 0 ++ startUpCommands 1 }) s)) s)

/-- R467: a write of HOST_CELLS, already stored: cells given back are redrawn at the next push. -/
def hostCellsChanged (old : Nat) (s : State) : State :=
  redrawCells ((List.range 24).filter fun h => bit old h && firmwareCell h s) s

/-- CELL_REPUSH (R467): a changed cell of the firmware, at most once per 100 ms. -/
def execCellRepush (head : Fin 24) (s : State) : Host.Outcome State Fault Refusal :=
  .next (whenDo (lineOn s) (fun s =>
    let last := kget (fun _ => 0) s.disp.repushStamp head
    if ¬ firmwareCell head s ∨ ¬ s.disp.panelOn ∨ (last ≠ 0 ∧ s.loc < last - 1 + 100 * ticksMs) then s
      else redrawCells [head.val] (modDisp (fun d => { d with repushStamp := kput head (s.loc + 1) d.repushStamp }) s)) s)

/-! ### The rows of a push (R463, R465, R469) -/

/-- R465: palette entry `i`: bytes R, G, B. -/
def paletteEntry (i : Nat) (s : State) : List Byte := s.domBytes OD.PUSH_BUFFER (0x1E000 + 4 * i) 3

/-- R465: the palette index of pixel (x, y). -/
def pixelIndex (x y : Nat) (s : State) : Nat := s.dbyte OD.PUSH_BUFFER (1920 * y + x)

/-- R467: the head whose cell holds a pixel. -/
def headAt (x y : Nat) : Nat := x / 160 + 12 * (y / 32)

/-- R467: what the cell of a head shows; how it is drawn is open (log entry 220). -/
def cellColour (x y : Nat) (s : State) : List Byte :=
  let h := headAt x y
  let shown := [h, (vgetN s.ports h).state.code, s.o (OD.TEMPERATURE h), s.o (OD.COOL_MODE h)]
  leBytes 3 (Config.cellPixel shown x y).toNat

/-- R469: what a push sends for a pixel, at the moment its row is sent. -/
def pixelSent (firmware : Bool) (x y : Nat) (s : State) : List Byte :=
  if firmware then cellColour x y s else paletteEntry (pixelIndex x y s) s

/-- R463: a range of columns or pages as 0x2A and 0x2B carry it: start and end, each most significant byte first (PRESUMED, log
entry 220). -/
def dcsRange (first last : Nat) : List Byte := (leBytes 2 first).reverse ++ (leBytes 2 last).reverse

/-- R463, R469: the part of row `y` of a region that lies on a link's half: its addresses, counted from the half's first column, and one
long packet of its pixels. -/
def rowPart (firmware : Bool) (r : Region) (y link : Nat) (s : State) : List DsiPacket :=
  let a := max r.x0 (960 * link)
  let b := min (r.x0 + r.width) (960 * link + 960)
  if b ≤ a then []
  else [⟨link, 0x2A, dcsRange (a - 960 * link) (b - 1 - 960 * link)⟩, ⟨link, 0x2B, dcsRange y y⟩,
    ⟨link, 0x2C, (List.range (b - a)).flatMap fun i => pixelSent firmware (a + i) y s⟩]

/-- R469: the rows of a push, region by region in list order. -/
def Push.rows (p : Push) : List (Region × Nat) := p.regions.flatMap fun r => (List.range r.height).map fun i => (r, r.y0 + i)

/-- R469: both links send a row; the firmware sends none of a cell that is the host's by now (R467). -/
def sendRow (p : Push) (row : Region × Nat) (s : State) : State :=
  if p.firmware ∧ ¬ firmwareCell (headAt row.1.x0 row.2) s then s
  else
    let parts := rowPart p.firmware row.1 row.2 0 s ++ rowPart p.firmware row.1 row.2 1 s
    modDisp (fun d => { d with sent := d.sent ++ parts }) s

/-- R469: `n` rows of the running push have gone out in full on both links; a link with no part of a region waits there for the other. -/
def sendRows (n : Nat) (s : State) : State :=
  match s.disp.running with
  | none => s
  | some p =>
    let s' := eachDo ((p.rows.take n).drop s.disp.rowsSent) (sendRow p) s
    modDisp (fun d => { d with rowsSent := max d.rowsSent (min n p.rows.length) }) s'

/-- R469: the rest of the running push goes out. -/
def sendRest (s : State) : State := sendRows ((s.disp.running.map fun p => p.rows.length).getD 0) s

/-- DISP_TE_BLANK (R464, R469): a rising edge of DSI0_TE starts the pending push. -/
def execDispTeBlank (s : State) : Host.Outcome State Fault Refusal :=
  .next (whenDo (lineOn s) (fun s =>
    let s := raise EV.DISP_TE_BLANK 0 (modDisp (fun d => { d with teLoc := s.loc + 1, scanNext := 0 }) s)
    match s.disp.running, s.disp.pending with
      | none, some p =>
        if p.regions.isEmpty then
          let s := (modDisp (fun d => { d with pending := none }) s).bump OD.PUSH_SEQ
          firmwareTurn (raise EV.DISP_FRAME_DONE (s.o OD.PUSH_SEQ) s)
        else firmwareTurn (modDisp (fun d => { d with
          pending := none, running := some p, rowsSent := 0, underrunRaised := false }) s)
      | _, _ => s) s)

/-- DSI1_TE_EDGE (R464): its distance from the DSI0_TE edge. -/
def execDsi1TeEdge (skewNs : Nat) (s : State) : Host.Outcome State Fault Refusal :=
  .next (whenDo (lineOn s) (fun s => modDisp (fun d => { d with teSkew := decide (2000 < skewNs) }) s) s)

/-- R470: row `n` of the panel belongs to the running push and is not sent in full. -/
def rowUnsent (n : Nat) (s : State) : Bool :=
  match s.disp.running with
  | some p => (p.rows.drop s.disp.rowsSent).any fun r => r.2 == n
  | none => false

/-- R470: how many rows the scan has reached since DISP_TE_BLANK: row s from SCAN_START + s × SCAN_ROW_TIME on, for s to 63. -/
def rowsReached (s : State) : Nat :=
  let since := s.loc + 1 - s.disp.teLoc
  let start := s.o OD.SCAN_START * ticksUs
  if s.disp.teLoc = 0 ∨ since < start then 0 else min 64 ((since - start) / (s.o OD.SCAN_ROW_TIME * ticksUs) + 1)

/-- R470, R473: the estimated scan row. -/
def scanRow (s : State) : Nat := rowsReached s - 1

/-- R470: the scan reaches row `n`. -/
def reachRow (n : Nat) (s : State) : State :=
  let s := modDisp (fun d => { d with scanNext := n + 1 }) s
  let s := if n = s.o OD.LINE_MATCH then raise EV.DISP_LINE_MATCH n s else s
  if rowUnsent n s ∧ ¬ s.disp.underrunRaised then
    raise EV.DISP_UNDERRUN n (modDisp (fun d => { d with underrunRaised := true }) s)
  else s

/-- SCAN_ROW_ADVANCE (R470): the scan row advances to what the time gives; `rowsSent` rows of the running push are sent by then. -/
def execScanRowAdvance (rowsSent : Nat) (s : State) : Host.Outcome State Fault Refusal :=
  .next (whenDo (lineOn s) (fun s =>
    let s := sendRows rowsSent s
    eachDo ((List.range (rowsReached s)).drop s.disp.scanNext) reachRow s) s)

/-- R471: a reset, STANDBY, SLEEP and bare-forme mode discard pushes; R463 is repeated after them. -/
def dispDiscard (s : State) : State :=
  modDisp (fun d => { d with panelOn := false, pending := none, running := none, rowsSent := 0 }) s

end Sys2Proof.Machine
end

