-- ==== Sys2Proof/Machine/Dram.lean ====
section
/-! DEFINITION. Machine/Dram.lean: the DRAM controller (R338 to R363): address map, bank queues, refresh, ECC counts,
scrub, drift tracking, training, self-refresh. The DRAM's bytes are `ddr.mem`, with the address map's DRAM byte
addresses. A write is in DRAM once accepted (R348). -/

namespace Sys2Proof.Machine

/-! ### Size (R338, R351) -/

/-- R338, R351: INSTALLED_SIZE in bytes. -/
def installedSize (density ranks : Nat) (ecc : Bool) : Nat :=
  let cap := 4 * ranks * density * 2 ^ 27
  if ecc then cap / 8 * 7 else cap

/-! ### Requests (R343 to R348) -/

/-- R346: the page hint a request carries: CLOSE. -/
def closeHint (requester : Fin 7) (p : DramPlace) (s : State) : Bool :=
  match s.o (OD.PAGE_HINT requester) with
  | 1 => false
  | 2 => true
  | _ => decide (5 ≤ requester.val) || p.burst == (if s.ddr.eccOn then 27 else 31)

/-- R348: the bytes of a read are those of the writes accepted before it. -/
def acceptedReq (r : DramReq) (s : State) : DramReq :=
  if r.write then { r with data := r.data.take (64 - r.address % 64) }
  else { r with data := Memory.reads s.ddr.mem (granuleOf r.address) 64 }

/-- R345, R348: accept a request into its bank queue. An accepted write is in DRAM; its check bytes follow when it is served (R351). -/
def acceptRequest (r : DramReq) (s : State) : State :=
  let p := placeNow r.address s
  let req := acceptedReq r s
  let s := if r.write then { s with ddr := { s.ddr with
    mem := Memory.writes r.address req.data s.ddr.mem, written := s.ddr.written ++ [granuleOf r.address] } } else s
  let q : Queued := {
    req := req, place := p, close := closeHint r.requester p s, rmw := s.ddr.eccOn && r.write && req.data.length != 64
    check := if s.ddr.eccOn ∧ r.write then checkBytes r.address s else [], passed := 0 }
  modChannel p.channel (fun c => { c with
    banks := vmodN c.banks p.bank fun b => { b with queue := b.queue ++ [q] }
    placed := vmodN c.placed r.requester fun n => n + 1 }) s

/-- R348: a request of the same cycle by a requester of lower number has yet to come: it is accepted first. -/
def lowerToCome (r : DramReq) (s : State) : Bool :=
  s.pending.any fun c => match c with
    | .dramRequest q => decide (q.requester < r.requester)
    | _ => false

/-- R345: a waiting request can be placed: its bank queue has space. -/
def canPlace (s : State) (r : DramReq) : Bool :=
  let p := placeNow r.address s
  decide ((vgetN (channelOf p.channel s).banks p.bank).queue.length < 8) && !lowerToCome r s

/-- R345: its requester has not placed its weight in the present round. -/
def hasQuota (s : State) (r : DramReq) : Bool :=
  decide (vgetN (channelOf (placeNow r.address s).channel s).placed r.requester < max 1 (s.o (OD.WEIGHT r.requester)))

/-- R348: of several requests the first of the lowest requester. -/
def lowestRequest : List DramReq → Option DramReq
  | [] => none
  | r :: rs => match lowestRequest rs with
    | none => some r
    | some q => if q.requester < r.requester then some q else some r

/-- R343, R345: the request placed next: by weighted round-robin among those whose bank queue has space. -/
def nextPlaced (s : State) : Option DramReq :=
  let able := s.ddr.waiting.filter (canPlace s)
  (lowestRequest (able.filter (hasQuota s))).or (lowestRequest able)

/-- R345: place waiting requests, round by round, at most `n`. -/
def placeRequests : Nat → State → State
  | 0, s => s
  | n + 1, s => match nextPlaced s with
    | none => s
    | some r =>
      let s := if hasQuota s r then s
        else modChannel (placeNow r.address s).channel (fun c => { c with placed := Vector.replicate 7 0 }) s
      placeRequests n (acceptRequest r { s with ddr := { s.ddr with waiting := s.ddr.waiting.erase r } })

/-- R354, R359, R360: requests are accepted in RUN, but not while an entry to self-refresh is in progress. -/
def dramOpen (s : State) : Bool := s.ddr.state == 2 && s.pwr.entering != some 3

/-- R345, R354, R359: what waits at the requesters is placed as far as the bank queues have space. Addresses run to INSTALLED_SIZE. -/
def serveWaiting (s : State) : State :=
  if ¬ dramOpen s then s
  else
    let here := s.ddr.waiting.filter fun r => decide (r.address < s.o OD.INSTALLED_SIZE)
    placeRequests here.length { s with ddr := { s.ddr with waiting := here } }

/-- A requester brings a request. -/
def addRequest (r : DramReq) (s : State) : State := { s with ddr := { s.ddr with waiting := s.ddr.waiting ++ [r] } }

/-- DRAM_REQUEST (R345, R348, R359). -/
def execDramRequest (r : DramReq) (s : State) : Host.Outcome State Fault Refusal := .next (serveWaiting (addRequest r s))

/-! ### Bank queues (R347, R348, R351) -/

/-- R348: no older entry of the queue is to the granule of entry `i`. -/
def inOrder (q : List Queued) (i : Nat) : Bool :=
  q[i]?.all fun x => (q.take i).all fun y => granuleOf y.req.address != granuleOf x.req.address

/-- The entries of one kind that a queue's order lets be served. -/
def readyOf (writes : Bool) (q : List Queued) : List Nat :=
  (List.range q.length).filter fun i => inOrder q i && q[i]?.any fun x => x.req.write == writes

/-- R347: the entries that may be served: once 16 row hits have passed the oldest, it alone. -/
def servable (writes : Bool) (b : Bank) : List Nat :=
  if b.queue.head?.any fun x => decide (16 ≤ x.passed) then [0] else readyOf writes b.queue

/-- R347: the entry that a column command to the open row serves. -/
def hitIndex (writes : Bool) (b : Bank) : Option Nat :=
  b.openRow.bind fun row => (servable writes b).find? fun i => b.queue[i]?.any fun x => x.place.row == row

/-- R347: the row that the oldest request to be served needs. -/
def wantedRow (writes : Bool) (b : Bank) : Option Nat :=
  (servable writes b).head?.bind fun i => b.queue[i]?.map fun x => x.place.row

/-- R351: the bank's check buffer is written back. -/
def flushCheck (b : Nat) (c : Channel) : Channel :=
  match (vgetN c.banks b).check with
  | none => c
  | some (a, bs) => modBank b (fun x => { x with check := none }) { c with checks := Memory.writes a bs c.checks }

/-- R346, R351: the bank's row is precharged. -/
def closeRow (b : Nat) (c : Channel) : Channel := modBank b (fun x => { x with openRow := none }) (flushCheck b c)

/-- R351: a write renews its 8 check bytes in the check buffer of its bank. -/
def bufferCheck (q : Queued) (c : Channel) : Channel :=
  if q.check.isEmpty then c
  else
    let b := q.place.bank
    let a := checkBurst q.place
    let c := if (vgetN c.banks b).check.any (fun x => x.1 == a) then c else flushCheck b c
    let held := ((vgetN c.banks b).check.map (·.2)).getD (Memory.reads c.checks a 64)
    let at_ := q.place.burst % 8 * 8
    modBank b (fun x => { x with check := some (a, held.take at_ ++ q.check ++ held.drop (at_ + 8)) }) c

/-- R346, R347: serve entry `i` of a bank: older entries have been passed once more; a CLOSE hint precharges the row. -/
def serveEntry (b i : Nat) (c : Channel) : Option Queued × Channel :=
  match (vgetN c.banks b).queue[i]? with
  | none => (none, c)
  | some q =>
    let c := modBank b (fun x => { x with
      queue := (x.queue.take i).map (fun y => { y with passed := y.passed + 1 }) ++ x.queue.drop (i + 1) }) (bufferCheck q c)
    (some q, if q.close then closeRow b c else c)

/-- Banks in rotation from `p`. -/
def rotation (p : Nat) : List Nat := (List.range 32).map fun i => (p + i) % 32

/-- R347: requests of one kind that a channel has queued. -/
def queuedOf (writes : Bool) (c : Channel) : Nat :=
  (c.banks.toList.map fun b => (b.queue.filter fun q => q.req.write == writes).length).foldl (· + ·) 0

/-- A request of one kind is ready in a channel. -/
def anyReady (writes : Bool) (c : Channel) : Bool := c.banks.toList.any fun b => !(readyOf writes b.queue).isEmpty

/-- R347: held writes are issued together, once 24 are queued or no read is ready. -/
def drains (c : Channel) : Bool :=
  anyReady true c && (c.draining || decide (24 ≤ queuedOf true c) || !anyReady false c)

/-- R347: one command: a column command to an open row, or else a precharge or an activate; the request served, if any. -/
def channelCommand (c : Channel) : Option Queued × Channel :=
  let drain := drains c
  let c := { c with draining := drain }
  match (rotation c.colPtr).find? fun b => (hitIndex drain (vgetN c.banks b)).isSome with
  | some b => serveEntry b ((hitIndex drain (vgetN c.banks b)).getD 0) { c with colPtr := (b + 1) % 32 }
  | none =>
    match (rotation c.actPtr).find? fun b => (wantedRow drain (vgetN c.banks b)).isSome with
    | none => (none, c)
    | some b =>
      let c := { c with actPtr := (b + 1) % 32 }
      (none, if (vgetN c.banks b).openRow.isSome then closeRow b c
        else modBank b (fun x => { x with openRow := wantedRow drain x }) c)

/-- R347: the read that returns next: the oldest issued, or the first that commands issue. -/
def serveRead : Nat → Channel → Option DramReq × Channel
  | 0, c => (none, c)
  | fuel + 1, c => match c.inFlight with
    | r :: rs => (some r, { c with inFlight := rs })
    | [] => match channelCommand c with
      | (some q, c) => if q.req.write then serveRead fuel c else (some q.req, c)
      | (none, c) => if queuedOf true c + queuedOf false c = 0 then (none, c) else serveRead fuel c

/-- R349: a bank is idle: an empty queue and no open row. -/
def bankIdle (b : Bank) : Bool := b.queue.isEmpty && b.openRow.isNone

/-- R349: the other bank of a bank's pair. -/
def pairOf (b : Nat) : Nat := b / 16 * 16 + (b + 8) % 16

/-- R349: a refresh is issued in an idle bank that owes one; where a refresh goes to a pair, its other bank is idle too. -/
def payDebt (c : Channel) (i : Nat) (b : Bank) : Bank :=
  if bankIdle b ∧ (c.refPair = false ∨ bankIdle (vgetN c.banks (pairOf i))) then { b with debt := b.debt - 1 } else b

/-- R347, R349: a channel in a cycle: one command, and the refreshes that idle banks owe. -/
def channelTick (c : Channel) : Channel :=
  let (q, c) := channelCommand c
  { c with
    banks := c.banks.mapIdx fun i b => payDebt c i b
    inFlight := c.inFlight ++ (q.toList.filter fun x => !x.req.write).map (·.req) }

/-- R345, R347: a cycle of the controller: a command in each channel, and then what waits for space in the bank queues. -/
def dramTick (s : State) : State :=
  if s.ddr.state ≠ 2 then s
  else serveWaiting { s with ddr := { s.ddr with channels := s.ddr.channels.map channelTick, written := [] } }

/-! ### ECC (R352, R353) -/

/-- R352: a corrected error. -/
def eccCorrected (c a : Nat) (s : State) : State :=
  let s := (s.bump OD.ECC_CORRECTED).setO OD.ECC_LAST_ADDRESS a
  let last := (channelOf c s).eccStamp
  if last = 0 ∨ last - 1 + ticksMs ≤ s.loc then
    raise EV.DDR_ECC_CORRECTED c (modChannel c (fun x => { x with eccStamp := s.loc + 1 }) s)
  else s

/-- R352: a poisoned burst. -/
def eccUncorrectable (c requester a : Nat) (s : State) : State :=
  raise EV.DDR_ECC_UNCORRECTABLE (256 * requester + c) ((s.bump OD.ECC_UNCORRECTABLE).setO OD.ECC_LAST_ADDRESS a)

/-- R360: a write to the granule comes in the present cycle. -/
def writtenNow (a : Nat) (s : State) : Bool :=
  s.ddr.written.contains (granuleOf a) || s.pending.any fun c => match c with
    | .dramRequest q => q.write && granuleOf q.address == granuleOf a
    | _ => false

/-- R353: the write-back of a corrected granule: a read-modify-write that changes no byte. -/
def writeBack (a : Nat) : DramReq := { requester := 6, address := a, write := true, data := [] }

/-- R353: SCRUB_PERIOD in LOC ticks. -/
def scrubPeriod (s : State) : Nat := s.o OD.SCRUB_PERIOD * 3600000 * ticksMs

/-- R353: the next granule of the scrub is due: the granules of a pass are spread over the period. -/
def scrubDue (s : State) : Bool :=
  decide (s.ddr.scrubPos * scrubPeriod s ≤ (s.loc - s.ddr.scrubFrom) * s.o OD.INSTALLED_SIZE)

/-- R353: the scrub moves on by a granule; behind the last one the next pass begins. -/
def scrubNext (s : State) : State :=
  let a := s.ddr.scrubPos + 64
  { s with ddr := if a < s.o OD.INSTALLED_SIZE then { s.ddr with scrubPos := a }
      else { s.ddr with scrubPos := 0, scrubFrom := s.ddr.scrubFrom + scrubPeriod s } }

/-- SCRUB_READ (R353): requester 6 asks for the next granule in address order, once it is due; a command that names another does nothing.
The read goes through its bank queue, and its outcome comes with its return. -/
def execScrubRead (granule : Nat) (s : State) : Host.Outcome State Fault Refusal :=
  .next (if s.ddr.state ≠ 2 ∨ ¬ s.ddr.eccOn ∨ s.o OD.SCRUB_PERIOD = 0 ∨ 64 * granule ≠ s.ddr.scrubPos ∨ ¬ scrubDue s then s
    else serveWaiting (addRequest { requester := 6, address := s.ddr.scrubPos, write := false, data := [] } (scrubNext s)))

/-- R353, R360: a scrub read that held a corrected error is written back, unless a write to the granule comes in its cycle. -/
def scrubReturned (r : DramReq) (s : State) : State :=
  if r.requester = 6 ∧ ¬ writtenNow r.address s then serveWaiting (addRequest (writeBack r.address) s) else s

/-! ### Refresh and drift (R349, R350, R357) -/

/-- R349: the bank, or the bank pair, at a place of the rotation. -/
def refreshBanks (pair : Bool) (place ranks : Nat) : List Nat :=
  let i := place % (if pair then 8 * max 1 ranks else 16 * max 1 ranks)
  if pair then [16 * (i / 8) + i % 8, 16 * (i / 8) + i % 8 + 8] else [i]

/-- R349, R360: a refresh falls due in these banks: issued at once when they are idle, owed when they are not, and forced at a debt of 8:
their rows are precharged, and the one refresh issued pays one. -/
def refreshDue (c : Nat) (bs : List Nat) (s : State) : State :=
  let banks := bs.map fun b => vgetN (channelOf c s).banks b
  let idle := banks.all bankIdle
  let forced := !idle && banks.any fun x => decide (8 ≤ x.debt + 1)
  let s := modChannel c (fun y =>
    if idle then y
    else if forced then bs.foldl (fun y b => closeRow b y) y
    else bs.foldl (fun y b => modBank b (fun x => { x with debt := x.debt + 1 }) y) y) s
  if ¬ forced then s
  else
    let s := s.bump OD.REFRESH_FORCED
    let last := (channelOf c s).forcedStamp
    if last = 0 ∨ last - 1 + ticksMs ≤ s.loc then
      raise EV.DDR_REFRESH_FORCED c (modChannel c (fun x => { x with forcedStamp := s.loc + 1 }) s)
    else s

/-- REFRESH_DUE (R349): a per-bank interval of a channel elapses, and the next bank of its rotation, or the next pair, is due. -/
def execRefreshDue (channel : Fin 4) (pair : Bool) (s : State) : Host.Outcome State Fault Refusal :=
  .next (if s.ddr.state ≠ 2 then s
    else
      let place := (channelOf channel s).refNext
      let s := modChannel channel (fun c => { c with refPair := pair, refNext := (place + 1) % 32 }) s
      refreshDue channel (refreshBanks pair place (s.o OD.RANKS)) s)

/-- MR4_POLL (R350): the rate code of a channel. -/
def execMr4Poll (channel : Fin 4) (code : Byte) (s : State) : Host.Outcome State Fault Refusal :=
  .next (if s.ddr.state ≠ 2 then s
    else
      let was := (channelOf channel s).rateCode
      let s := modChannel channel (fun c => { c with rateCode := code.toNat }) s
      let s := s.setO OD.REFRESH_RATE ((s.ddr.channels.toList.map (·.rateCode)).foldl max 0)
      if was = code.toNat then s else raise EV.DDR_TEMP_RATE (256 * code.toNat + channel) s)

/-- A delay moved by `d` steps, from 0 to 255 (R355). -/
def moveDelay (d : Int) (b : Byte) : Byte := BitVec.ofNat 8 (min 255 ((b.toNat : Int) + d).toNat)

/-- R357: the data delays in use of channel `c` move by `change` steps each: write delays of DQ 0 to 15, then read delays. -/
def moveDelays (c : Nat) (change : List Int) (bs : List Byte) : List Byte :=
  bs.mapIdx fun i b => if 120 * c ≤ i ∧ i < 120 * c + 32 then moveDelay (change.getD (i - 120 * c) 0) b else b

/-- R357: a tracking pass of a channel; the first time that the total change of a delay exceeds 8 steps is reported. -/
def trackDrift (c : Nat) (change : List Int) (s : State) : State :=
  let s := modChannel c (fun x => { x with
    drift := x.drift.mapIdx fun i (d : Int) => d + change.getD i 0, trackAt := s.loc })
    { s with ddr := { s.ddr with inUse := moveDelays c change s.ddr.inUse } }
  if ((channelOf c s).drift.toList.any fun d => decide (8 < d.natAbs)) ∧ ¬ (channelOf c s).driftRaised then
    raise EV.DDR_TRACK_ADJUST c (modChannel c (fun x => { x with driftRaised := true }) s)
  else s

/-- R357: a gap is forced when none has occurred within 4 tracking intervals. -/
def gapForced (c : Nat) (s : State) : Bool :=
  decide ((channelOf c s).trackAt + 4 * s.o OD.TRACK_INTERVAL * ticksMs ≤ s.loc)

/-- DRIFT_TRACKING (R357): the oscillators run in a bus gap, or in one that is forced. -/
def execDriftTracking (channel : Fin 4) (change : List Int) (gap : Bool) (s : State) : Host.Outcome State Fault Refusal :=
  .next (if s.ddr.state ≠ 2 ∨ s.ddr.fixed then s
    else if gap ∨ gapForced channel s then trackDrift channel change s
    else s)

/-! ### Training (R339, R354, R355, R358) -/

/-- The number that a training records for a device type (log entry 124). -/
def typeCode : DramType → Nat
  | .x16 => 1
  | .x8 => 2
  | .other n => 3 + n

/-- What training records of a device (R339). -/
def identityOf (d : DramDevice) : Nat := d.density + 256 * d.ranks + 65536 * d.vendor + 16777216 * typeCode d.type

/-- R354: identity, DATA_RATE, ECC_ENABLE and temperature, as the last 32 B of TRAINED_DELAYS record them (log entry 124). -/
def delayTail (d : DramDevice) (s : State) : List Byte :=
  (leBytes 4 (identityOf d) ++ leBytes 2 (s.o OD.DATA_RATE) ++ leBytes 2 (b2n (s.ob OD.ECC_ENABLE)) ++
    leBytes 2 (unsignedOf 16 (s.oi OD.JUNCTION_TEMP)) ++ List.replicate 32 0).take 32

/-- R354: TRAINED_DELAYS as the journal holds it. -/
def trainedDelays (s : State) : List Byte := s.domBytes OD.TRAINED_DELAYS 0 512

/-- R354, R359: a delay set holds delays for the device, the rate and the ECC setting. -/
def delaysMatch (d : DramDevice) (bs : List Byte) (s : State) : Bool :=
  s.o OD.DATA_RATE != 0 && (bs.drop 480).take 8 == (delayTail d s).take 8

/-- R354: the junction lies within 20 °C of the temperature recorded. -/
def tempMatches (bs : List Byte) (s : State) : Bool :=
  decide ((s.oi OD.JUNCTION_TEMP - signedOf 16 (leNum ((bs.drop 488).take 2))).natAbs ≤ 200)

/-- R354, R359: the delays of the quick path: those kept at SLEEP entry, whatever the temperature, or TRAINED_DELAYS. -/
def quickDelays (r : TrainReport) (s : State) : Option (List Byte) :=
  let d := r.devices.get 0
  if ¬ s.ddr.keptDelays.isEmpty then (if delaysMatch d s.ddr.keptDelays s then some s.ddr.keptDelays else none)
  else if delaysMatch d (trainedDelays s) s ∧ tempMatches (trainedDelays s) s then some (trainedDelays s)
  else none

/-- R338: the configurations supported. -/
def supported (d : DramDevice) : Bool :=
  d.type == .x16 && (d.density == 8 || d.density == 16 || d.density == 32) && (d.ranks == 1 || d.ranks == 2)

/-- R339: the channel that fails the identity check of step 1. -/
def identityFails (r : TrainReport) : Option Nat :=
  (List.range 4).find? fun c => !supported (vgetN r.devices c) || vgetN r.devices c != r.devices.get 0

/-- R356: a step of the PRBS-31 register, x^31 + x^28 + 1 (PRESUMED, log entry 222). -/
def prbsStep (x : Nat) : Nat := (2 * x + (x / 2 ^ 30 + x / 2 ^ 27) % 2) % 2 ^ 31

/-- The register after `n` steps. -/
def prbsRun : Nat → Nat → Nat
  | 0, x => x
  | n + 1, x => prbsRun n (prbsStep x)

/-- The next `n` bytes of the sequence, eight new bits each. -/
def prbsBytes : Nat → Nat → List Byte
  | 0, _ => []
  | n + 1, x =>
    let y := prbsRun 8 x
    BitVec.ofNat 8 y :: prbsBytes n y

/-- R356: burst `b` of a run before INVERT: PRBS-31 seeded from PATTERN, or PATTERN repeated. What mode 2 compares with is the PRBS (log
entry 222). -/
def runBase (x : EngineRun) (b : Nat) : List Byte :=
  if x.mode = 1 then (List.range 16).flatMap fun _ => leBytes 4 x.pattern else prbsBytes 64 (prbsRun (512 * b) (x.pattern % 2 ^ 31))

/-- R356: burst `b` as it is written and expected back: a beat is two bytes, and DQ i its bit i; INVERT inverts its lines. -/
def runBurst (x : EngineRun) (b : Nat) : List Byte :=
  (runBase x b).mapIdx fun i v => v ^^^ BitVec.ofNat 8 (x.invert / 256 ^ (i % 2))

/-- R356: the bits of a returned burst that differ from what was written. -/
def runDiff (x : EngineRun) (r : Nat × List Byte) : List Byte := List.zipWith (fun v w => v ^^^ w) (runBurst x r.1) r.2

/-- R356: the bits of line `i` that are 1 in the 32 beats of a burst. -/
def dqCount (i : Nat) (bs : List Byte) : Nat :=
  ((List.range 32).filter fun beat => bit (bs.getD (2 * beat + i / 8) 0#8).toNat (i % 8)).length

/-- R356: the errors of each DQ, which saturate. -/
def runErrors (x : EngineRun) : List Nat :=
  (List.range 16).map fun i =>
    min 65535 (((x.returned.filter fun r => decide (r.1 < x.length)).map fun r => dqCount i (runDiff x r)).foldl (· + ·) 0)

/-- R356: the errors of the worst DQ; an engine with LENGTH 0 finishes with none. -/
def worstErrors (x : EngineRun) : Nat := (runErrors x).foldl max 0

/-- R356: the first burst that fails, by its address. -/
def runFirstFail (x : EngineRun) : Nat :=
  x.addr + (((x.returned.filter fun r => decide (r.1 < x.length) && (runDiff x r).any fun b => b != 0#8).map (·.1)).min?.getD 0)

/-- R355: step 8 in channel `c`: the last run over 1 MiB of PRBS data, written and read, with the data delays moved by `shift`, ends
with no error. -/
def verifyRun (c : Nat) (shift : Int) (runs : List EngineRun) : Bool :=
  match (runs.filter fun x => x.channel.val == c && x.mode == 0 && x.shift == shift).getLast? with
  | some x => x.length == 16384 && worstErrors x == 0
  | none => false

/-- R355: a channel passes step 8: the verification, and with `margin` the runs at ±8 steps. -/
def verified (margin : Bool) (runs : List EngineRun) (c : Nat) : Bool :=
  verifyRun c 0 runs && (!margin || (verifyRun c 8 runs && verifyRun c (-8) runs))

/-- R355: the first channel that fails step 8. -/
def verifyFails (margin : Bool) (runs : List EngineRun) : Option Nat := (List.range 4).find? fun c => !verified margin runs c

/-- R354: the path: 1 full, 2 quick, 3 fixed. -/
def trainPath (r : TrainReport) (s : State) : Nat :=
  if s.o OD.DDR_MODE = 1 then 3 else if (quickDelays r s).isSome ∧ (verifyFails true r.quickRuns).isNone then 2 else 1

/-- R354: the time limit of a path, in ms. -/
def pathLimit (path : Nat) : Nat := if path = 2 then 20 else if path = 3 then 10 else 350

/-- R355: of steps 2 to 7 the first that fails, in its lowest channel. -/
def stepFails (r : TrainReport) : Option (Nat × Nat) :=
  ((List.range 8).flatMap fun n => (List.range 4).filterMap fun c =>
    if r.failures.any fun f => f.1 == n && f.2.val == c then some (n, c) else none).head?

/-- R339, R354, R355, R358: the step and the channel in which a training fails: the identity, steps 2 to 7 of full training, the
verification, with the margin check but on the fixed path, or the time limit. -/
def trainFails (r : TrainReport) (s : State) : Option (Nat × Nat) :=
  let path := trainPath r s
  let steps := if path = 1 then stepFails r else none
  let verify := if path = 2 then none else (verifyFails (path != 3) r.runs).map fun c => (8, c)
  let late := if pathLimit path < r.time then some (r.lastStep, r.lastChannel.val) else none
  ((((identityFails r).map fun c => (1, c)).or steps).or verify).or late

/-- R354: the path passes within its time. -/
def trainPasses (r : TrainReport) (s : State) : Bool := (trainFails r s).isNone

/-- R356, R362: the registers of an engine after a run. -/
def engineAfter (x : EngineRun) : PatternEngine :=
  ⟨x.length % 2 ^ 24 + x.mode % 4 * 2 ^ 24, x.addr, x.pattern, x.invert,
    (if worstErrors x = 0 then 0 else runFirstFail x % 65536) + 65536 * worstErrors x⟩

/-- The last run of a channel's engine. -/
def lastRun (c : Nat) (r : TrainReport) : Option EngineRun :=
  ((r.quickRuns ++ r.runs).filter fun x => x.channel.val == c).getLast?

/-- R355: step 7: a setting is placed at the centre of its passing window, of two centres at the lower (DESIGN CHOICE, log entry
124). -/
def centred (w : Nat × Nat) : Byte := BitVec.ofNat 8 ((w.1 + w.2) / 2)

/-- R356: what training leaves in the pattern engines. -/
def useEngines (r : TrainReport) (s : State) : State :=
  { s with ddr := { s.ddr with engines := s.ddr.engines.mapIdx fun c e => ((lastRun c r).map engineAfter).getD e } }

/-- R354: full training records its delays, with identity, rate, ECC and temperature, in the journal. -/
def recordDelays (d : List Byte) (s : State) : State :=
  openRecord (.bytes OD.TRAINED_DELAYS d) .nothing (State.setDom OD.TRAINED_DELAYS 0 d s)

/-- R354, R355, R358: the delays that a path leaves in use. -/
def delaysAfter (r : TrainReport) (s : State) : List Byte :=
  match trainPath r s with
  | 2 => (quickDelays r s).getD []
  | 3 => s.domBytes OD.FIXED_DELAYS 0 64
  | _ => (r.windows.map centred ++ List.replicate 480 0).take 480 ++ delayTail (r.devices.get 0) s

/-- R339: step 1 reads the mode registers; channel 0 is reported. -/
def readIdentity (r : TrainReport) (s : State) : State :=
  let d := r.devices.get 0
  ((s.setO OD.DENSITY d.density).setO OD.RANKS d.ranks).setO OD.MR_VENDOR d.vendor

/-- R406: the DRAM PLL locks, or stops. -/
def setDdrLock (locked : Bool) (s : State) : State := { s with clk := { s.clk with ddrLock := locked } }

/-- R354: a training: whether it passes, and the state after it. What the DRAM held is lost (R355, log entry 4). Of a training that fails
the channel that failed shows FAULT, and the others the TRAINING that they were in (DESIGN CHOICE, log entry 223). -/
def trainDram (r : TrainReport) (s : State) : Bool × State :=
  let path := trainPath r s
  let delays := delaysAfter r s
  let s' := setDdrLock true (useEngines r (readIdentity r (s.setO OD.TRAINING_TIME r.time)))
  match trainFails r s with
  | some (step, channel) =>
    let fail := fun (c : Nat) (x : Channel) => { x with state := if c = channel then 4 else 1 }
    let s := { s'.setO OD.TRAINING_RESULT 4 with ddr := { s'.ddr with
      state := 4, channels := s'.ddr.channels.mapIdx fail, mem := [], inUse := [], keptDelays := [] } }
    (false, raise EV.DDR_TRAINING_FAILED (256 * step + channel) s)
  | none =>
    let ecc := s.ob OD.ECC_ENABLE
    let d := r.devices.get 0
    let s := (s'.setO OD.INSTALLED_SIZE (installedSize d.density d.ranks ecc)).setO OD.TRAINING_RESULT path
    let s := { s with ddr := { s.ddr with
      state := 2, fixed := path == 3, eccOn := ecc, grain := s.o OD.CH_GRAIN, hash := s.ob OD.CH_HASH
      channels := Vector.replicate 4 { Channel.reset with state := 2, trackAt := s.loc }, scrubFrom := s.loc, inUse := delays, keptDelays := [], mem := [] } }
    let s := if path = 1 then recordDelays delays s else s
    (true, serveWaiting (raise EV.DDR_TRAINING_DONE path s))

/-! ### Self-refresh and SLEEP (R359) -/

/-- R359: every bank queue is empty, and no requester has a request waiting. -/
def dramQuiet (s : State) : Bool :=
  s.ddr.waiting.isEmpty && s.ddr.channels.toList.all fun c => c.inFlight.isEmpty && c.banks.toList.all fun b => b.queue.isEmpty

/-- R359, R406: self-refresh entry: every bank precharged, and the PLL stopped. -/
def enterSelfRefresh (s : State) : State :=
  let close := fun c : Channel =>
    let c := (List.range 32).foldl (fun c b => closeRow b c) c
    { c with state := 3, banks := c.banks.map fun b => { b with debt := 0 } }
  raise EV.DDR_SELF_REFRESH 1 (setDdrLock false { s with ddr := { s.ddr with
    state := 3, channels := s.ddr.channels.map close } })

/-- R359: self-refresh exit: one tracking pass, which fixed-delay mode has not (R358); then the requests that wait. -/
def exitSelfRefresh (drift : List (List Int)) (s : State) : State :=
  if s.ddr.state ≠ 3 then s
  else
    let s := raise EV.DDR_SELF_REFRESH 0 (setDdrLock true { s with ddr := { s.ddr with
      state := 2, channels := s.ddr.channels.map fun c => { c with state := 2 } } })
    let s := if s.ddr.fixed then s else eachDo (List.range 4) (fun c s => trackDrift c (drift.getD c []) s) s
    serveWaiting s

/-- R359, R362: SLEEP: unpowered; the contents are lost, and the delays in use are kept with the junction temperature. -/
def dramSleep (s : State) : State :=
  setDdrLock false { s with ddr := { Ddr.reset with keptDelays := s.ddr.inUse, sleepTemp := s.oi OD.JUNCTION_TEMP } }

end Sys2Proof.Machine
end

