-- ==== Sys2Proof/Machine/Pace.lean ====
section
/-! DEFINITION. Machine/Pace.lean: the pace chain (R326 to R337): links, positions, BUSY, mirror records, QUOIN_N,
takeover and handback. -/

namespace Sys2Proof.Machine

/-- Update the pace unit. -/
def modPace (f : Pace → Pace) (s : State) : State := { s with pace := f s.pace }

/-- R330: this chip is one of the two of a mirror pair. -/
def hasPartner (s : State) : Bool := s.ob OD.PARTNER_PRESENT && (s.pace.role == 1 || s.pace.role == 2)

/-! ### Links (R328, R329) -/

/-- A frame sent on the pace link: 0 HELLO, 1 ENUM, 2 CYCLE, 3 BUSY, and its content. -/
def sendPaceFrame (kind content : Nat) (s : State) : State :=
  modPace (fun p => { p with framesSent := p.framesSent ++ [(kind, content)] }) s

/-- R57, R328: the highest version of the pace link that the device supports, which its HELLO carries (log entry 114). -/
def paceVersionMax : Nat := 2

/-- R328: a link comes up at the version both sides support, limited by PACE_VERSION_LIMIT. -/
def paceLinkUp (side : Side) (vmax : Nat) (s : State) : State :=
  let v := min (min vmax paceVersionMax) (s.o OD.PACE_VERSION_LIMIT)
  let n := if side = .upstream then 0 else 1
  let s := modPace (fun p => if side = .upstream then { p with upVersion := v } else { p with dnVersion := v }) s
  let s := sendPaceFrame 0 paceVersionMax (setNegotiated (0x19 + n) vmax v s)
  let s := raise EV.PACE_LINK_CHANGE (256 * n + v) s
  if side = .downstream ∧ s.pace.driving then sendPaceFrame 1 1 s else s

/-- PACE_LINK_HELLO (R328): the neighbour's HELLO with its VMAX. -/
def execPaceLinkHello (side : Side) (vmax : Nat) (s : State) : Host.Outcome State Fault Refusal :=
  .next (whenDo (webOn s) (fun s => if vmax = 0 then s else paceLinkUp side vmax s) s)

/-- PACE_LINK_DOWN (R328). -/
def execPaceLinkDown (side : Side) (s : State) : Host.Outcome State Fault Refusal :=
  .next (whenDo (webOn s) (fun s =>
    let n := if side = .upstream then 0 else 1
    let was := if side = .upstream then s.pace.upVersion else s.pace.dnVersion
    if was = 0 then s
      else raise EV.PACE_LINK_CHANGE (256 * n)
        (modPace (fun p => if side = .upstream then { p with upVersion := 0 } else { p with dnVersion := 0 }) s)) s)

/-- ENUM (R328): the position is stored, and its successor forwarded. -/
def execEnum (position : BitVec 8) (s : State) : Host.Outcome State Fault Refusal :=
  .next (whenDo (webOn s) (fun s =>
    let s := s.setO OD.PACE_POSITION position.toNat
    if s.pace.dnVersion = 0 then s else sendPaceFrame 1 (wrapTo 8 (position.toNat + 1)) s) s)

/-- R329: this chip's busy flag. -/
def busyFlag (s : State) : Bool :=
  (s.formes.toList.any fun f => f.state == .printing) ||
  (List.range 24).any fun h => (laneOf h s).delay.any fun c => c.forme.isSome && decide (s.web.hwl < c.line + maxDelay h s)

/-- R329: BUSY from downstream: a link that is down counts as 1, one of version 1 as 0. -/
def busyBelow (s : State) : Bool :=
  if s.pace.dnVersion = 0 then true else if s.pace.dnVersion = 1 then false else s.pace.busyIn

/-- R328: the content of a CYCLE frame: the line, and HOLD in bit 48 under version 2. -/
def cycleContent (line : Nat) (hold : Bool) (s : State) : Nat :=
  if s.pace.dnVersion = 1 then wrapTo 32 line else wrapTo 48 line + 2 ^ 48 * b2n hold

/-- CYCLE (R329): forwarded downstream, and answered upstream by BUSY. -/
def execCycle (line : Nat) (hold : Bool) (s : State) : Host.Outcome State Fault Refusal :=
  .next (whenDo (webOn s) (fun s =>
    let s := if s.pace.dnVersion = 0 then s else sendPaceFrame 2 (cycleContent line hold s) s
    let b := busyFlag s || busyBelow s
    if s.pace.upVersion = 2 then sendPaceFrame 3 (b2n b) (modPace (fun p => { p with busyOut := b }) s) else s) s)

/-- BUSY (R329) from downstream. -/
def execBusy (b : Bool) (s : State) : Host.Outcome State Fault Refusal :=
  .next (whenDo (webOn s) (fun s => modPace (fun p => { p with busyIn := b, busyCycle := p.busyCycle || b }) s) s)

/-- PACE_SYNC_IN (R329): P against the nearest multiple of 8 lines. -/
def execPaceSyncIn (s : State) : Host.Outcome State Fault Refusal :=
  .next (whenDo (webOn s) (fun s =>
    let skew := ((s.web.p - 8 * roundRat (s.web.p / 8)) * 65536).floor
    if ¬ s.pace.driving ∧ s.o OD.SYNC_TOLERANCE ≠ 0 ∧ s.o OD.SYNC_TOLERANCE < skew.natAbs then
        raise EV.PACE_SYNC_SKEW (unsignedOf 16 skew) (s.setI OD.SYNC_SKEW_LAST skew)
      else s) s)

/-! ### READY and the heartbeat (R330, R332) -/

/-- R330, R337: READY gained or lost. -/
def setReady (b : Bool) (s : State) : State :=
  if s.pace.ready = b then s
  else raise EV.PACE_MIRROR_READY (b2n b) (modPace (fun p => { p with ready := b, ownRelease := p.ownRelease && !b }) s)

/-- R330: the mirror record that this chip sends. -/
def ownRecord (s : State) : MirrorRec :=
  { roleMaster := s.pace.role == 1, acting := s.pace.driving, pos := webpOf s.web.p, hwl := s.web.hwl
    emuCount := unsignedOf 64 s.pace.cycleCount, cycleLine := s.pace.cycleLine, phase := s.web.phase, locked := s.web.locked
    heldLine := s.o OD.HELD_LINE, held := s.plat.held, busyFlag := busyFlag s, busyIn := s.pace.busyIn, ready := s.pace.ready
    handback := s.pace.handback, crcOk := true }

/-- R330: send a mirror record to the partner. -/
def sendRecord (s : State) : State :=
  if hasPartner s then modPace (fun p => { p with recordsSent := p.recordsSent ++ [ownRecord s] }) s else s

/-- R330: align the emulated count with the acting master's at the same cycle-end line. -/
def alignCount (count : Int) (s : State) : State :=
  let shift : Rat := (count - s.pace.cycleCount : Rat) / (max 1 (s.o OD.EMU_COUNTS_PER_LINE) : Nat)
  let s := { s with web := { s.web with
    emuBase := s.web.emuBase + shift, emuCount := s.web.emuCount + (count - s.pace.cycleCount) } }
  modPace (fun p => { p with cycleCount := count }) s

/-- R330: compare P with the record's. -/
def compareRecord (r : MirrorRec) (s : State) : State :=
  let diff : Rat := s.web.p - (r.pos : Rat) / 65536
  if absRat diff ≤ s.o OD.MIRROR_TOLERANCE then
    let s := modPace (fun p => { p with good := min 16 (p.good + 1) }) s
    if s.pace.good = 16 then setReady true s else s
  else
    let s := modPace (fun p => { p with good := 0 }) s
    if s.pace.ready then
      let lines := if diff < 0 then -(absRat diff).floor else diff.floor
      setReady false (raise EV.PACE_MIRROR_SKEW (unsignedOf 16 (saturateSigned 16 lines)) s)
    else s

/-- MIRROR_RECORD (R330, R334, R335): a record whose CRC fails is none; an acting partner holds QUOIN_N low (R458); HANDBACK after the MASTER's own release is ignored. -/
def execMirrorRecord (r : MirrorRec) (s : State) : Host.Outcome State Fault Refusal :=
  .next (whenDo (webOn s) (fun s =>
    if ¬ hasPartner s ∨ ¬ r.crcOk then s
      else
        let s := modPace (fun p => { p with
          missed := 0, last := some r, everRecord := true, handbackSeen := r.handback && !p.ownRelease
          readySince := if r.ready then some (p.readySince.getD s.loc) else none
          takeDue := if p.role = 2 then false else if r.acting then r.handback && !p.quoinHeld && !p.ownRelease else p.takeDue }) s
        let s := s.setB OD.PARTNER_READY (s.pace.driving && r.ready)
        let s := { s with pins := { s.pins with quoinN := s.pins.quoinN && !r.acting } }
        if r.acting ∧ ¬ s.pace.driving then
          let s := if r.cycleLine = s.pace.cycleLine then alignCount (signedOf 64 r.emuCount) s else s
          compareRecord r s
        else s) s)

/-- R331: QUOIN_N is released, and the drivers with it. -/
def releaseQuoin (s : State) : State :=
  let s := modPace (fun p => { p with quoinHeld := false, driving := false, syncPulse := false, handback := false }) s
  { s.setB OD.PARTNER_READY false with
    web := { s.web with emuBehind := false }, pins := { s.pins with quoinN := true } }

/-- R332, R335: the second missed heartbeat; the MASTER's release wins over a handback of the same cycle. -/
def secondMiss (s : State) : State :=
  let showedReady : Bool := match s.pace.last with
    | some r => r.ready
    | none => false
  let ready := s.pace.ready
  let s := setReady false (modPace (fun p => { p with good := 0, readySince := none }) s)
  let s := s.setB OD.PARTNER_READY false
  if s.pace.role = 1 then
    let s := raise EV.PACE_HEARTBEAT_LOST 0 s
    if showedReady then
      modPace (fun p => { p with takeDue := false, handbackSeen := false, ownRelease := true }) (releaseQuoin s)
    else s
  else if ready then
    raise EV.PACE_HEARTBEAT_LOST 2 (modPace (fun p => { p with takeDue := !p.quoinHeld }) s)
  else raise EV.PACE_HEARTBEAT_LOST 1 s

/-- HEARTBEAT_MISS (R330, R332): 100 µs without a valid record. -/
def execHeartbeatMiss (s : State) : Host.Outcome State Fault Refusal :=
  .next (whenDo (webOn s) (fun s =>
    if ¬ hasPartner s then s
      else
        let s := modPace (fun p => { p with missed := p.missed + 1 }) (s.bump OD.MISSED_RECORDS)
        if s.pace.missed = 2 then secondMiss s else s) s)

/-- MIRROR_HEARTBEAT (R330): a record every 100 µs when no cycle ends. -/
def execMirrorHeartbeat (s : State) : Host.Outcome State Fault Refusal :=
  .next (whenDo (webOn s) (fun s =>
    sendRecord s) s)

/-! ### Taking QUOIN_N (R331 to R333) -/

/-- R332: the cases in which this chip takes QUOIN_N once it is high. -/
def mayTakeQuoin (s : State) : Bool :=
  !s.pace.quoinHeld && ((s.pace.role == 1 && s.pace.takeDue) || (s.pace.role == 2 && (s.pace.ready || s.pace.takeDue)))

/-- A counter of class J counts, and its record is written (R395). -/
def bumpJournaled (key : Nat) (s : State) : State :=
  let s := s.bump key
  openRecord (.objects false [(key, s.o key)]) .nothing s

/-- R333: the counts that fell due in the microsecond in which no chip drove are owed. -/
def oweCounts (s : State) : State :=
  let recent := s.web.edges.filter fun e => decide (s.loc < e.1 + ticksUs)
  let moved : Rat := (recent.map fun e => if e.2 then ratio s else -ratio s).foldl (· + ·) 0
  let base := s.web.emuBase - if s.pace.everRecord then moved else 0
  { s with web := { s.web with emuCount := (base * s.o OD.EMU_COUNTS_PER_LINE).floor } }

/-- R331, R333, R334: QUOIN_N is taken. -/
def takeQuoin (s : State) : State :=
  let returning := s.pace.handbackSeen
  let busyElsewhere : Bool := match s.pace.last with
    | some r => r.busyIn
    | none => false
  let s := oweCounts (modPace (fun p => { p with quoinHeld := true, takenAt := s.loc, takeDue := false }) s)
  let s := { s with pins := { s.pins with quoinN := false } }
  if s.pace.role = 2 then
    let s := (bumpJournaled OD.TAKEOVERS s).setO OD.LAST_TAKEOVER_LINE s.web.hwl
    let s := raiseX EV.PACE_TAKEOVER s.web.hwl 0 s.web.hwl 0 s
    if busyFlag s ∨ busyElsewhere then
      driveHold (modPace (fun p => { p with holdPulse := true }) s)
    else s
  else if returning then raise EV.PACE_RETURN s.web.hwl (modPace (fun p => { p with handbackSeen := false }) s)
  else s

/-- QUOIN_TAKE (R331): QUOIN_N has been high for 1 µs; it stays released in bare-forme mode (R391). -/
def execQuoinTake (s : State) : Host.Outcome State Fault Refusal := .next (if ohlOn s ∧ mayTakeQuoin s then takeQuoin s else s)

/-- STANDBY_QUOIN_TIMEOUT (R332): 3 s of QUOIN_N high and no record since the reset. -/
def execStandbyQuoinTimeout (s : State) : Host.Outcome State Fault Refusal :=
  .next (if ohlOn s ∧ s.pace.role = 2 ∧ ¬ s.pace.everRecord ∧ ¬ s.pace.quoinHeld then takeQuoin s else s)

/-- PACE_QUOIN_STUCK (R332): QUOIN_N has stayed low for 1 ms after two missed heartbeats. -/
def execPaceQuoinStuck (s : State) : Host.Outcome State Fault Refusal :=
  .next (whenDo (webOn s) (fun s =>
    if s.pace.role = 2 ∧ 2 ≤ s.pace.missed ∧ ¬ s.pace.quoinHeld then
        raise EV.PACE_QUOIN_STUCK 0 (modPace (fun p => { p with takeDue := false }) s)
      else s) s)

/-- PACE_OUT_ENABLE (R331, R333): 2 µs after the take the drivers are enabled, and owed counts are sent. -/
def execPaceOutEnable (s : State) : Host.Outcome State Fault Refusal :=
  .next (whenDo (webOn s) (fun s =>
    if s.pace.quoinHeld ∧ ¬ s.pace.driving then
        let s := modPace (fun p => { p with driving := true }) s
        let s := if s.pace.role = 1 then s.setO OD.PACE_POSITION 0 else s
        let s := { s with web := { s.web with emuFree := s.loc, emuBehind := false } }
        emulate (emuTarget s) s
      else s) s)

/-- TAKEOVER_HOLD_PULSE_END (R333). -/
def execTakeoverHoldPulseEnd (s : State) : Host.Outcome State Fault Refusal :=
  .next (if s.pace.holdPulse then driveHold (modPace (fun p => { p with holdPulse := false }) s) else s)

/-! ### The cycle end (R327, R330, R334, R335) -/

/-- R335: a change of PACE_ROLE acts at the cycle end. -/
def takeRole (s : State) : State :=
  if s.pace.role = s.o OD.PACE_ROLE then s
  else
    let s := if s.pace.quoinHeld then releaseQuoin s else s
    setReady false (modPace (fun p => { p with role := s.o OD.PACE_ROLE, takeDue := false, good := 0 }) s)

/-- R334: the MASTER is healthy, nothing is busy, and the STANDBY is not held. -/
def handbackReady (s : State) : Bool :=
  (match s.pace.readySince with
    | some t => decide (t + s.o OD.RETURN_HOLD * ticksMs ≤ s.loc)
    | none => false) &&
  !busyFlag s && !s.pace.busyCycle && !busyBelow s && !s.plat.held

/-- R334: the handback at a cycle end of the acting STANDBY. -/
def handbackStep (s : State) : State :=
  if ¬ (s.pace.role = 2 ∧ s.pace.driving) then s
  else if ¬ handbackReady s then modPace (fun p => { p with handback := false }) s
  else if s.pace.handback then bumpJournaled OD.RETURNS (releaseQuoin s)
  else modPace (fun p => { p with handback := true }) s

/-- R327: the end of a pace cycle, at the boundary of a line that is a multiple of 8. -/
def paceCycleEnd (line : Nat) (s : State) : State :=
  let s := modPace (fun p => { p with cycleCount := emuTarget s, cycleLine := line }) s
  let s := match s.pace.last with
    | some r => if r.acting ∧ ¬ s.pace.driving ∧ r.cycleLine = line then alignCount (signedOf 64 r.emuCount) s else s
    | none => s
  let s := handbackStep (takeRole s)
  let s := modPace (fun p => { p with busyCycle := false }) s
  let s := sendRecord s
  if s.pace.driving then
    let s := modPace (fun p => { p with syncPulse := true }) s
    if s.pace.dnVersion = 0 then s else sendPaceFrame 2 (cycleContent line s.plat.held s) s
  else s

/-- PACE_SYNC_PULSE_END (R326): the 100 ns pulse ends. -/
def execPaceSyncPulseEnd (s : State) : Host.Outcome State Fault Refusal :=
  .next (modPace (fun p => { p with syncPulse := false }) s)

/-- R326, R333, R410: what a reset reaching PACE leaves: QUOIN_N is let go, and a pulse of HOLD_N that PACE drives ends with it. -/
def paceReset (s : State) : State :=
  let t := { s with
    pace := { Pace.reset with role := s.o OD.PACE_ROLE }
    pins := { s.pins with quoinN := s.pins.quoinN || s.pace.quoinHeld } }
  if s.pace.holdPulse then driveHold t else t

end Sys2Proof.Machine
end

