-- ==== Sys2Proof/Machine/Time.lean ====
section
/-! DEFINITION. Machine/Time.lean: compare units, TRIG pins and capture inputs (R317 to R325). -/

namespace Sys2Proof.Machine

/-- R318: the low 32 bits of a domain's now, with the fraction of P in domain 2. -/
def domainNow (domain : Nat) (s : State) : Nat × Nat :=
  match domain with
  | 0 => (wrapTo 32 (netNow s), 0)
  | 1 => (wrapTo 32 s.loc, 0)
  | 2 => (wrapTo 32 (webpOf s.web.p / 65536), webpOf s.web.p % 65536)
  | _ => (wrapTo 32 s.web.hwl, 0)

/-- R318: how far now lies past a unit's target, in the domain's unit (1/65,536 L in domain 2). -/
def pastTarget (u : Nat) (s : State) : Int :=
  let (n, f) := domainNow (s.o (OD.CMP_DOMAIN u)) s
  let d := signedOf 32 (unsignedOf 32 ((n : Int) - s.o (OD.CMP_TARGET u)))
  if s.o (OD.CMP_DOMAIN u) = 2 then d * 65536 + f - s.o (OD.CMP_FRACTION u) else d

/-- R318: the target is reached. -/
def cmpReached (u : Nat) (s : State) : Bool := decide (0 ≤ pastTarget u s)

/-- R319: add `n` periods to a unit's target; in domain 2 they carry into the fraction. -/
def addPeriods (u n : Nat) (s : State) : State :=
  let add := n * s.o (OD.CMP_PERIOD u)
  if s.o (OD.CMP_DOMAIN u) = 2 then
    let q := s.o (OD.CMP_TARGET u) * 65536 + s.o (OD.CMP_FRACTION u) + add
    (s.setO (OD.CMP_TARGET u) (q / 65536)).setO (OD.CMP_FRACTION u) (q % 65536)
  else s.setO (OD.CMP_TARGET u) (s.o (OD.CMP_TARGET u) + add)

/-- R321: LOC ticks from a match to the start of its pulses. -/
def pulseDelay : Nat := 4

/-- R321: a pulse of TRIG pin `k` is active: it has begun and has not ended. -/
def pulseActive (k : Nat) (s : State) : Bool :=
  (vgetN s.time.pulse k).any fun p => decide (p.1 ≤ s.loc)

/-- R321: the level of TRIG pin `k`: TRIG_CONFIG bit 0 makes the pulse low and the idle level high; a pin without a source is
idle. -/
def trigPin (k : Nat) (s : State) : Bool :=
  Bool.xor (bit (s.o (OD.TRIG_CONFIG k)) 0) (pulseActive k s && s.o (OD.TRIG_SOURCE k) != 0xFF)

/-- R321: a match starts a pulse of every pin that names the unit, 4 ticks after it; an active pulse runs on into the new one, with
TIME_PULSE_OVERLAP (log entry 113). -/
def startPulses (u : Nat) (s : State) : State :=
  eachDo (List.range 16) (fun k s =>
    if s.o (OD.TRIG_SOURCE k) ≠ u ∨ s.o (OD.TRIG_WIDTH k) = 0 then s
    else
      let start := s.loc + pulseDelay
      let until_ := start + s.o (OD.TRIG_WIDTH k)
      let began := fun p : Nat × Nat => decide (p.1 ≤ s.loc)
      let anew : List (Nat × Nat) → List (Nat × Nat) := fun ps =>
        if ps.any began then ps.map fun p => if began p then (p.1, until_) else p else ps ++ [(start, until_)]
      let s := if pulseActive k s then raise EV.TIME_PULSE_OVERLAP k s else s
      { s with time := { s.time with pulse := vmodN s.time.pulse k anew } }) s

/-- R319, R320: a unit matches. -/
def matchUnit (u : Nat) (s : State) : State :=
  let late := vgetN s.time.lateArm u
  let s := s.bump (OD.CMP_MATCHES u)
  let s := { s with time := { s.time with
    matched := vmodN s.time.matched u fun _ => true, lateArm := vmodN s.time.lateArm u fun _ => false } }
  let s := raise EV.TIME_COMPARE_MATCH (s.o (OD.CMP_MATCHES u) % 256 * 256 + u) s
  let s := motMatch u (camMatch u (webpOf s.web.p) (startPulses u s))
  let period := s.o (OD.CMP_PERIOD u)
  if period = 0 then
    let s := s.setB (OD.CMP_ARM u) false
    if late then raise EV.TIME_COMPARE_LATE u s else s
  else
    let past := pastTarget u s
    let n := if past < period then 1 else past.toNat / period + 1
    let s := addPeriods u n s
    if late ∨ 1 < n then raise EV.TIME_COMPARE_LATE u s else s

/-- R318: a unit's domain is evaluated in this cycle: NET and LOC in every one, P in one in which a count is applied, the high-water
line at a boundary and not while a hold freezes it. -/
def cmpEvaluated (u : Nat) (s : State) : Bool :=
  match s.o (OD.CMP_DOMAIN u) with
  | 0 => true
  | 1 => true
  | 2 => s.web.edgesSeen != 0 && s.web.lastEdge == s.loc
  | _ => s.web.releaseFrom == s.loc + 1 && !s.web.frozen

/-- R320: a unit was armed with its target reached: it matches in the next cycle, in domain 3 not during a hold. -/
def cmpLate (u : Nat) (s : State) : Bool := vgetN s.time.lateArm u && !(s.o (OD.CMP_DOMAIN u) == 3 && s.web.frozen)

/-- R318 to R320: an armed unit whose target is reached matches where its domain is evaluated, or where it was armed so. -/
def tryMatch (u : Nat) (s : State) : State :=
  if s.ob (OD.CMP_ARM u) ∧ cmpReached u s ∧ (cmpEvaluated u s ∨ cmpLate u s) then matchUnit u s else s

/-- R320: a command brings the match of a unit. -/
def matchOf (u : Nat) : Instr → Bool
  | .compareMatch unit => unit == u
  | _ => false

/-- R320: a match of the cycle of a write of CMP_ARM stands, also where its command is still to come in the cycle. -/
def matchFirst (u : Nat) (s : State) : State := if s.pending.any (matchOf u) then tryMatch u s else s

/-- COMPARE_MATCH (R318, R319). -/
def execCompareMatch (unit : Fin 16) (s : State) : Host.Outcome State Fault Refusal := .next (tryMatch unit s)

/-- R320: a unit is armed; a target already reached is noted. -/
def armUnit (u : Nat) (s : State) : State :=
  { s with time := { s.time with lateArm := vmodN s.time.lateArm u fun _ => cmpReached u s } }

/-- TRIG_PULSE_END (R321): TRIG_WIDTH has passed since the pulse began, or was restarted. -/
def execTrigPulseEnd (pin : Fin 16) (s : State) : Host.Outcome State Fault Refusal :=
  let ended : List (Nat × Nat) → List (Nat × Nat) := fun ps => ps.filter fun x => decide (s.loc < x.2)
  .next { s with time := { s.time with pulse := vmod s.time.pulse pin ended } }

/-- R322: a selected edge is captured. -/
def takeCapture (i : Nat) (s : State) : State :=
  let was := vgetN s.time.valid i
  let s := ((s.setO (OD.CAP_LOC i) s.loc).setO (OD.CAP_NET i) (netNow s)).setO (OD.CAP_POSITION i) (webpOf s.web.p)
  let s := { s with time := { s.time with valid := vmodN s.time.valid i fun _ => true } }
  let s := raise EV.TIME_CAPTURE i s
  if was then raise EV.TIME_CAPTURE_OVERRUN i (s.bump (OD.CAP_OVERRUNS i)) else s

/-- R198, R322, R419, R451: a filtered edge of an input, which TIME, the latch and the motion inputs see in one cycle. -/
def captureEdge (input : Fin 8) (rising : Bool) (s : State) : State :=
  let s := { s with time := { s.time with
    level := vmod s.time.level input fun _ => rising } }
  let sel := s.o (OD.CAP_EDGE input)
  let s := if (rising ∧ (sel = 1 ∨ sel = 3)) ∨ (¬ rising ∧ (sel = 2 ∨ sel = 3)) then takeCapture input s else s
  let s := if rising then s else faultPin input s
  demandWake (if rising ∧ webOn s ∧ s.o OD.LATCH_CAPTURE_SELECT = input then latchSlot 3 s else s)

/-- FAULT_INPUT_LOW (R378, R451): a capture input goes low, or is low. -/
def execFaultInputLow (input : Fin 8) (s : State) : Host.Outcome State Fault Refusal :=
  .next (if inputLevel input s then captureEdge input false s else faultPin input s)

/-- CAPTURE_EDGE (R322): the level of an input as its samples show it. -/
def execCaptureEdge (input : Fin 8) (edge : Samples) (s : State) : Host.Outcome State Fault Refusal :=
  .next (whenDo (captureFiltered input edge s) (captureEdge input edge.level) s)

end Sys2Proof.Machine
end

