-- ==== Sys2Proof/Machine/Power.lean ====
section
/-! DEFINITION. Machine/Power.lean: the power manager's calendar and states (R415 to R420), supply warnings (R423) and the
junction temperature (R446). An entry and an exit are completed in Machine/Registers.lean. -/

namespace Sys2Proof.Machine

/-- Update the power manager. -/
def modPwr (f : Pwr → Pwr) (s : State) : State := { s with pwr := f s.pwr }

/-- An entry of the calendar: its source (0x2100:06) and its time in LOC ticks. -/
abbrev CalEntry := Nat × Nat

/-- R417: the LOC at which `lines` have passed at WEB_RATE_ASSUMED. -/
def lineTime (lines : Rat) (s : State) : Nat :=
  if lines ≤ 0 then s.loc
  else s.loc + (lines * 100 * 400000000 / (max 1 (s.o OD.WEB_RATE_ASSUMED) : Nat)).floor.toNat

/-- R417: forme arming. -/
def formeEntries (s : State) : List CalEntry :=
  (formesWith (fun c => c.state == .loading || c.state == .ready) s).map fun f =>
    (1, lineTime ((s.o (OD.FORME_START f) : Rat) - s.o OD.ARM_LEAD - s.web.hwl) s)

/-- R417: armed compare units. -/
def compareEntries (s : State) : List CalEntry :=
  ((List.range 16).filter fun u => s.ob (OD.CMP_ARM u)).map fun u =>
    let ahead := -pastTarget u s
    (2, match s.o (OD.CMP_DOMAIN u) with
      | 0 => s.loc + ((ahead : Rat) * 2 / 5).floor.toNat
      | 1 => s.loc + ahead.toNat
      | 2 => lineTime ((ahead : Rat) / 65536) s
      | _ => lineTime ahead s)

/-- R417: the next EtherCAT frame. -/
def frameEntries (s : State) : List CalEntry :=
  if s.net.al ≠ .safeop ∧ s.net.al ≠ .op then []
  else if s.o OD.SYNC_MODE_OUT = 2 then [(3, max s.loc (s.net.sync0Loc + s.net.sync0Cycle * 2 / 5))]
  else match s.net.sm2Loc, s.net.sm2Gaps with
    | some last, g :: gs => [(3, max s.loc (last + gs.foldl min g))]
    | _, _ => []

/-- R417: a motion in progress. -/
def motionEntries (s : State) : List CalEntry :=
  if s.axes.toList.any fun x => x.state.moves && !(x.state == .segments && x.segWaiting) then [(4, s.loc)] else []

/-- R113: a ring has pending descriptors, or egress records await. -/
def ringsPending (s : State) : Bool :=
  (s.rings.toList.any fun q => q.pendingCount != 0) || (s.egress.toList.any fun e => !e.awaiting.isEmpty) ||
    !s.dev.evLog.isEmpty

/-- R417: rings. -/
def ringEntries (s : State) : List CalEntry := if ringsPending s then [(5, s.loc)] else []

/-- R417: work in hand. -/
def workInHand (s : State) : Bool :=
  s.srv.busy || !s.srv.waiting.isEmpty || s.pcie.winBusy || (s.cams.toList.any fun c =>
    c.cciBusy || c.writing || c.frame.isSome || !c.toPrf.isEmpty) ||
    s.disp.pending.isSome || s.disp.running.isSome || !s.tymp.open_.isEmpty || !s.tymp.stalled.isEmpty

/-- R417: work entries. -/
def workEntries (s : State) : List CalEntry := if workInHand s then [(6, s.loc)] else []

/-- The earliest entry; of entries at one time the lowest source. -/
def earliest : List CalEntry → Option CalEntry
  | [] => none
  | e :: es => match earliest es with
    | none => some e
    | some f => if f.2 < e.2 ∨ (f.2 = e.2 ∧ f.1 < e.1) then some f else some e

/-- R417: the calendar, with or without EtherCAT frames (R420). -/
def calendar (frames : Bool) (s : State) : Option CalEntry :=
  earliest (formeEntries s ++ compareEntries s ++ (if frames then frameEntries s else []) ++ motionEntries s ++
    ringEntries s ++ workEntries s)

/-- R418: the slack of an entry in µs; none = no event. -/
def slackOf (e : Option CalEntry) (s : State) : Option Nat :=
  e.map fun e => (e.2 - s.loc) / ticksUs - s.o OD.GUARD

/-- A latency is within a slack. -/
def fits (latency : Nat) : Option Nat → Bool
  | none => true
  | some slack => decide (latency ≤ slack)

/-- R415: exit latencies in µs. -/
def exitLatency (state : Nat) : Nat :=
  match state with
  | 2 => 15
  | 3 => 350
  | 4 => 40000
  | _ => 0

/-- R416: RUN is held. -/
def mustRun (s : State) : Bool := formesBusy s || (s.pwr.exiting && s.pwr.state == 4) || s.tymp.state == 2

/-- R418: the state that the slack selects, SLEEP apart. -/
def selectState (slack : Option Nat) (s : State) : Nat :=
  let deepest := s.o OD.DEEPEST_STATE
  if mustRun s ∨ deepest = 0 then 0
  else if 3 ≤ deepest ∧ fits 350 slack ∧ dramQuiet s then 3
  else if 2 ≤ deepest ∧ fits 15 slack then 2
  else 1

/-- R425, R428: the state changes. -/
def setPower (state : Nat) (s : State) : State :=
  let old := s.pwr.state
  if old = state then s
  else raise EV.PWR_STATE_CHANGE (256 * old + state) (modPwr (fun p => { p with
    state := state, since := s.loc, resid := vmodN p.resid old fun n => n + (s.loc - p.since) }) s)

/-- R416, R417, R418: a recomputation. A deeper state begins its entry; a shallower one than DOZE is taken at once. An exit in
progress runs to its end (R424). A deeper state is left for RUN where RUN is held. -/
def pwrRecompute (s : State) : State :=
  if s.boot.phase ≠ .ready ∨ s.pwr.exiting then s
  else
    let next := calendar true s
    let slack := slackOf next s
    let s := (s.setO OD.NEXT_SOURCE ((next.map (·.1)).getD 0)).setO OD.SLACK (satTo 0xFFFFFFFF (slack.getD 0xFFFFFFFF))
    let s := modPwr (fun p => { p with nextEvent := next.map (·.2) }) s
    let want := selectState slack s
    if s.pwr.entering.isSome then
      if want < 2 then modPwr (fun p => { p with entering := none }) s else s
    else if want ≤ 1 then (if s.pwr.state ≤ 1 then setPower want s else if mustRun s then demandWake s else s)
    else if s.pwr.state < want then modPwr (fun p => { p with entering := some want }) s
    else s

/-- SCHEDULED_WAKE (R419): the exit starts at next event − GUARD − exit latency; an entry in progress is reversed. -/
def execScheduledWake (s : State) : Host.Outcome State Fault Refusal := .next (demandWake s)

/-- R420: the PCIe link is not up. -/
def linkNotUp (s : State) : Bool := !s.pcie.perst || !s.pcie.trained || (s.pcie.d3hot && s.pcie.l23)

/-- R420: the conditions of SLEEP, SLEEP_IDLE apart. -/
def sleepPermitted (s : State) : Bool :=
  s.o OD.DEEPEST_STATE == 4 && s.pwr.state == 3 && !s.pwr.exiting && s.pwr.entering.isNone &&
  (s.formes.toList.all fun f => f.state == .empty || f.state == .retired) && !ringsPending s &&
  ((List.range 16).all fun u => !s.ob (OD.CMP_ARM u)) &&
  s.pace.role == 0 && (s.pace.upVersion == 0 || s.pace.dnVersion == 0) && linkNotUp s &&
  (s.axes.toList.all fun x => !x.state.moves) && fits 40000 (slackOf (calendar false s) s)

/-- SLEEP_IDLE_EXPIRY (R420): the device has stayed in STANDBY for SLEEP_IDLE. -/
def execSleepIdleExpiry (s : State) : Host.Outcome State Fault Refusal :=
  .next (if sleepPermitted s then modPwr (fun p => { p with entering := some 4, nextEvent := (calendar false s).map (·.2) }) s
    else s)

/-- PWR_WAKE_LATE (R419): an event falls due before the exit is complete. -/
def execPwrWakeLate (source : Byte) (s : State) : Host.Outcome State Fault Refusal :=
  .next (if s.pwr.exiting then raise EV.PWR_WAKE_LATE source.toNat (s.bump OD.WAKE_LATE) else s)

/-- R424: the reset of the rail comes in the same cycle. -/
def brownoutToCome (rail : Fin 8) (s : State) : Bool := s.pending.any fun c => match c with
  | .brownoutReset r => r == rail
  | _ => false

/-- PWR_BROWNOUT_WARN (R423, R424): with the reset of the rail in one cycle the reset acts, and no warning is raised. -/
def execPwrBrownoutWarn (rail : Fin 8) (s : State) : Host.Outcome State Fault Refusal :=
  .next (
    let s := s.setO OD.SUPPLY_STATUS (setBit (s.o OD.SUPPLY_STATUS) rail true)
    if brownoutToCome rail s then s else raise EV.PWR_BROWNOUT_WARN rail s)

/-- PWR_BROWNOUT_CLEAR (R423). -/
def execPwrBrownoutClear (rail : Fin 8) (s : State) : Host.Outcome State Fault Refusal :=
  .next (if bit (s.o OD.SUPPLY_STATUS) rail then
      raise EV.PWR_BROWNOUT_CLEAR rail (s.setO OD.SUPPLY_STATUS (setBit (s.o OD.SUPPLY_STATUS) rail false))
    else s)

/-- R446: DEVICE_TEMP_HIGH, once until the reading has fallen below TEMP_HIGH_LIMIT − 5.0 °C. -/
def tempHighCheck (t : Int) (s : State) : State :=
  let limit := s.oi OD.TEMP_HIGH_LIMIT
  if limit ≤ t ∧ s.pwr.tempArmed then
    raise EV.DEVICE_TEMP_HIGH (unsignedOf 16 (t / 10)) (modPwr (fun p => { p with tempArmed := false }) s)
  else if t < limit - 50 then modPwr (fun p => { p with tempArmed := true }) s
  else s

/-- R446: a reading of the on-die sensor; in SLEEP, 15.0 °C from its value at entry is a demand wake (R419). -/
def junctionReading (t : Int) (s : State) : State :=
  let s := s.setI OD.JUNCTION_TEMP t
  let s := if s.oi OD.JUNCTION_MAX < t then s.setI OD.JUNCTION_MAX t else s
  let s := tempHighCheck t s
  if s.pwr.state = 4 ∧ 150 ≤ (t - s.ddr.sleepTemp).natAbs then demandWake s else s

/-- JUNCTION_TEMP_SAMPLE (R446): a reading of 16 bits. -/
def execJunctionTempSample (temp : Int) (s : State) : Host.Outcome State Fault Refusal :=
  .next (junctionReading (saturateSigned 16 temp) s)

/-- RESIDENCY of a state in ms (R425). -/
def residency (n : Nat) (s : State) : Nat :=
  (vgetN s.pwr.resid n + if s.pwr.state = n then s.loc - s.pwr.since else 0) / ticksMs

end Sys2Proof.Machine
end

