-- ==== Sys2Proof/Machine/Proof.lean ====
section
/-! DEFINITION. Machine/Proof.lean: the proof lanes and their windows (R289 to R294), the comparison (R295 to R297),
failure evidence and trials (R298 to R305), inspection records (R306, R307). -/

namespace Sys2Proof.Machine

/-- A proof lane. -/
def prfOf (p : Nat) (s : State) : PrfLane := vgetN s.prf.lanes p

/-- Change a proof lane. -/
def modPrf (p : Nat) (g : PrfLane → PrfLane) (s : State) : State :=
  { s with prf := { s.prf with lanes := vmodN s.prf.lanes p g } }

/-- Raise an event of a proof lane (R313). -/
def prfEvent (ev arg p : Nat) (s : State) : State := raise ev (256 * (arg % 256) + p) s

/-- A parameter of 0x4100 as it was when a window was opened (R310). -/
def WindowSum.par (w : WindowSum) (key : Nat) : Nat := kget dfltOf w.params key

/-- R310: the keys whose writes take effect at the next window opened. -/
def windowKey (key : Nat) : Bool := decide (okey 0x4100 0x06 ≤ key) && decide (key ≤ okey 0x4100 0x33)

/-- The last paper line of a window (R291). -/
def WindowSum.last (w : WindowSum) : Nat := w.base + w.lines - 1

/-! ### Rounding (log entry 18) -/

/-- A proof quantity as an integer: exact where it is one, else rounded the way the manual leaves open. -/
def openRound (q : Rat) : Int := if q.den = 1 then q.num else q.floor + (if Config.roundsUp q then 1 else 0)

/-- R295: a value to 1/256. -/
def to256 (q : Rat) : Rat := (openRound (256 * q) : Rat) / 256

/-! ### Geometry (R292) -/

/-- R292: the stored column of a global column. -/
def storedColumn (x0 : Int) (pitch g : Nat) : Int := (256 * (g : Int) + 128 - x0) / pitch

/-- R292: the tile column of a stored column; a frame narrower than 256 has none (log entry 18). -/
def tileColumn (width x : Nat) : Option Nat := if width / 256 = 0 then none else some (min 255 (x / (width / 256)))

/-- R292: the tile row of a stored line. -/
def tileRow (height y : Nat) : Option Nat := if height / 16 = 0 then none else some (min 15 (y / (height / 16)))

/-- R292: the stored line that covers paper line `o` of a window of `lines` lines. -/
def storedLine (height lines o : Nat) : Nat := ((o + 1) * height + lines - 1) / lines - 1

/-- R300: LINE_OFFSET of a head in a window: that of the forme whose dots lie highest in it (log entry 180). -/
def WindowSum.offset (w : WindowSum) (h : Nat) : Nat := w.offsets.getD h 0

/-- R292: the stored column of a global column in a window of port `p`. -/
def WindowSum.columnAt (w : WindowSum) (p g : Nat) : Int :=
  storedColumn (signedOf 32 (w.par (OD.CAM_X0 p))) (w.par (OD.X_PITCH p)) g

/-! ### Windows (R291, R293, R294) -/

/-- R289: DRAM address of summary slot `n` of port `p`. -/
def summaryAddress (p n : Nat) (s : State) : Nat :=
  s.o OD.PRF_AREA_BASE + s.o OD.FRAME_BUFFERS * s.o OD.FRAME_BUFFER_BYTES + (p * s.o OD.SUMMARY_SLOTS + n) * 32768

/-- The summary of a port with the lowest window. -/
def lowestWindow : List WindowSum → Option WindowSum
  | [] => none
  | w :: ws =>
    match lowestWindow ws with
    | none => some w
    | some v => some (if w.base ≤ v.base then w else v)

/-- A window carries TORN when it contains a line of a torn slot (R293). -/
def hasTorn (base lines : Nat) (s : State) : Bool := s.prf.torn.any fun l => decide (base ≤ l) && decide (l < base + lines)

/-- R294: close an open window: its sums go to a free summary slot, which is found at the price of the lowest summary. -/
def closeWindow (p base : Nat) (incomplete : Bool) (s : State) : State :=
  match (prfOf p s).open_.find? fun w => w.base == base with
  | none => s
  | some w =>
    let s := modPrf p (fun l => { l with open_ := l.open_.filter fun w => w.base != base }) s
    let used := fun s => (prfOf p s).summaries.map (·.slot)
    let full := decide (s.o OD.SUMMARY_SLOTS ≤ (used s).length)
    let s := match full, lowestWindow (prfOf p s).summaries with
      | true, some v => (modPrf p (fun l => { l with summaries := l.summaries.filter fun w => w.base != v.base }) s).bump
          OD.SUMMARIES_LOST
      | _, _ => s
    let slot := ((List.range (s.o OD.SUMMARY_SLOTS)).find? fun n => !(used s).contains n).getD 0
    let w := { w with slot := slot, incomplete := incomplete, torn := w.torn || hasTorn w.base w.lines s }
    let sums := (w.cols ++ w.tiles).flatMap fun kv => [kv.1, kv.2]
    let s := modPrf p (fun l => { l with summaries := l.summaries ++ [w] }) s
    let s := dramWrite (summaryAddress p slot s) ((List.range 32768).map (Config.summaryByte sums)) s
    if incomplete then prfEvent EV.PRF_WINDOW_INCOMPLETE 0 p s else s

/-- R291: the window of a paper line, for windows from `base` on of `lines` lines. -/
def windowBase (base lines line : Nat) : Nat := base + (line - base) / max 1 lines * lines

/-- R294: open the window of a paper line, if it is not open; a window that has closed stays closed. What opens beyond the fourth
is settled once the slots of the cycle are rendered (`limitWindows`). -/
def openWindow (p line : Nat) (s : State) : State :=
  let l := prfOf p s
  let inside := fun w : WindowSum => decide (w.base ≤ line) && decide (line ≤ w.last)
  let b0 := s.o OD.WINDOW_BASE
  let n := s.o OD.WINDOW_LINES
  let base := windowBase b0 n line
  if l.open_.any inside ∨ l.summaries.any inside ∨ line < b0 ∨ l.inspected.contains base then s
  else
    let params := s.od.filter fun kv => windowKey kv.1
    let flat := s.dom.filter fun kv => kv.1 / 2 ^ 24 == OD.FLAT_FIELD
    let w : WindowSum := ⟨base, n, [], [], false, false, false, 0, params, flat, 0, []⟩
    modPrf p (fun l => { l with open_ := l.open_ ++ [w] }) s

/-- Add to a 16-bit sum, which saturates (R293). -/
def addSum (k v : Nat) (m : SMap) : SMap := kset (fun _ => 0) k (min 65535 (kget (fun _ => 0) m k + v)) m

/-- R293: a dot of plane `q` and level `d` at global column `g` and a paper line enters an open window of port `p`, whose
frames are `width` by `height`. -/
def addDot (p q d g line width height : Nat) (w : WindowSum) : WindowSum :=
  let x := w.columnAt p g
  if x < 0 ∨ (width : Int) ≤ x then w
  else
    let weight := w.par (OD.DOT_WEIGHT q) / 256 ^ (d - 1) % 256
    let w := { w with cols := addSum (4096 * q + x.toNat) weight w.cols }
    match tileColumn width x.toNat, tileRow height (storedLine height w.lines (line - w.base)) with
    | some i, some j => { w with tiles := addSum (4096 * q + 256 * j + i) weight w.tiles }
    | _, _ => w

/-- R310: the open window of a paper line takes the LINE_OFFSETs of the forme of its highest dot. -/
def WindowSum.noteOffsets (line : Nat) (offsets : List Nat) (w : WindowSum) : WindowSum :=
  if w.offLine ≤ line then { w with offLine := line, offsets := offsets } else w

/-- R292, R294: a dot of global column `g` and a paper line is rendered on port `p`: an inspected port, with the dot in a
stored column. An open window decides by its own parameters (R310). -/
def rendersOn (p g line : Nat) (s : State) : Bool :=
  match (prfOf p s).open_.find? fun w => decide (w.base ≤ line) && decide (line ≤ w.last) with
  | some w => decide (0 ≤ w.columnAt p g) && decide (w.columnAt p g < (s.l (OD.WIDTH p) : Int))
  | none =>
    let x := storedColumn (signedOf 32 (s.o (OD.CAM_X0 p))) (s.o (OD.X_PITCH p)) g
    s.o (OD.CAM_DISTANCE p) != 0 && decide (0 ≤ x) && decide (x < (s.l (OD.WIDTH p) : Int))

/-- R293: a dot is rendered on port `p`; `offsets` are the LINE_OFFSETs of its forme. -/
def renderDot (p q d g line : Nat) (offsets : List Nat) (s : State) : State :=
  if ¬ rendersOn p g line s then s
  else
    let s := openWindow p line s
    let add := fun w => addDot p q d g line (s.l (OD.WIDTH p)) (s.l (OD.HEIGHT p)) (w.noteOffsets line offsets)
    modPrf p (fun l => { l with open_ := lmod (fun w => decide (w.base ≤ line) && decide (line ≤ w.last)) add l.open_ }) s

/-- R291: LINE_OFFSETs of the forme whose dots a fire line of a head carries. -/
def offsetsAt (h w : Nat) (s : State) : List Nat :=
  match streamAt h w s with
  | some st => st.offsets
  | none => (List.range 24).map fun x => offsetAt x w s

/-- R293: render the dots of an acknowledged slot of head `h` on every inspected port. -/
def renderBody (h : Nat) (b : Body) (s : State) : State :=
  eachDo (List.range 4) (fun p s =>
    eachDo b.groups (fun g s =>
      let r := g.num / 8
      let w := b.slot - s.o (OD.ROW_OFFSET h r) / 64
      let line := paperLine h w s
      eachDo (g.levels.mapIdx fun m d => (m, d)) (fun md s =>
        if md.2 = 0 then s
        else renderDot p (planeOf h) md.2 (globalColumn h (columnOf h r (256 * (g.num % 8) + md.1) s)) line
          (offsetsAt h w s) s) s) s) s

/-- R294: every head has acknowledged its data lines of paper line `e` or lower. -/
def allAcknowledged (e : Nat) (s : State) : Bool :=
  (populatedHeads s).all fun h => decide (e + offsetAt h (lowestUnacked h s) s < lowestUnacked h s)

/-- R294: close the windows whose lines are all acknowledged. -/
def closeWindows (s : State) : State :=
  eachDo (List.range 4) (fun p s =>
    eachDo ((prfOf p s).open_.filter fun w => allAcknowledged w.last s) (fun w s => closeWindow p w.base false s) s) s

/-- R294: of windows opened in this order, by their bases, those that close because a fifth opened: each time the lowest of
the four that are open. -/
def surplusWindows : List Nat → List Nat → List Nat
  | _, [] => []
  | held, b :: bs =>
    if held.length < 4 then surplusWindows (held ++ [b]) bs
    else
      let low := held.foldl min (held.headD 0)
      low :: surplusWindows (held.filter (· != low) ++ [b]) bs

/-- R294: each lane keeps four windows open; the others close INCOMPLETE. -/
def limitWindows (s : State) : State :=
  eachDo (List.range 4) (fun p s =>
    eachDo (surplusWindows [] ((prfOf p s).open_.map (·.base))) (fun b s => closeWindow p b true s) s) s

/-- R293, R294: slots of a head have been acknowledged: all their dots are rendered before a window closes (R308), and a window
whose lines are now all acknowledged closes before one that gives way to a fifth (DESIGN CHOICE, log entry 219). -/
def renderSlots (h : Nat) (bodies : List Body) (s : State) : State :=
  limitWindows (closeWindows (eachDo bodies (fun b s => renderBody h b s) s))

/-- R291: the window that a frame is matched to, by its trigger. -/
def matchedBase (base lines dist : Nat) (f : FrameRec) : Nat :=
  let d : Int := (f.trigPos / 65536 : Nat) - dist
  let k := ((2 * (d - base) + lines) / (2 * (lines : Int))).toNat
  base + k * lines

/-- R291, R310: a frame is matched to this window, by the window's own parameters. -/
def WindowSum.takesFrame (p : Nat) (w : WindowSum) (f : FrameRec) : Bool :=
  matchedBase (w.par OD.WINDOW_BASE) w.lines (w.par (OD.CAM_DISTANCE p)) f == w.base

/-- The lines above the reference by which a frame misses its window (R291). -/
def misalignment (base dist : Nat) (f : FrameRec) : Nat := (((f.trigPos / 65536 : Nat) : Int) - dist - base).natAbs

/-- R294: summaries whose frame can no longer come are released; one to which a frame has been matched, skipped or still to be
compared, stays. -/
def summaryExpiry (s : State) : State :=
  eachDo (List.range 4) (fun p s => modPrf p (fun l => { l with summaries := l.summaries.filter fun w =>
    !(decide (w.last + w.par (OD.CAM_DISTANCE p) + w.par OD.EXPIRE_LINES < s.web.hwl) && !w.tookFrame &&
      !((camOf p s).toPrf.any (w.takesFrame p))) }) s) s

/-- R294: a frame has been matched to the window from `base` on. -/
def noteMatched (p base : Nat) (s : State) : State :=
  let mark := lmod (fun w : WindowSum => w.base == base) fun w => { w with tookFrame := true }
  modPrf p (fun l => { l with summaries := mark l.summaries, open_ := mark l.open_ }) s

/-! ### Comparison (R290, R295) -/

/-- The 10-bit value of column `x` of stored line `y` of a frame. -/
def storedPixel (f : FrameRec) (s : State) (y x : Nat) : Nat :=
  let a := bufferAddress f.buffer s + y * f.width * 5 / 4 + 5 * (x / 4)
  leNum (Memory.reads s.ddr.mem a 5) / 2 ^ (10 * (x % 4)) % 1024

/-- R290: the flat-field correction of a stored value. -/
def flatPixel (w : WindowSum) (p x v : Nat) : Nat :=
  let at_ := fun i => kget domDflt w.flat (OD.FLAT_FIELD * 2 ^ 24 + 16384 * p + 4 * x + i)
  let gain := at_ 0 + 256 * at_ 1
  let off := signedOf 16 (at_ 2 + 256 * at_ 3)
  (min 1023 (max 0 (((v : Int) - off) * gain / 4096))).toNat

/-- A valid pixel's corrected value, if the pixel is valid. -/
def validPixel (w : WindowSum) (p : Nat) (f : FrameRec) (s : State) (y x : Nat) : Option Nat :=
  if x < f.validLens.getD y 0 ∧ y < f.height then some (flatPixel w p x (storedPixel f s y x)) else none

/-- The channel that pixel (x, y) carries (R290). -/
def pixelChannel (cfa x y : Nat) : Nat := if cfa = 1 then 2 * (y % 2) + x % 2 else 0

/-- The mean of values, if there is one. -/
def meanOf (l : List Rat) : Option Rat := if l.isEmpty then none else some ((l.foldl (· + ·) 0) / l.length)

/-- R290: channel `c` at pixel (x, y): the pixel's own, or the mean of that channel in its 3 × 3 neighbourhood. -/
def channelAt (w : WindowSum) (p : Nat) (f : FrameRec) (s : State) (c y x : Nat) : Option Rat :=
  let cfa := w.par (OD.CFA p)
  match validPixel w p f s y x with
  | none => none
  | some v =>
    if pixelChannel cfa x y = c then some v
    else if cfa ≠ 1 then none
    else
      let around := (List.range 9).filterMap fun i =>
        let y' := y + i / 3
        let x' := x + i % 3
        if y' = 0 ∨ x' = 0 ∨ f.width < x' ∨ pixelChannel cfa (x' - 1) (y' - 1) ≠ c then none
        else (validPixel w p f s (y' - 1) (x' - 1)).map fun v => (v : Rat)
      meanOf around

/-- What the comparison has of a stored column or a tile: sites, rendered sums and channel means. -/
structure Site where
  sites : Rat
  sums : List Nat
  means : List (Option Rat)
  deriving DecidableEq, Repr

/-- Coverage κ_q (R295). -/
def Site.kappa (x : Site) (q : Nat) : Rat := to256 (min 1 ((x.sums.getD q 0 : Nat) / (16 * x.sites)))

/-- ABSORB of plane `q` and channel `c`. -/
def absorb (w : WindowSum) (q c : Nat) : Nat := w.par (OD.ABSORB q) / 65536 ^ c % 65536

/-- The channels that take part in a plane's sums (R295): absorbed by it, and seen in valid pixels. A channel without a valid pixel
has no mean and takes no part (DESIGN CHOICE, log entry 217). -/
def Site.channels (x : Site) (w : WindowSum) (q : Nat) : List (Nat × Rat) :=
  (List.range 4).filterMap fun c =>
    match x.means.getD c none with
    | some m => if absorb w q c = 0 then none else some (c, m)
    | none => none

/-- e_q and o_q of a column or tile (R295), if some channel takes part. -/
def Site.darkness (x : Site) (w : WindowSum) (p q : Nat) : Option (Rat × Rat) :=
  let cs := x.channels w q
  if cs.isEmpty then none
  else
    let a : Rat := (cs.map fun c => (absorb w q c.1 : Rat)).foldl (· + ·) 0
    let eps := fun q c => to256 (absorb w q c * x.kappa q)
    let paper := fun c : Nat => w.par (OD.PAPER p) / 65536 ^ c % 65536
    let e := (cs.map fun c => absorb w q c.1 * eps q c.1).foldl (· + ·) 0 / a
    let o := (cs.map fun c => absorb w q c.1 * ((paper c.1 : Nat) - to256 c.2 - eps (1 - q) c.1)).foldl (· + ·) 0 / a
    some (to256 e, to256 o)

/-- Residual r_q (R295). -/
def Site.residual (x : Site) (w : WindowSum) (p q : Nat) : Option Rat := (x.darkness w p q).map fun eo => eo.1 - eo.2

/-- The sites of the stored columns of a window (R295). -/
def columnSites (w : WindowSum) (p : Nat) (f : FrameRec) (s : State) : List Site :=
  (List.range f.width).map fun x =>
    { sites := ((w.par (OD.X_PITCH p) : Nat) : Rat) / 256 * (w.lines : Nat)
      sums := [kget (fun _ => 0) w.cols x, kget (fun _ => 0) w.cols (4096 + x)]
      means := (List.range 4).map fun c => meanOf ((List.range f.height).filterMap fun y => channelAt w p f s c y x) }

/-- The stored columns of a tile column and the stored lines of a tile row (R292). -/
def tileColumns (width i : Nat) : List Nat := (List.range width).filter fun x => tileColumn width x == some i
def tileLines (height j : Nat) : List Nat := (List.range height).filter fun y => tileRow height y == some j

/-- The site of a tile (R295). -/
def tileSite (w : WindowSum) (p : Nat) (f : FrameRec) (s : State) (i j : Nat) : Site :=
  let xs := tileColumns f.width i
  let ys := tileLines f.height j
  let rows := (ys.map fun y => (y + 1) * w.lines / f.height - y * w.lines / f.height).foldl (· + ·) 0
  { sites := ((w.par (OD.X_PITCH p) : Nat) : Rat) / 256 * (xs.length : Nat) * (rows : Nat)
    sums := [kget (fun _ => 0) w.tiles (256 * j + i), kget (fun _ => 0) w.tiles (4096 + 256 * j + i)]
    means := (List.range 4).map fun c =>
      meanOf (ys.flatMap fun y => xs.filterMap fun x => channelAt w p f s c y x) }

/-! ### Classes (R296, R297) -/

/-- A finding before it is recorded; `column` is G, `first` and `last` its stored columns or tile. -/
structure Found where
  cls : Nat
  plane : Nat
  column : Nat
  first : Nat
  last : Nat
  strength : Nat
  ambiguous : Bool
  evidence : Bool      -- its peak gives nozzle evidence (R296)
  pos : Rat            -- X, in C
  deriving DecidableEq, Repr

/-- R296: runs of 3 or more adjacent columns at or above STREAK_LEVEL. -/
def streakRuns (strong : Nat → Bool) : Nat → Nat → Option Nat → List (Nat × Nat)
  | 0, x, st =>
    match st with
    | some a => if 3 ≤ x - a then [(a, x - 1)] else []
    | none => []
  | n + 1, x, st =>
    if strong x then streakRuns strong n (x + 1) (some (st.getD x))
    else
      (match st with
       | some a => if 3 ≤ x - a then [(a, x - 1)] else []
       | none => []) ++ streakRuns strong n (x + 1) none

/-- R296: the ABSORB vectors of the planes are proportional, as on every mono port. -/
def proportional (w : WindowSum) (p : Nat) : Bool :=
  w.par (OD.CFA p) == 0 || (List.range 4).all fun i => (List.range 4).all fun j =>
    absorb w 0 i * absorb w 1 j == absorb w 0 j * absorb w 1 i

/-- A peak of plane `q` at stored column `x`, by class (R296), located under R297. -/
def peakAt (w : WindowSum) (p q : Nat) (sites : Nat → Option Site) (x : Nat) : Option Found :=
  let r := fun x => (sites x).bind fun t => t.residual w p q
  let e := fun x => (sites x).bind fun t => (t.darkness w p q).map (·.1)
  let k := fun q x => ((sites x).map fun t => t.kappa q).getD 0
  if x = 0 then none
  else
    match r (x - 1), r x, r (x + 1), e (x - 1), e x, e (x + 1) with
    | some a, some b, some c, some ea, some eb, some ec =>
      let nozzle := fun e : Rat => to256 (e / (2 * (w.par (OD.X_PITCH p) : Rat) / 256))
      let share := (nozzle ea + nozzle eb + nozzle ec) / 3
      let f := to256 ((a + b + c) / share)
      let weak := (w.par OD.WEAK_RATIO : Rat) / 256
      if b < a ∨ b < c ∨ share ≤ 0 ∨ f < weak then none
      else
        let swing := match (if 2 ≤ x then r (x - 2) else none), r (x + 2) with
          | some l, some m => decide ((a + b + c) / 2 ≤ -(min l m))
          | _, _ => false
        let cls := if swing then 3 else if (w.par OD.MISSING_RATIO : Rat) / 256 ≤ f then 1 else 2
        let ink := (w.par OD.MIN_INK : Rat) / 256
        let mean := fun q => (k q (x - 1) + k q x + k q (x + 1)) / 3
        let ambiguous := proportional w p && decide (ink ≤ mean (1 - q))
        let cen := to256 ((x : Rat) + (c - a) / (a + b + c))
        let pos : Rat := ((signedOf 32 (w.par (OD.CAM_X0 p)) : Int) + ((w.par (OD.X_PITCH p) : Nat) : Rat) * (cen + 1 / 2)) / 256
        if pos < 0 ∨ 97600 ≤ pos then none
        else some ⟨cls, q, pos.floor.toNat, x - 1, x + 1, (openRound (256 * f)).toNat,
          ambiguous, decide (ink ≤ mean q) && !ambiguous, pos⟩
    | _, _, _, _, _, _ => none

/-- R296: the peaks of one class, but for those with a column that an earlier class has used. -/
def takePeaks (peaks : List Found) (used : List Nat) : List Found :=
  peaks.filter fun f => !(List.range 3).any fun i => used.contains (f.first + i)

/-- The stored columns a finding uses. -/
def Found.columns (f : Found) : List Nat := (List.range (f.last + 1 - f.first)).map (f.first + ·)

/-- R296: the findings of a plane, in the order of the classes. A tile with a column that a STREAK uses is no BLOT, since
its sums hold that column (DEDUCED, log entry 182). -/
def classify (w : WindowSum) (p q : Nat) (f : FrameRec) (cols : List Site) (s : State) : List Found :=
  let site := fun x => cols[x]?
  let level := (w.par OD.STREAK_LEVEL : Rat)
  let strong := fun x => match (site x).bind fun t => t.residual w p q with
    | some r => decide (level ≤ r) || decide (r ≤ -level)
    | none => false
  let streaks := (streakRuns strong f.width 0 none).map fun ab => (⟨4, q, 0, ab.1, ab.2, 0, false, false, 0⟩ : Found)
  let used := streaks.flatMap Found.columns
  let whole := (List.range 256).filter fun i => !(tileColumns f.width i).any fun x => used.contains x
  let blots := (List.range 16).flatMap fun j => whole.filterMap fun i =>
    match (tileSite w p f s i j).residual w p q with
    | some r => if (w.par OD.BLOT_LEVEL : Rat) ≤ -r then some (⟨5, q, 0, i, j, 0, false, false, 0⟩ : Found) else none
    | none => none
  let used := used ++ blots.flatMap fun b => tileColumns f.width b.first
  let peaks := (List.range f.width).filterMap (peakAt w p q site)
  let d := takePeaks (peaks.filter fun x => x.cls == 3) used
  let used := used ++ d.flatMap Found.columns
  let m := takePeaks (peaks.filter fun x => x.cls == 1) used
  let used := used ++ m.flatMap Found.columns
  streaks ++ blots ++ d ++ m ++ takePeaks (peaks.filter fun x => x.cls == 2) used

/-- R292: the nozzles of a plane that serve a global column; of the two rows of R152's pair, the one nozzle is open (log
entry 179). -/
def servers (q g : Nat) (s : State) : List Nat :=
  (List.range 12).flatMap fun i =>
    let h := 12 * q + i
    if 8128 * i ≤ g ∧ g < 8128 * i + 8192 then
      let c := g - 8128 * i
      if coarse h s then [tableIndex h (2 * (c % 4 / 2) + b2n (Config.coarseRow h (c / 2))) (c / 4)]
      else [tableIndex h (2 * (c % 4)) (c / 4), tableIndex h (2 * (c % 4) + 1) (c / 4)]
    else []

/-- R304: a nozzle is in the lock list. -/
def isLocked (n : Nat) (s : State) : Bool :=
  (List.range 256).any fun i =>
    let e := s.domNum OD.PRF_LOCK (4 * i) 4
    bit e 31 && bits e 23 0 == idOf n

/-- Insert a candidate by distance from the position, then by identifier. -/
def insertCandidate (x : Rat × Nat) : List (Rat × Nat) → List (Rat × Nat)
  | [] => [x]
  | y :: ys => if y.1 < x.1 ∨ (y.1 = x.1 ∧ y.2 ≤ x.2) then y :: insertCandidate x ys else x :: y :: ys

/-- R297: the candidates of a finding in trial order, the lock list not considered. -/
def candidates (f : Found) (s : State) : List Nat :=
  let near := if f.column = 0 then [0, 1] else [f.column - 1, f.column, f.column + 1]
  let all := near.flatMap fun g => (servers f.plane g s).map fun n =>
    (let d := (g : Rat) + 1 / 2 - f.pos
     if d < 0 then -d else d, n)
  let ordered := ((all.foldl (fun acc x => insertCandidate x acc) []).map (·.2)).eraseDups
  ordered.filter fun n => decide (entState (folded n s) < 2) && !s.prf.trials.any fun t => (t.lead :: t.rest).contains n

/-! ### Requests (R299, R300, R305) -/

/-- The target state and HEALTH step of a class (R298, R299). -/
def targetState (cls : Nat) : Nat := if cls = 2 then 1 else 2
def healthStep (w : WindowSum) (cls : Nat) : Nat :=
  w.par (if cls = 1 then OD.STEP_MISSING else if cls = 2 then OD.STEP_WEAK else OD.STEP_DEFLECTED)

/-- R299: the mask of a PRF request, and the value that asks for a state. -/
def prfMask : Nat := 0xC0003800
def targetValue (n cls : Nat) (sub : Nat) (s : State) : Nat :=
  let h := n / 16384
  let c := columnOf h (n % 16384 / 2048) (n % 2048) s
  targetState cls * 2 ^ 30 + (if (mateHead h c).isSome then 6 else sub) * 2 ^ 11

/-- R300: the band PRF names. -/
def prfBand (w : WindowSum) (n : Nat) : Nat :=
  if w.par OD.LOOP_BANDS = 0 then 0
  else (w.last + w.offset (n / 16384)) / 64 + w.par OD.LOOP_BANDS

/-- What a request came to: a cause if it was refused, the band requested or taken, the entry before it, and whether it was late. -/
structure Asked where
  cause : Nat
  band : Nat
  old : Nat
  late : Bool
  deriving DecidableEq, Repr

/-- R300, R305: a request of PRF; one that is LATE is repeated with band 0. -/
def prfRequest (p n value band : Nat) (s : State) : Asked × State :=
  let s := s.bump OD.REQUESTS
  let ask := fun band s => requestChange (idOf n) value prfMask band 0 3 s
  let (c, s1) := ask band s
  let late := decide (c = 4)
  let (c, s1) := if late then ask 0 s1 else (c, s1)
  if c ≠ 0 then (⟨c, band, 0, late⟩, prfEvent EV.PRF_REQUEST_REFUSED c p (s1.bump OD.REQUESTS_REFUSED))
  else
    let b := s1.o OD.REQ_BAND_TAKEN
    let s1 := if late then prfEvent EV.PRF_LOOP_LATE 0 p (s1.bump OD.LOOP_LATE) else s1
    (⟨0, b, entryAt n b s, late⟩, s1)

/-! ### Records (R306, R307) -/

/-- R306: a FINDING record; `where_` is the word at 0x14. -/
def findingRecord (p flags fsn base cls action where_ id strength health band : Nat) (s : State) : List Byte :=
  leBytes 1 0x72 ++ leBytes 1 p ++ leBytes 2 flags ++ leBytes 4 fsn ++ leBytes 8 base ++ leBytes 2 s.prf.findingSeq ++
    leBytes 1 cls ++ leBytes 1 action ++ leBytes 4 where_ ++ leBytes 4 id ++ leBytes 4 (min 65535 strength + 65536 * health) ++
    leBytes 8 band ++ leBytes 8 s.loc ++ leBytes 16 0

/-- R307: the oldest FINDING record that waits for a slot of port `p` takes one. -/
def payFinding (p : Nat) (s : State) : State :=
  match s.prf.owed.find? fun x => x.1 == p with
  | none => s
  | some x =>
    if egressFree (97 + p) s = 0 then s
    else putRecord (97 + p) x.2 { s with prf := { s.prf with owed := s.prf.owed.erase x } }

/-- R307: as slots of a port's ring come free, the FINDING records that wait for them are written. -/
def payFindings (p : Nat) (s : State) : State := eachDo s.prf.owed (fun _ s => payFinding p s) s

/-- R306, R307: write a FINDING record; FINDING_SEQ counts. It is never lost: one that finds no free slot waits for it (DESIGN CHOICE,
log entry 198). -/
def putFinding (p : Nat) (rec : State → List Byte) (s : State) : State :=
  payFindings p { s with prf := { s.prf with
    findingSeq := wrapTo 16 (s.prf.findingSeq + 1), owed := s.prf.owed ++ [(p, rec s)] } }

/-- HEALTH of a nozzle. -/
def healthOf (n : Nat) (s : State) : Nat := entHealth (folded n s)

/-- R308: a page that covers the nozzle has folded in this cycle. -/
def pageFolded (n : Nat) (s : State) : Bool :=
  s.comp.pageFolds.any fun x => x.1 == s.loc + 1 && n / 1024 == x.2.1 && decide (x.2.2.1 ≤ n % 1024) && decide (n % 1024 ≤ x.2.2.2)

/-- Write HEALTH into the table (R154, R298); in the cycle in which a page of the nozzle folds, the page overwrites it (R308). -/
def setHealth (n v : Nat) (s : State) : State :=
  let e := folded n s
  if pageFolded n s then s else setFolded n (e - 8 * entHealth e + 8 * min 255 v) s

/-- The word at 0x14 of a nozzle finding's record. -/
def Found.where_ (f : Found) : Nat :=
  if f.cls = 4 then f.first + 65536 * f.last + 2 ^ 31 * f.plane
  else if f.cls = 5 then f.first + 256 * f.last + 4096 * f.plane
  else f.column + 2 ^ 24 * f.plane

/-- The word at 0x14 of a trial's record. -/
def Trial.where_ (t : Trial) : Nat := t.column + 2 ^ 24 * t.plane

/-- R305: the finding of a failed trial is kept with its next candidate, while that one's request is refused or finds no slot; the
finding of a first trial keeps its HEALTH and comes again with it. -/
def keepFinding (keep : Bool) (t : Trial) (s : State) : State :=
  if keep then { s with prf := { s.prf with trials := s.prf.trials ++ [{ t with waits := true }] } } else s

/-- R299, step 1: a trial of the lead; the finding waits while its request is refused, or no slot is free. It has its record in
either case (R306), which waits for a slot itself (log entry 198). -/
def startTrial (w : WindowSum) (fsn : Nat) (t : Trial) (amb : Nat) (keep : Bool) (s : State) : State :=
  if egressFree (97 + t.port) s = 0 then
    keepFinding keep t (putFinding t.port (findingRecord t.port amb fsn w.base t.cls 0 t.where_ (idOf t.lead) t.strength
      (healthOf t.lead s) 0) s)
  else
    let (a, s) := prfRequest t.port t.lead (targetValue t.lead t.cls (w.par OD.PRF_SUB_PATTERN) s) (prfBand w t.lead) s
    let flags := amb + 4 * b2n a.late + 16 * b2n (decide (a.cause ≠ 0))
    let s := putFinding t.port (findingRecord t.port flags fsn w.base t.cls (if a.cause = 0 then 1 else 0) t.where_
      (idOf t.lead) t.strength (healthOf t.lead s) a.band) s
    if a.cause ≠ 0 then keepFinding keep t s
    else
      let t := { t with undo := Nat.land a.old prfMask, band := a.band, waits := false }
      prfEvent EV.PRF_TRIAL t.cls t.port (({ s with prf := { s.prf with trials := s.prf.trials ++ [t] } }).bump OD.TRIALS)

/-- R299, step 2: a window is at or after a trial's band, in the lead head's fire lines; R305: a candidate that waits for its request
takes the next window. -/
def trialWindow (w : WindowSum) (t : Trial) : Bool := t.waits || decide (64 * t.band ≤ w.base + w.offset (t.lead / 16384))

/-- R299, step 3: a nozzle finding repeats the finding of a trial. -/
def Trial.repeatedBy (t : Trial) (f : Found) : Bool :=
  decide (f.cls ≤ 3) && f.plane == t.plane && decide (f.column ≤ t.column + 1) && decide (t.column ≤ f.column + 1) &&
    decide (t.strength ≤ 2 * f.strength)

/-- R299, steps 3 and 5: the next of these candidates that is not locked is tried; without one the finding is unresolved. -/
def nextCandidate (w : WindowSum) (fsn : Nat) (t : Trial) (ns : List Nat) (s : State) : State :=
  match ns.filter fun n => !isLocked n s with
  | [] => prfEvent EV.PRF_UNRESOLVED t.cls t.port ((putFinding t.port
      (findingRecord t.port 0 fsn w.base t.cls 4 t.where_ (idOf t.lead) t.strength (healthOf t.lead s) 0) s).bump OD.UNRESOLVED)
  | n :: rest => startTrial w fsn { t with lead := n, rest := rest } 0 true (setHealth n (w.par OD.ACT_THRESHOLD) s)

/-- R299: what this window says of a trial: step 3 or 4. The undo of a lead in the lock list waits (R304; log entry 183). A finding
kept with a candidate that has no trial yet is acted on once a window repeats it (R305). -/
def judgeTrial (w : WindowSum) (fsn : Nat) (found : List Found) (t : Trial) (s : State) : State :=
  let drop := fun s : State => { s with prf := { s.prf with trials := s.prf.trials.filter fun x => x != t } }
  let record := fun action band flags => putFinding t.port
    (findingRecord t.port flags fsn w.base t.cls action t.where_ (idOf t.lead) t.strength (healthOf t.lead s) band)
  if ¬ trialWindow w t then s
  else
    let again := found.any t.repeatedBy
    if t.waits then (if again then nextCandidate w fsn t (t.lead :: t.rest) (drop s) else s)
    else if ¬ again then prfEvent EV.PRF_RESOLVED t.cls t.port (record 2 0 0 (drop s))
    else if egressFree (97 + t.port) s = 0 then record 0 0 0 s
    else if isLocked t.lead s then record 0 0 2 s
    else
      let (a, s) := prfRequest t.port t.lead t.undo (prfBand w t.lead) s
      if a.cause ≠ 0 then record 0 0 16 s
      else
        nextCandidate w fsn t t.rest (setHealth t.lead 0 (record 3 a.band (4 * b2n a.late) (drop s)))

/-- R298, R303: a nozzle finding: its evidence, and what follows at the threshold. -/
def actOn (w : WindowSum) (p fsn : Nat) (f : Found) (s : State) : State :=
  let s := prfEvent EV.PRF_FINDING f.cls p (s.bump OD.FINDINGS)
  let report := fun flags id health => putFinding p
    (findingRecord p flags fsn w.base f.cls (if flags % 2 = 1 then 5 else 0) f.where_ id f.strength health 0)
  if ¬ f.evidence then report (8 * b2n f.ambiguous) 0 0 s
  else
    let all := candidates f s
    let open_ := all.filter fun n => !isLocked n s
    let locked := 2 * b2n (match all with
      | n :: _ => isLocked n s
      | [] => false)
    match open_ with
    | [] => report locked 0 0 s
    | n :: rest =>
      let h := min 255 (healthOf n s + healthStep w f.cls)
      let s := setHealth n h s
      if h < w.par OD.ACT_THRESHOLD then report locked (idOf n) h s
      else
        match w.par OD.CONFIRM_POLICY with
        | 0 =>
          if 64 ≤ s.prf.trials.length then report locked (idOf n) h s
          else startTrial w fsn ⟨p, f.cls, f.plane, f.column, n, 0, 0, f.strength, rest, false⟩ locked false s
        | 1 =>
          let q : Proposed := ⟨p, s.prf.findingSeq, n, f.cls, f.plane, f.column, f.strength, fsn, w.base⟩
          let s := report (locked + 1) (idOf n) h s
          { s with prf := { s.prf with proposed := (s.prf.proposed ++ [q]).drop (s.prf.proposed.length - 63) } }
        | _ => report locked (idOf n) h s

/-- R298: HEALTH decays where a column shows no finding; the entries that hold evidence are the ones it can change. -/
def decayHealth (w : WindowSum) (p : Nat) (f : FrameRec) (cols : List Site) (found : List Found) (s : State) : State :=
  let covered := fun q x => found.any fun g => g.cls != 5 && g.plane == q && g.columns.contains x
  eachDo (s.comp.table.filter fun kv => entHealth kv.2 != 0 && decide (entState kv.2 < 2)) (fun kv s =>
    let n := kv.1
    let h := n / 16384
    let c := columnOf h (n % 16384 / 2048) (n % 2048) s
    let own := (if coarse h s then [c, c + 1] else [c]).filter fun c => (servers (planeOf h) (globalColumn h c) s).contains n
    eachDo (own.map fun c => w.columnAt p (globalColumn h c)).eraseDups (fun x s =>
      if x < 0 ∨ (f.width : Int) ≤ x ∨ covered (planeOf h) x.toNat then s
      else
        match cols[x.toNat]? with
        | some t =>
          if (w.par OD.MIN_INK : Rat) / 256 ≤ t.kappa (planeOf h) then
            setHealth n (healthOf n s - w.par OD.STEP_DECAY) s
          else s
        | none => s) s) s

/-- R298, R396: journal the entries whose HEALTH a window has changed, a record for each run of a head's entries. -/
def journalHealth (before : State) (s : State) : State :=
  eachDo (List.range 24) (fun h s =>
    let hs := ((before.comp.table ++ s.comp.table).map (·.1)).eraseDups.filter fun n =>
      n / 16384 == h && healthOf n before != healthOf n s
    eachDo (nozzleRuns (hs.map fun n => (n, folded n s))) (fun es s => openRecord (.nozzles es) .nothing s) s) s

/-! ### Inspection -/

/-- The mean of a list, 0 for none. -/
def meanOr0 (l : List Rat) : Rat := (meanOf l).getD 0

/-- R306, R307: the WINDOW record. -/
def windowRecord (p flags : Nat) (f : FrameRec) (base nozzles reports : Nat) (k r : List Rat) (s : State) : State :=
  let i16 := fun q : Rat => unsignedOf 16 (openRound q)
  let rec_ := leBytes 1 0x71 ++ leBytes 1 p ++ leBytes 2 flags ++ leBytes 4 f.fsn ++ leBytes 8 base ++ leBytes 2 f.setId ++
    leBytes 1 nozzles ++ leBytes 1 reports ++ leBytes 4 f.valid ++
    leBytes 4 (i16 (65535 * k.getD 0 0) + 65536 * i16 (65535 * k.getD 1 0)) ++
    leBytes 4 (i16 (16 * r.getD 0 0) + 65536 * i16 (16 * r.getD 1 0)) ++ leBytes 8 s.web.hwl ++ leBytes 8 s.loc ++ leBytes 16 0
  let s := modPrf p (fun l => { l with lostGap := l.lostGap - 1 }) (payFindings p s)
  tryRecord (97 + p) rec_ (fun s =>
    let s := s.bump OD.PRF_RECORDS_LOST
    if (prfOf p s).lostGap = 0 then
      prfEvent EV.PRF_RECORD_LOST 0 p (modPrf p (fun l => { l with lostGap := 64 }) s)
    else s) s

/-- The frame leaves the lane, and its buffer returns to CAM free (R289). -/
def returnFrame (p : Nat) (f : FrameRec) (s : State) : State :=
  let s := modCam p (fun c => { c with toPrf := c.toPrf.drop 1 }) s
  if bit f.flags flagDropped then s else moveLedger 5 2 0 1 s

/-- R352: a mark, no bit of the frame record: a read of the frame or of its summary returned poisoned data. -/
def flagPoison : Nat := 15

/-- R291, R352: the frame flags that skip a frame. -/
def skipFlags (f : FrameRec) : Bool :=
  [flagDropped, flagUntriggered, flagOverrun, flagNoEnd, flagTorn, flagHeld, flagPoison].any fun b => bit f.flags b

/-- R352: the frame whose comparison reads address `a` of the proof area is marked: the one in that buffer, or the oldest
of the port whose summary it is. -/
def poisonFrame (a : Nat) (s : State) : State :=
  let off := a - s.o OD.PRF_AREA_BASE
  let frames := s.o OD.FRAME_BUFFERS * s.o OD.FRAME_BUFFER_BYTES
  let mark := fun f : FrameRec => { f with flags := setBit f.flags flagPoison true }
  if a < s.o OD.PRF_AREA_BASE then s
  else if off < frames then
    let b := off / s.o OD.FRAME_BUFFER_BYTES
    eachDo (List.range 4) (fun p s => modCam p (fun c => { c with
      toPrf := lmod (fun f => f.buffer == b && !bit f.flags flagDropped) mark c.toPrf }) s) s
  else
    let p := (off - frames) / 32768 / max 1 (s.o OD.SUMMARY_SLOTS)
    modCam p (fun c => match c.toPrf with
      | [] => c
      | f :: fs => { c with toPrf := mark f :: fs }) s

/-- R291: the lane skips the frame. -/
def skipFrame (p flags : Nat) (f : FrameRec) (base : Nat) (s : State) : State :=
  let s := if bit f.flags flagUntriggered then s else noteMatched p base s
  let s := windowRecord p (2 + flags) f base 0 0 [] [] (s.bump OD.FRAMES_SKIPPED)
  prfEvent EV.PRF_FRAME_SKIPPED (2 + flags) p (returnFrame p f s)

/-- R295 to R299: inspect a closed window with its frame. -/
def inspect (p : Nat) (f : FrameRec) (w : WindowSum) (s : State) : State :=
  let before := s
  let cols := columnSites w p f s
  let found := (List.range 2).flatMap fun q => classify w p q f cols s
  let found := if w.torn then found.filter fun x => decide (4 ≤ x.cls) else found
  let trials := s.prf.trials.filter fun t => t.port == p && !w.torn
  let s := eachDo trials (fun t s => judgeTrial w f.fsn found t s) s
  let used := fun (x : Found) => trials.any fun t => trialWindow w t && t.repeatedBy x
  let s := eachDo (found.filter fun x => decide (x.cls ≤ 3) && !used x) (fun x s => actOn w p f.fsn x s) s
  let s := eachDo (found.filter fun x => decide (4 ≤ x.cls)) (fun x s =>
    prfEvent (if x.cls = 4 then EV.PRF_STREAK else EV.PRF_BLOT) x.plane p
      (putFinding p (findingRecord p 0 f.fsn w.base x.cls 0 x.where_ 0 0 0 0) (s.bump OD.FINDINGS))) s
  let s := journalHealth before (decayHealth w p f cols found s)
  let nozzles := (found.filter fun x => decide (x.cls ≤ 3)).length
  let k := (List.range 2).map fun q => meanOr0 (cols.map fun t => t.kappa q)
  let r := (List.range 2).map fun q => meanOr0 (cols.filterMap fun t => t.residual w p q)
  let flags := 1 + 16 * b2n w.torn + 32 * b2n w.incomplete
  let s := windowRecord p flags f w.base (min 255 nozzles) (min 255 (found.length - nozzles)) k r s
  let s := modPrf p (fun l => { l with
    summaries := l.summaries.filter fun x => x.base != w.base, inspected := l.inspected ++ [w.base] }) s
  prfEvent EV.PRF_WINDOW_DONE nozzles p (returnFrame p f (s.bump OD.WINDOWS_INSPECTED))

/-- R310: a parameter that applies to a frame: that of the window it is matched to, where one is kept or open, else the object's. -/
def frameParam (p : Nat) (f : FrameRec) (s : State) (key : Nat) : Nat :=
  match ((prfOf p s).summaries ++ (prfOf p s).open_).find? fun w => w.takesFrame p f with
  | some w => w.par key
  | none => s.o key

/-- WINDOW_PROCESSED (R289, R291, R294): the lane is done with its oldest frame; it waits while the window is open. A window into
which no dot was rendered has no summary, and its frame is skipped like one whose summary was released (DESIGN CHOICE, log entry
215). -/
def windowProcessed (p : Nat) (s : State) : State :=
  match (camOf p s).toPrf with
  | [] => s
  | f :: _ =>
    let l := prfOf p s
    let par := frameParam p f s
    let dist := par (OD.CAM_DISTANCE p)
    if dist = 0 then returnFrame p f s
    else
      let base := matchedBase (par OD.WINDOW_BASE) (par OD.WINDOW_LINES) dist f
      if skipFlags f then skipFrame p 64 f base s
      else if par OD.ALIGN_TOLERANCE < misalignment base dist f then skipFrame p 4 f base s
      else if l.inspected.contains base then skipFrame p 8 f base s
      else
        match l.summaries.find? fun w => w.base == base with
        | some w => inspect p f w s
        | none =>
          if l.open_.any (fun w => w.base == base) ∨ ¬ allAcknowledged (base + par OD.WINDOW_LINES - 1) s then s
          else skipFrame p 0 f base s

/-! ### Confirmation (R303) -/

/-- A write of CONFIRM (R303): the abort code and the state after it. No request is made for a nozzle in the lock list (R304). While
ring 97 + p has no free slot for the record it is refused like one that names no finding (DESIGN CHOICE, log entry 214). -/
def confirmFinding (value : Nat) (s : State) : Nat × State :=
  let p := bits value 17 16
  match s.prf.proposed.find? fun q => q.port == p && q.seq == bits value 15 0 with
  | none => (AB.store, s)
  | some q =>
    if egressFree (97 + p) s = 0 then (AB.store, s)
    else
      let locked := isLocked q.nozzle s
      let (a, s) := if locked then (⟨0, 0, 0, false⟩, s)
        else prfRequest p q.nozzle (targetValue q.nozzle q.cls (s.o OD.PRF_SUB_PATTERN) s) 0 s
      (AB.ok, putFinding p (findingRecord p (2 * b2n locked + 16 * b2n (decide (a.cause ≠ 0))) q.fsn q.base q.cls 6
        (q.column + 2 ^ 24 * q.plane) (idOf q.nozzle) q.strength (healthOf q.nozzle s) a.band) s)

/-! ### Reset (R309) -/

/-- R309: windows, summaries and trials end, and the buffers in PRF processing return to CAM free. -/
def prfClear (s : State) : State :=
  let s := freeHolder 5 2 s
  let s := eachDo (List.range 4) (fun p s => modCam p (fun c => { c with toPrf := [] }) s) s
  { s with prf := { Prf.reset with owed := s.prf.owed } }

/-! ### Commands -/

/-- R308: what a command does that puts changes into effect: a line composed, and a fold. -/
def changeOf (c : Instr) (s : State) : State :=
  match c with
  | .lineCompose head => whenDo (lineOn s) (composeLine head) s
  | .compChangeFolded => foldFirst [] s.comp.items s
  | _ => s

/-- R308: what the changes leave that are still to be applied in this cycle. -/
def afterChanges (s : State) : State := eachDo s.pending changeOf s

/-- R304, R308: a host change of the cycle in which a window is inspected ends the trials of its nozzles first. -/
def changesFirst (s : State) : State :=
  if s.prf.trials.isEmpty then s
  else
    let left := (afterChanges s).prf.trials
    { s with prf := { s.prf with trials := s.prf.trials.filter fun t => left.contains t } }

/-- WINDOW_PROCESSED (R289, R308); one that has acted before a Frame Start of its cycle does nothing more (R284). -/
def execWindowProcessed (port : Fin 4) (s : State) : Host.Outcome State Fault Refusal :=
  .next (whenDo (lineOn s && (prfOf port s).ahead != s.loc + 1) (fun s => windowProcessed port (changesFirst s)) s)

/-- R284: where no buffer is free, the buffers that return in this cycle do so before a Frame Start, also where their commands are
still to come. -/
def returnsFirst (s : State) : State :=
  eachDo (List.range 4) (fun p s =>
    if heldOf 5 0 s = 0 ∧ s.pending.any (fun c => match c with
        | .windowProcessed port => port.val == p
        | _ => false) ∧ (prfOf p s).ahead ≠ s.loc + 1 then
      modPrf p (fun l => { l with ahead := s.loc + 1 }) (windowProcessed p (changesFirst s))
    else s) s

/-- FRAME_START (R267, R271): a frame still open ends without a Frame End, unless one comes in this cycle (R284). -/
def execFrameStart (channel : CamChannel) (s : State) : Host.Outcome State Fault Refusal :=
  .next (whenDo (lineOn s) (fun s =>
    if takesPacket channel.port channel.vc s then
      openFrame channel.port (returnsFirst (closeFrame channel.port (!frameEndToCome channel s) s))
    else s) s)

end Sys2Proof.Machine
end

