-- ==== Sys2Proof/Machine/Ductor.lean ====
section
/-! DEFINITION. Machine/Ductor.lean: the 128 DMA rings: doorbells and control (R89 to R92), the checks of a descriptor
(R93 to R97), pacing (R98 to R100), pre-emption (R103), completion (R104 to R106), errors (R109), egress (R110) and the
general targets (R111). -/

namespace Sys2Proof.Machine

/-- Change the transfer of a ring. -/
def modXfer (r : Nat) (g : Xfer → Xfer) (s : State) : State := modRing r (fun q => { q with xfer := q.xfer.map g }) s

/-- R87: bytes of a record on an egress ring. -/
def recordBytes (r : Nat) : Nat := if r = 96 ∨ r = 105 then 40 else if 101 ≤ r then 128 else 64

/-- R110: record `i` awaiting on a ring, in slot order. -/
def awaitingRecord (r i : Nat) (s : State) : List Byte :=
  if r = 96 then
    match s.dev.evLog[i]? with
    | some e => e.bytes
    | none => []
  else Memory.reads s.ddr.mem (slotAddress r ((vgetN s.egress (r - 96)).awaiting.getD i (0, 0)).1 s) (recordBytes r)

/-- R110: LOC at which record `i` of a ring came. -/
def recordLoc (r i : Nat) (s : State) : Nat :=
  if r = 96 then ((s.dev.evLog[i]?).map (·.loc)).getD 0 else ((vgetN s.egress (r - 96)).awaiting.getD i (0, 0)).2

/-- R110: the first `n` records of a ring have reached the host. -/
def retireRecords (r n : Nat) (s : State) : State :=
  if r = 96 then { s with dev := { s.dev with evLog := s.dev.evLog.drop n } }
  else moveLedger 6 2 0 n
    { s with egress := vmodN s.egress (r - 96) fun e => { e with awaiting := e.awaiting.drop n } }

/-- An access to host memory is made. -/
def accessHost (x : HostAccess) (s : State) : State := { s with pcie := { s.pcie with hostAccess := s.pcie.hostAccess ++ [x] } }

/-- R91, R94, R108: a posted write of ring `r` to host memory, with No Snoop where the ring's NS or the entry's ENTRY_NS is
1. -/
def postWrite (r : Nat) (ns : Bool) (a : Nat) (bs : List Byte) (s : State) : State :=
  accessHost (.write a bs ((ringOf r s).ns || ns)) s

/-- R91, R94, R107: a read of ring `r` from host memory, with No Snoop by the same rule. -/
def readHost (r : Nat) (ns : Bool) (a n : Nat) (s : State) : State := accessHost (.read a n ((ringOf r s).ns || ns)) s

/-! ### Errors (R109) -/

/-- R109, R175: what a failed or discarded descriptor held goes back: its staging buffer, the blocks wholly beyond its
OFFSET, and data for the nozzle table that no page has taken. -/
def discardXfer (r : Nat) (s : State) : State :=
  match (ringOf r s).xfer with
  | none => s
  | some x =>
    let s := setStaging r .none s
    let s := if x.desc.op = 1 ∧ x.started then
        withDemotion (r / 4) (freeBlocksOf
          (fun st => st.forme == x.desc.forme && st.head == r / 4 && st.context == !x.orphan)
          (fun _ b => b.holder == .filling && decide (x.desc.offset ≤ b.order * 65536))) s
      else s
    let s := modDisp (fun d => { d with landing := d.landing.filter fun l => l.ring != some r }) s
    let s := if s.comp.load.any fun l => l.ring == some r then { s with comp := { s.comp with load := none } } else s
    modRing r (fun q => { q with xfer := none, poolWait := false, stopping := false }) s

/-- R97, R109: the ring enters HALTED. -/
def haltRing (r cause entry : Nat) (s : State) : State :=
  let s := discardXfer r s
  let s := modRing r (fun q => { q with state := .halted, cause := cause, errEntry := entry, errDesc := q.head }) s
  raise EV.DUCT_RING_HALTED (256 * cause + r) s

/-! ### Doorbells and control (R89 to R92) -/

/-- R89: the new tail is accepted. -/
def tailAccepted (q : Ring) (t : Nat) : Bool :=
  q.state != .disabled && decide ((q.tail + 65536 - q.head) % 65536 ≤ (t + 65536 - q.head) % 65536) &&
    decide ((t + 65536 - q.head) % 65536 ≤ 2 ^ q.sizeLog2)

/-- R89, R110: a doorbell. -/
def doorbell (r t : Nat) (s : State) : State :=
  if tailAccepted (ringOf r s) t then
    let s := modRing r (fun q => { q with tail := t }) s
    if 96 ≤ r ∧ r ≤ 105 ∧ (ringOf r s).pendingCount ≠ 0 then
      { s with egress := vmodN s.egress (r - 96) fun e => { e with stalled := false } }
    else s
  else raise EV.DUCT_DOORBELL_INVALID r s

/-- DOORBELL_WRITE (R89, R419); ignored in bare-forme mode (R391). -/
def execDoorbellWrite (ring : Fin 128) (tail : BitVec 16) (s : State) : Host.Outcome State Fault Refusal :=
  .next (if s.boot.phase = .bare then s else barAccess (.doorbellWrite ring tail) (doorbell ring tail.toNat) s)

/-- ENABLE (R91, R92); in bare-forme mode DUCT has no power (R391). -/
def enableRing (r : Nat) (s : State) : State :=
  let q := ringOf r s
  if q.state ≠ .disabled ∨ (106 ≤ r ∧ r ≤ 111) ∨ s.boot.phase = .bare then s
  else if q.sizeLog2 < 3 ∨ 12 < q.sizeLog2 then modRing r (fun q => { q with cause := 0xC }) s
  else modRing r (fun q => { q with
    state := .running, head := 0, tail := 0, low := s.o OD.PACE_LOW_DEFAULT, high := s.o OD.PACE_HIGH_DEFAULT }) s

/-- R110: an egress ring that records await and that is left with no pending descriptor is stalled. -/
def stallLeft (r : Nat) (s : State) : State :=
  if 96 ≤ r ∧ r ≤ 105 then stallCheck r (decide (0 < awaitingCount r s)) s else s

/-- RING_ENABLE (R91). -/
def execRingEnable (ring : Fin 128) (s : State) : Host.Outcome State Fault Refusal :=
  .next (barAccess (.ringEnable ring) (fun s => stallLeft ring (enableRing ring s)) s)

/-- R88: release the bindings of a ring's unended streams. -/
def unbind (p : Nat → Bool) (s : State) : State :=
  { s with gal := { s.gal with streams := s.gal.streams.map fun st =>
      match st.bound with
      | some r => if p r then { st with bound := none } else st
      | none => st } }

/-- DISABLE (R91). -/
def disableRing (r : Nat) (s : State) : State :=
  let q := ringOf r s
  if q.state = .stopped ∨ q.state = .halted ∨ (q.state = .running ∧ q.pendingCount = 0) then
    unbind (· == r) (modRing r (fun q => { q with state := .disabled, paced := false, promoted := false }) (discardXfer r s))
  else s

/-- RING_DISABLE (R91). -/
def execRingDisable (ring : Fin 128) (s : State) : Host.Outcome State Fault Refusal :=
  .next (barAccess (.ringDisable ring) (disableRing ring) s)

/-- STOP (R91): finish the descriptor in progress, start none. A ring that is not RUNNING ignores it (DEDUCED, log entry 207). -/
def stopRing (r : Nat) (s : State) : State :=
  let q := ringOf r s
  if q.state ≠ .running then s
  else
    match q.xfer with
    | some x =>
      if x.started then modRing r (fun q => { q with stopping := true }) s
      else modRing r (fun q => { q with state := .stopped }) (discardXfer r s)
    | none => modRing r (fun q => { q with state := .stopped }) s

/-- RING_STOP (R91). -/
def execRingStop (ring : Fin 128) (s : State) : Host.Outcome State Fault Refusal :=
  .next (barAccess (.ringStop ring) (stopRing ring) s)

/-- RESUME (R91, R109): RUNNING again from descriptor HEAD. -/
def resumeRing (r : Nat) (s : State) : State :=
  let q := ringOf r s
  if q.state = .stopped ∨ q.state = .halted then modRing r (fun q => { q with state := .running }) s else s

/-- RING_RESUME (R91). -/
def execRingResume (ring : Fin 128) (s : State) : Host.Outcome State Fault Refusal :=
  .next (barAccess (.ringResume ring) (resumeRing ring) s)

/-- SKIP (R91): HEAD passes a pending descriptor with no completion event. ERR_DESC stays the index of the faulted
descriptor, although HEAD has then moved on (DESIGN CHOICE, log entry 162). -/
def skipDesc (r : Nat) (s : State) : State :=
  let q := ringOf r s
  if (q.state = .stopped ∨ q.state = .halted) ∧ q.pendingCount ≠ 0 then
    stallLeft r (modRing r (fun q => { q with head := wrapTo 16 (q.head + 1) }) s)
  else s

/-- RING_SKIP (R91). -/
def execRingSkip (ring : Fin 128) (s : State) : Host.Outcome State Fault Refusal :=
  .next (barAccess (.ringSkip ring) (skipDesc ring) s)

/-! ### General targets (R111) -/

/-- R111: the object a target is. -/
def targetKey (t : Nat) : Option Nat :=
  match t with
  | 1 => some OD.NOZZLE_TABLE
  | 4 => some OD.SEGMENT_TABLE
  | 5 => some OD.PUSH_BUFFER
  | 6 => some OD.FLAT_FIELD
  | _ => none

/-- R111: bytes of a target. -/
def targetSize (t : Nat) (s : State) : Nat :=
  match t with
  | 1 => 1572864
  | 2 => (journalImageBytes s).length
  | 3 => slotSize
  | 4 => 16384
  | 5 => 131072
  | 6 => 65536
  | 7 => s.o OD.INSTALLED_SIZE
  | _ => 0

/-- R111: the target takes the direction. -/
def targetDirection (t op : Nat) : Bool :=
  match t with
  | 1 | 6 | 7 => true
  | 2 => op == 3
  | 3 | 4 | 5 => op == 2
  | _ => false

/-- R372: a descriptor touches a segment-table entry that an axis in state SEGMENTS holds. -/
def segmentsLocked (off total : Nat) (s : State) : Bool :=
  (List.range 1024).any fun e => decide (off < 16 * e + 16 ∧ 16 * e < off + total) && segmentLocked e s

/-- R111: the target is permitted in the present state. -/
def targetPermitted (t : Nat) (s : State) : Bool :=
  match t with
  | 2 | 3 => s.net.al != .boot
  | 7 => (formesWith (fun c => c.state == .armed || c.state == .printing) s).isEmpty
  | _ => true

/-- R49, R111: no other path is writing the object, and a write finds no other ring's transfer of it. -/
def targetFree (r t op : Nat) (s : State) : Bool :=
  (match targetKey t with
   | some k => s.srv.segs.all fun g => !(g.write && g.idx * 256 + g.sub == k)
   | none => true) &&
  (t != 1 || s.comp.load.isNone) &&
  (t != 5 || s.disp.landing.all fun l => l.path.isNone) &&
  (List.range 16).all fun i => 112 + i == r ||
    (match (ringOf (112 + i) s).xfer with
     | some x => !(x.started && x.desc.target == t && (x.desc.op == 2 || op == 2))
     | none => true)

/-- Bytes of a target, for TO_HOST. -/
def targetBytes (t off n : Nat) (s : State) : List Byte :=
  match t with
  | 1 => tableBytes off n s
  | 2 => ((journalImageBytes s).drop off).take n
  | 6 => s.domBytes OD.FLAT_FIELD off n
  | 7 => Memory.reads s.ddr.mem off n
  | _ => []

/-- R111: TO_DEVICE data takes effect at completion, under the target's own rules. The nozzle table and a firmware slot
have taken theirs before. -/
def targetWrite (t off : Nat) (bs : List Byte) (s : State) : State :=
  match t with
  | 4 => s.setDom OD.SEGMENT_TABLE off bs
  | 5 => pushBufferWrite off bs s
  | 6 => s.setDom OD.FLAT_FIELD off bs
  | 7 => dramWrite off bs s
  | _ => s

/-! ### The checks of a descriptor (R93, R97) -/

/-- R93: a descriptor of 32 bytes, and whether its reserved bits are 0. -/
def parseDesc (b : List Byte) : Desc × Bool :=
  let w := fun o n => leNum ((b.drop o).take n)
  let c := w 0xC 4
  let d := w 0x1C 4
  ({ list := w 0 8, total := w 8 4, quiet := bit c 29, last := bit c 28, op := bits c 27 24, forme := bits c 23 16,
     count := bits c 15 0, offset := w 0x10 8, tag := w 0x18 4, target := bits d 23 16, seq := bits d 15 0 },
   bits c 31 30 == 0 && bits d 31 24 == 0)

/-- R87: the OP fits the ring's class. -/
def opFits (r op : Nat) : Bool :=
  if r < 96 then op == 1 else if r < 106 then op == 4 else 112 ≤ r && (op == 2 || op == 3)

/-- R97: the cause of the first check that fails; 0 = the descriptor passes. -/
def descCause (r : Nat) (d : Desc) (reservedOk : Bool) (s : State) : Nat :=
  let h := r / 4
  let st := streamOf d.forme h s
  let fs := (formeOf d.forme s).state
  if d.seq ≠ (ringOf r s).head then 2
  else if ¬ reservedOk ∨ ¬ opFits r d.op ∨ d.list % 16 ≠ 0 ∨ (r < 112 ∧ d.target ≠ 0) ∨ (d.op = 4 ∧ d.offset ≠ 0) then 3
  else if d.op = 1 ∧ (¬ (fs = .loading ∨ fs = .ready ∨ fs = .armed ∨ fs = .printing) ∨
      st.all (·.ended)) then 4
  else if d.op = 1 ∧ st.any (fun st => st.bound.isSome && st.bound != some r) then 5
  else if d.op = 1 ∧ st.any (fun st => d.offset != st.delivered) then 6
  else if (d.op = 1 ∧ 1048576 < d.total) ∨ (d.count = 0 ∧ d.total ≠ 0) ∨
      (112 ≤ r ∧ 1 ≤ d.target ∧ d.target ≤ 7 ∧ (targetSize d.target s < d.offset + d.total ∨
        (d.op = 2 ∧ d.target = 1 ∧ (d.offset % 4 ≠ 0 ∨ d.total % 4 ≠ 0)))) then 7
  else if 112 ≤ r ∧ ¬ (targetDirection d.target d.op ∧ targetPermitted d.target s ∧ targetFree r d.target d.op s ∧
      ¬ (d.target = 4 ∧ segmentsLocked d.offset d.total s)) then 8
  else 0

/-! ### Completion (R104, R105) -/

/-- R105: raise DUCT_DESC_DONE, with its own MSI-X rule. -/
def raiseDescDone (r : Nat) (quiet : Bool) (s : State) : State :=
  let q := ringOf r s
  let s := routeEvent EV.DUCT_DESC_DONE (r + 128 * (q.head % 512)) 0 (webpOf s.web.p) 0 quiet
    (if q.vecEn then some q.vector else none) s
  stallCheck 96 (!s.dev.evLog.isEmpty) s

/-- R130: the blocks that the bytes delivered to stream `st` have filled become GAL filled, and pass on. -/
def galleyArrives (f h : Nat) (last : Bool) (st : Stream) (s : State) : State :=
  let s := moveBlocks f h (fun b => b.holder == .filling && (last || decide ((b.order + 1) * 65536 ≤ st.delivered))) .filled
    (s.setO (OD.DELIVERED_BYTES f h) st.delivered)
  match streamOf f h s with
  | some st => withDemotion h (passBlocks st) s
  | none => s

/-- R104, R130: a GALLEY descriptor's bytes are credited and its full blocks become GAL filled, or what the engine that has
read from them makes them. -/
def creditGalley (f h total : Nat) (last : Bool) (s : State) : State :=
  let s := modStream f h (fun st => { st with
    delivered := st.delivered + total, ended := st.ended || last, bound := if last then none else st.bound }) s
  match streamOf f h s with
  | none => s
  | some st =>
    let s := checkHeader f h (galleyArrives f h last st s)
    let s := if last then checkEnd f h (underrunCheck h s) else s
    linkChecks (formeChecks f (currentCheck h (underrunCheck h (releaseBlocks h s))))

/-- R141, R146: the descriptor of a retired forme completes: its blocks follow R130, its data is credited to no
context. -/
def creditOrphan (f h : Nat) (s : State) : State :=
  withDemotion h (fun s =>
    let mine := fun st : Stream => st.forme == f && st.head == h && !st.context
    let keep := fun (st : Stream) (b : Block) => b.holder == .filling && blockNeeded st st.endFire s b
    let kept := (s.gal.streams.filter mine).flatMap fun st => st.blocks.filter (keep st)
    let t := eachDo kept (fun b s => moveLedger 1 b.holder.code 4 1 s) s
    freeBlocksOf mine (fun _ b => b.holder == .filling)
      { t with gal := { t.gal with streams := lmod mine (fun st => { st with
          blocks := st.blocks.map fun b => if keep st b then { b with holder := .retained } else b }) t.gal.streams } }) s

/-- R104: HEAD advances, LAST_TAG is taken and DUCT_DESC_DONE is raised, all effects in place. -/
def completeDesc (r : Nat) (s : State) : State :=
  match (ringOf r s).xfer with
  | none => s
  | some x =>
    let d := x.desc
    let s := setStaging r .none s
    let s := modRing r (fun q => { q with
      head := wrapTo 16 (q.head + 1), lastTag := d.tag, xfer := none, stopping := false
      state := if q.stopping then .stopped else q.state }) s
    let s := raiseDescDone r d.quiet s
    pwrRecompute <| match d.op with
    | 1 => if x.orphan then creditOrphan d.forme (r / 4) s else creditGalley d.forme (r / 4) d.total d.last s
    | 2 => if d.target = 1 ∨ d.target = 3 then s else targetWrite d.target d.offset x.gathered s
    | 4 =>
      let s := retireRecords r x.records s
      let s := if r = 105 then coolRefill s else if 97 ≤ r ∧ r ≤ 100 then payFindings (r - 97) s else s
      stallCheck r (decide (0 < awaitingCount r s)) s
    | _ => s

/-! ### Start (R98 to R100) -/

/-- R98: reserve the blocks of a GALLEY descriptor, or wait for the pool. A descriptor waits on while its forme is FAULTED;
at RETIRED it is let go (log entry 163). -/
def reserveStart (r : Nat) (x : Xfer) (s : State) : State :=
  let f := x.desc.forme
  let h := r / 4
  match streamOf f h s with
  | none => s
  | some st =>
    let n := blocksNeeded st (x.desc.offset + x.desc.total)
    if mayTake r n s then
      let s := withDemotion h (reserveBlocks f h n) s
      preempt (modRing r (fun q => { q with poolWait := false }) (modXfer r (fun x => { x with started := true }) s))
    else if (ringOf r s).poolWait then s
    else raise EV.DUCT_POOL_WAIT r (modRing r (fun q => { q with poolWait := true }) s)

/-- R98, R100: the start check of a descriptor that has passed R97. A ring of the high class that starts one is ready, and
pre-empts (R103). -/
def startCheck (r : Nat) (s : State) : State :=
  match (ringOf r s).xfer with
  | none => s
  | some x =>
    if x.started then s
    else if x.desc.op ≠ 1 then preempt (modXfer r (fun x => { x with started := true }) s)
    else
      let q := ringOf r s
      let fill := fillOf r s
      if q.paced then
        if fill ≤ q.low then
          reserveStart r x (raise EV.DUCT_RING_RESUMED r (modRing r (fun q => { q with paced := false }) s))
        else s
      else if q.high ≤ fill then raise EV.DUCT_RING_PACED r (modRing r (fun q => { q with paced := true }) s)
      else reserveStart r x s

/-- A fresh transfer. -/
def Xfer.fresh (d : Desc) : Xfer :=
  { desc := d, started := false, entries := 0, sum := 0, entry := none, moved := 0, staging := .none, kept := [], inBuf := 0, highTurn := false, heldAt := 0,
    gathered := [], entryLoc := 0, records := 0, firstLoc := 0, recEnd := 0, recRoom := 0, recNs := false, orphan := false }

/-- R97: the ring may take the descriptor at HEAD. -/
def mayFetch (r : Nat) (s : State) : Bool :=
  let q := ringOf r s
  q.state == .running && q.pendingCount != 0 && q.xfer.isNone && !s.dev.ledgerHalt

/-- R88, R95, R97, R98, R102: a fetched descriptor is checked, bound, promoted with its head and started. -/
def takeDesc (r : Nat) (b : List Byte) (s : State) : State :=
  let (d, ok) := parseDesc b
  let c := descCause r d ok s
  if c ≠ 0 then haltRing r c 0 s
  else
    let s := modRing r (fun q => { q with xfer := some (Xfer.fresh d) }) s
    let s := if d.op = 1 then promoteBound (r / 4) (modStream d.forme (r / 4) (fun st => { st with bound := some r }) s) else s
    if d.count = 0 then completeDesc r s else startCheck r s

/-- R89, R107: the read of the descriptor at HEAD. -/
def readDesc (r : Nat) (s : State) : State :=
  let q := ringOf r s
  readHost r false (q.base + 32 * (q.head % 2 ^ q.sizeLog2)) 32 s

/-- DESCRIPTOR_FETCHED (R97). -/
def execDescriptorFetched (ring : Fin 128) (bytes : Option (List Byte)) (s : State) :
    Host.Outcome State Fault Refusal :=
  .next (if mayFetch ring s then
    let s := readDesc ring s
    match bytes with
    | some b => takeDesc ring b s
    | none => haltRing ring 1 0 s
    else s)

/-- POOL_WAIT_END (R98). -/
def execPoolWaitEnd (ring : Fin 128) (s : State) : Host.Outcome State Fault Refusal :=
  .next (if (ringOf ring s).poolWait ∧ ¬ s.dev.ledgerHalt then startCheck ring s else s)

/-- DUCT_RING_RESUMED (R100). -/
def execDuctRingResumed (ring : Fin 128) (s : State) : Host.Outcome State Fault Refusal :=
  .next (if (ringOf ring s).paced ∧ ¬ s.dev.ledgerHalt then startCheck ring s else s)

/-! ### Data (R94 to R96, R103) -/

/-- R103: the normal class holds at most 48 of the 64 staging buffers. -/
def stagingHeld (s : State) : Nat :=
  ((List.range 128).filter fun r => !(ringOf r s).highTransfer && (match (ringOf r s).xfer with
    | some x => x.staging != .none
    | none => false)).length

/-- R175: the nozzle table takes no further bytes of a ring: a page of its load waits or pends. -/
def tableHolds (x : Xfer) (s : State) : Bool :=
  x.desc.op == 2 && x.desc.target == 1 && (s.comp.load.isSome || pagePending s)

/-- R102: a ring waits for a turn: the entry of a host read in progress has no staging buffer. -/
def wantsTurn (r : Nat) (s : State) : Bool :=
  (ringOf r s).state == .running && (match (ringOf r s).xfer with
    | some x => (x.desc.op == 1 || x.desc.op == 2) && x.entry.isSome && x.staging == .none && !tableHolds x s
    | none => false)

/-- R102, R110: a ring waits for a turn of the write side: its entry takes bytes, or records that may go out, or is too short for
the next record. -/
def wantsOut (r : Nat) (s : State) : Bool :=
  (ringOf r s).state == .running && (match (ringOf r s).xfer with
    | some x => match x.entry with
      | some e => x.desc.op == 3 ||
          (x.desc.op == 4 && (decide (e.length - e.used < recordBytes r) || decide (x.records < recordsReady r s)))
      | none => false
    | none => false)

/-- R102: the ring had the last turn of its class on the write side of DUCT (`out`), or on its read side. -/
def Ring.hadTurn (out : Bool) (q : Ring) : Bool := if out then q.turnOut else q.turn

/-- R102: the ring of a class that had its last turn on that side. -/
def lastTurn (out high : Bool) (s : State) : Nat :=
  ((List.range 128).find? fun r => (ringOf r s).hadTurn out && (ringOf r s).isHigh == high).getD 127

/-- R102: of the rings of a class that want a turn on that side the next one, round-robin. -/
def nextAfter (out high : Bool) (wants : Nat → Bool) (s : State) : Option Nat :=
  ((List.range 128).map fun i => (lastTurn out high s + 1 + i) % 128).find? fun r => (ringOf r s).isHigh == high && wants r

/-- R102: the ring of a class whose turn of the read side is next. -/
def nextOfClass (high : Bool) (s : State) : Option Nat := nextAfter false high (fun r => wantsTurn r s) s

/-- R103: a transfer waits pre-empted. -/
def retainedWaits (s : State) : Bool := (List.range 128).any fun r => match (ringOf r s).xfer with
  | some x => x.staging == .retained
  | none => false

/-- R102, R103: the ring that gets the next staging buffer: the high class first; the normal class when no high ring is
ready and nothing waits retained, and within its 48 buffers. -/
def nextTurn (s : State) : Option Nat :=
  if heldOf 0 0 s = 0 then none
  else match nextOfClass true s with
    | some r => some r
    | none => if highReady false s ∨ retainedWaits s ∨ 48 ≤ stagingHeld s then none else nextOfClass false s

/-- R102: a ring has the turn of its class on that side. -/
def markTurn (out : Bool) (r : Nat) (s : State) : State :=
  let high := (ringOf r s).isHigh
  { s with rings := s.rings.mapIdx fun i q =>
      if q.isHigh ≠ high then q else if out then { q with turnOut := decide (i = r) } else { q with turn := decide (i = r) } }

/-- R102, R103: give the staging buffers that are free to the rings whose turn it is. -/
def serveTurns : Nat → State → State
  | 0, s => s
  | fuel + 1, s =>
    match nextTurn s with
    | none => s
    | some r =>
      let high := (ringOf r s).isHigh
      let s := setStaging r .reading (markTurn false r s)
      serveTurns fuel (preempt (modXfer r (fun x => { x with inBuf := 0, highTurn := high }) s))

/-- R96: the last entry is consumed with the sum short of TOTAL_LENGTH. -/
def entryDone (r : Nat) (s : State) : State :=
  let s := modXfer r (fun x => { x with entry := none, entries := x.entries + 1 }) s
  match (ringOf r s).xfer with
  | none => s
  | some x =>
    if x.entries = x.desc.count ∧ x.sum ≠ x.desc.total then haltRing r 7 (x.desc.count - 1) s else s

/-- R102, R103: the ring that gets the next turn of the write side: the high class first, and the normal class when no high-class
ring is ready there. -/
def nextOut (s : State) : Option Nat :=
  match nextAfter true true (fun r => wantsOut r s) s with
  | some r => some r
  | none => if highReady true s then none else nextAfter true false (fun r => wantsOut r s) s

/-- R102, R111: one turn of TO_HOST data, 4 KiB or the rest of the entry, is written to the host. -/
def toHostTurn (r : Nat) (x : Xfer) (e : SgEntry) (s : State) : State :=
  let n := min 4096 (e.length - e.used)
  let s := postWrite r e.ns (e.address + e.used) (targetBytes x.desc.target (x.desc.offset + x.moved) n s) s
  let s := modXfer r (fun x => { x with moved := x.moved + n, entry := some { e with used := e.used + n } }) s
  if e.length ≤ e.used + n then entryDone r s else s

/-- R110: write awaiting records into the entry of a RECORDS descriptor, each whole, at most so many. -/
def pumpRecords (r : Nat) : Nat → State → State
  | 0, s => s
  | fuel + 1, s =>
    match (ringOf r s).xfer with
    | none => s
    | some x =>
      if x.desc.op ≠ 4 then s
      else match x.entry with
      | none => s
      | some e =>
        let n := recordBytes r
        if e.length - e.used < n then entryDone r s
        else if recordsReady r s ≤ x.records then s
        else
          let s := postWrite r e.ns (e.address + e.used) (awaitingRecord r x.records s) s
          pumpRecords r fuel (modXfer r (fun x => { x with
            entry := some { e with used := e.used + n }, records := x.records + 1
            firstLoc := if x.records = 0 then max x.entryLoc (recordLoc r 0 s) else x.firstLoc
            recEnd := e.address + e.used + n, recRoom := e.length - e.used - n, recNs := e.ns }) s)

/-- R102, R110, R111: one turn of ring `r` on the write side: 4 KiB or the rest of the entry, of records as many as are whole. -/
def outTurn (r : Nat) (s : State) : State :=
  match (ringOf r s).xfer with
  | some x =>
    match x.entry with
    | some e => if x.desc.op = 3 then toHostTurn r x e s else pumpRecords r (4096 / recordBytes r) s
    | none => s
  | none => s

/-- Turns that the write side can have at most: the 4-KiB pieces of the entries in progress, their records and their ends. -/
def outTurns (s : State) : Nat :=
  ((List.range 128).map fun r => match (ringOf r s).xfer with
    | some x => match x.entry with
      | some e => if x.desc.op = 4 then recordsReady r s + 1 else (e.length - e.used) / 4096 + 1
      | none => 0
    | none => 0).foldl (· + ·) 0

/-- R102, R103: the turns of the write side, one after the other. -/
def serveOut : Nat → State → State
  | 0, s => s
  | fuel + 1, s =>
    match nextOut s with
    | none => s
    | some r => serveOut fuel (outTurn r (markTurn true r s))

/-- R103, R110, R111: what goes out to the host now. -/
def moveOut (s : State) : State := serveOut (outTurns s) s

/-- R94, R96: a scatter-gather entry is read. -/
def takeEntry (r : Nat) (x : Xfer) (b : List Byte) (s : State) : State :=
  let w := fun o n => leNum ((b.drop o).take n)
  let e : SgEntry := { address := w 0 8, length := w 8 4, ns := bit (w 12 4) 0, used := 0 }
  if 2 ≤ w 12 4 then haltRing r 3 x.entries s
  else if x.desc.total < x.sum + e.length then haltRing r 7 x.entries s
  else
    let s := modXfer r (fun x => { x with sum := x.sum + e.length }) s
    if e.length = 0 then entryDone r s
    else
      let s := modXfer r (fun x => { x with entry := some e, entryLoc := if x.records = 0 then s.loc else x.entryLoc }) s
      moveOut (serveTurns 128 s)

/-- SG_ENTRY_READ (R94). -/
def execSgEntryRead (ring : Fin 128) (bytes : Option (List Byte)) (s : State) : Host.Outcome State Fault Refusal :=
  .next (match (ringOf ring s).xfer with
    | some x =>
      if x.started ∧ x.entry.isNone ∧ x.entries < x.desc.count ∧ x.staging ≠ .retained then
        let s := readHost ring false (x.desc.list + 16 * x.entries) 16 s
        match bytes with
        | some b => takeEntry ring x b s
        | none => haltRing ring 9 x.entries s
      else s
    | none => s)

/-- Data that has arrived goes to the descriptor's target (R104, R111, R128); an image is written as it comes (R393). -/
def landData (r : Nat) (x : Xfer) (bs : List Byte) (s : State) : State :=
  match x.desc.op with
  | 1 =>
    match s.gal.streams.find? fun st => st.forme == x.desc.forme && st.head == r / 4 && st.context == !x.orphan with
    | none => s
    | some st =>
      (bs.mapIdx fun i b => (i, b)).foldl (fun s ib =>
        match streamAddress st (x.desc.offset + x.moved + ib.1) s with
        | some a => dramWrite a [ib.2] s
        | none => s) s
  | _ =>
    let s := if x.desc.op = 2 ∧ x.desc.target = 3 then imageStore (x.desc.offset + x.moved) bs s else s
    modXfer r (fun x => { x with gathered := x.gathered ++ bs }) s

/-- R174, R175: the nozzle table begins to take the bytes of a TO_DEVICE descriptor, once they complete a page or are the
last. -/
def feedTable (r : Nat) (s : State) : State :=
  match (ringOf r s).xfer with
  | some x =>
    let pos := x.desc.offset + x.moved - x.gathered.length
    let n := if x.moved = x.desc.total then x.gathered.length else (pos + x.gathered.length) / 4096 * 4096 - pos
    if x.started ∧ x.desc.op = 2 ∧ x.desc.target = 1 ∧ s.comp.load.isNone ∧ 0 < n then
      modXfer r (fun x => { x with gathered := x.gathered.drop n })
        (loadTable (pos / 4) (x.gathered.take n) 2 x.desc.tag (some r) none true s)
    else s
  | none => s

/-- R175 for every general ring. -/
def feedTables (s : State) : State := eachDo (List.range 16) (fun i s => feedTable (112 + i) s) s

/-- R102: what the staging buffer of the present turn still takes. -/
def bufRoom (x : Xfer) (e : SgEntry) : Nat := min (4096 - x.inBuf) (e.length - e.used)

/-- R103, R104: data that has come into a staging buffer is written, and the entry advances; the turn ends with the buffer or
the entry. -/
def moveData (r : Nat) (x : Xfer) (e : SgEntry) (bs : List Byte) (s : State) : State :=
  let s := landData r x bs s
  let full := decide (bufRoom x e ≤ bs.length)
  let s := if full then setStaging r .none (setStaging r .writing s) else s
  let s := feedTable r (modXfer r (fun x => { x with
    moved := x.moved + bs.length, kept := [], inBuf := x.inBuf + bs.length
    entry := some { e with used := e.used + bs.length } }) s)
  serveTurns 128 (if e.length ≤ e.used + bs.length then entryDone r s else s)

/-- R84: the longest read that DUCT requests: the smaller of MRRS and 512 B. -/
def readSize (s : State) : Nat := min (128 * 2 ^ bits s.pcie.devCtl 14 12) 512

/-- HOST_READ_COMPLETION (R84, R103): data of the entry in progress arrives, that of one read request. A retained buffer
keeps it, but for what completes the buffer in the cycle of the pre-emption. -/
def execHostReadCompletion (ring : Fin 128) (data : Option (List Byte)) (s : State) :
    Host.Outcome State Fault Refusal :=
  .next (
    let s := serveTurns 128 s
    match (ringOf ring s).xfer with
    | some x =>
      match x.entry with
      | some e =>
        if x.staging = .none ∨ x.staging = .writing then s else
        let s := readHost ring e.ns (e.address + e.used + x.kept.length) ((data.map fun bs => min bs.length (readSize s)).getD (readSize s)) s
        match data with
        | none => haltRing ring 9 x.entries s
        | some bs =>
          let bs := (x.kept ++ bs.take (readSize s)).take (bufRoom x e)
          if x.staging = .retained ∧ ¬ (x.heldAt = s.loc ∧ bufRoom x e ≤ bs.length) then
            modXfer ring (fun x => { x with kept := bs }) s
          else moveData ring x e bs s
      | none => s
    | none => s)

/-- R97: the scatter-gather entry that the transfer last wrote to. -/
def Xfer.lastWritten (x : Xfer) : Nat :=
  match x.entry with
  | some e => if e.used = 0 then x.entries - 1 else x.entries
  | none => x.entries - 1

/-- HOST_WRITE_FAILURE (R97, cause WRITE). -/
def execHostWriteFailure (ring : Fin 128) (s : State) : Host.Outcome State Fault Refusal :=
  .next (match (ringOf ring s).xfer with
    | some x => if x.started ∧ (x.desc.op = 3 ∨ x.desc.op = 4) then haltRing ring 0xA x.lastWritten s else s
    | none => s)

/-- R84: the completion timeout is not disabled by Device Control 2, bit 4 (log entry 42). -/
def timeoutOn (s : State) : Bool := !bit s.pcie.devCtl2 4

/-- PCIE_COMPLETION_TIMEOUT (R84, R97): a read of the ring times out; its cause is FETCH before a descriptor is taken,
READ after. -/
def execPcieCompletionTimeout (ring : Fin 128) (s : State) : Host.Outcome State Fault Refusal :=
  .next (match (ringOf ring s).xfer with
    | some x => if x.started ∧ timeoutOn s then haltRing ring 9 x.entries (raise EV.PCIE_COMPLETION_TIMEOUT ring s) else s
    | none => if mayFetch ring s ∧ timeoutOn s then haltRing ring 1 0 (raise EV.PCIE_COMPLETION_TIMEOUT ring s) else s)

/-- RETAINED_TRANSFER_RESUME (R103): no high-class ring of the read side is ready, or the ring has become one itself; what waited
to go out to the host moves as well. -/
def execRetainedTransferResume (ring : Fin 128) (s : State) : Host.Outcome State Fault Refusal :=
  .next (match (ringOf ring s).xfer with
    | some x =>
      if x.staging ≠ .retained then moveOut s
      else if highReady false s ∧ ¬ (ringOf ring s).isHigh then s
      else
        let s := setStaging ring .reading s
        match x.entry with
        | some e => if x.kept.isEmpty then s else moveData ring x e x.kept s
        | none => s
    | none => s)

/-- R104: every byte of the descriptor has moved. -/
def descMoved (r : Nat) (x : Xfer) (s : State) : Bool :=
  x.started && x.entries == x.desc.count && x.sum == x.desc.total && x.staging == .none &&
    (x.desc.op != 2 || x.desc.target != 1 ||
      (x.gathered.isEmpty && !(s.comp.load.any fun l => l.ring == some r)))

/-- R110: the zero word behind the last record, if 8 B remain in that record's own entry (DESIGN CHOICE, log entry 164). -/
def endRecords (r : Nat) (x : Xfer) (s : State) : State :=
  if x.desc.op = 4 ∧ 0 < x.records ∧ 8 ≤ x.recRoom then
    postWrite r x.recNs x.recEnd (leBytes 8 0) s
  else s

/-- R111, R393, R466: a TO_DEVICE descriptor all of whose data has arrived: a firmware image that fails ends it with cause
TARGET; data for the push buffer lands when the push in progress ends. -/
def finishDevice (r : Nat) (x : Xfer) (s : State) : State :=
  if x.desc.target = 3 then
    let (ok, s) := imageReached (x.desc.offset + x.gathered.length) s
    if ok then completeDesc r s else haltRing r 8 0 s
  else if x.desc.target = 5 ∧ s.disp.running.isSome then
    if s.disp.landing.any fun l => l.ring == some r then s
    else modDisp (fun d => { d with landing := d.landing ++ [⟨some r, none, x.desc.offset, x.gathered⟩] }) s
  else completeDesc r s

/-- R104: a descriptor all of whose bytes have moved completes. -/
def completeMoved (r : Nat) (s : State) : State :=
  let s := moveOut (feedTable r s)
  match (ringOf r s).xfer with
  | some x =>
    if ¬ descMoved r x s then s
    else if x.desc.op = 2 then finishDevice r x s
    else completeDesc r (endRecords r x s)
  | none => s

/-- DESCRIPTOR_COMPLETE (R104). -/
def execDescriptorComplete (ring : Fin 128) (s : State) : Host.Outcome State Fault Refusal := .next (completeMoved ring s)

/-- R110: EGRESS_FLUSH has elapsed since the first record of the ring's descriptor, which completes. -/
def flushRing (r : Nat) (s : State) : State :=
  let s := moveOut s
  match (ringOf r s).xfer with
  | some x =>
    if x.desc.op = 4 ∧ 0 < x.records ∧ s.o OD.EGRESS_FLUSH ≠ 0 ∧ x.firstLoc + s.o OD.EGRESS_FLUSH * ticksUs ≤ s.loc then
      completeDesc r (endRecords r x s)
    else s
  | none => s

/-- R466: the ring's descriptor waits for the end of the push, its data complete. -/
def landingOf (r : Nat) (s : State) : Bool := s.disp.landing.any fun l => l.ring == some r

/-- R109: what a command does that completes the descriptor of ring `r`. -/
def completionBy (r : Nat) (c : Instr) (s : State) : State :=
  match c with
  | .descriptorComplete q => if q.val = r then completeMoved r s else s
  | .egressFlushExpiry q => if q.val = r then flushRing r s else s
  | .dispFrameDone =>
    if landingOf r s then
      completeDesc r (modDisp (fun d => { d with landing := d.landing.filter fun l => l.ring != some r }) (sendRest s))
    else s
  | _ => s

/-- R109: the completions of ring `r` that are still to come in this cycle stand, and come first. -/
def completionsFirst (r : Nat) (s : State) : State := eachDo s.pending (completionBy r) s

/-- ABORT (R91, R109): the entry in progress is named; an idle RUNNING ring halts as well (log entry 11), and a ring that is not
RUNNING ignores it (DEDUCED, log entry 207). A completion of the same cycle stands. -/
def abortRing (r : Nat) (s : State) : State :=
  if (ringOf r s).state ≠ .running then s
  else
    let s := completionsFirst r s
    let entry := match (ringOf r s).xfer with
      | some x => if x.entry.isSome then x.entries else 0
      | none => 0
    checkLedgers 3 (s.web.hwl / 64) (haltRing r 0xB entry s)

/-- RING_ABORT (R91). -/
def execRingAbort (ring : Fin 128) (s : State) : Host.Outcome State Fault Refusal :=
  .next (barAccess (.ringAbort ring) (abortRing ring) s)

/-- A write of DUCT_RING_CONTROL (R91, R92): exactly one bit. -/
def controlWrite (r v : Nat) (s : State) : State :=
  match v % 64 with
  | 1 => stallLeft r (enableRing r s)
  | 2 => disableRing r s
  | 4 => stopRing r s
  | 8 => resumeRing r s
  | 16 => abortRing r s
  | 32 => skipDesc r s
  | _ => s

/-- EGRESS_FLUSH_EXPIRY (R110): EGRESS_FLUSH has elapsed since the descriptor's first record. -/
def execEgressFlushExpiry (ring : Fin 128) (s : State) : Host.Outcome State Fault Refusal :=
  .next (flushRing ring s)

/-- EVENT_LOG_OVERFLOW (R47): the record is written once the buffer has room outside the trace reserve. -/
def execEventLogOverflow (s : State) : Host.Outcome State Fault Refusal :=
  .next (stallCheck 96 (!s.dev.evLog.isEmpty) (overflowRecord s))

/-! ### HOT reset of the rings (R112) -/

/-- R112: every ring returns to DISABLED with its registers at reset, transfers end, and bindings are released. -/
def hotResetRings (s : State) : State :=
  let s := eachDo (List.range 128) discardXfer s
  let s := modDisp (fun d => { d with landing := d.landing.filter fun l => l.ring.isNone }) s
  let s := unbind (fun _ => true) s
  eachDo ((List.range 10).map (96 + ·)) stallLeft { s with rings := Vector.replicate 128 Ring.reset }

end Sys2Proof.Machine
end

