-- ==== Sys2Proof/Machine/HeadLink.lean ====
section
/-! DEFINITION. Machine/HeadLink.lean: the Ororal Head Link ports (R238 to R266). -/

namespace Sys2Proof.Machine

/-- Raise an event of a port (R266). -/
def portEvent (ev arg h : Nat) (s : State) : State := raise ev (256 * arg + h) s

/-! ### Frames (R241 to R244) -/

/-- Send a forward frame with the next FSEQ; it waits for its acknowledgement (R241, R257). -/
def sendFrame (h : Nat) (f : Frame) (s : State) : State :=
  modPort h (fun p => { p with
    fseq := (p.fseq + 1) % 65536, unacked := p.unacked ++ [(p.fseq, f)], sent := p.sent ++ [f] }) s

/-- Send a COMMAND frame (R243). -/
def sendCommand (h op arg : Nat) (s : State) : State := sendFrame h (.command op arg) s

/-- R241: FSEQ starts from 0 after a training. -/
def freshLink (h : Nat) (s : State) : State := modPort h (fun p => { p with fseq := 0, unacked := [] }) s

/-- The frames of a slot body, in the order of R208. -/
def bodyFrames (b : Body) (refire : Bool) : List Frame :=
  .slot b.slot b.groups.length refire :: b.groups.map fun g => .group b.slot g.num

/-- R241: a frame of the backchannel has arrived; the next one carries the next number. -/
def backFrame (h : Nat) (s : State) : State :=
  modPort h (fun p => { p with backNext := p.backNext.map fun n => (n + 1) % 65536 }) s

/-- R241: the number of a TELEMETRY frame shows how many frames before it were lost (DESIGN CHOICE, log entry 178: the number
stands in the operand of this frame, which comes every millisecond, and the frames between are counted as they come). -/
def countLost (h number : Nat) (s : State) : State :=
  modPort h (fun p => { p with
    backNext := some ((number + 1) % 65536)
    backLost := p.backLost + ((p.backNext.map fun n => (number + 65536 - n) % 65536).getD 0) }) s

/-! ### Leaving READY (R251, R260, R263) -/

/-- R260: the port's lowest slot not DONE; those that a retrain discards are not DONE either. -/
def lowestNotDone (h : Nat) (s : State) : Nat :=
  ((((portOf h s).slots.map (·.body)) ++ (portOf h s).lost).map (·.slot)).headD (seqrOf h s).nextSlot

/-- Enter a port state (R248). READY and DISABLED clear the causes LINK and TORN (R256, R260). -/
def setPort (h : Nat) (st : PortState) (s : State) : State :=
  let s := modPort h (fun p => { p with state := st }) s
  let s := if st = .ready ∨ st = .disabled then
      modSeqr h (fun q => { q with torn := false }) (modPort h (fun p => { p with linkCause := false }) s) else s
  linkCheck h s

/-- R260, R263: a slot that was committed in the cycle in which the port leaves READY is discarded. Its body stays with the port: a
report of R260 covers the slot. -/
def dropFresh (h : Nat) (s : State) : State :=
  let p := portOf h s
  if p.state = .ready ∧ p.fresh.2 = s.loc + 1 then
    let fresh := (p.slots.map (·.body)).filter fun b => b.slot == p.fresh.1
    eachDo fresh (fun b s => slotDiscarded h b.slot (modPort h (fun p => { p with lost := p.lost ++ [b] })
      (dropHeld h (fun t => t == b.slot) s))) s
  else s

/-- R38, R251, R259, R260: the port stops with its head: EN goes low, held slots and their resources go back, and a head
of a populated plane with a stream in an ARMED or PRINTING forme is reported torn (R4); the ledgers are checked. -/
def stopPort (h : Nat) (s : State) : State :=
  let m := lowestNotDone h s
  let again := (portOf h s).slots.map (·.body) ++ (portOf h s).lost
  let s := dropHeld h (fun _ => true) (dropFresh h s)
  let s := modPort h (fun p => { p with
    lost := [], linkBack := false, en := false, version := 0, unacked := [], trims := [], aligned := false, attaching := false, chunks := [], badReads := 0
    fails := 0, naks := [], timeouts := 0, retrainFails := 0, tornAt := none, supplyRaised := false
    telemetryLost := false, selftest := false, selfChunks := 0, selfDone := false }) s
  let s := if headActive h s ∧ populated (planeOf h) s then tornReport h m again (portEvent EV.OHL_TORN_REPORT 2 h s)
    else modSeqr h (fun q => { q with unacked := [] }) s
  checkLedgers 3 (s.web.hwl / 64) s

/-- R250: a FAULT with its cause. -/
def faultPort (h cause : Nat) (s : State) : State :=
  setPort h .fault (portEvent EV.OHL_PORT_FAULT cause h ((stopPort h s).setO (OD.OHL_FAULT_CAUSE h) cause))

/-- R251: the head is gone, or PORT_ENABLE is written FALSE. An unpopulated plane raises no event (R4). FAULT_CAUSE reads 0 from
then on (DESIGN CHOICE, log entry 191). -/
def detachPort (h : Nat) (st : PortState) (s : State) : State :=
  if (portOf h s).state = .disabled then s
  else
    let s := stopPort h s
    let s := if populated (planeOf h) s then portEvent EV.OHL_DETACHED 0 h s else s
    setPort h st (s.setO (OD.OHL_FAULT_CAUSE h) 0)

/-- R251: the port is enabled, or disabled. -/
def portEnabled (h : Nat) (on : Bool) (s : State) : State :=
  if on then (if (portOf h s).state = .disabled then setPort h .empty s else s) else detachPort h .disabled s

/-! ### Attach (R249) -/

/-- HEAD_DETECT (R249, steps 1 and 2). -/
def headDetected (h : Nat) (s : State) : State :=
  let s := modPort h (fun p => { p with det := true }) s
  if (portOf h s).state = .empty then
    setPort h .training (modPort h (fun p => { p with
      en := true, fails := 0, chunks := [], badReads := 0, version := 0, aligned := false, attaching := true, sent := []
      backNext := none }) s)
  else s

/-- The end of an attempt of base-rate training (R249, step 2). -/
def trainingEnd (h : Nat) (ok : Bool) (s : State) : State :=
  if (portOf h s).state ≠ .training then s
  else if ok then freshLink h s
  else
    let n := (portOf h s).fails + 1
    let s := modPort h (fun p => { p with fails := n }) s
    if 3 ≤ n then faultPort h 1 s else s

/-- STATUS HELLO: the port enters DESCRIPTOR and reads chunk 0 (R249). -/
def helloReceived (h vmax : Nat) (s : State) : State :=
  if (portOf h s).state ≠ .training then s
  else
    let s := modPort h (fun p => { p with vmax := vmax % 256, chunks := [], badReads := 0 }) s
    sendCommand h 1 0 (setPort h .descriptor s)

/-- The bytes of a descriptor, once its four chunks are there. -/
def descriptorBytes (p : Port) : Option (List Byte) :=
  match p.chunks.find? fun c => c.1 == 0, p.chunks.find? fun c => c.1 == 1, p.chunks.find? fun c => c.1 == 2,
    p.chunks.find? fun c => c.1 == 3 with
  | some a, some b, some c, some d => some (a.2 ++ b.2 ++ c.2 ++ d.2)
  | _, _, _, _ => none

/-- A field of a descriptor (R246). -/
def descField (d : List Byte) (off n : Nat) : Nat := leNum ((d.drop off).take n)

/-- The four limits of a descriptor with their objects, and whether lower is tighter by sign. -/
def descLimits (h : Nat) (d : List Byte) : List (Nat × Int) :=
  [(OD.TEMP_SOFT h, signedOf 16 (descField d 0x14 2)), (OD.TEMP_HARD h, signedOf 16 (descField d 0x16 2)),
   (OD.FIRE_WIDTH_MAX h, (descField d 0x18 2 : Nat)), (OD.BRAYER_WIDTH_MAX h, (descField d 0x1A 2 : Nat))]

/-- A limit's value in effect, read as its object's type. -/
def limitNow (h key : Nat) (s : State) : Int :=
  if key = OD.TEMP_SOFT h ∨ key = OD.TEMP_HARD h then s.oi key else (s.o key : Nat)

/-- R247: the limits that the descriptor replaces. -/
def limitsReplaced (h : Nat) (d : List Byte) (s : State) : List (Nat × Int) :=
  if descField d 8 8 ≠ s.o (OD.KNOWN_SERIAL h) then descLimits h d
  else (descLimits h d).filter fun kv => decide (kv.2 < limitNow h kv.1 s)

/-- R247: the recipes are loaded with this head. -/
def loadsRecipes (h : Nat) (d : List Byte) (s : State) : Bool := (portOf h s).lastSerial != some (descField d 8 8)

/-- R247: the recipes and RECIPE_SELECT of a descriptor, by object. -/
def descRecipes (h : Nat) (d : List Byte) : List (Nat × Nat) :=
  ((List.range 16).map fun i => (OD.RECIPE h i, descField d (0x30 + 8 * i) 8)) ++ [(OD.RECIPE_SELECT h, descField d 0x1C 4)]

/-- The row offsets of a descriptor. -/
def descRows (d : List Byte) : List Nat := (List.range 8).map fun i => descField d (0x20 + 2 * i) 2

/-- R217, R250: the shadow set's place takes the live set's rotation and group count, for the check of the live set. -/
def liveChecked (h : Nat) (s : State) : State :=
  State.setDom (OD.ROTATION h) 0 ((List.range 32).map fun i => BitVec.ofNat 8 (s.lbyte (OD.ROTATION h) i))
    (s.setO (OD.FIRE_GROUP_COUNT h) (s.l (OD.FIRE_GROUP_COUNT h)))

/-- R250: the first check that a descriptor fails; 0 = it passes. A load goes into both sets, and each is checked. -/
def descriptorCause (h : Nat) (d : List Byte) (s : State) : Nat :=
  let zero := fun (l : List Byte) => l.all (· == 0)
  let rows := descRows d
  let grid := descField d 6 1
  let s1 := eachDo (limitsReplaced h d s) (fun kv s => s.setI kv.1 kv.2) s
  let s1 := eachDo (descRecipes h d) (fun kv s => s.setO kv.1 kv.2) s1
  let sc := max (setCause h s1) (setCause h (liveChecked h s1))
  if descField d 0 4 ≠ 0x444C484F ∨ descField d 4 1 ≠ 1 ∨ ¬ zero ((d.drop 7).take 1) ∨ ¬ zero ((d.drop 0xB4).take 72) then 2
  else if crc32 (d.take 0xFC) ≠ descField d 0xFC 4 then 3
  else if (grid ≠ 1 ∧ grid ≠ 2) ∨ (rows.any fun r => decide (4095 < r)) ∨
      (grid = 1 ∧ (rows.drop 4).any fun r => r != 0) ∨ descField d 8 8 = 0 then 4
  else if signedOf 16 (descField d 0x16 2) ≤ signedOf 16 (descField d 0x14 2) ∨
      descField d 0xB2 2 ≤ descField d 0xB0 2 then 5
  else if loadsRecipes h d s ∧ sc ≠ 0 then 6
  else if headActive h s ∧ (grid ≠ s.o (OD.NOZZLE_GRID h) ∨ rows ≠ (List.range 8).map fun i => s.o (OD.ROW_OFFSET h i)) then 7
  else 0

/-- R249, step 5: ECHO starts the alignment of the head's LOC copy. -/
def startAlign (h version : Nat) (s : State) : State :=
  sendCommand h 6 0 (setPort h .descriptor (modPort h (fun p => { p with version := version, aligned := false }) s))

/-- R249, step 4: the version, and the upgrade if it is 2. -/
def chooseVersion (h : Nat) (s : State) : State :=
  let v := min 2 (min (s.o (OD.VERSION_LIMIT h)) (portOf h s).vmax)
  if v = 2 then setPort h .upgrade (sendCommand h 3 2 (modPort h (fun p => { p with fails := 0 }) s))
  else startAlign h 1 s

/-- The four chunks are there: check them (R249, step 3). -/
def checkDescriptor (h : Nat) (d : List Byte) (s : State) : State :=
  match descriptorCause h d s with
  | 0 => chooseVersion h s
  | 3 =>
    let n := (portOf h s).badReads + 1
    if 3 ≤ n then faultPort h 3 s
    else sendCommand h 1 0 (modPort h (fun p => { p with badReads := n, chunks := [] }) s)
  | c => faultPort h c s

/-- A descriptor chunk (R246). -/
def descriptorChunk (h chunk : Nat) (data : List Byte) (s : State) : State :=
  let p := portOf h s
  if p.state ≠ .descriptor ∨ p.version ≠ 0 ∨ 4 ≤ chunk then s
  else
    let s := modPort h (fun p => { p with chunks := (p.chunks.filter fun c => c.1 != chunk) ++ [(chunk, data)] }) s
    match descriptorBytes (portOf h s) with
    | some d => checkDescriptor h d s
    | none => sendCommand h 1 ((chunk + 1) % 4) s

/-- R262: the self-test is over once STATUS SELFTEST_DONE and all 32 chunks are there. -/
def selftestCheck (h : Nat) (s : State) : State :=
  let p := portOf h s
  if p.selftest ∧ p.selfDone ∧ p.selfChunks = 2 ^ 32 - 1 then
    let s := modPort h (fun p => { p with selftest := false, selfDone := false, selfChunks := 0 }) s
    portEvent EV.OHL_SELFTEST_DONE 0 h (s.setO (OD.SELFTEST_FAILS h) p.selfFails)
  else s

/-- A self-test chunk (R262). -/
def selftestChunk (h chunk : Nat) (data : List Byte) (s : State) : State :=
  if ¬ (portOf h s).selftest ∨ 32 ≤ chunk then s
  else
    let s := State.setDom (OD.SELFTEST_MAP h) (64 * chunk) data s
    selftestCheck h (modPort h (fun p => { p with selfChunks := setBit p.selfChunks chunk true }) s)

/-- A DATA frame (R244); one of another length is discarded (R241). -/
def dataReceived (h source chunk : Nat) (data : List Byte) (s : State) : State :=
  if data.length ≠ 64 then s else if source = 0 then descriptorChunk h chunk data s else selftestChunk h chunk data s

/-- R245: the DATA frame did not arrive: DESC_READ is repeated for the first chunk that is missing. -/
def descTimeout (h : Nat) (s : State) : State :=
  let p := portOf h s
  if p.state ≠ .descriptor ∨ p.version ≠ 0 then s
  else
    match (List.range 4).find? fun c => !p.chunks.any fun x => x.1 == c with
    | some c => sendCommand h 1 c s
    | none => s

/-- The end of a training attempt at version-2 rates (R249, step 4). -/
def upgradeEnd (h : Nat) (ok : Bool) (s : State) : State :=
  if (portOf h s).state ≠ .upgrade then s
  else if ok then startAlign h 2 (freshLink h s)
  else
    let n := (portOf h s).fails + 1
    let s := modPort h (fun p => { p with fails := n }) s
    if 3 ≤ n then portEvent EV.OHL_V2_FALLBACK 0 h (startAlign h 1 (freshLink h s)) else s

/-- TIME_SET: LOC at the frame's first word plus the one-way latency (R249, step 5). -/
def sendTimeSet (h : Nat) (s : State) : State := sendCommand h 2 ((s.loc + (portOf h s).latency) % 2 ^ 32) s

/-- STATUS ECHO: half the round trip is the latency. -/
def echoReceived (h roundTrip : Nat) (s : State) : State :=
  let p := portOf h s
  if p.state = .descriptor ∧ p.version ≠ 0 ∧ ¬ p.aligned then
    sendTimeSet h (modPort h (fun p => { p with aligned := true, latency := roundTrip / 2 }) s)
  else s

/-- R249: under version 1 TIME_SET is repeated every 1 ms while the link runs. -/
def timeSetAgain (h : Nat) (s : State) : State :=
  let p := portOf h s
  if p.version = 1 ∧ p.aligned ∧ p.state ≠ .retrain then sendTimeSet h s else s

/-- R247: geometry, limits and serial of the descriptor. -/
def takeDescriptor (h : Nat) (d : List Byte) (s : State) : State :=
  let lim := limitsReplaced h d s
  let serial := descField d 8 8
  let known := s.o (OD.KNOWN_SERIAL h)
  let s := eachDo (List.range 8) (fun i s => s.setO (OD.ROW_OFFSET h i) (descField d (0x20 + 2 * i) 2)) s
  let s := s.setO (OD.NOZZLE_GRID h) (descField d 6 1)
  let s := eachDo lim (fun kv s => s.setI kv.1 kv.2) s
  let s := State.setDom (OD.DESCRIPTOR h) 0 d (s.setO (OD.HEAD_MODEL h) (descField d 0x10 4))
  let s := (s.setO (OD.HEAD_SERIAL h) serial).setO (OD.KNOWN_SERIAL h) serial
  let vals := (lim.map fun kv => (kv.1, unsignedOf 16 kv.2)) ++
    (if serial ≠ known then [(OD.KNOWN_SERIAL h, serial)] else [])
  let s := eachDo vals (fun kv s => openRecord (.objects false [kv]) .nothing s) s
  if lim.isEmpty then s else portEvent EV.OHL_LIMITS_LOADED 0 h s

/-- R247: the recipes go into both sets, COMMIT_PENDING is cleared, and the records wait for the first slot committed from
READY on. The records of a load before it that still wait are written now (log entry 95). -/
def loadRecipes (h : Nat) (d : List Byte) (s : State) : State :=
  let s := if (seqrOf h s).loadRecord then setRecords h 5 (seqrOf h s).nextSlot s else s
  let s := eachDo (descRecipes h d) (fun kv s => (s.setO kv.1 (storedNum kv.1 kv.2)).setL kv.1 (storedNum kv.1 kv.2)) s
  let s := if s.ob (OD.PLAT_COMMIT_PENDING h) then
      unreserveSlots 105 7 (s.setB (OD.PLAT_COMMIT_PENDING h) false) else s
  modSeqr h (fun q => { q with commit := false, loadRecord := true }) (reserveSlots 105 7 s)

/-- R211: the nozzles of the head whose entry in effect may carry a trim. -/
def trimKeys (h : Nat) (s : State) : List Nat :=
  (((s.comp.table.map (·.1)) ++ s.comp.items.flatMap fun p => match p.item with
    | .entry n _ _ _ => [n]
    | .page g first last _ _ => (List.range (last + 1 - first)).map (1024 * g + first + ·)
    | .rate _ _ => []).filter fun n => n / 16384 == h && decide (n % 16384 / 2048 < rowsOf h s)).eraseDups

/-- R211: the trims issued for slots of the head after slot `t`. -/
def trimsAfter (h t : Nat) (s : State) : List Trim :=
  (((seqrOf h s).refire.flatMap (·.trims)) ++ (seqrOf h s).trims).filter fun x => decide (t < x.slot)

/-- R211: KERN_TRIM and ENERGY_TRIM of a nozzle in slot `t`: the values before the first trim that names a later slot, and those in
effect where there is none. -/
def trimIn (h t n : Nat) (s : State) : Nat × Nat :=
  match (trimsAfter h t s).filter fun x => x.nozzle == n with
  | [] => (entKern (appliedEntry n s), entEnergy (appliedEntry n s))
  | x :: xs =>
    let y := xs.foldl (fun m x => if x.slot < m.slot then x else m) x
    (y.wasKern, y.wasEnergy)

/-- R211: the trim memory of a head that attaches is 0 (DESIGN CHOICE, log entry 172): the values that hold in its first slot are
sent before it, and the trims of later slots keep the slots they name. -/
def restoreTrims (h : Nat) (s : State) : State :=
  let first := (seqrOf h s).nextSlot
  let keys := (trimKeys h s ++ (trimsAfter h first s).map (·.nozzle)).eraseDups
  let ts := (keys.map fun n => let v := trimIn h first n s; (⟨first, n, v.1, v.2, 0, 0⟩ : Trim)).filter
    fun t => t.kern != 0 || t.energy != 0
  modPort h (fun p => { p with trims := ts ++ (seqrOf h s).trims.filter fun t => decide (first < t.slot) }) s

/-- ATTACH_COMPLETE (R249, steps 6 and 7). -/
def attachDone (h : Nat) (s : State) : State :=
  let p := portOf h s
  match descriptorBytes p with
  | none => s
  | some d =>
    let load := loadsRecipes h d s
    if p.state ≠ .descriptor ∨ ¬ p.aligned ∨ (load ∧ changeSlots s < 7) then s
    else
      let s := takeDescriptor h d s
      let s := if load then loadRecipes h d s else s
      let s := modPort h (fun q => { q with
        lastSerial := some (descField d 8 8), v1 := decide (p.version = 1), attaching := false }) s
      let s := restoreTrims h (setNegotiated (h + 1) p.vmax p.version s)
      portEvent EV.OHL_ATTACHED p.version h (setPort h .ready s)

/-! ### Sending (R252, R253) -/

/-- Bytes of the retry buffer in use: 64 B for each group of a slot sent and not DONE (R252). -/
def retryUsed (p : Port) : Nat :=
  ((p.slots.filter fun x => x.credit != .available).map fun x => 64 * x.body.groups.length).foldl (· + ·) 0

/-- Credits of a port in use (R254). -/
def creditsUsed (p : Port) : Nat := (p.slots.filter fun x => x.credit != .available).length

/-- SLOT_SEND (R252): the lowest slot not sent goes out, if its three conditions hold. A torn slot that is sent again has its
credit and its room from before (R254, R259). -/
def sendSlot (h : Nat) (s : State) : State :=
  let p := portOf h s
  match p.slots.find? (·.due) with
  | none => s
  | some x =>
    let held := x.credit != .available
    if p.state ≠ .ready ∨ (p.trims.any fun t => t.slot == x.body.slot) ∨
        ¬ held ∧ (8 ≤ creditsUsed p ∨ 16384 < retryUsed p + 64 * x.body.groups.length) then s
    else
      let s := eachDo (bodyFrames x.body x.refire) (sendFrame h) s
      let s := modHeld h x.body.slot (fun x => { x with credit := if held then x.credit else .inFlight, due := false }) s
      if held then s else moveLedger 3 3 4 1 (moveLedger 4 0 1 1 s)

/-- TRIM_FRAME_SEND (R253): the waiting trim of the lowest slot is sent. -/
def sendTrim (h : Nat) (s : State) : State :=
  let p := portOf h s
  if p.state ≠ .ready then s
  else
    match p.trims with
    | [] => s
    | t :: ts =>
      let m := ts.foldl (fun m x => if x.slot < m.slot then x else m) t
      sendFrame h (.trim m) (modPort h (fun p => { p with trims := p.trims.erase m }) s)

/-! ### Acknowledgement (R254, R256) -/

/-- The frames that remain after the cumulative acknowledgement of `f`; all of them if it names none. -/
def afterAck (f : Nat) (l : List (Nat × Frame)) : List (Nat × Frame) :=
  if l.any fun e => e.1 == f then (l.dropWhile fun e => e.1 != f).drop 1 else l

/-- A frame of slot `t` is among these. -/
def awaits (t : Nat) (l : List (Nat × Frame)) : Bool := l.any fun e => match e.2 with
  | .slot u _ _ => u == t
  | .group u _ => u == t
  | _ => false

/-- ACK_FRAME (R254): credits of slots whose every frame is acknowledged pass to head. -/
def ackReceived (h f : Nat) (s : State) : State :=
  let p := portOf h s
  if p.state = .retrain ∨ ¬ p.unacked.any fun e => e.1 == f then s
  else
    let rest := afterAck f p.unacked
    let full := p.slots.filter fun x => x.credit == .inFlight && !awaits x.body.slot rest
    let s := modPort h (fun p => { p with unacked := rest, timeouts := 0 }) s
    eachDo full (fun x s => moveLedger 4 1 2 1 (modHeld h x.body.slot (fun x => { x with credit := .head }) s)) s

/-- R254: slot `t` is at or below the slot that a DONE names, in the low 32 bits. -/
def coveredBy (done t : Nat) : Bool := decide ((done % 2 ^ 32 + 2 ^ 32 - t % 2 ^ 32) % 2 ^ 32 < 2 ^ 31)

/-- R254: a DONE or a READY names the highest slot DONE: the slots it covers are acknowledged, and their dots reach the
proof windows (R293). -/
def slotsDone (h done : Nat) (s : State) : State :=
  let gone := (portOf h s).slots.filter fun x => coveredBy done x.body.slot && x.credit != .available && !x.due && !x.torn
  if gone.isEmpty then s
  else
    let s := dropHeld h (fun t => gone.any fun x => x.body.slot == t) s
    let s := modPort h (fun p => { p with slotDone := done % 2 ^ 32 }) s
    let s := modSeqr h (fun q => { q with unacked := q.unacked.filter fun t => !gone.any fun x => x.body.slot == t }) s
    let s := renderSlots h (gone.map (·.body)) s
    allFormeChecks (releaseBlocks h s)

/-- R256: OHL reports a deferral of more than one line period: the cause is cleared while the port is READY. -/
def reportLate (h : Nat) (s : State) : State :=
  takeCause causeLink h (modPort h (fun p => { p with linkCause := decide (p.state ≠ .ready ∧ p.state ≠ .disabled) }) s)

/-- DONE_FRAME (R254, R256). -/
def doneReceived (h slot late : Nat) (s : State) : State :=
  if ¬ portAttached h s then s
  else
    let s := slotsDone h slot s
    if late = 0 then s
    else
      let s := (s.bump (OD.DEFERRED_SLOTS h)).setO (OD.MAX_LATE h) (max late (s.o (OD.MAX_LATE h)))
      let s := raise EV.PLAT_SLOT_DEFERRED h s
      if 64 < late then reportLate h s else s

/-- R263: the DONE frame of a port that a command brings. -/
def doneOf (h : Nat) : Instr → Option (BitVec 32 × BitVec 16)
  | .doneFrame p slot late => if p = h then some (slot, late) else none
  | _ => none

/-- R263: a DONE of the cycle of a detach is taken first, also where its command is still to come in the cycle. -/
def donesFirst (h : Nat) (s : State) : State :=
  eachDo (s.pending.filterMap (doneOf h)) (fun d s => doneReceived h d.1.toNat d.2.toNat s) s

/-- A write of PORT_ENABLE (R251, R263), after the object has its new value. -/
def portWritten (h : Nat) (on : Bool) (s : State) : State := portEnabled h on (if on then s else donesFirst h s)

/-- GROUP_ACK_OVERDUE (R256): a GROUP frame is not acknowledged 64 ticks after its start tick. -/
def groupOverdue (h : Nat) (s : State) : State :=
  if (portOf h s).unacked.any fun e => match e.2 with
    | .group _ _ => true
    | _ => false
  then reportLate h s else s

/-! ### Retry and retrain (R257, R258) -/

/-- R258: the port has a link that it can lose: in READY, RECOVER and DESCRIPTOR, and in RETRAIN once an attempt has succeeded. A
port that is training has none (DESIGN CHOICE, log entry 173). -/
def linkLives (p : Port) : Bool :=
  p.state == .ready || p.state == .recover || p.state == .descriptor || (p.state == .retrain && p.linkBack)

/-- R258: the link is lost: the port retrains at the version in use, in the course of its attach as well. -/
def enterRetrain (h : Nat) (s : State) : State :=
  if ¬ linkLives (portOf h s) then s
  else
    let s := modPort h (fun p => { p with naks := [], timeouts := 0, retrainFails := 0, linkBack := false }) s
    setPort h .retrain (portEvent EV.OHL_RETRAIN 0 h ((dropFresh h s).bump (OD.RETRAINS h)))

/-- R257: resend from FSEQ `f`, in the original order. -/
def resendFrom (h f : Nat) (s : State) : State :=
  let p := portOf h s
  let again := (p.unacked.dropWhile fun e => e.1 != f).map (·.2)
  if again.isEmpty then s
  else
    let s := modPort h (fun p => { p with sent := p.sent ++ again }) (s.bump (OD.RETRIES h))
    let band := s.web.hwl / 64 + 1
    if p.retryBand = band then s
    else portEvent EV.OHL_CRC_RETRY 0 h (modPort h (fun p => { p with retryBand := band }) s)

/-- NAK_FRAME (R257, R258): 16 within 100 µs lose the link. -/
def nakReceived (h f : Nat) (s : State) : State :=
  if ¬ (portOf h s).en ∨ (portOf h s).state = .retrain then s
  else
    let s := resendFrom h f s
    let naks := s.loc :: (portOf h s).naks.filter fun t => decide (s.loc < t + 100 * ticksUs)
    let s := modPort h (fun p => { p with naks := naks }) s
    if 16 ≤ naks.length then enterRetrain h s else s

/-- RESEND_TIMEOUT (R257, R258): two that follow one another lose the link. -/
def resendTimedOut (h : Nat) (s : State) : State :=
  match (portOf h s).unacked with
  | [] => s
  | e :: _ =>
    if (portOf h s).state = .retrain then s
    else
      let s := resendFrom h e.1 s
      let n := (portOf h s).timeouts + 1
      let s := modPort h (fun p => { p with timeouts := n }) s
      if 2 ≤ n then enterRetrain h s else s

/-- R258: what a retrain sends again: a frame of a slot that is held and had been sent, with REFIRE = 0, or of a trim for a
slot above the highest DONE. -/
def resendFrame (p : Port) (done : Nat) (f : Frame) : Option Frame :=
  let live := fun t => p.slots.any fun x => x.body.slot == t && x.credit != .available && !x.due && !x.torn
  match f with
  | .slot t n _ => if live t then some (.slot t n false) else none
  | .group t _ => if live t then some f else none
  | .trim t => if coveredBy done t.slot then none else some f
  | .command _ _ => none

/-- R258: after a retrain FSEQ restarts at 0, and the frames of the slots above the highest DONE go out again, in their
original order. -/
def resendHeld (h done : Nat) (s : State) : State :=
  let p := portOf h s
  eachDo (p.sent.filterMap (resendFrame p done)).eraseDups (sendFrame h) (freshLink h s)

/-- R249, R258: an attach whose link has been regained goes on: with the alignment once its version is chosen, and with the
descriptor before (log entry 173). -/
def resumeAttach (h : Nat) (s : State) : State :=
  if (portOf h s).version = 0 then
    sendCommand h 1 0 (setPort h .descriptor (modPort h (fun p => { p with chunks := [] }) s))
  else startAlign h (portOf h s).version s

/-- RETRAIN_ATTEMPT_END (R258): the third consecutive failure is a FAULT. A link regained under a torn report waits
for the head's READY in RECOVER (R263). -/
def retrainEnd (h : Nat) (ok : Bool) (s : State) : State :=
  let p := portOf h s
  if p.state ≠ .retrain ∨ p.linkBack then s
  else if ok then
    let s := freshLink h (modPort h (fun p => { p with retrainFails := 0 }) s)
    if p.attaching then resumeAttach h s else
    match p.tornAt with
    | some m => sendCommand h 4 (m % 2 ^ 32) (setPort h .recover s)
    | none => modPort h (fun p => { p with linkBack := true }) s
  else
    let n := p.retrainFails + 1
    if 3 ≤ n then faultPort h 8 s else modPort h (fun p => { p with retrainFails := n }) s

/-! ### Torn lines and READY (R259) -/

/-- R259: the slot that a TORN names: a held one, or where none bears the number the lowest slot not DONE (DESIGN CHOICE, log
entry 90). -/
def tornNamed (h slot : Nat) (s : State) : Nat :=
  match (portOf h s).slots.find? fun x => x.body.slot % 2 ^ 32 == slot % 2 ^ 32 with
  | some x => x.body.slot
  | none => lowestNotDone h s

/-- TORN_FRAME (R259): the first report of a slot M; repeats do nothing, and of two slots the lower counts (R263). M itself
stays held with its credit until it is sent again. -/
def tornReceived (h slot reason : Nat) (s : State) : State :=
  let p := portOf h s
  let m := tornNamed h slot s
  if ¬ portAttached h s ∨ (p.tornAt.any fun m' => m' % 2 ^ 32 == slot % 2 ^ 32 || decide (m' ≤ m)) then s
  else
    let again := (p.slots.map (·.body) ++ p.lost).filter fun b => decide (m ≤ b.slot)
    let s := modPort h (fun p => { p with lost := [] }) (dropHeld h (fun t => decide (m < t)) (dropFresh h s))
    let s := modHeld h m (fun x => { x with torn := true, due := false }) s
    let s := portEvent EV.OHL_TORN_REPORT reason h (modPort h (fun p => { p with tornAt := some m }) s)
    let s := setPort h .recover s
    tornReport h m again (sendCommand h 4 (slot % 2 ^ 32) s)

/-- R234: the TORN frame that a command brings. -/
def tornOf : Instr → Option (Fin 24 × BitVec 32 × Byte)
  | .tornFrame port slot reason => some (port, slot, reason)
  | _ => none

/-- R234: a torn report of the cycle of a boundary is taken before it, also where its command is still to come in the cycle. -/
def tornsFirst (s : State) : State :=
  eachDo (s.pending.filterMap tornOf) (fun t s => tornReceived t.1 t.2.1.toNat t.2.2.toNat s) s

/-- R206, R254, R258: the retrain has succeeded: the slots discarded in its course count as not fired. With a stream in an ARMED or
PRINTING forme the platen holds with cause TORN and commits them again with the same bodies (log entry 204); a head without one
awaits them no more. -/
def lostReported (h : Nat) (s : State) : State :=
  match (portOf h s).lost with
  | [] => s
  | b :: bs =>
    let s := modPort h (fun p => { p with lost := [] }) s
    if headActive h s ∧ populated (planeOf h) s then tornReport h b.slot (b :: bs) s
    else
      let gone := (b :: bs).map (·.slot)
      allFormeChecks (releaseBlocks h (modSeqr h (fun q => { q with unacked := q.unacked.filter fun t => !gone.contains t }) s))

/-- STATUS_READY (R258, R259): the head is ready again. -/
def readyReceived (h value : Nat) (s : State) : State :=
  let back := fun s => portEvent EV.OHL_PORT_READY 0 h (setPort h .ready
    (modPort h (fun p => { p with tornAt := none, retrainFails := 0, linkBack := false }) s))
  match (portOf h s).state with
  | .recover => back (slotsDone h value s)
  | .retrain =>
    if (portOf h s).attaching ∨ ¬ (portOf h s).linkBack then s
    else lostReported h (back (resendHeld h value (slotsDone h value s)))
  | _ => s

/-! ### Telemetry (R261) -/

/-- TELEMETRY_FRAME. -/
def telemetryReceived (h : Nat) (t : Telemetry) (s : State) : State :=
  if ¬ (portOf h s).en then s
  else
    let s := countLost h t.fseq.toNat (whenDo (decide (t.flags ≠ 0)) demandWake s)
    let s := ((s.setI (OD.TEMPERATURE h) t.temp).setO (OD.VHEAD h) t.vhead).setO (OD.VLOGIC h) t.vlogic
    let s := s.setO (OD.HEAD_FLAGS h) t.flags
    let s := tempReading h t.temp (modPort h (fun p => { p with telemetryLost := false }) s)
    if ¬ portAttached h s then s
    else
      let v := s.o (OD.VHEAD h)
      let bad := decide (v < s.domNum (OD.DESCRIPTOR h) 0xB0 2) || decide (s.domNum (OD.DESCRIPTOR h) 0xB2 2 < v)
      if bad ∧ ¬ (portOf h s).supplyRaised then
        portEvent EV.OHL_SUPPLY_FAULT 0 h (modPort h (fun p => { p with supplyRaised := true }) s)
      else modPort h (fun p => { p with supplyRaised := bad }) s

/-- TELEMETRY_TIMEOUT: no TELEMETRY for 10 ms. -/
def telemetryGone (h : Nat) (s : State) : State :=
  if ¬ portAttached h s ∨ (portOf h s).telemetryLost then s
  else
    let s := portEvent EV.OHL_TELEMETRY_LOST 0 h (modPort h (fun p => { p with telemetryLost := true }) s)
    tempReading h (s.oi (OD.TEMP_HARD h)) s

/-- SUPPLY_FAULT_TIMEOUT (R250): 1 ms of readings out of range. -/
def supplyTimedOut (h : Nat) (s : State) : State :=
  if portAttached h s ∧ (portOf h s).supplyRaised then faultPort h 9 s else s

/-! ### Self-test (R262) -/

/-- R262: the state refuses a self-test. -/
def selftestRefused (h : Nat) (s : State) : Bool := decide ((portOf h s).state ≠ .ready) || headActive h s

/-- A write of 1 to SELFTEST: the abort code and the state after it. -/
def selftestStart (h : Nat) (s : State) : Nat × State :=
  if selftestRefused h s then (AB.state, s)
  else (AB.ok, sendCommand h 5 0 (modPort h (fun p => { p with selftest := true, selfChunks := 0, selfDone := false }) s))

/-- STATUS SELFTEST_DONE. -/
def selftestDone (h fails : Nat) (s : State) : State :=
  if (portOf h s).selftest then
    selftestCheck h (modPort h (fun p => { p with selfDone := true, selfFails := fails }) s)
  else s

/-! ### Commands -/

/-- HEAD_DETECT (R249). -/
def execHeadDetect (port : Fin 24) (s : State) : Host.Outcome State Fault Refusal :=
  .next (whenDo (ohlOn s) (fun s => headDetected port s) s)

/-- TRAINING_ATTEMPT_END (R249). -/
def execTrainingAttemptEnd (port : Fin 24) (ok : Bool) (s : State) : Host.Outcome State Fault Refusal :=
  .next (whenDo (ohlOn s) (fun s => trainingEnd port ok s) s)

/-- STATUS_HELLO (R249). -/
def execStatusHello (port : Fin 24) (vmax : Nat) (s : State) : Host.Outcome State Fault Refusal :=
  .next (whenDo (ohlOn s) (fun s => helloReceived port vmax (backFrame port s)) s)

/-- DATA_FRAME (R246, R262). -/
def execDataFrame (port : Fin 24) (source : Fin 2) (chunk : Nat) (data : List Byte) (s : State) :
    Host.Outcome State Fault Refusal :=
  .next (whenDo (ohlOn s) (fun s => dataReceived port source chunk data (backFrame port s)) s)

/-- DESC_READ_TIMEOUT (R245). -/
def execDescReadTimeout (port : Fin 24) (s : State) : Host.Outcome State Fault Refusal :=
  .next (whenDo (ohlOn s) (fun s => descTimeout port s) s)

/-- STATUS_UPGRADE_ACK (R243): the attempts at version-2 rates begin. -/
def execStatusUpgradeAck (port : Fin 24) (s : State) : Host.Outcome State Fault Refusal :=
  .next (whenDo (ohlOn s) (fun s =>
    whenDo (decide ((portOf port s).state = .upgrade)) (modPort port fun p => { p with fails := 0, unacked := [] }) (backFrame port s)) s)

/-- UPGRADE_TRAINING_END (R249). -/
def execUpgradeTrainingEnd (port : Fin 24) (ok : Bool) (s : State) : Host.Outcome State Fault Refusal :=
  .next (whenDo (ohlOn s) (fun s => upgradeEnd port ok s) s)

/-- STATUS_ECHO (R249). -/
def execStatusEcho (port : Fin 24) (roundTrip : Nat) (s : State) : Host.Outcome State Fault Refusal :=
  .next (whenDo (ohlOn s) (fun s => echoReceived port roundTrip (backFrame port s)) s)

/-- TIME_SET_REPEAT (R249). -/
def execTimeSetRepeat (port : Fin 24) (s : State) : Host.Outcome State Fault Refusal :=
  .next (whenDo (ohlOn s) (fun s => timeSetAgain port s) s)

/-- ATTACH_COMPLETE (R249). -/
def execAttachComplete (port : Fin 24) (s : State) : Host.Outcome State Fault Refusal :=
  .next (whenDo (ohlOn s) (fun s => attachDone port s) s)

/-- DETACH (R251, R263). -/
def execDetach (port : Fin 24) (s : State) : Host.Outcome State Fault Refusal :=
  .next (whenDo (ohlOn s) (fun s =>
    detachPort port .empty (modPort port (fun p => { p with det := false }) (donesFirst port s))) s)

/-- SLOT_SEND (R252). -/
def execSlotSend (port : Fin 24) (s : State) : Host.Outcome State Fault Refusal :=
  .next (whenDo (ohlOn s) (fun s => sendSlot port s) s)

/-- TRIM_FRAME_SEND (R253). -/
def execTrimFrameSend (port : Fin 24) (s : State) : Host.Outcome State Fault Refusal :=
  .next (whenDo (ohlOn s) (fun s => sendTrim port s) s)

/-- ACK_FRAME (R254). -/
def execAckFrame (port : Fin 24) (fseq : BitVec 16) (s : State) : Host.Outcome State Fault Refusal :=
  .next (whenDo (ohlOn s) (fun s => ackReceived port fseq.toNat (backFrame port s)) s)

/-- NAK_FRAME (R257). -/
def execNakFrame (port : Fin 24) (fseq : BitVec 16) (s : State) : Host.Outcome State Fault Refusal :=
  .next (whenDo (ohlOn s) (fun s => nakReceived port fseq.toNat (backFrame port s)) s)

/-- RESEND_TIMEOUT (R257). -/
def execResendTimeout (port : Fin 24) (s : State) : Host.Outcome State Fault Refusal :=
  .next (whenDo (ohlOn s) (fun s => resendTimedOut port s) s)

/-- DONE_FRAME (R254). -/
def execDoneFrame (port : Fin 24) (slot : BitVec 32) (late : BitVec 16) (s : State) : Host.Outcome State Fault Refusal :=
  .next (whenDo (ohlOn s) (fun s =>
    doneReceived port slot.toNat late.toNat (backFrame port s)) s)

/-- GROUP_ACK_OVERDUE (R256). -/
def execGroupAckOverdue (port : Fin 24) (s : State) : Host.Outcome State Fault Refusal :=
  .next (whenDo (ohlOn s) (fun s => groupOverdue port s) s)

/-- TORN_FRAME (R259). -/
def execTornFrame (port : Fin 24) (slot : BitVec 32) (reason : Byte) (s : State) : Host.Outcome State Fault Refusal :=
  .next (whenDo (ohlOn s) (fun s => tornReceived port slot.toNat reason.toNat (backFrame port s)) s)

/-- STATUS_READY (R259). -/
def execStatusReady (port : Fin 24) (value : BitVec 32) (s : State) : Host.Outcome State Fault Refusal :=
  .next (whenDo (ohlOn s) (fun s => readyReceived port value.toNat (backFrame port s)) s)

/-- TELEMETRY_FRAME (R261). -/
def execTelemetryFrame (port : Fin 24) (t : Telemetry) (s : State) : Host.Outcome State Fault Refusal :=
  .next (whenDo (ohlOn s) (fun s => telemetryReceived port t s) s)

/-- TELEMETRY_TIMEOUT (R261). -/
def execTelemetryTimeout (port : Fin 24) (s : State) : Host.Outcome State Fault Refusal :=
  .next (whenDo (ohlOn s) (fun s => telemetryGone port s) s)

/-- SUPPLY_FAULT_TIMEOUT (R250). -/
def execSupplyFaultTimeout (port : Fin 24) (s : State) : Host.Outcome State Fault Refusal :=
  .next (whenDo (ohlOn s) (fun s => supplyTimedOut port s) s)

/-- LANE_LOCK_LOST (R258). -/
def execLaneLockLost (port : Fin 24) (s : State) : Host.Outcome State Fault Refusal :=
  .next (whenDo (ohlOn s) (fun s => enterRetrain port s) s)

/-- BACKCHANNEL_SILENCE (R258). -/
def execBackchannelSilence (port : Fin 24) (s : State) : Host.Outcome State Fault Refusal :=
  .next (whenDo (ohlOn s) (fun s => enterRetrain port s) s)

/-- RETRAIN_ATTEMPT_END (R258). -/
def execRetrainAttemptEnd (port : Fin 24) (ok : Bool) (s : State) : Host.Outcome State Fault Refusal :=
  .next (whenDo (ohlOn s) (fun s => retrainEnd port ok s) s)

/-- STATUS_SELFTEST_DONE (R262). -/
def execStatusSelftestDone (port : Fin 24) (fails : BitVec 16) (s : State) : Host.Outcome State Fault Refusal :=
  .next (whenDo (ohlOn s) (fun s => selftestDone port fails.toNat (backFrame port s)) s)

end Sys2Proof.Machine
end

