-- ==== Sys2Proof/Machine/Security.lean ====
section
/-! DEFINITION. Machine/Security.lean: proposals, consents, keys, the debug lock (R429 to R441) and the JTAG port (R437,
R451). The object server calls these for guarded objects and for CONSENT_MESSAGE. -/

namespace Sys2Proof.Machine

/-- Update the security unit. -/
def modSec (f : Sec → Sec) (s : State) : State := { s with sec := f s.sec }

/-- R432, R433: the party of a path. -/
def partyOf : Path → Nat
  | .mailbox => 1
  | .window => 2

/-- The object of a party's consent key. -/
def keyObject (party : Nat) : Nat := if party = 1 then OD.CONSENT_KEY_LINE else OD.CONSENT_KEY_HOST

/-- A party's consent key in effect. -/
def consentKey (party : Nat) (s : State) : Option Nat := if party = 1 then s.sec.keyLine else s.sec.keyHost

/-- The key that a party's messages are checked with while a proposal is open: its key, and for a change of a consent key the one in
effect when the proposal opened (R436). -/
def proposalKey (party : Nat) (s : State) : Option Nat :=
  if s.sec.target = OD.CONSENT_KEY_LINE ∨ s.sec.target = OD.CONSENT_KEY_HOST then (if party = 1 then s.sec.propLine else s.sec.propHost)
  else consentKey party s

/-- R439: a closed proposal shows as none. -/
def dropProposal (s : State) : State :=
  modSec (fun x => { x with
    isOpen := false, target := 0, value := [], party := 0, challenge := 0, deadline := 0, tagFails := 0, consents := 0
    propLine := none, propHost := none }) s

/-- R434: the proposal closes with a cause of its own. -/
def closeProposal (cause : Nat) (s : State) : State :=
  raise EV.SEC_CONSENT_REFUSED (256 * cause) ((dropProposal s).setO OD.LAST_CAUSE cause)

/-- R432: a guarded write that passes opens a proposal, replacing an open one. -/
def openProposal (key : Nat) (value : List Byte) (party : Nat) (s : State) : State :=
  let s := if s.sec.isOpen then closeProposal 0x0A s else s
  let s := s.bump OD.PROPOSAL_ID
  let challenge := drawFree s % 2 ^ 64
  let s := modSec (fun x => { x with
    isOpen := true, target := key, value := value, party := party, challenge := challenge
    deadline := s.loc + 10 * ticksSec, tagFails := 0, consents := 0, propLine := x.keyLine, propHost := x.keyHost })
    (freeDrawn s)
  raise EV.SEC_PROPOSAL (s.o OD.PROPOSAL_ID) s

/-- R432: the digest of the proposed value. -/
def proposalDigest (s : State) : List Byte := if s.sec.isOpen then (sha256 s.sec.value).take 16 else []

/-- R439: PROPOSAL_REMAINING in ms, a part of a millisecond counted as one. -/
def proposalRemaining (s : State) : Nat :=
  if s.sec.isOpen then satTo 65535 ((s.sec.deadline - s.loc + ticksMs - 1) / ticksMs) else 0

/-- R439: PROPOSAL_TARGET. -/
def proposalTarget (s : State) : Nat := if s.sec.isOpen then s.sec.target * 256 + s.sec.party else 0

/-- R433: the string M of a party's consent. -/
def consentString (party counter : Nat) (s : State) : List Byte :=
  [0x52#8, 0x5A#8, 0x43#8, 0x53#8, BitVec.ofNat 8 party, 0#8, 0#8, 0#8] ++ leBytes 4 (s.o OD.PROPOSAL_ID) ++
    leBytes 2 (s.sec.target / 256) ++ leBytes 1 (s.sec.target % 256) ++ leBytes 1 s.sec.value.length ++
    leBytes 8 counter ++ leBytes 8 s.sec.challenge ++ leBytes 8 Config.serialNumber.toNat ++ proposalDigest s

/-- R433: the tag of a party's consent under its key. -/
def consentTag (party counter key : Nat) (s : State) : List Byte :=
  (hmacSha256 (beBytes 16 key) (consentString party counter s)).take 16

/-- R434: the cause that refuses a consent message, the journal's apart; 0 = none. -/
def consentCause (party : Nat) (msg : List Byte) (s : State) : Nat :=
  let id := leNum (msg.take 4)
  let counter := leNum ((msg.drop 8).take 8)
  if ¬ s.sec.isOpen ∨ s.sec.deadline ≤ s.loc ∨ id ≠ s.o OD.PROPOSAL_ID then 1
  else if bit s.sec.consents (party - 1) then 2
  else match proposalKey party s with
    | none => 3
    | some key =>
      if counter ≠ s.o (counterKey party) + 1 then 4
      else if (msg.drop 16).take 16 ≠ consentTag party counter key s then 5
      else if ¬ journalRoom (.consent party counter) s then 6
      else 0

/-- R434: a consent message is refused; a third TAG failure closes the proposal. -/
def refuseConsent (cause party : Nat) (s : State) : State :=
  let s := (s.setO OD.LAST_CAUSE cause).bump OD.REFUSALS
  let s := openRecord (.objects false [(OD.REFUSALS, s.o OD.REFUSALS)]) .nothing s
  let s := raise EV.SEC_CONSENT_REFUSED (256 * cause + party) s
  if cause = 5 then
    let s := modSec (fun x => { x with tagFails := x.tagFails + 1 }) s
    if 3 ≤ s.sec.tagFails then dropProposal s else s
  else s

/-- R434: a consent that passes: its CONSENTS bit is set, and its record waits to be committed. -/
def takeConsent (party : Nat) (msg : List Byte) (s : State) : State :=
  openRecord (.consent party (leNum ((msg.drop 8).take 8))) (.consented party)
    (modSec (fun x => { x with consents := setBit x.consents (party - 1) true }) s)

/-- R437: DCHK_ENABLE takes a value (R33). -/
def setDchk (b : Bool) (s : State) : State :=
  if s.ob OD.DCHK_ENABLE = b then s
  else
    let s := s.setB OD.DCHK_ENABLE b
    raiseX EV.DETERMINISM_OFF (b2n b) (b2n b) s.web.hwl 0 { s with dev := { s.dev with offFired := false } }

/-- R437: the debug lock. -/
def setUnlocked (b : Bool) (s : State) : State :=
  let s := modSec (fun x => { x with unlocked := b }) s
  if b then raise EV.SEC_DEBUG_UNLOCKED 0 (setDchk false s) else s

/-- R436: a consent key is set to the key that `wrapped` holds under `kek`; none where its integrity check fails. -/
def setConsentKey (party kek : Nat) (wrapped : List Byte) (s : State) : Option State :=
  match keyUnwrap (beBytes 16 kek) wrapped with
  | none => none
  | some key => some (modSec (fun x =>
      if party = 1 then { x with keyLine := some (beNum key), wrappedLine := beNum wrapped }
      else { x with keyHost := some (beNum key), wrappedHost := beNum wrapped }) s)

/-- R436: first provisioning: a party's own unset key, written through its own path. -/
def firstProvisioning (key party : Nat) (s : State) : Bool := key == keyObject party && (consentKey party s).isNone

/-- R436: first provisioning applies at once, under the all-zero key: the abort code and the state after it. -/
def provision (party : Nat) (value : List Byte) (s : State) : Nat × State :=
  match setConsentKey party 0 value s with
  | some s' => (AB.ok, s')
  | none => (AB.store, s)

/-- R435: the proposal has been applied. -/
def proposalApplied (s : State) : State :=
  raise EV.SEC_CONSENT_APPLIED (s.o OD.PROPOSAL_ID) (dropProposal s)

/-- PROPOSAL_EXPIRY (R432): the window ends without both consents. -/
def execProposalExpiry (s : State) : Host.Outcome State Fault Refusal :=
  .next (if s.sec.isOpen ∧ s.sec.consents ≠ 3 then closeProposal 0x09 s else s)

/-- R430: a key that a firmware key slot accepts. -/
def fwKeyOk (v : List Byte) : Bool :=
  beNum v == 0 || onCurve (beNum (v.take 32)) (beNum (v.drop 32))

/-! ### JTAG -/

/-- R451: the IDCODE. -/
def jtagIdcode : Nat :=
  Config.siliconRevision.toNat % 16 * 2 ^ 28 + 0x2440 * 2 ^ 12 + 0xC9D

/-- Data last shifted out of the port. -/
def jtagShift (n : Nat) (s : State) : State := { s with pins := { s.pins with jtagOut := n } }

/-- IDCODE (R437, R451). -/
def execIdcode (s : State) : Host.Outcome State Fault Refusal := .next (jtagShift jtagIdcode s)

/-- BYPASS (R437): the bypass register, one bit that captures 0. -/
def execBypass (s : State) : Host.Outcome State Fault Refusal := .next (jtagShift 0 s)

/-- SAMPLE (R437): the pin levels are captured. -/
def execSample (pins : List Bool) (s : State) : Host.Outcome State Fault Refusal :=
  .next { s with pins := { s.pins with jtagSampled := pins } }

/-- DEBUG_INSTRUCTION (R437): any other instruction acts as BYPASS while the port is locked; what one does while it is
unlocked is not in the manual. -/
def execDebugInstruction (_code : Nat) (s : State) : Host.Outcome State Fault Refusal :=
  if s.sec.unlocked then .refused .debugUnitNotDescribed else .next (jtagShift 0 s)

end Sys2Proof.Machine
end

