-- ==== Sys2Proof/Machine/Reset.lean ====
section
/-! DEFINITION. Machine/Reset.lean: the reset kinds (R409 to R414), HOT (R82, R112), SUB (R410), failures of clocks and rails
(R408, R423), and entry to SLEEP (R414, R420). -/

namespace Sys2Proof.Machine

/-! ### The ledgers that the area objects configure (R36) -/

/-- R129: blocks of the Galley area. -/
def galleyTotal (s : State) : Nat := s.o OD.GAL_AREA_SIZE / 65536

/-- R289: frame buffers of the proof area; an area of 0 has none. -/
def frameTotal (s : State) : Nat := if s.o OD.PRF_AREA_SIZE = 0 then 0 else s.o OD.FRAME_BUFFERS

/-- R110: slots of rings 97 to 105. -/
def slotTotal (s : State) : Nat := ((List.range 9).map fun i => egressSlots (97 + i) s).foldl (· + ·) 0

/-- R40: the configured ledgers restart with their totals free. -/
def configLedgers (s : State) : State :=
  startLedger 6 (slotTotal s) (startLedger 5 (frameTotal s) (startLedger 1 (galleyTotal s) s))

/-! ### Retention (R414) -/

/-- Drop the stored values of the keys that meet `p`: they read their defaults. -/
def dropObjects (p : Nat → Bool) (s : State) : State :=
  { s with od := s.od.filter fun kv => !p kv.1, dom := s.dom.filter fun kv => !p (kv.1 / 2 ^ 24) }

/-- R409: objects of the always-on domain and of the DDR training state, which NET and SOFT do not reach. -/
def keptAtShort (key : Nat) : Bool :=
  key / 256 == 0x2100 || key / 256 == 0x2200 ||
    [OD.INSTALLED_SIZE, OD.DENSITY, OD.RANKS, OD.MR_VENDOR, OD.TRAINING_RESULT, OD.TRAINING_TIME].contains key

/-- R414: an object keeps its value at a reset of a kind that runs a start: 0 POR, 1 PIN, 2 WDG, 3 NET, 4 SOFT. -/
def keptAtReset (kind key : Nat) : Bool :=
  match clsOf key with
  | .k => kind != 0
  | .w => 3 ≤ kind
  | .v => 3 ≤ kind && keptAtShort key
  | .j => false

/-- R26, R285: camera settings, whose live set a reset returns to the defaults. -/
def cameraSet (key : Nat) : Bool :=
  decide (0x4000 ≤ key / 256 ∧ key / 256 ≤ 0x4003) && decide (0x10 ≤ key % 256 ∧ key % 256 ≤ 0x18)

/-- The live sets take their shadow sets, the camera settings apart. -/
def loadLive (s : State) : State := s.handOver fun k => !cameraSet k

/-- Drop a block's live set. -/
def dropLive (p : Nat → Bool) (s : State) : State :=
  { s with live := s.live.filter fun kv => !p kv.1, liveDom := s.liveDom.filter fun kv => !p (kv.1 / 2 ^ 24) }

/-! ### HOT (R82, R112, R409) -/

/-- R84: the function's configuration space at reset. -/
def dropConfig (p : Pcie) : Pcie :=
  { p with
    command := 0, bars := Vector.replicate 6 0, devCtl := Pcie.reset.devCtl, devCtl2 := 0, aer := 0, msixCtl := 0
    linkCtl := 0, l1Ctl := 0, d3hot := false }

/-- R82: the window registers and the MSI-X table are cleared. -/
def dropWindow (p : Pcie) : Pcie :=
  { p with
    msixTable := [], msixPending := [], winAddr := 0, winLength := 0, winOffset := 0, winBusy := false
    winWrite := false, winLost := false
    winDone := false, winCollision := false, winStatus := 0, winBuf := [], winResult := none }

/-- R82, R112: a HOT reset; `cfg` says that it reaches the configuration space, and that
of the link only one that is up has trained since (R420). A request that the object server has begun
completes; a segmented write over the window is aborted. -/
def hotReset (cfg : Bool) (s : State) : State :=
  let s := hotResetRings s
  let s := if cfg then { s with pcie := { s.pcie with trained := s.pcie.linkUp } } else s
  let served := s.pcie.winBusy && s.pcie.winResult.isNone && s.srv.waiting.all fun r => r.2.path != .window
  let p := dropWindow (if cfg then dropConfig s.pcie else s.pcie)
  let s := { s with
    pcie := { p with winLost := s.pcie.winLost || served }
    srv := { s.srv with
      waiting := s.srv.waiting.filter fun r => r.2.path != .window
      segs := s.srv.segs.filter fun g => g.path != .window } }
  checkLedgers 2 (s.web.hwl / 64) s

/-- R410, R411: the SUB reset of subsystem `n` ends: it is initialised. -/
def subEnds (n : Nat) (s : State) : State :=
  if n = 11 then driveHold { s with plat := { s.plat with initDone := true } }
  else if n = 16 then startCams s else if n = 19 then startPanel s else s

/-- R412: a HOT reset abandons the SUB resets in progress: they end with no event (log entry 202). -/
def abandonSubs (s : State) : State :=
  let s := eachDo s.boot.subBusy subEnds s
  { s with boot := { s.boot with subBusy := [] } }

/-- R424: a reset during an entry or exit: the device comes out of it in READY. An exit from SLEEP trains the DRAM first, and runs to its
end. -/
def resetPower (s : State) : State :=
  if s.pwr.state = 4 ∨ ¬ (s.pwr.exiting ∨ s.pwr.entering.isSome) then s
  else
    let s := exitSelfRefresh [] s
    let s := if s.pwr.state = 3 then startPanel s else s
    setPower 1 { s with pwr := { s.pwr with exiting := false, entering := none } }

/-- R412, R424: a HOT reset as it comes: absorbed into a start; it abandons SUB resets, and ends an entry or exit. BAR accesses that
wait are lost with the function. -/
def takeHot (s : State) : State :=
  if s.boot.phase = .starting then s
  else
    let s := hotReset true s
    resetPower (abandonSubs { s with pwr := { s.pwr with held := [] } })

/-- R84, R412: a hot reset or an FLR, with its event; absorbed into a start it raises none. -/
def hotAsserted (flr : Bool) (s : State) : State :=
  if s.boot.phase = .starting then s else raise EV.PCIE_HOT_RESET (b2n flr) (takeHot s)

/-- HOT_RESET (R84, R112, R412): a hot reset or an FLR. -/
def execHotReset (flr : Bool) (s : State) : Host.Outcome State Fault Refusal := .next (hotAsserted flr s)

/-- R406, R481: the link is lost: PCIE_LINK_DOWN, Detect, and the HOT reset of a surprise down (R409). -/
def pcieLost (s : State) : State :=
  let was := s.pcie.linkUp
  let s := { s with
    pcie := { s.pcie with linkUp := false, width := 0, speed := 0, l23 := false }
    clk := { s.clk with sris := s.ob OD.PCIE_CLOCK_MODE } }
  takeHot (if was then raise EV.PCIE_LINK_DOWN 0 s else s)

/-- PCIE_LINK_DOWN (R409, R481). -/
def execPcieLinkDown (s : State) : Host.Outcome State Fault Refusal := .next (pcieLost s)

/-- PERST_N_EDGE (R419, R421): an edge is a demand wake in SLEEP; a low level acts as a HOT reset, with the link down. -/
def execPerstNEdge (level : Bool) (s : State) : Host.Outcome State Fault Refusal :=
  .next (
    let s := if s.pwr.state = 4 then demandWake s else s
    let s := { s with pcie := { s.pcie with perst := level } }
    if level then s else pcieLost s)

/-! ### Resets that run a start (R409 to R413) -/

/-- R412: how wide a kind reaches, NET and SOFT alike. -/
def reachOf (kind : Nat) : Nat := min kind 3

/-- The endpoint after a reset: a link and a configuration space are kept at NET and SOFT only. -/
def pcieAfter (kind : Nat) (p : Pcie) : Pcie :=
  if 3 ≤ kind then dropWindow p
  else { Pcie.reset with perst := p.perst, msixSent := p.msixSent, hostAccess := p.hostAccess }

/-- The slave controller after a reset: the ESC and its link are kept at NET and SOFT only (R75, R409). -/
def netAfter (kind : Nat) (n : Net) : Net :=
  if 3 ≤ kind then { Net.reset with
    station := n.station, stationAlias := n.stationAlias, forwarding := n.forwarding, linkUp := n.linkUp, watchdog := n.watchdog
    sync0Cycle := n.sync0Cycle, sync0Loc := n.sync0Loc, sysTime := n.sysTime, sysLoc := n.sysLoc }
  else Net.reset

/-- The DRAM after a reset: training state and contents are kept at NET and SOFT (R409); class V of its registers is not (R362). -/
def ddrAfter (kind : Nat) (d : Ddr) : Ddr :=
  if 3 ≤ kind then { d with
    channels := d.channels.map fun c => { c with
      state := if c.state = 3 then 2 else c.state
      banks := c.banks.map fun b => { b with queue := [], debt := 0 }, inFlight := [], rateCode := 0 }
    waiting := [], written := []
    returned := none, state := if d.state = 3 then 2 else d.state }
  else Ddr.reset

/-- R424: at NET and SOFT a device in a lower state, or on its way to or from one, comes out in READY. -/
def stateAfter (p : Pwr) : Nat := if 2 ≤ p.state ∨ p.exiting ∨ p.entering.isSome then 1 else p.state

/-- The power manager after a reset: always on at NET and SOFT, which its residencies outlast (R425). -/
def pwrAfter (kind loc : Nat) (p : Pwr) : Pwr :=
  if 3 ≤ kind then { p with
    state := stateAfter p
    since := if stateAfter p = p.state then p.since else loc
    resid := if stateAfter p = p.state then p.resid else vmodN p.resid p.state fun n => n + (loc - p.since)
    exiting := false, entering := none, resetWaiting := [], held := [], restartWaiting := false }
  else { Pwr.reset with since := loc }

/-- The clocks after a reset: FALLBACK is class K, and the rest class V (R414, R427). NET and SOFT keep them; where they bring the DRAM out
of self-refresh, its PLL locks again (R406). -/
def clkAfter (kind : Nat) (selfRefresh : Bool) (c : Clk) : Clk :=
  if 3 ≤ kind then { c with ddrLock := c.ddrLock || selfRefresh }
  else { c with
    rootLock := false, ddrLock := false, sris := false, bypass := false, pcieRefOk := false
    fallback := kind != 0 && c.fallback }

/-- The journal after a reset: records without their COMMIT word stay in the flash until the replay finds them. -/
def tympAfter (t : Tymp) : Tymp := { t with state := 0, blocked := false, stalled := [], fullRaised := false }

/-- R437, R438: the security unit after a reset: the key store, nothing open, the port locked. -/
def secAfter (x : Sec) : Sec :=
  { Sec.reset with
    fwKeys := x.fwKeys, keyLine := x.keyLine, keyHost := x.keyHost, wrappedLine := x.wrappedLine
    wrappedHost := x.wrappedHost }

/-- R324, R410, R414: TIME after a reset that reaches it: the capture pins keep their levels, and the class K snapshot of LOC its
value. -/
def keptTime (t : Time) : Time := { Time.reset with level := t.level, snapLocHi := t.snapLocHi }

/-- R409, R411, R413, R414: a reset of a kind that runs a start, with its detail. Everything that it reaches is at its
reset values, and the start waits. A change of the power state is reported (R428). -/
def resetTo (kind detail : Nat) (s : State) : State :=
  let objs := dropObjects (fun k => !keptAtReset kind k) s
  let loc := if kind = 0 then 0 else s.loc
  let t : State := { State.reset with
    pending := s.pending, loc := loc, freeCtr := s.freeCtr, od := objs.od, dom := objs.dom
    net := netAfter kind s.net, pcie := pcieAfter kind s.pcie, ddr := ddrAfter kind s.ddr
    pwr := pwrAfter kind loc s.pwr, clk := clkAfter kind (s.ddr.state == 3) s.clk, tymp := tympAfter s.tymp, sec := secAfter s.sec
    boot := { Boot.reset with
      slots := s.boot.slots, running := s.boot.running, testMode := kind != 0 && s.boot.testMode
      mirrorFails := if kind = 0 then 0 else s.boot.mirrorFails
      mirrorCause := if kind = 0 then 0 else s.boot.mirrorCause }
    web := { Web.reset with ab := s.web.ab }
    time := { keptTime s.time with
      snapLocHi := if kind = 0 then 0 else s.time.snapLocHi }
    pins := { s.pins with holdN := false, quoinN := s.pins.quoinN || s.pace.quoinHeld } }
  let t := configLedgers ((t.setO OD.RESET_KIND kind).setO OD.RESET_DETAIL detail)
  if kind < 3 ∨ stateAfter s.pwr = s.pwr.state then t
  else raise EV.PWR_STATE_CHANGE (256 * s.pwr.state + stateAfter s.pwr) t

/-- R412: a reset; one narrower than that of the start in progress is absorbed into it. -/
def doReset (kind detail : Nat) (s : State) : State :=
  if s.boot.phase = .starting ∧ reachOf (s.o OD.RESET_KIND) < reachOf kind then s else resetTo kind detail s

/-- POWER_ON_RESET (R409). -/
def execPowerOnReset (s : State) : Host.Outcome State Fault Refusal := .next (doReset 0 0 s)

/-- PIN_RESET (R409). -/
def execPinReset (s : State) : Host.Outcome State Fault Refusal := .next (doReset 1 0 s)

/-- WDG_RESET (R409, R413): a reset of kind WDG, with the detail code of its trigger. -/
def execWdgReset (detail : Byte) (s : State) : Host.Outcome State Fault Refusal := .next (doReset 2 detail.toNat s)

/-- CPU_WATCHDOG_WARN (R481): a control core has been unresponsive for 500 ms. -/
def execCpuWatchdogWarn (core : Fin 3) (s : State) : Host.Outcome State Fault Refusal :=
  .next (raise EV.CPU_WATCHDOG_WARN core s)

/-- CPU_FIRMWARE_FAULT (R480, R481): the firmware detects an internal error; its ERROR record is completed, and a WDG reset follows. -/
def execCpuFirmwareFault (core : Fin 3) (code : Byte) (s : State) : Host.Outcome State Fault Refusal :=
  .next (doReset 2 1 <| completeOpen (raise EV.CPU_FIRMWARE_FAULT (256 * code.toNat + core) s))

/-- R408: a clock failure is counted. -/
def clockFailure (s : State) : State := s.bump OD.CLOCK_FAILURES

/-- CRYSTAL_LOSS (R408): LOC counts on from the fallback oscillator, and a WDG reset follows. -/
def execCrystalLoss (rootUnlock : Bool) (s : State) : Host.Outcome State Fault Refusal :=
  .next (
    let s := clockFailure { s with clk := { s.clk with fallback := true, rootLock := false } }
    doReset 2 (if rootUnlock then 5 else 4) s)

/-- DDR_PLL_UNLOCK (R408): outside STANDBY and SLEEP, a WDG reset. -/
def execDdrPllUnlock (s : State) : Host.Outcome State Fault Refusal :=
  .next (
    let s := { s with clk := { s.clk with ddrLock := false } }
    if 3 ≤ s.pwr.state then s else doReset 2 6 (clockFailure s))

/-- CLK_PCIE_REF_LOST (R408): the link goes down, and a HOT reset follows. -/
def execClkPcieRefLost (s : State) : Host.Outcome State Fault Refusal :=
  .next (
    let s := clockFailure { s with clk := { s.clk with pcieRefOk := false } }
    pcieLost (raise EV.CLK_PCIE_REF_LOST 0 s))

/-- CLK_PCIE_REF_RESTORED (R408). -/
def execClkPcieRefRestored (s : State) : Host.Outcome State Fault Refusal :=
  .next (raise EV.CLK_PCIE_REF_RESTORED 0 { s with clk := { s.clk with pcieRefOk := true } })

/-- BROWNOUT_RESET (R423): the reset of a rail, counted after it. -/
def execBrownoutReset (rail : Fin 8) (s : State) : Host.Outcome State Fault Refusal :=
  .next (State.bump OD.BROWNOUTS (
    if rail.val ≤ 1 then doReset 0 0 s
    else if rail.val ≤ 3 then doReset 2 7 s
    else if rail.val ≤ 5 then doReset 2 8 s
    else pcieLost s))

/-! ### SUB (R410) -/

/-- The records that await the host in the slots of rings 97 to 105 are gone. -/
def dropRecords (s : State) : State :=
  let s := freeHolder 6 2 s
  { s with egress := s.egress.mapIdx fun i e => if i = 0 then e else { e with awaiting := [], nextSlot := 0, stalled := false } }

/-- R410: DUCT: its rings stop as at a HOT reset, and the records and egress slots it held are free. -/
def resetDuct (s : State) : State := dropRecords (hotResetRings s)

/-- Every Galley stream ends, and its blocks are free. -/
def dropStreams (s : State) : State :=
  let s := eachDo [1, 2, 3, 4] (fun a s => freeHolder 1 a s) s
  { s with gal := Gal.reset }

/-- Lines on their way from GAL to the lanes are dropped, and their tokens are free. -/
def dropInputs (s : State) : State :=
  let s := freeHolder 3 1 s
  { s with comp := { s.comp with lanes := s.comp.lanes.map fun l => { l with input := [] } } }

/-- R410: GAL. -/
def resetGal (s : State) : State := dropInputs (dropStreams s)

/-- R410, R138: IMP: every context returns to EMPTY, with its streams and blocks. The engines' status is GAL's and stays (R135,
R414). -/
def resetImp (s : State) : State :=
  let engines := s.gal.engines
  let s := dropInputs (dropStreams s)
  startLedger 2 256 { s with
    formes := Vector.replicate 256 Forme.reset, gal := { s.gal with engines := engines }
    comp := { s.comp with lanes := s.comp.lanes.map fun l => { l with skips := [] } } }

/-- R410: COMP: pending items that have not folded are discarded; the folded table is class J. A write of the nozzle table that waits for
its pages ends, refused as any write to a subsystem in reset (R63, R78; DESIGN CHOICE, log entry 221). -/
def resetComp (s : State) : State :=
  let waiter := s.comp.load.bind (·.path)
  let s := freeHolder 3 2 (freeHolder 3 1 s)
  let s := { s with comp := { Comp.reset with table := s.comp.table } }
  match waiter with
  | some p => answerTo p (.abort AB.store) s
  | none => s

/-- The slots of rings 97 to 105 that producers hold are given back. -/
def dropReserved (s : State) : State :=
  let s := freeHolder 6 1 s
  { s with egress := s.egress.map fun e => { e with reserved := 0 } }

/-- R410: PLAT: the sequencers and the hold return to reset, with the line above the high-water line next; HOLD_N is low until the reset is done (R411). A HOLD_REQUEST that
stands is taken again (R225), and records owed to ring 105 stay owed (R174). -/
def resetPlat (s : State) : State :=
  let s := dropReserved (freeHolder 3 3 s)
  { s with
    plat := { Plat.reset with
      heads := Vector.replicate 24 { Seqr.reset with nextSlot := s.web.hwl + 1 }
      coolOwed := s.plat.coolOwed, taken := if holdRequest s then [⟨causeRequest, 0xFF, s.loc + 1⟩] else [] }
    web := { s.web with frozen := false }, pins := { s.pins with holdN := false }
    ports := s.ports.map fun p => { p with lastSerial := none, linkCause := false } }

/-- R410: OHL: every link is down, and its credits are free; an enabled port is EMPTY. -/
def resetOhl (s : State) : State :=
  let s := freeHolder 3 3 (freeHolder 3 4 s)
  let s := startLedger 4 192 s
  let clear := fun q : Seqr => { q with unacked := [], refire := [], tornSlot := none }
  let fresh := fun (h : Nat) (p : Port) => { Port.reset with
    lastSerial := p.lastSerial, state := if s.ob (OD.OHL_PORT_ENABLE h) then PortState.empty else .disabled }
  { s with plat := { s.plat with heads := s.plat.heads.map clear }, ports := s.ports.mapIdx fresh }

/-- R202, R410: WEB. The levels of its pins stay. The source in effect is that of PACE_ROLE and WEB_SOURCE at once, with no
WEB_SOURCE_SWITCH, as at a start and at an exit from SLEEP: R181 gives none of the three (DESIGN CHOICE, log entry 212). -/
def resetWeb (s : State) : State := { s with web := { Web.reset with ab := s.web.ab, source := sourceWanted s } }

/-- R410: TIME; LOC runs on, and the capture pins keep their levels. -/
def resetTime (s : State) : State := { s with time := keptTime s.time }

/-- R285: CAM. Buffers in PRF processing are left to PRF. -/
def resetCam (s : State) : State :=
  let s := dropLive cameraSet (freeHolder 5 1 s)
  let s := eachDo (List.range 4) (fun p s =>
    ((((s.setO (OD.FSN p) 0).setO (OD.TARGET_FSN p) 0).setB (OD.CAM_COMMIT_PENDING p) false).setO (OD.LIVE_ID p) 0)) s
  { s with cams := s.cams.map fun c => { Cam.reset with toPrf := c.toPrf } }

/-- R466, R471: DISP: pushes are discarded. The push ends, and what waited for its end completes: a ring's descriptor and an object's
write. -/
def resetDisp (s : State) : State :=
  let waiting := s.disp.landing
  let s := { s with disp := Disp.reset }
  eachDo waiting (fun l s => match l.ring with
    | some r => completeDesc r s
    | none => match l.path with
      | some p => answerTo p (.done []) s
      | none => s) s

/-- R410: what a SUB reset leaves of subsystem `n`'s own state; what its units hold goes back to the free holders (R40). -/
def resetUnit (n : Nat) (s : State) : State :=
  match n with
  | 6 => resetDuct s
  | 8 => resetGal s
  | 9 => resetImp s
  | 10 => resetComp s
  | 11 => resetPlat s
  | 12 => resetOhl s
  | 13 => resetWeb s
  | 14 => resetTime s
  | 15 => paceReset (releaseQuoin s)
  | 16 => resetCam s
  | 17 => prfClear s
  | 18 => motReset s
  | 19 => resetDisp s
  | _ => s

/-- R410: the live sets of a subsystem are loaded from its class W objects again. -/
def reloadUnit (n : Nat) (s : State) : State := s.handOver fun k => ownerOf k == n && !cameraSet k

/-- R410, R414: a SUB reset: class V of the subsystem takes its defaults. -/
def subReset (n : Nat) (s : State) : State :=
  let s := resetUnit n s
  let s := dropObjects (fun k => ownerOf k == n && clsOf k == .v) s
  let s := if n = 18 then motReset s else s
  reloadUnit n { s with boot := { s.boot with subBusy := s.boot.subBusy.erase n ++ [n] } }

/-- R410: the numbers that SUB_RESET accepts, and those refused while a forme is ARMED or PRINTING. -/
def subNumber (n : Nat) : Bool := [6, 8, 9, 10, 11, 12, 13, 14, 15, 16, 17, 18, 19].contains n
def subHeld (n : Nat) : Bool := [8, 9, 10, 11, 12, 13, 15].contains n

/-- R424: the device is in a state whose exit a SOFT or SUB command waits for. -/
def resetMustWait (s : State) : Bool := decide (2 ≤ s.pwr.state)

/-- R410: the state refuses a SUB reset. -/
def subRefused (n : Nat) (s : State) : Bool := subHeld n && formesBusy s

/-- SUB_RESET (R410, R424): the abort code and the state. One that comes in an entry to DOZE or STANDBY acts at once, and the device comes
out in READY. -/
def subResetCommand (n : Nat) (s : State) : Nat × State :=
  if ¬ subNumber n then (AB.range, s)
  else if subRefused n s then (AB.state, s)
  else if resetMustWait s then (AB.ok, modPwr (fun p => { p with resetWaiting := p.resetWaiting ++ [(1, n)] }) (demandWake s))
  else (AB.ok, subReset n (resetPower s))

/-- PWR_SUB_RESET_DONE (R38, R410, R411, R428): the subsystem is initialised, and the ledgers are checked at this exit. Of several SUB
resets the oldest ends first. -/
def execPwrSubResetDone (s : State) : Host.Outcome State Fault Refusal :=
  .next (match s.boot.subBusy with
    | [] => s
    | n :: rest =>
      let s := subEnds n { s with boot := { s.boot with subBusy := rest } }
      raise EV.PWR_STATE_CHANGE (0xFF00 + n) (checkLedgers 2 (s.web.hwl / 64) s))

/-- RESET_COMMAND (R409, R424, R425): the abort code and the state. -/
def resetCommand (v : Nat) (s : State) : Nat × State :=
  if v ≠ 1 then (AB.range, s)
  else if resetMustWait s then (AB.ok, modPwr (fun p => { p with resetWaiting := p.resetWaiting ++ [(0, 0)] }) (demandWake s))
  else (AB.ok, doReset 4 0 s)

/-! ### SLEEP (R359, R414, R420) -/

/-- R75, R415: the objects of the slave controller, which keeps its power, its state and its process data through SLEEP. -/
def netObject (key : Nat) : Bool := decide (0x1000 ≤ key / 256 ∧ key / 256 ≤ 0x1FFF)

/-- R323, R324, R414: class V of TIME takes its defaults at entry to SLEEP, NET_RATE among them: the fit begins anew with the next
pair (log entry 197). LOC runs on, and so do the pulses (R415). -/
def timeSleep (t : Time) : Time := { keptTime t with pulse := t.pulse }

/-- R414, R420: entry to SLEEP: class V takes its defaults, and every unpowered subsystem is as after a reset. An unpowered
PLAT drives HOLD_N no longer. -/
def sleepEntry (s : State) : State :=
  let s := hotReset true { s with pcie := { s.pcie with linkUp := false, width := 0, speed := 0 }, clk := { s.clk with
    sris := s.ob OD.PCIE_CLOCK_MODE, bypass := false, pcieRefOk := false } }
  let s := dramSleep (webSleep s)
  let s := resetCam (prfClear (resetOhl (resetComp (resetImp (resetGal s)))))
  let s := dropRecords (dropReserved (freeHolder 5 1 (freeHolder 3 3 s)))
  let s := { s with
    disp := Disp.reset, plat := { Plat.reset with initDone := s.plat.initDone, entries := s.plat.entries }
    pins := { s.pins with holdN := s.pins.holdN || s.plat.held }
    time := timeSleep s.time, pwr := { s.pwr with resid := Vector.replicate 5 0, since := s.loc }
    sec := secAfter s.sec, live := [], liveDom := [] }
  paceReset (motReset (dropObjects (fun k => clsOf k == .v && !netObject k) s))

end Sys2Proof.Machine
end

