-- ==== Sys2Proof/Machine/Boot.lean ====
section
/-! DEFINITION. Machine/Boot.lean: the start sequence (R386 to R390), bare-forme mode (R391, R392), boot commands (R394), and
the exit from SLEEP (R421). -/

namespace Sys2Proof.Machine

/-- Update the boot unit. -/
def modBoot (f : Boot → Boot) (s : State) : State := { s with boot := f s.boot }

/-- R396: the BOOT record of the boot state in effect. -/
def bootRecord (s : State) : JPayload := .boot (bootKeys.map fun k => (k, s.o k))

/-- R388: the boot state takes its values from `v`. -/
def bootState (v : Nat → Nat) (s : State) : State := eachDo bootKeys (fun k s => s.setO k (v k)) s

/-- R388: the boot state as the journal holds it. -/
def readBoot (s : State) : State := bootState (kget dfltOf s.tymp.objs) s

/-- R388: the count of failed starts: the larger of the journal's and the mirror's. -/
def failedStarts (s : State) : Nat := max (s.o OD.FAILED_STARTS) s.boot.mirrorFails

/-- R389: a start fails with a cause: the mirror, a BOOT record unless the flash or the journal is at fault, and a WDG
reset. The boot state has been read (R388). -/
def failStart (cause : Nat) (s : State) : State :=
  let s := modBoot (fun b => { b with mirrorCause := cause }) s
  let s := if cause = 4 ∨ cause = 7 then s
    else
      let s := (s.setO (OD.START_CAUSE 2) (s.o (OD.START_CAUSE 1))).setO (OD.START_CAUSE 1) (s.o (OD.START_CAUSE 0))
      let s := s.setO (OD.START_CAUSE 0) cause
      journalNow (bootRecord s) s
  resetTo 2 2 s

/-- R74: the station alias of the journal is loaded into the ESC. -/
def loadAlias (s : State) : State :=
  let a := s.o OD.STATION_ALIAS
  raise EV.NET_ALIAS_LOADED a { s with net := { s.net with stationAlias := a } }

/-- R388, R397: step 6: the journal is replayed; the boot state of steps 2 to 4 stays. A torn tail is compacted away. -/
def replayJournal (torn : Bool) (s : State) : State :=
  let torn := torn || !s.tymp.open_.isEmpty || s.tymp.tailTorn
  let s := bootState s.o (replay (modTymp (fun t => { t with state := 1, open_ := [] }) s))
  if torn then tornTail s else compactionCheck s

/-- R391: the cause of the last failed start: the mirror's, or after a power loss the journal's. -/
def lastCause (s : State) : Nat := if s.boot.mirrorCause ≠ 0 then s.boot.mirrorCause else s.o (OD.START_CAUSE 0)

/-- R388: the count stands in the object and in its mirror. -/
def setFails (n : Nat) (s : State) : State := modBoot (fun b => { b with mirrorFails := n }) (s.setO OD.FAILED_STARTS n)

/-- R38, R391: entry to bare-forme mode, at an exit from reset. -/
def enterBare (readable torn : Bool) (s : State) : State :=
  let n := failedStarts s
  let s := if readable then replayJournal torn s else modTymp (fun t => { t with state := 4 }) s
  let s := setFails n s
  let s := ((s.setO OD.BARE_CAUSE (lastCause s)).bump OD.BARE_ENTRIES).setO OD.UPDATE_SLOT (1 - s.o OD.ACTIVE_SLOT)
  let s := eachDo [OD.BARE_CAUSE, OD.BARE_ENTRIES] (fun k s => journalNow (.objects false [(k, s.o k)]) s) s
  let s := modBoot (fun b => { b with phase := .bare, running := s.o OD.ACTIVE_SLOT }) s
  let s := loadAlias (setPower 1 s)
  checkLedgers 2 (s.web.hwl / 64) (raise EV.BOOT_BARE_FORME (s.o OD.BARE_CAUSE) s)

/-- R388: step 2: the boot state that the chosen pair holds; without one the mirror alone counts. -/
def readPair (pair : Option Nat) (s : State) : State :=
  match pair with
  | some n => readBoot (modTymp (openPair n) s)
  | none => modTymp (fun t => { t with state := 4 }) s

/-- R390, R400: step 3: the count is incremented and written, unless this start has been counted; `torn`: its COMMIT word is not
programmed. -/
def countStart (torn : Bool) (s : State) : State :=
  if s.boot.counted then s
  else
    let s := modBoot (fun b => { b with counted := true }) (setFails (failedStarts s + 1) s)
    if torn then openRecord (bootRecord s) .nothing s else journalNow (bootRecord s) s

/-- R386, R387: step 4: the slots as verification finds them; a short start verifies only the slot that was running. -/
def verifySlots (short : Bool) (s : State) : State :=
  let check := fun n => if short ∧ n ≠ s.boot.running then slotOf n s else verifySlot (slotOf n s) s
  modBoot (fun x => { x with slots := #v[check 0, check 1] }) s

/-- R387: the trial start has failed: the other slot is active, and the trial is over. -/
def revertTrial (s : State) : State :=
  if s.ob OD.TRIAL ∧ 2 ≤ s.o OD.FAILED_STARTS then
    let s := (s.setO OD.ACTIVE_SLOT (1 - s.o OD.ACTIVE_SLOT)).setB OD.TRIAL false
    modBoot (fun b => { b with reverted := true }) (journalNow (bootRecord s) s)
  else s

/-- R386, R387: step 4: the slot that boots; a short start verifies only the slot that was running. -/
def chooseSlot (short : Bool) (s : State) : Option Nat :=
  let ok := fun n => (slotOf n s).status == .valid
  if short then (if ok s.boot.running then some s.boot.running else none)
  else
    let first := s.o OD.ACTIVE_SLOT
    if ok first then some first else if ok (1 - first) then some (1 - first) else none

/-- R386: step 8: every subsystem is initialised: live sets are loaded, ports and axes follow their enables, HOLD_N is
released (R411). A link that is down is in Detect, where PCIE_CLOCK_MODE takes effect (R406). -/
def initUnits (s : State) : State :=
  let s := loadLive s
  let fresh := fun (h : Nat) (p : Port) => { p with
    state := if s.ob (OD.OHL_PORT_ENABLE h) then PortState.empty else .disabled }
  let s := motReset (driveHold { s with
    ports := s.ports.mapIdx fresh, plat := { s.plat with initDone := true }
    web := { s.web with source := sourceWanted s } })
  startPanel <| startCams { s with clk := { s.clk with sris := if s.pcie.linkUp then s.clk.sris else s.ob OD.PCIE_CLOCK_MODE } }

/-- R386, R387: step 9: ready. A fallback makes the slot that booted the active one; a start of the active slot confirms it (log
entry 200). -/
def startReady (booted : Nat) (fallback : Bool) (elapsed : Nat) (s : State) : State :=
  let reverted := s.boot.reverted
  let s := if fallback then s.setO OD.ACTIVE_SLOT booted else s
  let s := if s.o OD.ACTIVE_SLOT = booted then s.setB OD.TRIAL false else s
  let s := (setFails 0 s).setO OD.START_TIME elapsed
  let s := modBoot (fun b => { b with phase := .ready, reverted := false, counted := false }) (journalNow (bootRecord s) s)
  let s := raise EV.BOOT_READY (satTo 65535 elapsed) s
  let s := if fallback then raise EV.BOOT_SLOT_FALLBACK booted s else s
  let s := if reverted then raise EV.BOOT_TRIAL_REVERTED booted s else s
  pwrRecompute (checkLedgers 2 (s.web.hwl / 64) s)

/-- R385: step 8: the DRAM part is copied; its digest is that of step 4. -/
def copyPart (r : StartReport) (s : State) : State :=
  modBoot (fun b => { b with copied := r.copyRead.getD (dramPart (imageOf (slotOf b.running s))) }) s

/-- R385: the digest taken again differs. -/
def copyFails (r : StartReport) (s : State) : Bool := r.copyRead.any fun bs => sha256 bs != s.boot.digest

/-- R390: the start is cut short in step `n` or before it (log entry 225). -/
def cutBy (n : Nat) (r : StartReport) : Bool := r.stopsIn.any fun m => decide (m ≤ n)

/-- R386: steps 7 to 9. A short start trains only a DRAM that a SLEEP has left without power (R421). -/
def startFirmware (short : Bool) (booted : Nat) (fallback : Bool) (r : StartReport) (s : State) : State :=
  let (trained, s) := if cutBy 7 r ∨ (short ∧ s.ddr.state ≠ 0) then (true, s) else trainDram r.train s
  if ¬ trained then failStart 2 s
  else if r.stopsIn.isSome then s
  else
    let s := copyPart r s
    if copyFails r s then failStart 9 s
    else if ¬ r.headSupplyOk ∧ (List.range 24).any (fun h => s.ob (OD.OHL_PORT_ENABLE h)) then failStart 5 s
    else if ¬ r.initOk then failStart 8 s
    else if 3000 < r.elapsed then failStart 3 s
    else startReady booted fallback r.elapsed (initUnits s)

/-- R332, R397: steps 5 and 6: the replay; a pace master takes QUOIN_N from here on. -/
def startReplay (short : Bool) (r : StartReport) (s : State) : State :=
  let s := paceReset (replayJournal r.tornTail s)
  let s := if s.pace.role = 1 then { s with pace := { s.pace with takeDue := true } } else s
  if short then s else loadAlias s

/-- R385: steps 4 and 5: the slot that boots, its DRAM-part digest, and its core part in core memory. -/
def loadSlot (booted : Nat) (s : State) : State :=
  let img := imageOf (slotOf booted s)
  modBoot (fun b => { b with running := booted, digest := sha256 (dramPart img), core := corePart img }) s

/-- R386: steps 4 to 9. -/
def startSlots (short readable : Bool) (r : StartReport) (s : State) : State :=
  let s := revertTrial (verifySlots short s)
  match (if cutBy 4 r then none else chooseSlot short s) with
  | none => if cutBy 4 r then s else failStart 1 s
  | some booted =>
    let fallback := !short && booted != s.o OD.ACTIVE_SLOT
    if cutBy 6 r then loadSlot booted s
    else if ¬ readable then failStart 4 s
    else startFirmware short booted fallback r (startReplay short r (loadSlot booted s))

/-- R75: frames are forwarded again within 20 ms of reset release, however the start ends. -/
def forwardFrames (s : State) : State := { s with net := { s.net with forwarding := true } }

/-- R386, R388, R390: steps 2 to 9. -/
def startSteps (short : Bool) (r : StartReport) (s : State) : State :=
  let pair := choosePair r.pairOk s.tymp
  let s := readPair pair s
  if cutBy 2 r then s
  else if ¬ s.boot.counted ∧ 3 ≤ failedStarts s then enterBare pair.isSome r.tornTail s
  else
    let s := countStart (cutBy 3 r) s
    if cutBy 3 r then s else startSlots short pair.isSome r s

/-- R386, R404, R451: a start, from reset release to ready, failure or bare-forme mode, or to the step in which it is cut short. TEST_MODE
and REF_BYPASS are sampled at POR; with TEST_MODE high no start runs, and every output stays in its reset state. -/
def runStart (r : StartReport) (s : State) : State :=
  let kind := s.o OD.RESET_KIND
  let short := decide (3 ≤ kind)
  let s := if kind = 0 then modBoot (fun b => { b with testMode := r.testMode }) { s with clk := { s.clk with bypass := r.refBypass } } else s
  if s.boot.testMode then s
  else
  let s := forwardFrames s
  if cutBy 1 r then s
  else if ¬ short ∧ ¬ r.pllLocks then failStart 6 (readPair (if r.flashAnswers then choosePair r.pairOk s.tymp else none) s)
  else
    let s := if short then s else { s with clk := { s.clk with rootLock := true, ddrLock := true, fallback := false } }
    if ¬ r.flashAnswers then failStart 7 s else startSteps short r s

/-- R386: a start, if one is due. -/
def startStep (report : StartReport) (s : State) : State := if s.boot.phase = .starting then runStart report s else s

/-- R386, R387, R390: ready has not been reached within 3 s of reset release. A start that hangs does so behind the count of step 3 and the
trial revert of step 4 (log entry 225). -/
def startExpired (s : State) : State :=
  if s.boot.phase ≠ .starting ∨ s.boot.testMode then s
  else
    let s := forwardFrames s
    let s := if s.boot.counted ∨ s.tymp.state = 4 then s else readBoot s
    failStart 3 (if ¬ s.boot.counted ∧ 3 ≤ failedStarts s then s else revertTrial (countStart false s))

/-! ### Boot commands (R394) -/

/-- ACTIVATE_A and ACTIVATE_B: the cause of refusal, or the BOOT record that makes them take effect. -/
def activateRecord (n : Nat) (s : State) : Option JPayload :=
  if (slotOf n s).status ≠ .valid then none
  else
    let trial := decide (s.boot.phase = .bare ∨ s.boot.running ≠ n)
    some (.boot (bootKeys.map fun k =>
      (k, if k = OD.ACTIVE_SLOT then n else if k = OD.TRIAL then b2n trial else s.o k)))

/-- RESTART: the BOOT record that sets FAILED_STARTS to 0. -/
def restartRecord (s : State) : JPayload := .boot (bootKeys.map fun k => (k, if k = OD.FAILED_STARTS then 0 else s.o k))

/-- R394, R400: RESTART acts once no flash work is in progress. -/
def restartCheck (s : State) : State :=
  if s.pwr.restartWaiting ∧ (s.tymp.state = 4 ∨ s.tymp.open_.isEmpty) ∧ s.tymp.stalled.isEmpty ∧ s.tymp.state ≠ 2 then
    doReset 2 3 (modBoot (fun b => { b with mirrorFails := 0 }) s)
  else s

/-! ### The flash (R383) -/

/-- R383: what lies at a flash offset, with the offset in it. A pair is an image sector followed by a log sector. -/
inductive FlashRegion where
  | bootHeader | sii (at_ : Nat) | reserved | slot (n at_ : Nat) | image (pair at_ : Nat) | log (pair : Nat)
  deriving DecidableEq, Repr

/-- R383: the layout of the flash; the SII image is the upper half of the boot header. -/
def flashRegion (offset : Nat) : FlashRegion :=
  if offset < 0x8000 then .bootHeader
  else if offset < 0x10000 then .sii (offset - 0x8000)
  else if offset < 0x100000 then .reserved
  else if offset < 0x2100000 then .slot ((offset - 0x100000) / slotSize) ((offset - 0x100000) % slotSize)
  else if offset < 0x3100000 then
    let pair := (offset - 0x2100000) / (2 * logSector)
    if (offset - 0x2100000) / logSector % 2 = 0 then .image pair ((offset - 0x2100000) % logSector) else .log pair
  else .reserved

/-- R395: what the image sector of a pair holds: header and image records, or nothing once it is erased. -/
def pairBytes (n : Nat) (t : Tymp) : List Byte :=
  if n = t.pair then (if t.generation = 0 then [] else pairHeader t.generation t.folded true t.image ++ t.image)
  else match t.spare with
    | some p => pairHeader p.generation p.folded true p.image ++ p.image
    | none => if t.state = 2 then pairHeader (nextGeneration t.generation) t.snapSeq false t.newImage ++ t.newImage else []

/-- R383: a byte of the flash. What the device never writes is a free value; of the SII image the alias word is STATION_ALIAS (R74; its
place, word 4, PRESUMED, log entry 227). The records of a log sector are held as what they make of the values. -/
def flashByte (offset : Nat) (s : State) : Option Byte :=
  match flashRegion offset with
  | .bootHeader | .reserved => some (Config.flashByte offset)
  | .sii i => some (if i / 2 = 4 then (leBytes 2 (s.o OD.STATION_ALIAS)).getD (i % 2) 0 else Config.flashByte offset)
  | .slot n i => some ((imageOf (slotOf n s)).getD i 0xFF)
  | .image p i => some ((pairBytes p s.tymp).getD i 0xFF)
  | .log _ => none

/-! ### Power entries and exits -/

/-- R113, R418: the slack still allows a state. -/
def stillFits (n : Nat) (s : State) : Bool := !mustRun s && fits (exitLatency n) (slackOf (calendar true s) s)

/-- R421: exit from SLEEP: training, and class W and the nozzle table reloaded. -/
def sleepExit (t : TrainReport) (s : State) : State :=
  let (_, s) := trainDram t s
  let s := loadLive s
  let fresh := fun (h : Nat) (p : Port) => { p with
    state := if s.ob (OD.OHL_PORT_ENABLE h) then PortState.empty else .disabled }
  startPanel <| startCams <| configLedgers { s with ports := s.ports.mapIdx fresh, web := { s.web with source := sourceWanted s } }

/-- R412, R424: the SOFT and SUB commands that waited for the exit: a SOFT reset, the wider, or every SUB reset in turn. -/
def waitingReset (s : State) : State :=
  let waiting := s.pwr.resetWaiting
  let s := modPwr (fun p => { p with resetWaiting := [] }) s
  if waiting.any fun r => r.1 == 0 then doReset 4 0 s else eachDo waiting (fun r s => subReset r.2 s) s

end Sys2Proof.Machine
end

