-- ==== Sys2Proof/Machine/Boundary.lean ====
section
/-! DEFINITION. Machine/Boundary.lean: the release of a line boundary (R189) and what consumes it: IMP, PLAT, PACE, PRF,
the ledger check and PWR (R38, R142, R206, R294, R327, R417, R479). -/

namespace Sys2Proof.Machine

/-- R189: the crossing that carried P to a line or past it; a line that no count edge carried P over is dated by its
release. -/
def crossingOf (line : Nat) (s : State) : Nat × Rat :=
  match (s.web.crossed.filter fun c => decide (line ≤ c.1)).getLast? with
  | some c => c.2
  | none => (s.loc, s.web.p)

/-- R189: the boundary record of a line, with its overshoot in 1/65,536 L. -/
def boundaryRec (line : Nat) (s : State) : BoundaryRec :=
  let c := crossingOf line s
  ⟨line, s.web.speed, c.1, ((webpOf c.2 : Int) - 65536 * line : Rat) / 65536⟩

/-- R38: the check at a band boundary. -/
def bandCheck (line : Nat) (s : State) : State :=
  if line % 64 = 0 then checkLedgers 1 (line / 64) s else s

/-- R181, R206, R142, R234, R327: the consumers of the boundary of a line. In bare-forme mode only WEB and PACE have power
(R391). -/
def boundaryWork (b : BoundaryRec) (s : State) : State :=
  let s := if ohlOn s then platBoundary b (tornsFirst (impBoundary s)) else s
  let s := bandCheck b.line (summaryExpiry (switchSource s))
  if b.line % 8 = 0 then paceCycleEnd b.line s else s

/-- R189: HWL takes the next line, whose boundary is released. -/
def releaseBoundary (s : State) : State :=
  let line := s.web.hwl + 1
  let b := boundaryRec line s
  let s := { s with web := { s.web with
    hwl := line, released := line, releaseFrom := s.loc + 1, crossed := s.web.crossed.filter fun c => decide (line < c.1) } }
  pwrRecompute (boundaryWork b (raise EV.WEB_LINE_BOUNDARY line s))

/-- LINE_BOUNDARY (R189): released as soon as P has reached HWL + 1, while FROZEN is 0, one per 2.5 ns. -/
def execLineBoundary (s : State) : Host.Outcome State Fault Refusal :=
  .next (if webOn s ∧ ¬ s.web.frozen ∧ s.web.releaseFrom ≤ s.loc ∧ ((s.web.hwl + 1 : Nat) : Rat) ≤ s.web.p then releaseBoundary s else s)

end Sys2Proof.Machine
end

