-- ==== Sys2Proof/Machine/ObjectView.lean ====
section
/-! DEFINITION. Machine/ObjectView.lean: what a read of an object returns. A value that a field of the state holds is
computed from it; every other value is the stored one (R14, R48). -/

namespace Sys2Proof.Machine

/-- A string in its declared length, padded with 0x00 (R50). -/
def padTo (n : Nat) (bs : List Byte) : List Byte := (bs ++ List.replicate n 0#8).take n

/-- "Umgeano" (R55). -/
def vendorName : List Byte := [0x55#8, 0x6D#8, 0x67#8, 0x65#8, 0x61#8, 0x6E#8, 0x6F#8]

/-- "RZ-2440-FB" (R55). -/
def partNumber : List Byte := [0x52#8, 0x5A#8, 0x2D#8, 0x32#8, 0x34#8, 0x34#8, 0x30#8, 0x2D#8, 0x46#8, 0x42#8]

/-- R391: bare-forme mode. -/
def isBare (s : State) : Bool := s.boot.phase == .bare

/-- R55, R391: FIRMWARE_VERSION. -/
def firmwareVersion (s : State) : Nat :=
  if isBare s then Config.romVersion.toNat else (slotOf s.boot.running s).version

/-- R55, R391: FIRMWARE_SLOT. -/
def firmwareSlot (s : State) : Nat := if isBare s then s.o OD.ACTIVE_SLOT else s.boot.running

/-- R66: PRESS_STATUS. -/
def pressStatus (s : State) : Nat :=
  let printing := !s.plat.held && s.formes.toList.any fun f => f.state == .printing
  let uncertain := (List.range 8).any fun a => s.ob (OD.AXIS_ENABLE a) && (vgetN s.axes a).uncertain
  ([printing, holdDriven s, s.plat.backupValid, decide (120000 < s.plat.demand), s.plat.cycling, s.pace.driving, s.o OD.PACE_ROLE == 2,
      isBare s, s.dev.ledgerHalt, !s.ob OD.DCHK_ENABLE, planeCapped 0 s, planeCapped 1 s, uncertain].mapIdx
    fun i b => b2n b * 2 ^ i).foldl (· + ·) 0

/-- R65: PLAT_LEAD_MIN: the smallest lead over all printing heads; 0 with none. -/
def leadMin (s : State) : Nat :=
  let leads := ((List.range 24).filter fun h => printingHead h s).map fun h => leadFrom (s.web.hwl + 1) (laneOf h s).lead
  if leads.isEmpty then 0 else leads.foldl min 32

/-- R427: CLK_STATUS. -/
def clkStatus (s : State) : Nat :=
  b2n s.clk.rootLock + 2 * b2n s.clk.ddrLock + 4 * b2n s.clk.bypass + 8 * b2n s.clk.sris + 16 * b2n s.clk.pcieRefOk +
    32 * b2n s.clk.fallback

/-- R462: GPIO_IN: a pin that is an output reads what it is driven to; the level of an input comes from outside, a free value. -/
def gpioIn (s : State) : Nat :=
  ((List.range 8).map fun i =>
    b2n (if bit (s.o OD.GPIO_DIR) i then bit (s.o OD.GPIO_OUT) i else Config.gpioLevel i s.loc) * 2 ^ i).foldl (· + ·) 0

/-- VELOCITY of an axis, microsteps per second (R380). -/
def axisVelocity (a : Nat) (s : State) : Int := roundRat (vgetN s.axes a).v

/-- Identity, firmware and security objects. -/
def viewColophon (key : Nat) (s : State) : Option Nat :=
  if key = OD.DEVICE_TYPE then some Config.deviceType.toNat
  else if key = OD.REVISION_NUMBER then some (Config.siliconRevision.toNat * 65536 + firmwareVersion s / 2 ^ 24)
  else if key = OD.COE_SERIAL then some (Config.serialNumber.toNat % 2 ^ 32)
  else if key = OD.SM_TYPE 0 ∨ key = OD.SM_TYPE 1 ∨ key = OD.SM_TYPE 2 ∨ key = OD.SM_TYPE 3 then some (key % 256)
  else if key = OD.SYNC_MODE_IN then some (s.o OD.SYNC_MODE_OUT)
  else if key = OD.SILICON_REVISION then some Config.siliconRevision.toNat
  else if key = OD.SERIAL_NUMBER then some Config.serialNumber.toNat
  else if key = OD.BARE_FORME then some (b2n (isBare s))
  else if key = OD.FIRMWARE_VERSION then some (firmwareVersion s)
  else if key = OD.FIRMWARE_SLOT then some (firmwareSlot s)
  else if key = OD.PRESS_STATUS then some (pressStatus s)
  else if key = OD.SLOT_STATE 0 ∨ key = OD.SLOT_STATE 1 then some (slotOf (key - OD.SLOT_STATE 0) s).status.code
  else if key = OD.SLOT_VERSION 0 ∨ key = OD.SLOT_VERSION 1 then
    let x := slotOf (key - OD.SLOT_VERSION 0) s
    some (if x.status = .valid then x.version else 0)
  else if key = OD.JOURNAL_STATE then some (journalState s)
  else if key = OD.UPDATE_SLOT ∧ ¬ isBare s then some (1 - s.o OD.ACTIVE_SLOT)
  else if key = OD.GENERATION then some (if s.tymp.state = 4 then 0 else s.tymp.generation)
  else if key = OD.LOG_FILL then some (logFill s)
  else if key = OD.LAST_SEQ then some (if s.tymp.state = 4 then 0 else s.tymp.seq)
  else if key = OD.POWER_STATE then some s.pwr.state
  else if OD.RESIDENCY 0 ≤ key ∧ key ≤ OD.RESIDENCY 4 then some (residency (key - OD.RESIDENCY 0) s)
  else if key = OD.CLOCK_STATUS then some (clkStatus s)
  else if key = OD.CRYSTAL_OFFSET then some (unsignedOf 32 (-netRate s))
  else if key = OD.PROPOSAL_TARGET then some (proposalTarget s)
  else if key = OD.PROPOSAL_CHALLENGE then some s.sec.challenge
  else if key = OD.PROPOSAL_REMAINING then some (proposalRemaining s)
  else if key = OD.CONSENTS then some s.sec.consents
  else if key = OD.DEBUG_UNLOCK then some (b2n s.sec.unlocked)
  else if key = OD.GPIO_IN then some (gpioIn s)
  else none

/-- WEB, TIME, PACE and PLAT objects. -/
def viewPosition (key : Nat) (s : State) : Option Nat :=
  if key = OD.PLAT_BACKUP_LINES then some (if s.plat.backupValid then backupLines s else 0)
  else if key = OD.PLAT_LEAD_MIN then some (leadMin s)
  else if key = OD.HOLD_CAUSE then some (holdCause s)
  else if key = OD.RATE_MAX_A then some (100 * rateMax 0 s.web.hwl s)
  else if key = OD.RATE_MAX_B then some (100 * rateMax 1 s.web.hwl s)
  else if key = OD.DIRECTION then some s.web.direction
  else if key = OD.WEB_POSITION then some (webpOf s.web.p)
  else if key = OD.HIGH_WATER_LINE then some s.web.hwl
  else if OD.LATCH_POSITION 0 ≤ key ∧ key ≤ OD.LATCH_SPEED 3 then
    let x := vgetN s.web.latches ((key - OD.LATCH_POSITION 0) / 4)
    some (match (key - OD.LATCH_POSITION 0) % 4 with
      | 0 => x.pos
      | 1 => x.loc
      | 2 => x.net
      | _ => unsignedOf 32 x.speed)
  else if key = OD.NET_LOCKED then some (b2n s.time.locked)
  else if key = OD.NET_RATE then some (unsignedOf 32 (netRate s))
  else if key = OD.LOC_NOW then some s.loc
  else if key = OD.NET_NOW then some (netNow s)
  else if key = OD.ACTING then some (b2n s.pace.driving)
  else none

/-- COMP, IMP, OHL, PRF and MOT objects. TRIALS_OPEN (R311) counts the findings kept under R305 too, as the limit of 64 does
(DESIGN CHOICE, log entry 216). -/
def viewUnits (key : Nat) (s : State) : Option Nat :=
  let idx := key / 256
  let sub := key % 256
  if key = OD.CHANGES_PENDING then some (pendingEntries s)
  else if 0x3300 ≤ idx ∧ idx < 0x3400 ∧ sub = 1 then some (formeOf (idx - 0x3300) s).state.code
  else if 0x3700 ≤ idx ∧ idx < 0x3718 ∧ sub = 2 then some (vgetN s.ports (idx - 0x3700)).state.code
  else if key = OD.TRIALS_OPEN then some s.prf.trials.length
  else if 0x4800 ≤ idx ∧ idx < 0x4808 ∧ 5 ≤ sub ∧ sub ≤ 9 then
    let x := vgetN s.axes (idx - 0x4800)
    some (match sub with
      | 5 => x.state.code
      | 6 => unsignedOf 32 (microOf x.x)
      | 7 => unsignedOf 32 (axisVelocity (idx - 0x4800) s)
      | 8 => x.cause
      | _ => b2n x.uncertain)
  else none

/-- R37: LEDGER_TOTAL, LEDGER_HELD and LEDGER_SUM. -/
def viewLedger (key : Nat) (s : State) : Option Nat :=
  let idx := key / 256
  let sub := key % 256
  if 0x5010 ≤ idx ∧ idx < 0x5017 then
    let x := vgetN s.ledgers (idx - 0x5010)
    if sub = 1 then some x.total
    else if 2 ≤ sub ∧ sub ≤ 8 then some (vgetN x.held (sub - 2))
    else if sub = 9 then some x.sum
    else none
  else none

/-- R44, R477: route words, with the LOG bit of a trace event reading 1. -/
def viewRoute (key : Nat) (s : State) : Option Nat :=
  if OD.ROUTE_LO 0 ≤ key ∧ key ≤ OD.ROUTE_LO 127 then some (routeWord (key - OD.ROUTE_LO 0) s)
  else if OD.ROUTE_HI 0 ≤ key ∧ key ≤ OD.ROUTE_HI 127 then some (routeWord (key - OD.ROUTE_HI 0 + 128) s)
  else none

/-- The first answer of two views. -/
def orView (a b : Option Nat) : Option Nat :=
  match a with
  | some v => some v
  | none => b

/-- The value of an object that is no string and no DOMAIN. -/
def viewNum (key : Nat) (s : State) : Nat :=
  (orView (viewColophon key s) (orView (viewPosition key s) (orView (viewUnits key s)
    (orView (viewLedger key s) (viewRoute key s))))).getD (s.o key)

/-- Bytes of a string or DOMAIN object, `n` of them from `off` on. -/
def viewBytes (key off n : Nat) (s : State) : List Byte :=
  if key = OD.NOZZLE_TABLE then tableBytes off n s
  else if key = OD.VENDOR_NAME then ((padTo 8 vendorName).drop off).take n
  else if key = OD.PART_NUMBER then ((padTo 12 partNumber).drop off).take n
  else if key = OD.DEVICE_NAME then ((padTo 16 Config.deviceName).drop off).take n
  else if key = OD.HARDWARE_VERSION then ((padTo 16 Config.hardwareVersion).drop off).take n
  else if key = OD.SOFTWARE_VERSION then ((padTo 16 Config.softwareVersion).drop off).take n
  else if key = OD.PROPOSAL_VALUE then ((padTo 64 s.sec.value).drop off).take n
  else if key = OD.PROPOSAL_DIGEST then ((padTo 16 (proposalDigest s)).drop off).take n
  else if OD.FW_KEY 0 ≤ key ∧ key ≤ OD.FW_KEY 2 then
    ((beBytes 64 (vgetN s.sec.fwKeys (key - OD.FW_KEY 0 + 1))).drop off).take n
  else if key = OD.FW_KEY_0 then ((padTo 64 Config.fusedKey).drop off).take n
  else if key = OD.CONSENT_KEY_LINE then ((beBytes 24 s.sec.wrappedLine).drop off).take n
  else if key = OD.CONSENT_KEY_HOST then ((beBytes 24 s.sec.wrappedHost).drop off).take n
  else s.domBytes key off n

/-- The whole value of subindex `sub` of an index, in the length of its type: R486's subindex 0 included. A WO subindex
gives zeros, as in a complete read (R487). -/
def viewObject (idx sub : Nat) (s : State) : List Byte :=
  let key := okey idx sub
  match objRow key with
  | none => if sub = 0 ∧ indexExists idx then leBytes 1 (highestSub idx) else []
  | some r =>
    if r.acc = .wo then List.replicate r.ty.bytes 0#8
    else match r.ty with
      | .dom n => viewBytes key 0 n s
      | .str n => viewBytes key 0 n s
      | t => leBytes t.bytes (viewNum key s)

end Sys2Proof.Machine
end

