-- ==== Sys2Proof/Machine/ObjectServer.lean ====
section
/-! DEFINITION. Machine/ObjectServer.lean: the object server: the checks of R52 and what a write does (R48 to R53, R486,
R487), for single writes and complete accesses of both paths. -/

namespace Sys2Proof.Machine

/-- A write that an access makes to one subindex. -/
structure ObjWrite where
  key : Nat
  row : ObjRow
  bytes : List Byte
  deriving DecidableEq, Repr

/-- The value written. -/
def ObjWrite.num (w : ObjWrite) : Nat := leNum w.bytes

/-- The first abort code that is not 0. -/
def firstAbort : List Nat → Nat
  | [] => AB.ok
  | c :: cs => if c = AB.ok then firstAbort cs else c

/-! ### Check 5: refusals by state -/

/-- R391: the indices that bare-forme mode serves. -/
def bareServes (idx : Nat) : Bool :=
  (decide (0x1000 ≤ idx) && decide (idx ≤ 0x2003)) || (decide (0x2300 ≤ idx) && decide (idx ≤ 0x2310)) || idx == 0x2400 ||
    (decide (0x2500 ≤ idx) && decide (idx ≤ 0x2502)) || (decide (0x5000 ≤ idx) && decide (idx ≤ 0x50FF))

/-- R391: bare-forme mode withholds the index, reads included. -/
def bareRefuses (idx : Nat) (s : State) : Bool := isBare s && !bareServes idx

/-- R137: the subindices of a forme that only an EMPTY or RETIRED context takes. -/
def formeField (sub : Nat) : Bool :=
  decide (3 ≤ sub ∧ sub ≤ 5) || decide (0x10 ≤ sub ∧ sub ≤ 0x27)

/-- R320: the compare unit that an object belongs to, if it is one of the four held while the unit is armed. -/
def comparePart (key : Nat) : Option Nat :=
  if OD.CMP_DOMAIN 0 ≤ key ∧ key < OD.TRIG_SOURCE 0 ∧ (key - OD.CMP_DOMAIN 0) % 6 < 4 then
    some ((key - OD.CMP_DOMAIN 0) / 6)
  else none

/-- R489: the objects that set the total of ledger 6. -/
def egressObject (key : Nat) : Bool :=
  key == OD.EGRESS_AREA_BASE || key == OD.EGRESS_AREA_SIZE ||
    (decide (OD.EGRESS_SLOTS 0 ≤ key) && decide (key ≤ OD.EGRESS_SLOTS 14))

/-- A write of a value that the object's own rules refuse in the present state (R129, R137, R320, R402, R489). -/
def ownRefuses (key : Nat) (s : State) : Bool :=
  let idx := key / 256
  if key = OD.GAL_AREA_BASE ∨ key = OD.GAL_AREA_SIZE then !allFree 1 s
  else if egressObject key then !allFree 6 s
  else if 0x3300 ≤ idx ∧ idx ≤ 0x33FF then
    formeField (key % 256) && !((formeOf (idx - 0x3300) s).state == .empty || (formeOf (idx - 0x3300) s).state == .retired)
  else if key = OD.UPDATE_SLOT then !isBare s
  else match comparePart key with
    | some u => s.ob (OD.CMP_ARM u)
    | none => false

/-- R140, R187, R262, R277, R370, R410: a command that the state refuses. -/
def commandRefuses (key v : Nat) (s : State) : Bool :=
  let idx := key / 256
  let sub := key % 256
  if 0x3300 ≤ idx ∧ idx < 0x3400 ∧ sub = 2 then
    v == 2 && ((formeOf (idx - 0x3300) s).state == .empty || (formeOf (idx - 0x3300) s).state == .retired)
  else if key = OD.WEB_COMMAND then webRefused v s
  else if 0x3700 ≤ idx ∧ idx < 0x3718 ∧ sub = 0x30 then v == 1 && selftestRefused (idx - 0x3700) s
  else if 0x4000 ≤ idx ∧ idx < 0x4004 ∧ sub = 0x43 then (v == 1 || v == 2) && cciRefused (idx - 0x4000) s
  else if 0x4800 ≤ idx ∧ idx < 0x4808 ∧ sub = 2 then motRefused (idx - 0x4800) v s
  else if key = OD.SUB_RESET then subRefused v s
  else false

/-- Check 5 of R52 for a write (R14, R80). -/
def stateRefuses (path : Path) (w : ObjWrite) (s : State) : Bool :=
  bareRefuses (w.key / 256) s || (w.row.acc == .rwp && s.net.al != .preop) ||
    (path == .window && (w.row.acc == .rw || w.row.acc == .wo) && (s.net.al == .init || s.net.al == .boot)) ||
    ownRefuses w.key s || commandRefuses w.key w.num s

/-! ### Check 7: ranges -/

/-- The value of an object after an access. -/
def valueAfter (ws : List ObjWrite) (s : State) (key : Nat) : Nat :=
  match ws.find? fun w => w.key == key with
  | some w => w.num
  | none => s.o key

/-- R340: an area's base and size fit the installed DRAM. -/
def areaFits (base size : Nat) (ws : List ObjWrite) (s : State) : Bool :=
  decide (valueAfter ws s base + valueAfter ws s size ≤ s.o OD.INSTALLED_SIZE)

/-- R289: the regions of the proof area fit it, or it is none. -/
def proofFits (ws : List ObjWrite) (s : State) : Bool :=
  let v := valueAfter ws s
  v OD.PRF_AREA_SIZE == 0 ||
    decide (v OD.FRAME_BUFFERS * v OD.FRAME_BUFFER_BYTES + 4 * v OD.SUMMARY_SLOTS * 32768 ≤ v OD.PRF_AREA_SIZE)

/-- R489: the slots fit the egress area, or it is none. -/
def egressFits (ws : List ObjWrite) (s : State) : Bool :=
  let v := valueAfter ws s
  v OD.EGRESS_AREA_SIZE == 0 || decide (egressNeed (fun i => v (OD.EGRESS_SLOTS i)) ≤ v OD.EGRESS_AREA_SIZE)

/-- R167: a permutation of 0 to 63. -/
def isDither (bs : List Byte) : Bool := (List.range 64).all fun i => (bs.map (·.toNat)).contains i

/-- Check 7 where it depends on other objects: areas (R129, R289, R489), ratios (R185, R202), marks (R101, R235), the
proof pipeline (R310), the DRAM (R340), head limits (R235) and firmware keys (R430). -/
def rangeMeets (w : ObjWrite) (ws : List ObjWrite) (s : State) : Bool :=
  let k := w.key
  let v := valueAfter ws s
  let idx := k / 256
  if k = OD.GAL_AREA_BASE ∨ k = OD.GAL_AREA_SIZE then
    w.num % 65536 == 0 && areaFits OD.GAL_AREA_BASE OD.GAL_AREA_SIZE ws s
  else if k = OD.EGRESS_AREA_BASE then areaFits OD.EGRESS_AREA_BASE OD.EGRESS_AREA_SIZE ws s
  else if k = OD.EGRESS_AREA_SIZE then areaFits OD.EGRESS_AREA_BASE OD.EGRESS_AREA_SIZE ws s && egressFits ws s
  else if egressObject k then egressFits ws s
  else if k = OD.PRF_AREA_BASE then w.num % 4096 == 0 && areaFits OD.PRF_AREA_BASE OD.PRF_AREA_SIZE ws s
  else if k = OD.PRF_AREA_SIZE then areaFits OD.PRF_AREA_BASE OD.PRF_AREA_SIZE ws s && proofFits ws s
  else if k = OD.FRAME_BUFFER_BYTES then w.num % 4096 == 0 && proofFits ws s
  else if k = OD.FRAME_BUFFERS ∨ k = OD.SUMMARY_SLOTS then proofFits ws s
  else if k = OD.WEAK_RATIO then decide (v OD.WEAK_RATIO < v OD.MISSING_RATIO)
  else if OD.CAM_DISTANCE 0 ≤ k ∧ k ≤ OD.CAM_DISTANCE 3 then w.num == 0 || decide (v OD.WINDOW_LINES + 1088 ≤ w.num)
  else if k = OD.DITHER then isDither w.bytes
  else if k = OD.SCALE_NUM ∨ k = OD.SCALE_DEN then decide (v OD.SCALE_NUM ≤ v OD.SCALE_DEN)
  else if k = OD.COUNTS_PER_REV then w.num == 0 || decide (v OD.INDEX_PHASE < w.num)
  else if k = OD.INDEX_PHASE then v OD.COUNTS_PER_REV == 0 || decide (w.num < v OD.COUNTS_PER_REV)
  else if k = OD.LEAD_LOW ∨ k = OD.LEAD_RESUME then decide (v OD.LEAD_LOW < v OD.LEAD_RESUME)
  else if k = OD.PACE_HIGH_DEFAULT then decide (v OD.PACE_LOW_DEFAULT < w.num)
  else if k = OD.DATA_RATE ∨ k = OD.DDR_MODE then v OD.DDR_MODE != 1 || decide (v OD.DATA_RATE ≤ 4267)
  else if OD.FW_KEY 0 ≤ k ∧ k ≤ OD.FW_KEY 2 then fwKeyOk w.bytes
  else if 0x3500 ≤ idx ∧ idx < 0x3518 ∧ k % 256 = 0x39 then
    decide (signedOf 16 (v (OD.TEMP_SOFT (idx - 0x3500))) < signedOf 16 (v (OD.TEMP_HARD (idx - 0x3500))))
  else true

/-! ### PDO mapping (R67) -/

/-- The mapping entries of R64, which are mappable. -/
def defaultEntries : List Nat :=
  [0x21010110, 0x25000340, 0x25000440, 0x21010210, 0x36002110, 0x25000140, 0x25000240, 0x28001020, 0x28001120, 0x36002020]

/-- R67: an entry that may be mapped; index 0x0000 pads. -/
def mappableEntry (e : Nat) : Bool := e / 65536 == 0 || defaultEntries.contains e || Config.mappable e

/-- The PDO objects: mappings and assignments. -/
def isMapping (idx : Nat) : Bool := [0x1600, 0x1601, 0x1A00, 0x1A01].contains idx
def isAssignment (idx : Nat) : Bool := [0x1C12, 0x1C13].contains idx

/-- Bits of a PDO as mapped. -/
def pdoBits (v : Nat → Nat) (pdo : Nat) : Nat :=
  ((List.range (v (okey pdo 0))).map fun i => v (okey pdo (i + 1)) % 256).foldl (· + ·) 0

/-- The PDOs that a direction is assigned, in order. -/
def assignedPdos (v : Nat → Nat) (assign : Nat) : List Nat :=
  (List.range (v (okey assign 0))).map fun i => v (okey assign (i + 1))

/-- Bits of the process image of a direction. -/
def imageBits (v : Nat → Nat) (assign : Nat) : Nat :=
  ((assignedPdos v assign).map fun p => if isMapping p then pdoBits v p else 0).foldl (· + ·) 0

/-- R67: the abort code of a write of a PDO object. -/
def pdoAbort (w : ObjWrite) (ws : List ObjWrite) (s : State) : Nat :=
  let idx := w.key / 256
  if isMapping idx ∧ w.key % 256 = 0 ∧ 16 < w.num then AB.pdoLimit
  else if isMapping idx ∧ w.key % 256 ≠ 0 ∧ ¬ mappableEntry w.num then AB.notMappable
  else if (isMapping idx ∨ isAssignment idx) ∧
      (512 < imageBits (valueAfter ws s) 0x1C12 ∨ 512 < imageBits (valueAfter ws s) 0x1C13) then AB.pdoLimit
  else AB.ok

/-- Check 7 for one write of an access. -/
def rangeAbort (complete : Bool) (w : ObjWrite) (ws : List ObjWrite) (s : State) : Nat :=
  let pdo := pdoAbort w ws s
  if pdo ≠ AB.ok then pdo
  else if complete ∧ w.row.acc = .g then AB.range
  else if w.row.ty = .bool ∧ 1 < w.num then AB.range
  else if ¬ w.row.chk.ok w.num then AB.range
  else if ¬ rangeMeets w ws s then AB.range
  else AB.ok

/-! ### Check 8: shadow locks, and the locks of check 9 -/

/-- R27, R217, R278, R376: the object belongs to a shadow set whose COMMIT is pending. -/
def shadowLocked (key : Nat) (s : State) : Bool :=
  let idx := key / 256
  (platShadow key && s.ob (OD.PLAT_COMMIT_PENDING (idx - 0x3500))) ||
    (cameraSet key && s.ob (OD.CAM_COMMIT_PENDING (idx - 0x4000))) ||
    (decide (0x4800 ≤ idx ∧ idx < 0x4808) && motShadow (idx - 0x4800) key && s.ob (OD.MOT_COMMIT_PENDING (idx - 0x4800)))

/-- R49, R111: another path or a ring is writing the object. R49 gives this lock to a DOMAIN object; that an object of another
type written in mailbox segments has it too is this model's choice (DESIGN CHOICE, log entry 184). -/
def writtenElsewhere (path : Path) (key : Nat) (s : State) : Bool :=
  (s.srv.segs.any fun g => g.path != path && g.write && okey g.idx g.sub == key) ||
    (key == OD.NOZZLE_TABLE && s.comp.load.isSome) ||
    ((List.range 16).any fun i => match (ringOf (112 + i) s).xfer with
      | some x => x.started && targetKey x.desc.target == some key
      | none => false)

/-- A write refused with 0x0800_0020 before anything is stored: R49, R111, R372, R410. -/
def storeRefuses (path : Path) (w : ObjWrite) (s : State) : Bool :=
  writtenElsewhere path w.key s || s.boot.subBusy.contains (ownerOf w.key) ||
    (w.key == OD.SEGMENT_TABLE && segmentsLocked 0 16384 s)

/-! ### What a stored value does -/

/-- R66, R61: PRESS_CONTROL takes a value. -/
def pressControl (v : Nat) (s : State) : State :=
  let old := s.o OD.PRESS_CONTROL
  let s := s.setO OD.PRESS_CONTROL (v % 8)
  let s := if bit old 0 ∧ ¬ printEnable s then stopAxes (platDisable s) else s
  let s := if bit old 2 ∧ ¬ motionEnable s then stopAxes s else s
  if holdRequest s ∧ ¬ bit old 1 then takeCause causeRequest 0xFF s else s

/-- R45: the bits of an acknowledge that clear: a bit whose event has occurred in the same cycle stays set. -/
def ackMask (half v : Nat) (s : State) : Nat :=
  (List.range 64).foldl (fun m i =>
    if kget (fun _ => 0) s.dev.pdoStamp (64 * half + i) = s.loc + 1 then setBit m i false else m) v

/-- R45, R70, R233: an acknowledge of the event bits of a half. -/
def ackEvents (half v : Nat) (s : State) : State :=
  let s := s.setO (OD.EVENT_ACK half) v
  let set := s.o (OD.EVENT_BITS half)
  let m := ackMask half v s
  let s := s.setO (OD.EVENT_BITS half) (set - Nat.land set m)
  let w := routeWord EV.PLAT_HOLD_CYCLING s
  if bit w 7 ∧ bits w 6 0 / 64 = half ∧ bit m (bits w 6 0 % 64) then clearCycling s else s

/-- R36, R289: the total of ledger 5 follows its objects; what its other holders hold stays. -/
def proofTotal (s : State) : State :=
  let used := (s.ledgers.get 5).sum - heldOf 5 0 s
  let total := max used (frameTotal s)
  { s with ledgers := s.ledgers.set 5 { total := total, held := (s.ledgers.get 5).held.set 0 (total - used) } }

/-- R489: the slots of rings 97 to 105 start anew. -/
def egressStart (s : State) : State :=
  startLedger 6 (slotTotal s) { s with egress := s.egress.mapIdx fun i e => if i = 0 then e else { e with nextSlot := 0 } }

/-- R33: while determinism checking is off, a shadow object's write goes to the live set as well. -/
def directWrite (key : Nat) (s : State) : State :=
  if dchkOff s ∧ (platShadow key ∨ cameraSet key ∨ motShadow (key / 256 - 0x4800) key) then s.handOver (· == key) else s

/-- Store the value that a write carries. -/
def storeBytes (key : Nat) (bs : List Byte) (s : State) : State :=
  if isDomain key then s.setDom key 0 bs else s.setO key (storedNum key (leNum bs))

/-- What the new value of an object does beyond being stored; `old` is the value before it. -/
def valueHook (key old : Nat) (s : State) : State :=
  let idx := key / 256
  let v := s.o key
  if key = OD.INDEX_POLICY ∧ v ≤ 1 then s.setI OD.STEP_PENDING 0
  else if key = OD.GAL_AREA_BASE ∨ key = OD.GAL_AREA_SIZE then startLedger 1 (galleyTotal s) s
  else if egressObject key then egressStart s
  else if key = OD.PRF_AREA_SIZE ∨ key = OD.FRAME_BUFFERS then proofTotal s
  else if key = OD.HOST_CELLS then hostCellsChanged old s
  else if isMapping idx ∨ isAssignment idx then { s with net := { s.net with pdoOwn := true } }
  else if v = old then s
  else if key = OD.COUNTS_PER_REV then revolutionChanged s
  else if key = OD.READY_BLOCKS then allFormeChecks s
  else if key = OD.UNDERRUN_BYTES then headChecks s
  else if 0x3700 ≤ idx ∧ idx < 0x3718 ∧ key % 256 = 1 then portWritten (idx - 0x3700) (v != 0) s
  else if 0x4000 ≤ idx ∧ idx < 0x4004 ∧ key % 256 = 1 then camEnabled (idx - 0x4000) (old != 0) (v != 0) s
  else if 0x4000 ≤ idx ∧ idx < 0x4004 ∧ key % 256 = 5 then refclkChange (idx - 0x4000) s
  else if 0x4800 ≤ idx ∧ idx < 0x4808 ∧ key % 256 = 1 then axisEnabled (idx - 0x4800) s
  else s

/-- Store a value with all that follows from it. -/
def storeValue (key : Nat) (bs : List Byte) (s : State) : State :=
  if key = OD.PRESS_CONTROL then pressControl (leNum bs) s
  else if key = OD.EVENT_ACK 0 then ackEvents 0 (leNum bs) s
  else if key = OD.EVENT_ACK 1 then ackEvents 1 (leNum bs) s
  else if key = OD.DCHK_ENABLE then setDchk (leNum bs != 0) s
  else valueHook key (s.o key) (directWrite key (storeBytes key bs s))

/-! ### Commands among the objects -/

/-- The result of a write: its abort code, whether its answer waits, and the state after it. -/
structure WriteResult where
  abort : Nat
  waits : Bool
  state : State

/-- An operation that answers at once. -/
def doneNow (r : Nat × State) : WriteResult := ⟨r.1, false, r.2⟩

/-- Write a journal record that the answer waits for, or refuse for want of room (R51, R399). -/
def answerAfter (path : Path) (p : JPayload) (writes : List (Nat × List Byte)) (s : State) : WriteResult :=
  if journalRoom p s then ⟨AB.ok, true, openRecord p (.answer path writes) { s with srv := { s.srv with busy := true } }⟩
  else ⟨AB.store, false, journalRefused s⟩

/-- RESTART (R394): the record first: where the log is full it waits for the switch-over. A corrupt journal takes none, and the
command acts at once. -/
def restartCommand (path : Path) (s : State) : WriteResult :=
  let r : JRec := ⟨restartRecord s, .answer path [(OD.BOOT_COMMAND, [3])]⟩
  let s := modPwr (fun x => { x with restartWaiting := true }) s
  if s.tymp.state = 4 then ⟨AB.ok, false, restartCheck (s.setO OD.FAILED_STARTS 0)⟩
  else
    let s := { s with srv := { s.srv with busy := true } }
    if journalRoom r.payload s then ⟨AB.ok, true, openRecord r.payload r.done s⟩
    else ⟨AB.ok, true, startCompaction (modTymp (fun t => { t with stalled := t.stalled ++ [r] }) s)⟩

/-- BOOT_COMMAND (R394). -/
def bootCommand (path : Path) (v : Nat) (s : State) : WriteResult :=
  match v with
  | 1 | 2 =>
    match activateRecord (v - 1) s with
    | none => ⟨AB.store, false, s⟩
    | some p => answerAfter path p [] s
  | 3 => restartCommand path s
  | 4 => if s.tymp.state = 4 then ⟨AB.ok, false, formatJournal s⟩ else ⟨AB.store, false, s⟩
  | _ => ⟨AB.range, false, s⟩

/-- CONSENT_MESSAGE (R433, R434). -/
def consentCommand (path : Path) (msg : List Byte) (s : State) : WriteResult :=
  let party := partyOf path
  let c := consentCause party msg s
  if c = 0 then ⟨AB.ok, true, takeConsent party msg { s with srv := { s.srv with busy := true } }⟩
  else ⟨AB.store, false, refuseConsent c party (if c = 6 then journalRefused s else s)⟩

/-- CMP_ARM (R320). -/
def armCommand (u : Nat) (v : Nat) (s : State) : State :=
  if v = 0 then (matchFirst u s).setO (OD.CMP_ARM u) 0 else armUnit u (s.setO (OD.CMP_ARM u) v)

/-- A write of the push buffer as an object (R466). -/
def pushObject (path : Path) (bs : List Byte) (s : State) : WriteResult :=
  if s.disp.running.isSome then
    ⟨AB.ok, true, modDisp (fun d => { d with landing := d.landing ++ [⟨none, some path, 0, bs⟩] }) s⟩
  else ⟨AB.ok, false, pushBufferWrite 0 bs s⟩

/-- R175: an offset or a length of a load is no multiple of 4. -/
def tableCut (off : Nat) (bs : List Byte) : Bool := off % 4 != 0 || bs.length % 4 != 0

/-- R175: the nozzle table begins a load of the bytes at `off`; an odd offset or length is refused. -/
def tableObject (path : Path) (off : Nat) (bs : List Byte) (last : Bool) (s : State) : WriteResult :=
  if tableCut off bs then ⟨AB.range, false, s⟩
  else if s.comp.load.isSome then ⟨AB.store, false, s⟩
  else ⟨AB.ok, true, loadTable (off / 4) bs (sourceOf path) 0 none (some path) last s⟩

/-- Carry out one write of an access: a command, or a value to be stored. -/
def applyWrite (path : Path) (complete : Bool) (w : ObjWrite) (s : State) : WriteResult :=
  let k := w.key
  let v := w.num
  let idx := k / 256
  let sub := k % 256
  if 0x3300 ≤ idx ∧ idx < 0x3400 ∧ sub = 2 then
    doneNow (if v = 1 then submitForme (idx - 0x3300) s else abortCommand (idx - 0x3300) s)
  else if k = OD.REQ_COMMAND then doneNow (submitRequest (sourceOf path) s)
  else if k = OD.RATE_CLASS_A then doneNow (requestRate 0 v (sourceOf path) s)
  else if k = OD.RATE_CLASS_B then doneNow (requestRate 1 v (sourceOf path) s)
  else if k = OD.WEB_COMMAND then doneNow (webCommand v s)
  else if 0x3500 ≤ idx ∧ idx < 0x3518 ∧ sub = 0x34 then doneNow (commitPlaten (idx - 0x3500) (sourceOf path) s)
  else if 0x3700 ≤ idx ∧ idx < 0x3718 ∧ sub = 0x30 then doneNow (selftestStart (idx - 0x3700) s)
  else if 0x4000 ≤ idx ∧ idx < 0x4004 ∧ sub = 0x20 then doneNow (commitCamera (idx - 0x4000) s)
  else if 0x4000 ≤ idx ∧ idx < 0x4004 ∧ sub = 0x43 then doneNow (cciCommand (idx - 0x4000) v s)
  else if k = OD.CONFIRM then doneNow (confirmFinding v s)
  else if 0x4800 ≤ idx ∧ idx < 0x4808 ∧ sub = 0x02 then doneNow (motCommand (idx - 0x4800) v s)
  else if 0x4800 ≤ idx ∧ idx < 0x4808 ∧ sub = 0x38 then doneNow (commitMotion (idx - 0x4800) s)
  else if k = OD.RESET_COMMAND then doneNow (resetCommand v s)
  else if k = OD.SUB_RESET then doneNow (subResetCommand v s)
  else if k = OD.BOOT_COMMAND then bootCommand path v s
  else if k = OD.CONSENT_MESSAGE then consentCommand path w.bytes s
  else if OD.CMP_ARM 0 ≤ k ∧ k ≤ OD.CMP_ARM 15 ∧ (k - OD.CMP_ARM 0) % 6 = 0 then
    ⟨AB.ok, false, armCommand ((k - OD.CMP_ARM 0) / 6) v s⟩
  else if k = OD.PUSH_COUNT ∧ complete then doneNow (hostPush (s.o OD.PUSH_FIRST) v s)
  else if k = OD.PUSH_BUFFER then pushObject path w.bytes s
  else if k = OD.NOZZLE_TABLE then tableObject path 0 w.bytes true s
  else ⟨AB.ok, false, storeValue k w.bytes s⟩

/-- The values of an access in place, with nothing that follows from them. -/
def rawStore (ws : List ObjWrite) (s : State) : State :=
  eachDo ws (fun w s => if w.row.acc = .wo then s else storeBytes w.key w.bytes s) s

/-- The values of an access put back. -/
def undoWrites (ws : List ObjWrite) (old : State) (s : State) : State :=
  eachDo ws (fun w s =>
    if isDomain w.key then s.setDom w.key 0 (old.domBytes w.key 0 w.row.ty.bytes) else s.setO w.key (old.o w.key)) s

/-- R487: the writes of an access in subindex order. A command among them that is refused leaves every value as it was:
only what the refusal itself does remains. -/
def runWrites (path : Path) (complete : Bool) (old : State) : List ObjWrite → List ObjWrite → State → WriteResult
  | _, [], s => ⟨AB.ok, false, s⟩
  | before, w :: ws, s =>
    let r := applyWrite path complete w s
    if r.abort = AB.ok then
      let t := runWrites path complete old (before ++ [w]) ws r.state
      if t.abort = AB.ok then ⟨AB.ok, r.waits || t.waits, t.state⟩ else t
    else ⟨r.abort, false, undoWrites before old (applyWrite path complete w (rawStore before old)).state⟩

/-- R410, R435: a guarded object's subsystem is being reset: the write of its proposed value is refused. -/
def applyRefused (key : Nat) (s : State) : Bool := s.boot.subBusy.contains (ownerOf key)

/-- R435: the second consent has been taken: the value is written as an ordinary write, under checks 8 and 9 of R52. A key or the debug lock takes its value at once; any other guarded object
once its journal record is committed, and `true` says that this is awaited. -/
def applyProposal (s : State) : Bool × State :=
  let key := s.sec.target
  let v := s.sec.value
  if shadowLocked key s ∨ applyRefused key s then (false, closeProposal 0x07 s)
  else if key = OD.DEBUG_UNLOCK then (false, proposalApplied (setUnlocked (leNum v != 0) s))
  else if OD.FW_KEY 0 ≤ key ∧ key ≤ OD.FW_KEY 2 then
    (false, proposalApplied (modSec (fun x => { x with fwKeys := vmodN x.fwKeys (key - OD.FW_KEY 0 + 1) fun _ => beNum v }) s))
  else if key = OD.CONSENT_KEY_LINE ∨ key = OD.CONSENT_KEY_HOST then
    let party := if key = OD.CONSENT_KEY_LINE then 1 else 2
    match setConsentKey party ((proposalKey party s).getD 0) v s with
    | some s' => (false, proposalApplied s')
    | none => (false, closeProposal 0x08 s)
  else
    let rec_ := JPayload.objects false [(key, leNum v)]
    if journalRoom rec_ s then (true, openRecord rec_ .applied s) else (false, closeProposal 0x07 (journalRefused s))

/-- R53, R432, R436: a guarded write: a proposal, or first provisioning. -/
def guardedWrite (path : Path) (w : ObjWrite) (s : State) : WriteResult :=
  let party := partyOf path
  if firstProvisioning w.key party s then doneNow (provision party w.bytes s)
  else ⟨AB.ok, false, openProposal w.key w.bytes party s⟩

/-- The writes of an access that have passed checks 1 to 8 (R51, R53, R487). The nozzle table journals its own pages (R175). -/
def performWrites (path : Path) (complete : Bool) (ws : List ObjWrite) (s : State) : WriteResult :=
  if ws.any fun w => storeRefuses path w s then ⟨AB.store, false, s⟩
  else
    match ws.find? fun w => w.row.acc == .g with
    | some w => guardedWrite path w s
    | none =>
      let js := ws.filter fun w => w.row.cls == .j && w.key != OD.NOZZLE_TABLE
      if js.isEmpty then runWrites path complete s [] ws s
      else answerAfter path (.objects complete (js.map fun w => (w.key, w.num))) (ws.map fun w => (w.key, w.bytes)) s

/-- Checks 5, 6, 7 and 8 of R52 over the writes of an access: check by check, each over the subindices in order. `fits`
says that the data gives every covered subindex its length; `zeroOk` that a first byte names the right count (R487). -/
def checkWrites (path : Path) (complete fits zeroOk : Bool) (ws : List ObjWrite) (s : State) : Nat :=
  if ws.any fun w => stateRefuses path w s then AB.state
  else if ¬ fits then AB.length
  else if ¬ zeroOk then AB.range
  else
    let c := firstAbort (ws.map fun w => rangeAbort complete w ws s)
    if c ≠ AB.ok then c
    else if ws.any fun w => shadowLocked w.key s then AB.locked
    else AB.ok

/-- R52, R468: a complete access that starts a push while one is pending, and whose push passes causes 0x01 to 0x03, is refused by
check 5. -/
def pushWaits (complete : Bool) (ws : List ObjWrite) (s : State) : Bool :=
  complete && ws.any fun w => w.key == OD.PUSH_COUNT && pushCause (valueAfter ws s OD.PUSH_FIRST) w.num (rawStore ws s) == 4

/-- An access that writes, from check 5 on. -/
def writeAccess (path : Path) (complete fits zeroOk : Bool) (ws : List ObjWrite) (s : State) : WriteResult :=
  if pushWaits complete ws s ∧ ¬ ws.any (fun w => stateRefuses path w s) then
    ⟨AB.state, false, modDisp (fun d => { d with cause := 4 }) s⟩
  else
    let c := checkWrites path complete fits zeroOk ws s
    if c ≠ AB.ok then ⟨c, false, s⟩ else performWrites path complete ws s

end Sys2Proof.Machine
end

