-- ==== Sys2Proof/Machine/ObjectRequests.lean ====
section
/-! DEFINITION. Machine/ObjectRequests.lean: requests of the two paths, one at a time (R48), segmented transfers (R49, R63,
R81), complete accesses (R487), deferred answers, and the commit of journal records (R396). -/

namespace Sys2Proof.Machine

/-- What serving a request gives: its answer, unless it waits, and the state. -/
structure Served where
  answer : Option Answer
  state : State

/-- A refusal. -/
def refusedWith (c : Nat) (s : State) : Served := ⟨some (.abort c), s⟩

/-- The answer of a write. -/
def WriteResult.served (r : WriteResult) : Served :=
  if r.abort ≠ AB.ok then refusedWith r.abort r.state
  else if r.waits then ⟨none, r.state⟩
  else ⟨some (.done []), r.state⟩

/-! ### Reads -/

/-- Bytes of the BAR2 data buffer (R77). -/
def windowBytes : Nat := 61440

/-- Checks 1, 2 and 3 of R52, bare-forme mode's refusal, and the row. -/
def readCheck (idx sub : Nat) (s : State) : Nat × ObjRow :=
  if ¬ indexExists idx then (AB.noIndex, sub0Row)
  else match rowOf idx sub with
    | none => (AB.noSub, sub0Row)
    | some r =>
      if r.acc = .wo then (AB.writeOnly, r)
      else if bareRefuses idx s then (AB.state, r)
      else (AB.ok, r)

/-- R78: a whole value through the window: at most LENGTH bytes, which may not cut it. -/
def wholeAnswer (r : Req) (bs : List Byte) : Answer :=
  if r.path = .window ∧ ((r.length ≠ 0 ∧ r.length < bs.length) ∨ windowBytes < bs.length) then .abort AB.length
  else .done bs

/-- A read of one subindex (R52, R78). -/
def readOne (r : Req) (s : State) : Answer :=
  let (c, row) := readCheck r.idx r.sub s
  if c ≠ AB.ok then .abort c
  else match row.ty with
    | .dom n =>
      if r.path = .window then
        .done (viewBytes (okey r.idx r.sub) r.offset
          (min (if r.length = 0 then windowBytes else min r.length windowBytes) (n - r.offset)) s)
      else .done (viewObject r.idx r.sub s)
    | _ => if r.offset ≠ 0 then .abort AB.unsupported else wholeAnswer r (viewObject r.idx r.sub s)

/-- The subindices from 1 on that an index has. -/
def subsOf (idx : Nat) : List Nat := ((List.range 255).map (· + 1)).filter fun i => (objRow (okey idx i)).isSome

/-- R487: the bytes of a complete read. Subindex 0 takes 1 B when the access starts there, also where a single-value object (R486) holds a
longer value in it, whose length R487 gives it as well: of that value the first byte is returned (DESIGN CHOICE, log entry 206). -/
def completeBytes (idx : Nat) (fromOne : Bool) (s : State) : List Byte :=
  (if fromOne then [] else (viewObject idx 0 s).take 1) ++ (subsOf idx).flatMap fun i => viewObject idx i s

/-- Checks 1 and 2 of a complete access, and R78's rule that it starts at subindex 0 or 1; of the subindices that it covers
(R487) one exists. The abort code of a start above subindex 1, 0x0601_0000, is this model's choice (DESIGN CHOICE, log entry 158):
R78 gives it for the OFFSET only. -/
def completeCheck (r : Req) (s : State) : Nat :=
  if ¬ indexExists r.idx then AB.noIndex
  else if 1 < r.sub ∨ r.offset ≠ 0 then AB.unsupported
  else if r.sub = 1 ∧ (subsOf r.idx).isEmpty then AB.noSub
  else if bareRefuses r.idx s then AB.state
  else AB.ok

/-- A complete read. -/
def readAllOf (r : Req) (fromOne : Bool) (s : State) : Answer :=
  let c := completeCheck r s
  if c ≠ AB.ok then .abort c else wholeAnswer r (completeBytes r.idx fromOne s)

/-! ### Complete writes -/

/-- R487: the bytes dealt out to subindices in order: the writes, with whether no subindex is cut and no byte is left. -/
def dealBytes (idx : Nat) : List Nat → List Byte → List ObjWrite × Bool
  | [], bs => ([], bs.isEmpty)
  | i :: is, bs =>
    if bs.isEmpty then ([], true)
    else match objRow (okey idx i) with
      | none => dealBytes idx is bs
      | some r =>
        let n := r.ty.bytes
        let (ws, ok) := dealBytes idx is (bs.drop n)
        (⟨okey idx i, r, bs.take n⟩ :: ws, ok && decide (n ≤ bs.length))

/-- R487: the writes that take effect: the bytes of an RO subindex are ignored. -/
def takenWrites (ws : List ObjWrite) : List ObjWrite := ws.filter fun w => w.row.acc != .ro

/-- R487: a complete write from subindex 1. -/
def writeFromOne (r : Req) (data : List Byte) (s : State) : WriteResult :=
  let (ws, fits) := dealBytes r.idx (subsOf r.idx) data
  writeAccess r.path true (fits && !data.isEmpty) true (takenWrites ws) s

/-- R487: a complete write from subindex 0: every subindex up to the count, no more and no fewer. The first byte is the new count
where subindex 0 is RWP, and must else be what subindex 0 holds; the single-value objects of R486 hold their value there. -/
def writeFromZero (r : Req) (data : List Byte) (s : State) : WriteResult :=
  match data with
  | [] => writeAccess r.path true false true [] s
  | b :: rest =>
    match objRow (okey r.idx 0) with
    | some row =>
      let counts := row.acc == .rwp
      let subs := (subsOf r.idx).filter fun i => decide (i ≤ b.toNat)
      let (ws, fits) := dealBytes r.idx subs rest
      let need := (subs.map fun i => bytesOf (okey r.idx i)).foldl (· + ·) 0
      writeAccess r.path true (fits && rest.length == need) (counts || b.toNat == leNum (viewObject r.idx 0 s))
        (takenWrites (⟨okey r.idx 0, row, [b]⟩ :: ws)) s
    | none =>
      let (ws, fits) := dealBytes r.idx (subsOf r.idx) rest
      let need := ((subsOf r.idx).map fun i => bytesOf (okey r.idx i)).foldl (· + ·) 0
      writeAccess r.path true (fits && rest.length == need) (b.toNat == highestSub r.idx) (takenWrites ws) s

/-- A complete write. -/
def writeAllOf (r : Req) (fromOne : Bool) (data : List Byte) (s : State) : Served :=
  let c := completeCheck r s
  if c ≠ AB.ok then refusedWith c s
  else (if fromOne then writeFromOne r data s else writeFromZero r data s).served

/-! ### Single writes and segments -/

/-- The segmented transfer of a path. -/
def segOf (path : Path) (s : State) : Option SegXfer := s.srv.segs.find? fun g => g.path == path

/-- The path's transfer ends. -/
def dropSeg (path : Path) (s : State) : State :=
  { s with srv := { s.srv with segs := s.srv.segs.filter fun g => g.path != path } }

/-- The path's transfer becomes `g`. -/
def putSeg (g : SegXfer) (s : State) : State :=
  { s with srv := { s.srv with segs := s.srv.segs.filter (fun x => x.path != g.path) ++ [g] } }

/-- R81: a request for another object ends the path's transfer, and the object keeps its content; over the mailbox, so
does a transfer of the other direction. -/
def leaveSeg (r : Req) (write : Bool) (s : State) : State :=
  match segOf r.path s with
  | some g => if g.idx = r.idx ∧ g.sub = r.sub ∧ (g.write = write ∨ r.path = .window) then s else dropSeg r.path s
  | none => s

/-- The byte that pieces, newest first, give an offset. -/
def pieceByte (i : Nat) : List (Nat × List Byte) → Option Byte
  | [] => none
  | p :: ps => if p.1 ≤ i ∧ i < p.1 + p.2.length then p.2[i - p.1]? else pieceByte i ps

/-- The bytes `[lo, hi)` of pieces, if every one is there. -/
def joinPieces (lo hi : Nat) (ps : List (Nat × List Byte)) : Option (List Byte) :=
  let bs := (List.range (hi - lo)).map fun i => pieceByte (lo + i) ps
  if bs.all (·.isSome) then some (bs.map fun b => b.getD 0#8) else none

/-- The last piece of a write has come: the object takes its content (R81, R175). -/
def finishWrite (r : Req) (row : ObjRow) (ps : List (Nat × List Byte)) (s : State) : Served :=
  let key := okey r.idx r.sub
  let s := dropSeg r.path s
  if key = OD.NOZZLE_TABLE then
    let lo := ps.foldl (fun m p => min m p.1) row.ty.bytes
    let hi := ps.foldl (fun m p => max m (p.1 + p.2.length)) 0
    match joinPieces lo hi ps with
    | none => refusedWith AB.length s
    | some bs =>
      if bs.isEmpty ∨ row.ty.bytes < hi then refusedWith AB.length s
      else if tableCut lo bs then refusedWith AB.range s
      else if storeRefuses r.path ⟨key, row, bs⟩ s then refusedWith AB.store s
      else (tableObject r.path lo bs true s).served
  else
    match joinPieces 0 (ps.foldl (fun m p => max m (p.1 + p.2.length)) 0) ps with
    | none => refusedWith AB.length s
    | some bs => (writeAccess r.path false (bs.length == row.ty.bytes) true [⟨key, row, bs⟩] s).served

/-- R63, R175: over the mailbox the nozzle table takes whole pages as they come; the last page waits for the last segment. While a
page pends the table takes no further bytes: a segment that completes no page waits for the fold as well. -/
def streamTable (g : SegXfer) (s : State) : Served :=
  let off := g.pieces.foldl (fun m p => min m p.1) g.pos
  let stop := (g.pos - 1) / 4096 * 4096
  match joinPieces off g.pos g.pieces with
  | none => ⟨some (.done []), putSeg g s⟩
  | some bs =>
    if stop ≤ off ∧ ¬ pagePending s then ⟨some (.done []), putSeg g s⟩
    else if stop ≤ off then ⟨none, loadTable 0 [] (sourceOf g.path) 0 none (some g.path) false (putSeg g s)⟩
    else (tableObject g.path off (bs.take (stop - off)) false
      (putSeg { g with pieces := [(stop, bs.drop (stop - off))] } s)).served

/-- A piece of a write: checks 1, 2, 4 and 5 of R52, the lock of R49, then the piece is kept or the write is finished. -/
def writePiece (r : Req) (data : List Byte) (s : State) : Served :=
  let key := okey r.idx r.sub
  if ¬ indexExists r.idx then refusedWith AB.noIndex s
  else match rowOf r.idx r.sub with
    | none => refusedWith AB.noSub s
    | some row =>
      let w : ObjWrite := ⟨key, row, data⟩
      let domain := isDomain key
      let last := r.last || (!domain && !r.segmented)
      let seg := segOf r.path s
      let off := if r.path = .mailbox then (seg.map (·.pos)).getD 0 else r.offset
      let ps := (off, data) :: ((seg.map (·.pieces)).getD [])
      if row.acc = .ro then refusedWith AB.readOnly (dropSeg r.path s)
      else if stateRefuses r.path w s then refusedWith AB.state (dropSeg r.path s)
      else if r.path = .window ∧ ¬ domain ∧ r.offset ≠ 0 then refusedWith AB.unsupported s
      else if row.ty.bytes < off + data.length ∨ (data.isEmpty ∧ r.path = .window) then
        refusedWith AB.length (dropSeg r.path s)
      else if last then finishWrite r row ps s
      else if storeRefuses r.path w s then refusedWith AB.store (dropSeg r.path s)
      else
        let g : SegXfer := ⟨r.path, r.idx, r.sub, true, off + data.length, ps⟩
        if key = OD.NOZZLE_TABLE ∧ r.path = .mailbox then streamTable g s else ⟨some (.done []), putSeg g s⟩

/-- A segment of a read over the mailbox: the next bytes of the value, `n` of them. -/
def readPiece (r : Req) (n : Nat) (s : State) : Served :=
  let (c, row) := readCheck r.idx r.sub s
  if c ≠ AB.ok then refusedWith c (dropSeg r.path s)
  else
    let pos := ((segOf r.path s).map (·.pos)).getD 0
    let bs := match row.ty with
      | .dom size => viewBytes (okey r.idx r.sub) pos (min n (size - pos)) s
      | _ => ((viewObject r.idx r.sub s).drop pos).take n
    let s := if r.last then dropSeg r.path s else putSeg ⟨r.path, r.idx, r.sub, false, pos + bs.length, []⟩ s
    ⟨some (.done bs), s⟩

/-- R59: the profile in use. The information service follows OD_PROFILE_DECLARED at once, and entry 0x33 of R57 keeps the
profile of the last PREOP to SAFEOP: a choice of this model (DESIGN CHOICE, log entry 159). -/
def odProfile (s : State) : Nat :=
  let v := s.o OD.OD_PROFILE_DECLARED
  if v = 0 ∨ 2 < v then 2 else v

/-- R54, R59: every index that the information service lists. -/
def listedIndices (s : State) : List Nat :=
  ((Dict.groups.flatMap fun g => (List.range g.n).map (g.idx + ·)).eraseDups).filter fun i =>
    odProfile s == 2 || Config.profileOne i

/-- R63, R486: an answer of the SDO information service: the indices, or the subindices of one. -/
def informationAnswer (idx : Option Nat) (s : State) : Answer :=
  match idx with
  | none => .objects (listedIndices s)
  | some i => if (listedIndices s).contains i then .objects (0 :: subsOf i) else .abort AB.noIndex

/-- Serve one request. A complete access ends the path's own segmented transfer, whichever object it names: R81 speaks of a
different object only, and the rest is this model's choice (DESIGN CHOICE, log entry 160). -/
def serve (r : Req) (s : State) : Served :=
  match r.kind with
  | .read =>
    let s := leaveSeg r false s
    if r.segmented then readPiece r r.length s else ⟨some (readOne r s), s⟩
  | .write data => writePiece r data (if r.path = .mailbox ∧ ¬ r.segmented then dropSeg r.path s else leaveSeg r true s)
  | .readAll fromOne =>
    let s := dropSeg r.path s
    ⟨some (readAllOf r fromOne s), s⟩
  | .information idx => ⟨some (informationAnswer idx s), s⟩
  | .writeAll fromOne data => writeAllOf r fromOne data (dropSeg r.path s)

/-! ### One request at a time (R48, R63) -/

/-- A request of the path has been taken and waits for its answer. -/
def answerOwed (path : Path) (s : State) : Bool :=
  (s.comp.load.any fun l => l.path == some path) || (s.disp.landing.any fun l => l.path == some path) ||
    ((s.tymp.open_ ++ s.tymp.stalled).any fun r => match r.done with
      | .answer p _ => p == path
      | _ => false)

/-- Serve a request, and answer it unless its answer waits or the request has reset the device; the power manager
recomputes (R417). -/
def serveNow (r : Req) (s : State) : State :=
  let x := serve r s
  if x.state.boot.phase = .starting then x.state
  else pwrRecompute (match x.answer with
    | some a => answerTo r.path a x.state
    | none => x.state)

/-- The path of the request that a command brings the object server. -/
def commandPath : Instr → Option Path
  | .sdoUpload .. | .sdoDownload .. | .sdoSegment .. | .completeAccess .. | .sdoInformation .. => some .mailbox
  | .winRead | .winWrite => some .window
  | .guardedWrite p .. | .consentMessage p .. | .formeSubmit p .. | .formeAbort p .. | .reqSubmit p .. |
      .rateClassRequest p .. | .presetNow p .. | .presetAtIndex p .. | .latch p .. | .clearCounters p .. |
      .selftest p .. | .cciRead p .. | .cciWrite p .. | .confirm p .. | .move p .. |
      .runSegments p .. | .home p .. | .stop p .. | .setPosition p .. | .clearFault p .. |
      .resetCommand p .. | .subReset p .. | .activateA p .. | .activateB p .. | .restart p .. | .journalFormat p .. => some p
  | .platCommit (.object p) .. | .camCommit (.object p) .. | .motCommit (.object p) .. | .dispPush (.object p) .. => some p
  | _ => none

/-- A command that brings the server a request of the EtherCAT mailbox. -/
def mailboxCommand (c : Instr) : Bool := commandPath c == some .mailbox

/-- R48: the commands that still wait at this LOC bring a request of the mailbox. -/
def mailboxToCome (s : State) : Bool := s.pending.any mailboxCommand

/-- R415: a subsystem has no clock or no power before the exit in progress is complete. -/
def unitGated (n : Nat) (s : State) : Bool :=
  s.pwr.exiting && (decide (2 ≤ s.pwr.state) && [8, 9, 10, 11, 16, 17, 18, 19].contains n ||
    s.pwr.state == 4 && [5, 6, 7, 12, 13, 15].contains n)

/-- R415, R419: a request waits for the end of an exit: one of the window, an access of BAR2, and a write to a subsystem that has no clock
or no power. -/
def waitsExit (r : Req) (s : State) : Bool :=
  match r.path, r.kind with
  | .window, _ => s.pwr.exiting
  | .mailbox, .write _ => unitGated (ownerOf (okey r.idx r.sub)) s
  | .mailbox, .writeAll .. => unitGated (ownerOf (okey r.idx r.sub)) s
  | .mailbox, _ => false

/-- A request can be served: it is its path's oldest, the path is owed no answer, and no exit keeps it waiting. -/
def servableNow (r : Nat × Req) (s : State) : Bool :=
  (s.srv.waiting.find? fun q => q.2.path == r.2.path) == some r && !answerOwed r.2.path s && !waitsExit r.2 s

/-- R48: of the requests that can be served, the one that reached the server first; of a mailbox and a window request of one
cycle, the mailbox's. A window request of this cycle waits while a mailbox request of the cycle is still to come. -/
def nextWaiting (s : State) : Option (Nat × Req) :=
  if s.srv.busy ∨ s.boot.phase = .starting then none
  else match s.srv.waiting.find? fun r => servableNow r s with
    | none => none
    | some r =>
      if r.2.path = .mailbox then some r
      else match s.srv.waiting.find? fun q => q.1 == r.1 && q.2.path == .mailbox && servableNow q s with
        | some q => some q
        | none => if r.1 = s.loc ∧ mailboxToCome s then none else some r

/-- Serve what waits, as far as it can be served. -/
def drainServer : Nat → State → State
  | 0, s => s
  | n + 1, s =>
    match nextWaiting s with
    | none => s
    | some r => drainServer n (serveNow r.2 { s with srv := { s.srv with waiting := s.srv.waiting.erase r } })

/-- Serve what waits. -/
def drain (s : State) : State := drainServer s.srv.waiting.length s

/-- R48: a request reaches the server. It is a demand wake (R419). -/
def submit (r : Req) (s : State) : State :=
  let s := demandWake s
  drain { s with srv := { s.srv with waiting := s.srv.waiting ++ [(s.loc, r)] } }

/-- A mailbox request. -/
def mailboxReq (idx sub : Nat) (kind : ReqKind) (last segmented : Bool) (length : Nat) : Req :=
  ⟨.mailbox, idx, sub, kind, 0, length, last, segmented⟩

/-- R488: the mailbox takes requests: both sync managers are enabled. -/
def mailboxOpen (s : State) : Bool := s.net.smOn.toList.all id

/-- R488: a mailbox request by the state in effect: it reaches nothing while the sync managers are not enabled, as in INIT,
and is refused as a protocol in BOOT. A window request that waited for it is then served. -/
def viaMailbox (r : Req) (s : State) : State :=
  if ¬ mailboxOpen s then drain s
  else if s.net.al = .boot then drain { s with net := { s.net with answer := .mailboxError 2 } }
  else submit r s

/-- R78: a request through the window: while BUSY is 1 it is ignored and sets COLLISION. -/
def viaWindow (r : Req) (write : Bool) (s : State) : State :=
  if s.pcie.winBusy then { s with pcie := { s.pcie with winCollision := true } }
  else submit r { s with pcie := { s.pcie with winBusy := true, winWrite := write } }

/-- An object write of a row that names its path. -/
def objectWrite (path : Path) (idx sub : Nat) (data : List Byte) (s : State) : State :=
  match path with
  | .mailbox => viaMailbox (mailboxReq idx sub (.write data) true false data.length) s
  | .window => viaWindow ⟨.window, idx, sub, .write data, 0, data.length, true, false⟩ true s

/-! ### Commits of journal records (R51, R396, R435) -/

/-- The writes that a record completes take effect. -/
def storeWrites (ws : List (Nat × List Byte)) (s : State) : State := eachDo ws (fun w s => storeValue w.1 w.2 s) s

/-- R388, R394: a BOOT record of a boot command: the boot state takes its values, and the mirror its count. -/
def bootCommitted (restart : Bool) (vs : List (Nat × Nat)) (s : State) : State :=
  let s := eachDo vs (fun kv s => s.setO kv.1 kv.2) s
  let s := setFails (s.o OD.FAILED_STARTS) s
  if restart then s else raise EV.BOOT_ACTIVATED (s.o OD.ACTIVE_SLOT) s

/-- The server has finished with the request that waited for a record. -/
def freeServer (s : State) : State := { s with srv := { s.srv with busy := false } }

/-- R434, R435: a party's consent is committed; the second one applies the proposal. -/
def consentCommitted (party counter : Nat) (s : State) : State :=
  let s := s.setO (counterKey party) counter
  let s := answerTo (if party = 1 then .mailbox else .window) (.done []) s
  if s.sec.isOpen ∧ s.sec.consents = 3 then
    let (waits, s) := applyProposal s
    if waits then s else freeServer s
  else freeServer s

/-- What a record completes when its COMMIT word is programmed. -/
def recordCommitted (r : JRec) (s : State) : State :=
  match r.done, r.payload with
  | .answer path _, .nozzles _ => answerTo path (.done []) s
  | .answer path ws, .boot vs => freeServer (answerTo path (.done []) (bootCommitted (!ws.isEmpty) vs s))
  | .answer path ws, _ => freeServer (answerTo path (.done []) (storeWrites ws s))
  | .consented party, .consent _ n => consentCommitted party n s
  | .applied, .objects _ vs =>
    freeServer (proposalApplied (eachDo vs (fun kv s => storeValue kv.1 (leBytes (bytesOf kv.1) kv.2) s) s))
  | _, _ => s

/-- The oldest record's COMMIT word is programmed. By then the erase of an old pair is done (R398 step 7; log entry 226). -/
def commitRecord (s : State) : State :=
  match s.tymp.open_ with
  | [] => s
  | r :: rest =>
    if s.tymp.state = 0 ∨ s.tymp.state = 4 then s
    else
      let s := modTymp (fun t => applyRecord r.payload { t with open_ := rest, spare := none }) s
      pwrRecompute (drain (compactionCheck (restartCheck (recordCommitted r s))))

/-! ### Commands -/

/-- SDO_UPLOAD (R52). -/
def execSdoUpload (idx : BitVec 16) (sub : BitVec 8) (s : State) : Host.Outcome State Fault Refusal :=
  .next (viaMailbox (mailboxReq idx.toNat sub.toNat .read true false 0) s)

/-- SDO_DOWNLOAD (R52). -/
def execSdoDownload (idx : BitVec 16) (sub : BitVec 8) (data : List Byte) (s : State) :
    Host.Outcome State Fault Refusal :=
  .next (objectWrite .mailbox idx.toNat sub.toNat data s)

/-- SDO_SEGMENT (R49, R63): a segment of a write, or one of a read, as long as `data`. -/
def execSdoSegment (idx : BitVec 16) (sub : BitVec 8) (write : Bool) (data : List Byte) (last : Bool) (s : State) :
    Host.Outcome State Fault Refusal :=
  .next (viaMailbox (mailboxReq idx.toNat sub.toNat (if write then .write data else .read) last true data.length) s)

/-- R49: the path's segmented write is aborted for want of a further segment. -/
def segmentTimeout (path : Path) (s : State) : State :=
  match segOf path s with
  | some g =>
    if ¬ g.write ∨ answerOwed path s then s
    else
      let s := dropSeg path s
      match path with
      | .mailbox => { s with net := { s.net with answer := .abort AB.timedOut } }
      | .window => if s.pcie.winBusy then s
          else { s with pcie := { s.pcie with winDone := true, winStatus := AB.timedOut, winLength := 0 } }
  | none => s

/-- SDO_SEGMENT_TIMEOUT (R49). -/
def execSdoSegmentTimeout (path : Path) (s : State) : Host.Outcome State Fault Refusal := .next (segmentTimeout path s)

/-- COMPLETE_ACCESS (R487), over the mailbox. -/
def execCompleteAccess (idx : BitVec 16) (fromOne : Bool) (write : Option (List Byte)) (s : State) :
    Host.Outcome State Fault Refusal :=
  let kind := match write with
    | some data => ReqKind.writeAll fromOne data
    | none => .readAll fromOne
  .next (viaMailbox (mailboxReq idx.toNat (b2n fromOne) kind true false 0) s)

/-- SDO_INFORMATION (R59, R63). -/
def execSdoInformation (idx : Option (BitVec 16)) (s : State) : Host.Outcome State Fault Refusal :=
  .next (viaMailbox (mailboxReq 0 0 (.information (idx.map (·.toNat))) true false 0) s)

/-- GUARDED_WRITE (R53, R432). -/
def execGuardedWrite (path : Path) (idx : BitVec 16) (sub : BitVec 8) (data : List Byte) (s : State) :
    Host.Outcome State Fault Refusal :=
  .next (objectWrite path idx.toNat sub.toNat data s)

/-- CONSENT_MESSAGE (R434). -/
def execConsentMessage (path : Path) (message : List Byte) (s : State) : Host.Outcome State Fault Refusal :=
  .next (objectWrite path 0x2400 0x08 message s)

/-- FORME_SUBMIT (R139). -/
def execFormeSubmit (path : Path) (forme : Fin 256) (s : State) : Host.Outcome State Fault Refusal :=
  .next (objectWrite path (0x3300 + forme) 0x02 [1#8] s)

/-- FORME_ABORT (R146, R147). -/
def execFormeAbort (path : Path) (forme : Fin 256) (s : State) : Host.Outcome State Fault Refusal :=
  .next (objectWrite path (0x3300 + forme) 0x02 [2#8] s)

/-- REQ_SUBMIT (R172). -/
def execReqSubmit (path : Path) (s : State) : Host.Outcome State Fault Refusal := .next (objectWrite path 0x3401 0x06 [1#8] s)

/-- RATE_CLASS_REQUEST (R165, R171). -/
def execRateClassRequest (path : Path) (plane : Fin 2) (cls : Byte) (s : State) : Host.Outcome State Fault Refusal :=
  .next (objectWrite path 0x3400 (3 + plane) [cls] s)

/-- PRESET_NOW (R187). -/
def execPresetNow (path : Path) (s : State) : Host.Outcome State Fault Refusal := .next (objectWrite path 0x2800 0x12 [1#8] s)

/-- PRESET_AT_INDEX (R187). -/
def execPresetAtIndex (path : Path) (s : State) : Host.Outcome State Fault Refusal :=
  .next (objectWrite path 0x2800 0x12 [2#8] s)

/-- LATCH (R187, R198). -/
def execLatch (path : Path) (s : State) : Host.Outcome State Fault Refusal := .next (objectWrite path 0x2800 0x12 [3#8] s)

/-- CLEAR_COUNTERS (R187). -/
def execClearCounters (path : Path) (s : State) : Host.Outcome State Fault Refusal :=
  .next (objectWrite path 0x2800 0x12 [4#8] s)

/-- SELFTEST (R262). -/
def execSelftest (path : Path) (port : Fin 24) (s : State) : Host.Outcome State Fault Refusal :=
  .next (objectWrite path (0x3700 + port) 0x30 [1#8] s)

/-- CCI_READ (R277). -/
def execCciRead (path : Path) (port : Fin 4) (s : State) : Host.Outcome State Fault Refusal :=
  .next (objectWrite path (0x4000 + port) 0x43 [1#8] s)

/-- CCI_WRITE (R277). -/
def execCciWrite (path : Path) (port : Fin 4) (s : State) : Host.Outcome State Fault Refusal :=
  .next (objectWrite path (0x4000 + port) 0x43 [2#8] s)

/-- CONFIRM (R303). -/
def execConfirm (path : Path) (value : BitVec 32) (s : State) : Host.Outcome State Fault Refusal :=
  .next (objectWrite path 0x4200 0x10 (leBytes 4 value.toNat) s)

/-- MOVE, RUN_SEGMENTS, HOME, STOP, SET_POSITION and CLEAR_FAULT (R370) are writes of an axis's COMMAND. -/
def axisCommand (path : Path) (axis v : Nat) (s : State) : Host.Outcome State Fault Refusal :=
  .next (objectWrite path (0x4800 + axis) 0x02 (leBytes 1 v) s)

/-- MOVE (R370). -/
def execMove (path : Path) (axis : Fin 8) (s : State) : Host.Outcome State Fault Refusal := axisCommand path axis 1 s

/-- RUN_SEGMENTS (R370). -/
def execRunSegments (path : Path) (axis : Fin 8) (s : State) : Host.Outcome State Fault Refusal := axisCommand path axis 2 s

/-- HOME (R370). -/
def execHome (path : Path) (axis : Fin 8) (s : State) : Host.Outcome State Fault Refusal := axisCommand path axis 3 s

/-- STOP (R370). -/
def execStop (path : Path) (axis : Fin 8) (s : State) : Host.Outcome State Fault Refusal := axisCommand path axis 4 s

/-- SET_POSITION (R370). -/
def execSetPosition (path : Path) (axis : Fin 8) (s : State) : Host.Outcome State Fault Refusal := axisCommand path axis 5 s

/-- CLEAR_FAULT (R370). -/
def execClearFault (path : Path) (axis : Fin 8) (s : State) : Host.Outcome State Fault Refusal := axisCommand path axis 6 s

/-- RESET_COMMAND (R409, R413). -/
def execResetCommand (path : Path) (s : State) : Host.Outcome State Fault Refusal :=
  .next (objectWrite path 0x2100 0x22 [1#8] s)

/-- SUB_RESET (R410). -/
def execSubReset (path : Path) (number : Byte) (s : State) : Host.Outcome State Fault Refusal :=
  .next (objectWrite path 0x2100 0x23 [number] s)

/-- ACTIVATE_A (R394). -/
def execActivateA (path : Path) (s : State) : Host.Outcome State Fault Refusal := .next (objectWrite path 0x2300 0x09 [1#8] s)

/-- ACTIVATE_B (R394). -/
def execActivateB (path : Path) (s : State) : Host.Outcome State Fault Refusal := .next (objectWrite path 0x2300 0x09 [2#8] s)

/-- RESTART (R394). -/
def execRestart (path : Path) (s : State) : Host.Outcome State Fault Refusal := .next (objectWrite path 0x2300 0x09 [3#8] s)

/-- JOURNAL_FORMAT (R394). -/
def execJournalFormat (path : Path) (s : State) : Host.Outcome State Fault Refusal :=
  .next (objectWrite path 0x2300 0x09 [4#8] s)

/-- JOURNAL_COMMIT (R396). -/
def execJournalCommit (s : State) : Host.Outcome State Fault Refusal := .next (commitRecord s)

/-- TYMP_COMPACTION_DONE (R398, R400). -/
def execTympCompactionDone (s : State) : Host.Outcome State Fault Refusal :=
  .next (pwrRecompute (drain (restartCheck (compactionDone s))))

/-- START (R386). -/
def execStart (report : StartReport) (s : State) : Host.Outcome State Fault Refusal :=
  .next (drain (startStep report s))

/-- START_WATCHDOG (R386, R390). -/
def execStartWatchdog (s : State) : Host.Outcome State Fault Refusal := .next (drain (startExpired s))

/-- PAGE_ACCEPT (R175). -/
def execPageAccept (s : State) : Host.Outcome State Fault Refusal :=
  .next (drain (acceptPage (feedTables s)))

/-- COMP_CHANGE_FOLDED (R173). -/
def execCompChangeFolded (s : State) : Host.Outcome State Fault Refusal :=
  .next (drain (foldFirst [] s.comp.items s))

end Sys2Proof.Machine
end

