-- ==== Sys2Proof/Machine/Returns.lean ====
section
/-! DEFINITION. Machine/Returns.lean: what comes back late: a DRAM read with its ECC outcome (R352), and the end of a push
with the transfers that land in its cycle (R466, R469). -/

namespace Sys2Proof.Machine

/-! ### DRAM_READ_RETURN (R352) -/

/-- R352: poisoned data of a decompressor read fails the stream whose block holds the address. -/
def poisonStream (a : Nat) (s : State) : State :=
  let n := (a - s.o OD.GAL_AREA_BASE) / 65536
  if a < s.o OD.GAL_AREA_BASE then s
  else match s.gal.streams.find? fun st => st.blocks.any fun b => b.num == n with
    | some st => if st.failed then s else streamError st 0x0F false s
    | none => s

/-- R352: the egress slot that holds an address: its ring and its number. -/
def slotHolding (a : Nat) (s : State) : Option (Nat × Nat) :=
  ((List.range 9).flatMap fun i => (vgetN s.egress (i + 1)).awaiting.map fun n => (97 + i, n.1)).find? fun x =>
    decide (slotAddress x.1 x.2 s ≤ a) && decide (a < slotAddress x.1 x.2 s + slotBytes x.1)

/-- R352, R111: the general ring that reads an address of the diagnostic window. -/
def windowReader (a : Nat) (s : State) : Option Nat :=
  ((List.range 16).map (112 + ·)).find? fun r => match (ringOf r s).xfer with
    | some x => x.started && x.desc.op == 3 && x.desc.target == 7 && decide (x.desc.offset ≤ a) &&
        decide (a < x.desc.offset + x.desc.total)
    | none => false

/-- R352: a poisoned read of the rings: the record goes out with TYPE 0xFF, or the TO_HOST descriptor fails. -/
def poisonDuctor (a : Nat) (s : State) : State :=
  match slotHolding a s with
  | some (r, n) => dramWrite (slotAddress r n s) [0xFF#8] s
  | none =>
    match windowReader a s with
    | some r => haltRing r 9 (((ringOf r s).xfer.map (·.entries)).getD 0) s
    | none => s

/-- R352: what poisoned data does to its requester. -/
def poisoned (requester a : Nat) (s : State) : State :=
  match requester with
  | 0 => poisonStream a s
  | 1 | 4 => poisonDuctor a s
  | 3 => poisonFrame a s
  | 5 => doReset 2 9 s
  | _ => s

/-- R347, R352: the next read of a channel returns; ECC outcomes arise only while inline ECC is on. -/
def readReturn (c : Nat) (ecc : EccOutcome) (s : State) : State :=
  if s.ddr.state ≠ 2 then s
  else
    let (q, ch) := serveRead 1024 (channelOf c s)
    let s := serveWaiting (modChannel c (fun _ => ch) s)
    match q with
    | none => s
    | some r =>
      let ecc := if s.ddr.eccOn then ecc else .clean
      let s := { s with ddr := { s.ddr with returned := some (r.requester.val, r.data, ecc == .uncorrectable) } }
      match ecc with
      | .clean => s
      | .corrected => scrubReturned r (eccCorrected c r.address s)
      | .uncorrectable => poisoned r.requester r.address (eccUncorrectable c r.requester r.address s)

/-- DRAM_READ_RETURN (R352). -/
def execDramReadReturn (channel : Fin 4) (ecc : EccOutcome) (s : State) : Host.Outcome State Fault Refusal :=
  .next (readReturn channel ecc s)

/-! ### DISP_FRAME_DONE (R466, R469) -/

/-- R466: a transfer into the push buffer lands: its descriptor or its object write completes. -/
def landTransfer (x : Landing) (s : State) : State :=
  match x.ring, x.path with
  | some r, _ => if (ringOf r s).xfer.isSome then completeDesc r s else s
  | none, some p => answerTo p (.done []) (pushBufferWrite x.offset x.data s)
  | none, none => s

/-- R469: both links have sent the last row. -/
def pushEnds (s : State) : State :=
  if s.disp.running.isNone then s
  else
    let landing := s.disp.landing
    let s := sendRest s
    let s := (modDisp (fun d => { d with running := none, rowsSent := 0, landing := [] }) s).bump OD.PUSH_SEQ
    let s := raise EV.DISP_FRAME_DONE (s.o OD.PUSH_SEQ) s
    pwrRecompute (drain (eachDo landing landTransfer s))

/-- DISP_FRAME_DONE (R469). -/
def execDispFrameDone (s : State) : Host.Outcome State Fault Refusal :=
  .next (whenDo (lineOn s) (fun s => pushEnds s) s)

end Sys2Proof.Machine
end

