-- ==== Sys2Proof/Machine/Net.lean ====
section
/-! DEFINITION. Machine/Net.lean: the EtherCAT side: AL states (R60 to R62, R75), process data (R64 to R71), file access
(R72), addresses (R73, R74) and the other ESC registers. -/

namespace Sys2Proof.Machine

/-! ### AL states -/

/-- The AL state codes of the AL status register (log entry 40). -/
def alCode : AlState → Nat
  | .init => 1
  | .preop => 2
  | .boot => 3
  | .safeop => 4
  | .op => 8

/-- R62: the transitions of the EtherCAT state machine (log entry 40). -/
def alPermits : AlState → AlState → Bool
  | .init, t => t == .init || t == .preop || t == .boot
  | .boot, t => t == .init || t == .boot
  | .preop, t => t == .init || t == .preop || t == .safeop
  | .safeop, t => t != .boot
  | .op, t => t != .boot

/-- Update the slave controller. -/
def modNet (f : Net → Net) (s : State) : State := { s with net := f s.net }

/-- R488: the sync managers that the master enables on the way into a state. -/
def smAfter (old new : AlState) (sm : Vector Bool 2) : Vector Bool 2 :=
  if new = .init then Vector.replicate 2 false else if old = .init then Vector.replicate 2 true else sm

/-- Process data runs in SAFE-OPERATIONAL and OPERATIONAL (R60). -/
def runsData (a : AlState) : Bool := a == .safeop || a == .op

/-- The slave controller in a new state. -/
def Net.toState (new : AlState) (n : Net) : Net :=
  { n with
    al := new, alStatus := 0, preopWaiting := false, smOn := smAfter n.al new n.smOn
    outputs := if new = .op then n.outputs else none
    foe := if new = .boot then n.foe else none
    sm2Loc := if runsData new then n.sm2Loc else none
    sm2Gaps := if runsData new then n.sm2Gaps else [] }

/-- R61: what leaving OPERATIONAL brings. -/
def leaveOperational (s : State) : State := stopAxes (platDisable s)

/-- R57: the entry of the object dictionary profile. -/
def negotiateProfile (s : State) : State :=
  let v := s.o OD.OD_PROFILE_DECLARED
  setNegotiated 0x33 (if v = 1 then 1 else 2) (odProfile s) s

/-- R60, R61, R74: the device enters an AL state. -/
def enterAl (new : AlState) (s : State) : State :=
  let old := s.net.al
  if old = new then modNet (fun n => { n with alStatus := 0, preopWaiting := false }) s
  else
    let s := modNet (Net.toState new) s
    let s := raise EV.NET_STATE_CHANGE (256 * alCode old + alCode new) s
    let s := if old = .op then leaveOperational s else s
    let s := if new = .init ∧ s.o OD.STATION_ALIAS ≠ s.net.stationAlias then loadAlias s else s
    let s := if old = .preop ∧ new = .safeop then negotiateProfile s else s
    pwrRecompute s

/-- R62: a refusal: the code in the AL status; the state is kept. -/
def refuseAl (code : Nat) (s : State) : State :=
  raise EV.NET_AL_REFUSED code (modNet (fun n => { n with alStatus := code }) s)

/-! ### The default assignment (R59, R64, R67) -/

/-- The objects of a mapping or an assignment. -/
def pdoKeys : List Nat :=
  ([0x1600, 0x1601, 0x1A00, 0x1A01].flatMap fun p => (List.range 17).map (okey p)) ++
    [0x1C12, 0x1C13].flatMap fun a => (List.range 3).map (okey a)

/-- R64: the entries of the profile-1 assignment. -/
def profileOneEntries (pdo : Nat) : List Nat :=
  if pdo = 0x1600 then [0x21010110] else if pdo = 0x1A00 then [0x21010210, 0x28001020, 0x28001120] else []

/-- R64: the value of a PDO object in the default assignment of a profile. -/
def pdoDefault (profile key : Nat) : Nat :=
  if profile = 1 ∧ isMapping (key / 256) then
    let es := profileOneEntries (key / 256)
    if key % 256 = 0 then es.length else es.getD (key % 256 - 1) 0
  else dfltOf key

/-- R64: the default assignment is loaded, unless the master has written its own. -/
def loadPdos (s : State) : State :=
  if s.net.pdoOwn then s else eachDo pdoKeys (fun k s => s.setO k (pdoDefault (odProfile s) k)) s

/-- R62, R67: the assignment of a direction is consistent: PDOs of that direction, at most 64 B. -/
def pdosConsistent (assign : Nat) (pdos : List Nat) (s : State) : Bool :=
  (assignedPdos s.o assign).all (fun p => pdos.contains p) && decide (imageBits s.o assign ≤ 512)

/-- R68: the SYNC0 cycle time is one of those supported. -/
def sync0Ok (ns : Nat) : Bool := ns % 125000 == 0 && decide (125000 ≤ ns) && decide (ns ≤ 10000000)

/-- R62: what refuses PRE-OPERATIONAL to SAFE-OPERATIONAL, once the default assignment is loaded; 0 = nothing. -/
def safeopCause (s : State) : Nat :=
  let mode := s.o OD.SYNC_MODE_OUT
  if ¬ pdosConsistent 0x1C12 [0x1600, 0x1601] s then 0x001D
  else if ¬ pdosConsistent 0x1C13 [0x1A00, 0x1A01] s then 0x001E
  else if mode = 0 ∨ 3 ≤ mode then 0x0030
  else if mode = 2 ∧ ¬ sync0Ok s.net.sync0Cycle then 0x0035
  else 0

/-- R62, R75: the master requests an AL state. -/
def requestAl (target : AlState) (s : State) : State :=
  let starting := s.boot.phase == .starting
  if isBare s ∧ runsData target then refuseAl 0x8001 s
  else if starting ∧ target = .safeop then refuseAl 0x8002 s
  else if ¬ alPermits s.net.al target then refuseAl 0x0011 s
  else if starting ∧ target = .preop ∧ s.net.al = .init then modNet (fun n => { n with preopWaiting := true }) s
  else if s.net.al = .preop ∧ target = .safeop then
    let s := loadPdos s
    if safeopCause s = 0 then enterAl .safeop s else refuseAl (safeopCause s) s
  else enterAl target s

/-- AL_STATE_REQUEST (R62). -/
def execAlStateRequest (target : AlState) (s : State) : Host.Outcome State Fault Refusal := .next (requestAl target s)

/-- PREOP_ACKNOWLEDGE (R75). -/
def execPreopAcknowledge (s : State) : Host.Outcome State Fault Refusal :=
  .next (if s.net.preopWaiting ∧ s.boot.phase ≠ .starting ∧ s.net.al = .init then enterAl .preop s else s)

/-- PROCESS_DATA_WATCHDOG (R71). -/
def execProcessDataWatchdog (s : State) : Host.Outcome State Fault Refusal :=
  .next (if s.net.al = .op then
      modNet (fun n => { n with alStatus := 0x001B }) (enterAl .safeop (raise EV.NET_WATCHDOG 0 s))
    else s)

/-! ### Process data (R64 to R70) -/

/-- The mapping entries of a direction, in order. -/
def assignedEntries (assign : Nat) (s : State) : List Nat :=
  (assignedPdos s.o assign).flatMap fun p =>
    if isMapping p then (List.range (s.o (okey p 0))).map fun i => s.o (okey p (i + 1)) else []

/-- The value of an entry, in the bits it maps; a gap is 0. -/
def entryValue (e : Nat) (s : State) : Nat :=
  if e / 65536 = 0 then 0 else leNum (viewObject (e / 65536) (e / 256 % 256) s) % 2 ^ (e % 256)

/-- Values packed in order, each in its bits: the number they spell. -/
def packBits : List (Nat × Nat) → Nat
  | [] => 0
  | (v, n) :: rest => v % 2 ^ n + 2 ^ n * packBits rest

/-- R70: the TxPDO image. -/
def inputImage (s : State) : List Byte :=
  leBytes ((imageBits s.o 0x1C13 + 7) / 8) (packBits ((assignedEntries 0x1C13 s).map fun e => (entryValue e s, e % 256)))

/-- R68, R70, R198: the input latch: WEB latch slot 0, while WEB has power (R415), then the image. -/
def latchInputs (s : State) : State :=
  let s := whenDo (webOn s) (latchSlot 0) s
  modNet (fun n => { n with inputs := inputImage s }) s

/-- An entry of the output image is applied; a shadow set whose COMMIT is pending stays as it is (R27). -/
def applyEntry (key v : Nat) (s : State) : State :=
  match objRow key with
  | some row =>
    if row.acc ≠ .rw ∨ shadowLocked key s then s
    else
      let s := if key = OD.PRESS_CONTROL ∧ v % 8 ≠ s.o OD.PRESS_CONTROL then demandWake s else s
      storeValue key (leBytes row.ty.bytes v) s
  | none => s

/-- The entries of the output image in order, `num` being the bits not yet taken. -/
def applyEntries : List Nat → Nat → State → State
  | [], _, s => s
  | e :: es, num, s =>
    let n := e % 256
    applyEntries es (num / 2 ^ n) (if e / 65536 = 0 then s else applyEntry (e / 256) (num % 2 ^ n) s)

/-- R70: the outputs are applied. -/
def applyOutputs (outs : List Byte) (s : State) : State := applyEntries (assignedEntries 0x1C12 s) (leNum outs) s

/-- R417: an SM2 event, with its interval to the one before. -/
def noteSm2 (s : State) : State :=
  modNet (fun n => { n with
    sm2Loc := some s.loc
    sm2Gaps := match n.sm2Loc with
      | some last => ((s.loc - last) :: n.sm2Gaps).take 8
      | none => n.sm2Gaps }) s

/-- R68: the SM2 event: a frame has written the whole output image. SM-synchronous: inputs, then outputs; DC SYNC0: the
outputs wait for the edge. Outputs count in OPERATIONAL only (R60). -/
def sm2Event (outs : List Byte) (s : State) : State :=
  if ¬ runsData s.net.al ∨ outs.length ≠ (imageBits s.o 0x1C12 + 7) / 8 then s
  else
    let s := noteSm2 s
    pwrRecompute (if s.o OD.SYNC_MODE_OUT = 2 then
        if s.net.al = .op then modNet (fun n => { n with outputs := some outs }) s else s
      else
        let s := latchInputs s
        if s.net.al = .op then applyOutputs outs s else s)

/-- SM2_EVENT (R68). -/
def execSm2Event (outputs : List Byte) (s : State) : Host.Outcome State Fault Refusal := .next (sm2Event outputs s)

/-- DC SYNC0 mode is in use (R68). -/
def dcMode (s : State) : Bool := s.o OD.SYNC_MODE_OUT == 2 && runsData s.net.al

/-- R68: a SYNC0 edge: the inputs are latched, then outputs received since the SM2 event are applied. -/
def sync0 (s : State) : State :=
  let s := modNet (fun n => { n with sync0Loc := s.loc, syncMissed := false }) s
  if ¬ dcMode s then s
  else
    let s := latchInputs s
    pwrRecompute (match s.net.outputs with
      | some outs => modNet (fun n => { n with outputs := none }) (if s.net.al = .op then applyOutputs outs s else s)
      | none => s)

/-- SYNC0_EDGE (R68). -/
def execSync0Edge (s : State) : Host.Outcome State Fault Refusal := .next (sync0 s)

/-- SYNC0_MISSING (R316, R481): no edge within 2 cycle times, reported once until the next edge. -/
def execSync0Missing (s : State) : Host.Outcome State Fault Refusal :=
  .next (if dcMode s ∧ ¬ s.net.syncMissed then raise EV.NET_SYNC_MISSED 0 (modNet (fun n => { n with syncMissed := true }) s)
    else s)

/-! ### File access (R72, R393) -/

/-- R72: a transfer ends with a FoE error. -/
def foeError (code : Nat) (s : State) : State :=
  raise EV.NET_FOE_ERROR code (modNet (fun n => { n with foe := none, answer := .fileError code }) s)

/-- R72: a transfer ends well. -/
def foeDone (file : Nat) (data : List Byte) (s : State) : State :=
  raise EV.NET_FOE_DONE file (modNet (fun n => { n with foe := none, answer := .done data }) s)

/-- R72, R393: bytes of rz2440.fw. -/
def firmwareWrite (data : List Byte) (last : Bool) (s : State) : State :=
  let pos := s.net.foe.getD 0
  if slotSize < pos + data.length then foeError 0x8003 s
  else
    let s := imageStore pos data s
    if ¬ last then modNet (fun n => { n with foe := some (pos + data.length), answer := .done [] }) s
    else
      let (ok, s) := imageEnd s
      if ok then foeDone 0 [] s else foeError 0x800B s

/-- RZ2440_FW_WRITE (R72): a write over FoE, of any file. -/
def execRz2440FwWrite (file : FoeFile) (password : BitVec 32) (data : List Byte) (last : Bool) (s : State) :
    Host.Outcome State Fault Refusal :=
  .next (if ¬ mailboxOpen s then s
    else
      let s := demandWake s
      match file with
      | .other => foeError 0x8001 s
      | .journal | .events => foeError 0x8002 s
      | .firmware =>
        if password ≠ 0 then foeError 0x8002 s
        else if s.net.al ≠ .boot then foeError 0x8008 s
        else firmwareWrite data last s)

/-- R72: a transfer ends with an error whose code R72 does not give: a free value (log entry 3). -/
def foeOpenError (s : State) : State := foeError (wrapTo 32 (drawFree s)) (freeDrawn s)

/-- R72: a read of the file of a name: a name not in the table, then the password, then the file. A read of rz2440.fw and, in
BOOT, of events.log is refused with a code that R72 does not give. -/
def foeRead (file : FoeFile) (password : BitVec 32) (s : State) : State :=
  if ¬ mailboxOpen s then s
  else
    let s := demandWake s
    match file with
    | .other => foeError 0x8001 s
    | .firmware => if password ≠ 0 then foeError 0x8002 s else foeOpenError s
    | .journal => if password ≠ 0 then foeError 0x8002 s else foeDone 1 (journalImageBytes s) s
    | .events =>
      if password ≠ 0 then foeError 0x8002 s
      else if s.net.al = .boot then foeOpenError s
      else foeDone 2 (s.dev.evLog.flatMap LogRec.bytes) s

/-- TYMPAN_JNL_READ (R72): a read over FoE, by its file name. -/
def execTympanJnlRead (open_ : FoeOpen) (s : State) : Host.Outcome State Fault Refusal :=
  .next (foeRead open_.file open_.password s)

/-- EVENTS_LOG_READ (R72): a read over FoE, by its file name; the records are not removed. -/
def execEventsLogRead (open_ : FoeOpen) (s : State) : Host.Outcome State Fault Refusal :=
  .next (foeRead open_.file open_.password s)

/-! ### ESC registers (R71, R73, R75, R488) -/

/-- STATION_ADDRESS_WRITE (R73). -/
def execStationAddressWrite (addr : BitVec 16) (s : State) : Host.Outcome State Fault Refusal :=
  .next (modNet (fun n => { n with station := addr.toNat }) s)

/-- R75: a byte written to ESC register 0x0040. -/
def resetRegister (v : Nat) (s : State) : State :=
  let k := s.net.resetSeq
  if k = 2 ∧ v = 0x53 then doReset 3 0 (modNet (fun n => { n with resetSeq := 0 }) s)
  else modNet (fun n => { n with resetSeq := if v = 0x52 then 1 else if k = 1 ∧ v = 0x45 then 2 else 0 }) s

/-- NET_RESET (R75): a byte of the sequence. -/
def execNetReset (value : Byte) (s : State) : Host.Outcome State Fault Refusal := .next (resetRegister value.toNat s)

/-- MII_LINK_CHANGE (R481). -/
def execMiiLinkChange (port : Fin 2) (up : Bool) (s : State) : Host.Outcome State Fault Refusal :=
  .next (if s.net.linkUp.get port = up then s
    else raise EV.NET_LINK_CHANGE (256 * port + b2n up) (modNet (fun n => { n with linkUp := n.linkUp.set port up }) s))

/-- R488: a sync manager of the mailbox is enabled or disabled; in INIT it is not enabled. -/
def smActivate (n : Nat) (v : Nat) (s : State) : State :=
  if s.net.al = .init then s else modNet (fun x => { x with smOn := vmodN x.smOn n fun _ => bit v 0 }) s

/-- A write of an ESC register, by its number in the EtherCAT standard register map (log entry 41). -/
def escWrite (reg v : Nat) (s : State) : State :=
  match reg with
  | 0x0010 => modNet (fun n => { n with station := v % 65536 }) s
  | 0x0040 => resetRegister (v % 256) s
  | 0x0420 => modNet (fun n => { n with watchdog := v % 65536 }) s
  | 0x0806 => smActivate 0 v s
  | 0x080E => smActivate 1 v s
  | 0x09A0 => pwrRecompute (modNet (fun n => { n with sync0Cycle := v }) s)
  | _ => s

/-- ESC_REGISTER_WRITE (R488). -/
def execEscRegisterWrite (reg : BitVec 16) (value : BitVec 32) (s : State) : Host.Outcome State Fault Refusal :=
  .next (escWrite reg.toNat value.toNat s)

end Sys2Proof.Machine
end

