-- ==== Sys2Proof/Machine/Flags.lean ====
section
/-! DEFINITION. Machine/Flags.lean: status words: fields and flags packed into the word that a register shows (R16), and
the maps of bits that registers and objects show. -/

namespace Sys2Proof.Machine

/-- Fields of a register word: each value in its width at its lowest bit. -/
def fields (l : List (Nat × Nat × Nat)) : Nat := (l.map fun f => f.1 % 2 ^ f.2.1 * 2 ^ f.2.2).foldl (· + ·) 0

/-- A field of one bit. -/
def flag (b : Bool) (at_ : Nat) : Nat × Nat × Nat := (b2n b, 1, at_)

/-- A map of bits by number. -/
def bitMap (n : Nat) (p : Nat → Bool) : Nat := ((List.range n).map fun i => b2n (p i) * 2 ^ i).foldl (· + ·) 0

end Sys2Proof.Machine
end

