-- ==== Sys2Proof/Machine/Registers.lean ====
section
/-! DEFINITION. Machine/Registers.lean: the register blocks of BAR0 (R15, R16, R20), the window of BAR2 (R77 to R83) and the
doorbells of BAR4 (R90), and what ends with accesses that have waited: an entry to a power state, an exit from one (R419 to R421, R424),
a freeze (R234). -/

namespace Sys2Proof.Machine

/-! ### PCIE and the window (R77 to R86) -/

/-- R86: the link runs below ×8 at 16 GT/s. -/
def degraded (s : State) : Bool := s.pcie.linkUp && (decide (s.pcie.width < 8) || decide (s.pcie.speed < 4))

/-- R86: PCIE_LINK_STATUS. -/
def linkStatus (s : State) : Nat :=
  fields [flag s.pcie.linkUp 11, flag (degraded s) 10, (s.pcie.width, 6, 4), (s.pcie.speed, 4, 0)]

/-- R84: a vector is masked, by the function or by itself. -/
def msixMasked (v : Nat) (s : State) : Bool :=
  bit s.pcie.msixCtl 14 || bit (kget msixDflt s.pcie.msixTable (4 * v + 3)) 0

/-- R84: messages that have become permitted leave. -/
def flushMsix (s : State) : State :=
  if ¬ (bit s.pcie.msixCtl 15 ∧ s.pcie.linkUp ∧ bit s.pcie.command 2) then s
  else
    let out := s.pcie.msixPending.filter fun v => !msixMasked v s
    { s with pcie := { s.pcie with
        msixPending := s.pcie.msixPending.filter fun v => msixMasked v s, msixSent := s.pcie.msixSent ++ out } }

/-- R84: a dword of the MSI-X table; of the vector control only the mask bit is kept, of the address no low bits. -/
def msixWrite (k v : Nat) (s : State) : State :=
  let w := if k % 4 = 3 then v % 2 else if k % 4 = 0 then v / 4 * 4 else v
  flushMsix { s with pcie := { s.pcie with msixTable := kset msixDflt k w s.pcie.msixTable } }

/-- R78: the request that a write of OP, or WIN_READ and WIN_WRITE, makes of the window registers. -/
def windowData (s : State) : List Byte :=
  if windowBytes < s.pcie.winLength then []
  else (List.range s.pcie.winLength).map fun i => BitVec.ofNat 8 (kget (fun _ => 0) s.pcie.winBuf i)

def windowRequest (write : Bool) (s : State) : Req :=
  let a := s.pcie.winAddr
  let sub := bits a 15 8
  let kind := match write, bit a 0 with
    | false, false => ReqKind.read
    | true, false => .write (windowData s)
    | false, true => .readAll (sub != 0)
    | true, true => .writeAll (sub != 0) (windowData s)
  ⟨.window, bits a 31 16, sub, kind, s.pcie.winOffset, s.pcie.winLength, bit a 1, false⟩

/-- R78: OP starts a request. -/
def windowStart (write : Bool) (s : State) : State := viaWindow (windowRequest write s) write s

/-- R79: a window request completes. -/
def windowDone (s : State) : State :=
  match s.pcie.winResult with
  | none => s
  | some a =>
    let (code, data) := match a with
      | .abort c => (c, [])
      | .done bs => (AB.ok, bs)
      | _ => (AB.ok, ([] : List Byte))
    let n := if code ≠ AB.ok then 0 else if s.pcie.winWrite then s.pcie.winLength else data.length
    let buf := (data.mapIdx fun i b => (i, b)).foldl (fun m ib => kset (fun _ => 0) ib.1 ib.2.toNat m) s.pcie.winBuf
    pwrRecompute (raise EV.PCIE_WINDOW_DONE code { s with pcie := { s.pcie with
      winBusy := false, winDone := true, winStatus := code, winLength := n, winBuf := buf, winResult := none } })

/-- R83: the aperture directory. -/
def directoryWord (k : Nat) : Nat :=
  match k with
  | 0 => 0x34800101
  | 1 => 0x400000
  | 2 => 0x180000
  | 3 => 1
  | _ => 0

/-- A window register. -/
def windowReg (k : Nat) (s : State) : Nat :=
  match k with
  | 0 => s.pcie.winAddr
  | 1 => s.pcie.winLength
  | 2 => s.pcie.winOffset
  | 4 => b2n s.pcie.winBusy + 2 * b2n s.pcie.winDone + 4 * b2n s.pcie.winCollision
  | 5 => s.pcie.winStatus
  | _ => 0

/-- R77: a byte of BAR2. In bare-forme mode apertures read 0 (R391). -/
def bar2Byte (off : Nat) (s : State) : Nat :=
  if off < 0x20 then windowReg (off / 4) s / 256 ^ (off % 4) % 256
  else if off < 0x120 then directoryWord (off / 4 - 8) / 256 ^ (off % 4) % 256
  else if 0x1000 ≤ off ∧ off < 0x10000 then kget (fun _ => 0) s.pcie.winBuf (off - 0x1000)
  else if 0x400000 ≤ off ∧ off < 0x580000 then
    if isBare s then 0 else ((tableBytes (off - 0x400000) 1 s).map (·.toNat)).headD 0
  else 0

/-- R78, R79: a window register takes the enabled bytes `w` of a write; `keep` holds the register's other bytes. -/
def windowRegWrite (k w keep : Nat) (s : State) : State :=
  let p := s.pcie
  match k with
  | 0 => if p.winBusy then s else { s with pcie := { p with winAddr := (w + keep) / 256 * 256 + (w + keep) % 4 } }
  | 1 => if p.winBusy then s else { s with pcie := { p with winLength := (w + keep) % 65536 } }
  | 2 => if p.winBusy then s else { s with pcie := { p with winOffset := w + keep } }
  | 3 =>
    if p.winBusy then { s with pcie := { p with winCollision := true } }
    else match w % 4 with
      | 1 => windowStart false s
      | 2 => windowStart true s
      | _ => s
  | 4 => { s with pcie := { p with
      winDone := p.winDone && !bit w 1, winCollision := p.winCollision && !bit w 2 } }
  | _ => s

/-- The bytes of dword `k` that an access of `size` bytes at `off` writes, and those it leaves. -/
def enabledBytes (k off size v old : Nat) : Nat × Nat :=
  ((List.range 4).map fun i =>
    let a := 4 * k + i
    if off ≤ a ∧ a < off + size then (v / 256 ^ (a - off) % 256 * 256 ^ i, 0) else (0, old / 256 ^ i % 256 * 256 ^ i)).foldl
    (fun x y => (x.1 + y.1, x.2 + y.2)) (0, 0)

/-- A write of BAR2. -/
def bar2Write (off size v : Nat) (s : State) : State :=
  if off < 0x20 then
    eachDo (((List.range size).map fun i => (off + i) / 4).eraseDups) (fun k s =>
      let (w, keep) := enabledBytes k off size v (windowReg k s)
      windowRegWrite k w keep s) s
  else if 0x1000 ≤ off ∧ off < 0x10000 then
    if s.pcie.winBusy then s
    else
      let buf := (List.range size).foldl (fun m i =>
        if off + i < 0x10000 then kset (fun _ => 0) (off + i - 0x1000) (v / 256 ^ i % 256) m else m) s.pcie.winBuf
      { s with pcie := { s.pcie with winBuf := buf } }
  else s

/-! ### Reads of BAR0 -/

/-- R91: a register of a ring. -/
def ringReg (r k : Nat) (s : State) : Nat :=
  let q := ringOf r s
  let retained := match q.xfer with
    | some x => x.staging == .retained
    | none => false
  let code := match q.state with
    | .disabled => 0
    | .running => 1
    | .stopped => 2
    | .halted => 3
  match k with
  | 0 => q.base % 2 ^ 32
  | 1 => q.base / 2 ^ 32
  | 2 => fields [(q.vector, 6, 22), flag q.vecEn 21, flag q.promote 20, flag q.prio 19, flag q.ns 18, (q.sizeLog2, 4, 0)]
  | 4 => fields [(q.cause, 4, 8), flag retained 5, flag q.poolWait 4, flag q.promoted 3, flag q.paced 2, (code, 2, 0)]
  | 5 => fields [(q.head, 16, 16), (q.tail, 16, 0)]
  | 6 => fields [(q.errEntry, 16, 16), (q.errDesc, 16, 0)]
  | 7 => q.lastTag
  | 8 => fields [(q.high, 16, 16), (q.low, 16, 0)]
  | 9 => if r < 96 then fillOf r s % 65536 else 0
  | _ => 0

/-- R354, R362: DDR_STATUS.STATE: TRAINING while an exit from SLEEP is in progress. -/
def ddrState (s : State) : Nat := if s.pwr.exiting ∧ s.pwr.state = 4 then 1 else s.ddr.state

/-- R362: the DDR block. -/
def ddrReg (o : Nat) (s : State) : Nat :=
  let d := s.ddr
  let chan := fun c : Channel =>
    fields [(queuedOf true c + queuedOf false c, 8, 24), ((c.banks.toList.map (·.debt)).foldl max 0, 8, 16), (c.rateCode, 8, 8),
      (if s.pwr.exiting ∧ s.pwr.state = 4 then 1 else c.state, 3, 0)]
  if o = 0 then fields [flag d.fixed 4, flag d.eccOn 3, (ddrState s, 3, 0)]
  else if 0x100 ≤ o ∧ o < 0x110 then chan (channelOf ((o - 0x100) / 4) s)
  else if 0x1000 ≤ o ∧ o < 0x1400 then
    let e := vgetN d.engines ((o - 0x1000) / 256)
    match o % 256 with
    | 0x00 => e.ctrl
    | 0x04 => e.addr
    | 0x08 => e.pattern
    | 0x0C => e.invert
    | 0x10 => e.err
    | _ => 0
  else 0

/-- R179: the COMP block. Between two compositions COMPOSE_BAND and HALF both speak of the line that the lane composes next (DESIGN
CHOICE, log entry 61). -/
def compReg (o : Nat) (s : State) : Nat :=
  let pages := s.comp.items.any fun x => match x.item with
    | .page _ _ _ _ _ => true
    | _ => false
  if o = 0 then fields [flag pages 9, (pendingEntries s, 9, 0)]
  else if 0x100 ≤ o ∧ o < 0x160 then
    let h := (o - 0x100) / 4
    let l := laneOf h s
    let band := nextFire h s / 64
    fields [(leadFrom (s.web.hwl + 1) l.lead, 6, 26), flag (rateAt (planeOf h) band s == 1) 25, flag l.restart 24, (band, 24, 0)]
  else 0

/-- R236: the PLAT block. -/
def platReg (o : Nat) (s : State) : Nat :=
  let held := s.o OD.HELD_LINE
  if o = 0 then fields [(holdCause s, 16, 16), (s.o OD.PLAT_LAG, 8, 8), flag s.plat.cycling 4,
    flag (vgetN s.plat.overNow 1) 3, flag (vgetN s.plat.overNow 0) 2, flag s.plat.backupValid 1,
    flag (holdDriven s) 0]
  else if o = 4 then held % 2 ^ 32
  else if o = 8 then held / 2 ^ 32 % 65536
  else if 0x100 ≤ o ∧ o < 0x160 then
    let h := (o - 0x100) / 4
    let q := seqrOf h s
    fields [flag q.torn 3, flag (hardReads h s) 2, flag q.cool 1, flag (halfSpan (planeOf h) s.web.hwl s) 0]
  else if 0x200 ≤ o ∧ o < 0x260 then 2 * b2n (s.ob (OD.PLAT_COMMIT_PENDING ((o - 0x200) / 4)))
  else 0

/-- R265: the block of a head port. -/
def portReg (p o : Nat) (s : State) : Nat :=
  let x := portOf p s
  let held := fun c : CreditAt => (x.slots.filter fun y => y.credit == c).length
  match o with
  | 0x0 => fields [(s.o (OD.OHL_FAULT_CAUSE p), 8, 16), (x.state.code, 4, 8),
      (x.version, 2, 6), flag x.det 5, flag x.en 4]
  | 0x4 => fields [(held .inFlight, 8, 16), (held .head, 8, 8), (8 - held .inFlight - held .head, 8, 0)]
  | 0x8 => x.slotDone % 2 ^ 32
  | 0xC => fields [(s.o (OD.RETRIES p), 16, 16), (s.o (OD.RETRAINS p), 16, 0)]
  | _ => 0

/-- R203: the WEB block. -/
def webReg (o : Nat) (s : State) : Nat :=
  let w := s.web
  match o with
  | 0x00 => fields [flag w.frozen 8, flag (s.o OD.STEP_PENDING != 0) 7, (w.source, 1, 6), flag w.locked 5, flag w.reversed 4,
      (w.direction, 2, 2), flag w.emuBehind 1, flag w.homed 0]
  | 0x04 => webpOf w.p % 2 ^ 32
  | 0x08 => w.snapHi
  | 0x0C => w.snapHwlLo
  | 0x10 => w.snapHwlHi
  | 0x14 => unsignedOf 32 (speedNow s)
  | _ => 0

/-- R324: the TIME block. -/
def timeReg (o : Nat) (s : State) : Nat :=
  let t := s.time
  match o with
  | 0x00 => s.loc % 2 ^ 32
  | 0x04 => t.snapLocHi
  | 0x08 => t.snapNetLo
  | 0x0C => t.snapNetHi
  | 0x10 => fields [(bitMap 16 fun u => vgetN t.matched u, 16, 16), (bitMap 16 fun u => s.ob (OD.CMP_ARM u), 16, 0)]
  | 0x14 => bitMap 8 fun i => vgetN t.valid i
  | _ => 0

/-- R336: PACE_STATUS. -/
def paceStatus (s : State) : Nat :=
  let p := s.pace
  fields [(s.o OD.PACE_POSITION, 8, 16), (p.role, 2, 6), flag p.busyIn 5, flag (p.recordsSent.getLast?.any (·.handback) || p.last.any (·.handback)) 4,
    flag p.ready 3, flag (s.ob OD.PARTNER_READY) 2, flag p.quoinHeld 1, flag p.driving 0]

/-- R287: the block of a camera port. -/
def camReg (p o : Nat) (s : State) : Nat :=
  let c := camOf p s
  match o with
  | 0x0 => fields [(s.o (OD.LIVE_ID p), 16, 16), flag (camTorn c) 6, flag (c.cciBusy || c.writing) 5, flag c.frame.isSome 4,
      flag c.trigPending 3, flag c.streaming 2, flag c.refclkOn 1, flag (s.ob (OD.CAM_PORT_ENABLE p)) 0]
  | 0x4 => s.o (OD.FSN p)
  | 0x8 => 2 * b2n (s.ob (OD.CAM_COMMIT_PENDING p))
  | 0xC => s.o (OD.TARGET_FSN p)
  | _ => 0

/-- R312: the PRF block. -/
def prfReg (o : Nat) (s : State) : Nat :=
  if o = 0 then fields [(s.prf.trials.length, 8, 8), (bitMap 4 fun p => !(camOf p s).toPrf.isEmpty, 4, 0)]
  else if 0x100 ≤ o ∧ o < 0x110 then
    let p := (o - 0x100) / 4
    let l := prfOf p s
    fields [flag (s.o (OD.CAM_DISTANCE p) != 0) 31, (l.open_.length, 3, 24), (l.summaries.length, 8, 16), (l.fsn, 16, 0)]
  else 0

/-- R381: the block of an axis, and MOT_SUMMARY. -/
def axisReg (a o : Nat) (s : State) : Nat :=
  let x := axisOf a s
  match o with
  | 0x00 => fields [(x.cause, 8, 24), (x.segment, 10, 14), flag (homeActive a s) 7, flag x.strong 6, flag x.holding 5,
      flag x.uncertain 4, (x.state.code, 3, 0)]
  | 0x04 => unsignedOf 32 (microOf x.x)
  | 0x08 => unsignedOf 32 (axisVelocity a s)
  | 0x0C => fields [(unsignedOf 16 x.phaseA.current, 16, 16), (unsignedOf 16 x.phaseB.current, 16, 0)]
  | 0x10 => 2 * b2n (s.ob (OD.MOT_COMMIT_PENDING a))
  | _ => 0

def motSummary (s : State) : Nat :=
  fields [(bitMap 8 fun a => (axisOf a s).state == .fault, 8, 16), (bitMap 8 fun a => (axisOf a s).uncertain, 8, 8),
    (bitMap 8 fun a => (axisOf a s).state.moves, 8, 0)]

/-- R402: BOOT_STATUS and TYMP_STATUS. -/
def bootStatus (s : State) : Nat :=
  fields [(s.boot.mirrorCause, 8, 24), (s.boot.mirrorFails, 8, 16), flag (s.ob OD.TRIAL) 3, (firmwareSlot s, 1, 2),
    flag (isBare s) 1, flag (s.boot.phase == .ready) 0]

def tympStatus (s : State) : Nat := fields [(logFill s, 8, 16), (journalState s, 3, 0)]

/-- R427: PWR_STATUS. -/
def pwrStatus (s : State) : Nat :=
  fields [(s.o OD.SUPPLY_STATUS, 8, 24), (s.o OD.NEXT_SOURCE, 4, 20), (s.o OD.RESET_KIND, 4, 16), (s.o OD.RESET_DETAIL, 8, 8),
    flag s.pwr.exiting 3, (s.pwr.state, 3, 0)]

/-- R440: SEC_STATUS. -/
def secStatus (s : State) : Nat :=
  fields [(proposalRemaining s, 16, 16), (s.o OD.LAST_CAUSE, 8, 8), flag s.sec.unlocked 5, flag s.sec.keyHost.isSome 4,
    flag s.sec.keyLine.isSome 3, flag (bit s.sec.consents 1) 2, flag (bit s.sec.consents 0) 1, flag s.sec.isOpen 0]

/-- R473: the DISP block. -/
def dispReg (o : Nat) (s : State) : Nat :=
  let d := s.disp
  match o with
  | 0 => fields [(d.cause, 8, 24), (scanRow s, 8, 16), flag d.teSkew 3, flag d.running.isSome 2, flag d.pending.isSome 1,
      flag d.panelOn 0]
  | 4 => fields [(s.o OD.PUSH_FIRST, 8, 16), (s.o OD.PUSH_COUNT, 15, 1)]
  | _ => 0

/-- R86, R84: the PCIE block: the link, the MSI-X table and its pending bits. -/
def pcieReg (o : Nat) (s : State) : Nat :=
  if o = 0 then linkStatus s
  else if 0x8000 ≤ o ∧ o < 0x8400 then kget msixDflt s.pcie.msixTable ((o - 0x8000) / 4)
  else if o = 0x9000 then bitMap 32 fun v => s.pcie.msixPending.contains v
  else if o = 0x9004 then bitMap 32 fun v => s.pcie.msixPending.contains (32 + v)
  else 0

/-- A read of a BAR0 register at offset `o` of block `b` (R20). -/
def bar0Read (b o : Nat) (s : State) : Nat :=
  match b with
  | 0x00 => if o = 0 then clkStatus s else 0
  | 0x01 => if o = 0 then bootStatus s else 0
  | 0x04 => pcieReg o s
  | 0x05 => if 0x1000 ≤ o ∧ o < 0x3000 then ringReg ((o - 0x1000) / 64) (o % 64 / 4) s else 0
  | 0x06 => ddrReg o s
  | 0x07 =>
    if 0x100 ≤ o ∧ o < 0x120 then
      let e := vgetN s.gal.engines ((o - 0x100) / 4)
      fields [(e.slot, 2, 24), (e.forme, 8, 16), (e.lines, 16, 0)]
    else 0
  | 0x08 =>
    if 0x100 ≤ o ∧ o < 0x180 then
      ((List.range 8).map fun i => (formeOf (8 * ((o - 0x100) / 4) + i) s).state.code * 16 ^ i).foldl (· + ·) 0
    else 0
  | 0x09 => compReg o s
  | 0x0A => platReg o s
  | 0x0B =>
    if o = 0 then bitMap 24 fun p => (portOf p s).state == .ready
    else if o = 4 then bitMap 24 fun p => (portOf p s).v1
    else 0
  | 0x0C => webReg o s
  | 0x0D => timeReg o s
  | 0x0E => if o = 0 then paceStatus s else 0
  | 0x0F => if o = 0 then bitMap 4 fun p => (camOf p s).streaming else 0
  | 0x10 => prfReg o s
  | 0x11 => if o = 0 then motSummary s else 0
  | 0x12 => dispReg o s
  | 0x13 => if o = 0 then tympStatus s else 0
  | 0x14 => if o = 0 then pwrStatus s else 0
  | 0x15 => if o = 0 then secStatus s else 0
  | _ =>
    if 0x18 ≤ b ∧ b ≤ 0x2F then portReg (b - 0x18) o s
    else if 0x30 ≤ b ∧ b ≤ 0x33 then camReg (b - 0x30) o s
    else if 0x34 ≤ b ∧ b ≤ 0x3B then axisReg (b - 0x34) o s
    else 0

/-- R203, R324: the snapshots that a read takes. -/
def bar0Snapshot (b o : Nat) (s : State) : State :=
  if b = 0x0C ∧ o = 4 then { s with web := { s.web with
      snapHi := webpOf s.web.p / 2 ^ 32 % 2 ^ 32, snapHwlLo := s.web.hwl % 2 ^ 32, snapHwlHi := s.web.hwl / 2 ^ 32 % 65536 } }
  else if b = 0x0D ∧ o = 0 then { s with time := { s.time with
      snapLocHi := s.loc / 2 ^ 32, snapNetLo := netNow s % 2 ^ 32, snapNetHi := netNow s / 2 ^ 32 } }
  else s

/-! ### Writes of BAR0 -/

/-- R91, R101: a write of a ring's registers. -/
def ringWrite (r k v : Nat) (s : State) : State :=
  let q := ringOf r s
  let off := q.state == .disabled
  match k with
  | 0 => if off then modRing r (fun q => { q with base := q.base / 2 ^ 32 * 2 ^ 32 + v / 32 * 32 }) s else s
  | 1 => if off then modRing r (fun q => { q with base := v * 2 ^ 32 + q.base % 2 ^ 32 }) s else s
  | 2 =>
    if off then modRing r (fun q => { q with
      vector := bits v 27 22, vecEn := bit v 21, promote := bit v 20, prio := bit v 19, ns := bit v 18
      sizeLog2 := bits v 3 0 }) s
    else s
  | 3 => controlWrite r v s
  | 8 =>
    if bits v 31 16 = 0 ∨ bits v 31 16 ≤ bits v 15 0 then s
    else modRing r (fun q => { q with high := bits v 31 16, low := bits v 15 0 }) s
  | _ => s

/-- A write of a BAR0 register; in bare-forme mode the print line, the cameras and the display have no power (R391). -/
def bar0Write (b o v : Nat) (s : State) : State :=
  let off := isBare s
  match b with
  | 0x04 => if 0x8000 ≤ o ∧ o < 0x8400 then msixWrite ((o - 0x8000) / 4) v s else s
  | 0x05 => if 0x1000 ≤ o ∧ o < 0x3000 ∧ ¬ off then ringWrite ((o - 0x1000) / 64) (o % 64 / 4) v s else s
  | 0x0A =>
    if off then s
    else if o = 0 then if bit v 4 then clearCycling s else s
    else if 0x200 ≤ o ∧ o < 0x260 ∧ bit v 0 then (commitPlaten ((o - 0x200) / 4) 2 s).2
    else s
  | 0x0C => if o = 0x18 ∧ bit v 0 then latchSlot 2 s else s
  | 0x0D =>
    if o = 0x10 then { s with time := { s.time with matched := s.time.matched.mapIdx fun u m => m && !bit v (16 + u) } }
    else if o = 0x14 then { s with time := { s.time with valid := s.time.valid.mapIdx fun i m => m && !bit v i } }
    else s
  | 0x12 => if o = 4 ∧ ¬ off then (hostPush (bits v 23 16) (bits v 15 1) s).2 else s
  | _ =>
    if 0x30 ≤ b ∧ b ≤ 0x33 ∧ o = 8 ∧ bit v 0 ∧ ¬ off then (commitCamera (b - 0x30) s).2
    else if 0x34 ≤ b ∧ b ≤ 0x3B ∧ o = 0x10 ∧ bit v 0 ∧ ¬ off then (commitMotion (b - 0x34) s).2
    else s

/-! ### BAR4 (R90) -/

/-- A read of a doorbell. -/
def bar4Read (off : Nat) (s : State) : Nat :=
  if off % 0x200 ≠ 0 then 0 else ringReg (off / 0x200) 5 s

/-- A write of a doorbell; ignored in bare-forme mode (R391). -/
def bar4Write (off v : Nat) (s : State) : State :=
  if off % 0x200 ≠ 0 ∨ isBare s then s else doorbell (off / 0x200) (v % 65536) s

/-! ### Accesses -/

/-- R85: bytes of a BAR. -/
def barSize : Bar → Nat
  | .bar0 => 0x400000
  | .bar2 => 0x1000000
  | .bar4 => 0x10000

/-- The data that a read returns. -/
def setRead (v : Nat) (s : State) : State := { s with pcie := { s.pcie with readData := v } }

/-- R77, R85: an access of `size` bytes at an offset of a BAR. BAR0 and BAR4 take aligned accesses of 32 bits: any other
read returns all ones, any other write is discarded. -/
def registerAccess (bar : Bar) (off size : Nat) (acc : RegAccess) (s : State) : State :=
  let whole := size == 4 && off % 4 == 0
  pwrRecompute (match bar, acc with
    | .bar2, .read => setRead (((List.range size).map fun i => bar2Byte (off + i) s * 256 ^ i).foldl (· + ·) 0) s
    | .bar2, .write v => bar2Write off size v.toNat s
    | .bar0, .read =>
      if whole then
        let s := bar0Snapshot (off / 65536) (off % 65536) s
        setRead (bar0Read (off / 65536) (off % 65536) s) s
      else setRead 0xFFFFFFFF s
    | .bar0, .write v => if whole then bar0Write (off / 65536) (off % 65536) v.toNat s else s
    | .bar4, .read => if whole then setRead (bar4Read off s) s else setRead 0xFFFFFFFF s
    | .bar4, .write v => if whole then bar4Write off v.toNat s else s)

/-- REGISTER_WRITE (R15, R419): an access to a register, a write or a read. -/
def execRegisterWrite (bar : Bar) (offset : Nat) (size : Nat) (acc : RegAccess) (s : State) :
    Host.Outcome State Fault Refusal :=
  .next (if barSize bar ≤ offset then s
    else barAccess (.registerWrite bar offset size acc) (registerAccess bar offset size acc) s)

/-- WIN_READ (R78): a write of OP read. -/
def execWinRead (s : State) : Host.Outcome State Fault Refusal := .next (windowStart false s)

/-- WIN_WRITE (R78): a write of OP write. -/
def execWinWrite (s : State) : Host.Outcome State Fault Refusal := .next (windowStart true s)

/-- WIN_REQUEST_DONE (R79). -/
def execWinRequestDone (s : State) : Host.Outcome State Fault Refusal := .next (windowDone s)

/-! ### Commits over either way (R218, R279, R376, R468) -/

/-- PLAT_COMMIT (R218): a write of the head's COMMIT object, or of PLAT_HEAD_COMMIT. -/
def execPlatCommit (path : CommitPath) (head : Fin 24) (s : State) : Host.Outcome State Fault Refusal :=
  .next (match path with
    | .object p => objectWrite p (0x3500 + head) 0x34 [1#8] s
    | .register => barAccess (.platCommit path head) (bar0Write 0x0A (0x200 + 4 * head) 1) s)

/-- CAM_COMMIT (R279). -/
def execCamCommit (path : CommitPath) (port : Fin 4) (s : State) : Host.Outcome State Fault Refusal :=
  .next (match path with
    | .object p => objectWrite p (0x4000 + port) 0x20 [1#8] s
    | .register => barAccess (.camCommit path port) (bar0Write (0x30 + port) 8 1) s)

/-- MOT_COMMIT (R376). -/
def execMotCommit (path : CommitPath) (axis : Fin 8) (s : State) : Host.Outcome State Fault Refusal :=
  .next (match path with
    | .object p => objectWrite p (0x4800 + axis) 0x38 [1#8] s
    | .register => barAccess (.motCommit path axis) (bar0Write (0x34 + axis) 0x10 1) s)

/-- R468: FIRST and COUNT in one complete access from subindex 1, with the values that subindices 1 and 2 hold. -/
def pushAccess (first count : Nat) (s : State) : List Byte :=
  leBytes 4 (s.o OD.HOST_CELLS) ++ leBytes 1 (s.o OD.LINE_MATCH) ++ leBytes 1 first ++ leBytes 2 count

/-- The complete access of a path. -/
def objectPush (path : Path) (data : List Byte) (s : State) : State :=
  match path with
  | .mailbox => viaMailbox (mailboxReq 0x4900 1 (.writeAll true data) true false 0) s
  | .window => viaWindow ⟨.window, 0x4900, 1, .writeAll true data, 0, data.length, true, false⟩ true s

/-- DISP_PUSH (R468): FIRST and COUNT in one complete access from subindex 1, or the register. -/
def execDispPush (path : CommitPath) (first : Byte) (count : BitVec 16) (s : State) :
    Host.Outcome State Fault Refusal :=
  .next (match path with
    | .object p => objectPush p (pushAccess first.toNat count.toNat s) s
    | .register =>
      barAccess (.dispPush path first count) (bar0Write 0x12 4 (first.toNat * 65536 + count.toNat % 32768 * 2)) s)

/-! ### The end of a power exit (R419, R421, R424) -/

/-- R419: what a BAR access that was held answers when its time comes. -/
def heldOutcome (c : Instr) (s : State) : Host.Outcome State Fault Refusal :=
  match c with
  | .registerWrite bar offset size acc => execRegisterWrite bar offset size acc s
  | .doorbellWrite ring tail => execDoorbellWrite ring tail s
  | .ringEnable ring => execRingEnable ring s
  | .ringDisable ring => execRingDisable ring s
  | .ringStop ring => execRingStop ring s
  | .ringResume ring => execRingResume ring s
  | .ringSkip ring => execRingSkip ring s
  | .ringAbort ring => execRingAbort ring s
  | .platCommit path head => execPlatCommit path head s
  | .camCommit path port => execCamCommit path port s
  | .motCommit path axis => execMotCommit path axis s
  | .dispPush path first count => execDispPush path first count s
  | _ => .next s

/-- R419: a BAR access that was held is carried out. -/
def heldAccess (c : Instr) (s : State) : State :=
  match heldOutcome c s with
  | .next t => t
  | _ => s

/-- R419: the BAR accesses that waited for the exit, in order, and the window's request. -/
def heldAccesses (s : State) : State :=
  let held := s.pwr.held
  drain (eachDo held heldAccess (modPwr (fun p => { p with held := [] }) s))

/-- R419: an access of a BAR. -/
def barCommand : Instr → Bool
  | .registerWrite .. | .doorbellWrite .. | .ringEnable .. | .ringDisable .. | .ringStop .. | .ringResume .. | .ringSkip .. |
      .ringAbort .. => true
  | .platCommit p .. | .camCommit p .. | .motCommit p .. | .dispPush p .. => p == .register
  | _ => false

/-- R419: the commands that are a demand as the state stands. -/
def demands (s : State) (c : Instr) : Bool :=
  barCommand c || commandPath c == some .window || (mailboxCommand c && mailboxOpen s && s.net.al != .boot) || match c with
  | .scheduledWake => true
  | .captureEdge i e => captureFiltered i e s
  | .rz2440FwWrite .. | .tympanJnlRead .. | .eventsLogRead .. => mailboxOpen s
  | .quadratureCount .. => s.formes.toList.any fun f => f.state == .loading || f.state == .ready
  | .telemetryFrame _ t => decide (t.flags ≠ 0)
  | _ => false

/-- POWER_ENTRY_COMPLETE (R113, R360, R419, R420, R424): the state being entered is reached if the slack still allows it, SLEEP only if its
conditions still hold; with a wake still to come in the cycle the device stays in the state that it is leaving. Requests that reached the
DRAM meanwhile have the exit follow at once. -/
def execPowerEntryComplete (s : State) : Host.Outcome State Fault Refusal :=
  .next (match s.pwr.entering with
    | none => s
    | some n =>
      let s := modPwr (fun p => { p with entering := none }) s
      if s.pending.any (demands s) then s
      else
      if n = 4 then (if sleepPermitted s then setPower 4 (sleepEntry s) else pwrRecompute s)
      else if ¬ stillFits n s then pwrRecompute s
      else if n = 3 then
        let s := setPower 3 (dispDiscard (enterSelfRefresh s))
        if dramQuiet s then s else demandWake s
      else setPower n s)

/-- POWER_EXIT_COMPLETE (R419, R421): the device is in READY; what waited for it follows. -/
def execPowerExitComplete (train : TrainReport) (s : State) : Host.Outcome State Fault Refusal :=
  .next (if ¬ s.pwr.exiting then s
    else
      let s := if s.pwr.state = 4 then sleepExit train s else exitSelfRefresh train.drift s
      let s := if s.pwr.state = 3 then startPanel s else s
      let s := modPwr (fun p => { p with exiting := false }) s
      pwrRecompute (heldAccesses (waitingReset (if 2 ≤ s.pwr.state then setPower 1 s else s))))

/-! ### The end of a freeze (R230, R234) -/

/-- R225, R251, R256, R260: the commands that may bring a cause to a held platen, with their meanings. -/
def causeCommand : Instr → Option (State → Host.Outcome State Fault Refusal)
  | .sm2Event outputs => some (execSm2Event outputs)
  | .sync0Edge => some execSync0Edge
  | .sync0Missing => some execSync0Missing
  | .alStateRequest target => some (execAlStateRequest target)
  | .processDataWatchdog => some execProcessDataWatchdog
  | .sdoDownload idx sub data => some (execSdoDownload idx sub data)
  | .completeAccess idx fromOne write => some (execCompleteAccess idx fromOne write)
  | .winWrite => some execWinWrite
  | .registerWrite bar offset size acc => some (execRegisterWrite bar offset size acc)
  | .journalCommit => some execJournalCommit
  | .formeAbort path forme => some (execFormeAbort path forme)
  | .detach port => some (execDetach port)
  | .doneFrame port slot late => some (execDoneFrame port slot late)
  | .groupAckOverdue port => some (execGroupAckOverdue port)
  | .tornFrame port slot reason => some (execTornFrame port slot reason)
  | .nakFrame port fseq => some (execNakFrame port fseq)
  | .resendTimeout port => some (execResendTimeout port)
  | .laneLockLost port => some (execLaneLockLost port)
  | .backchannelSilence port => some (execBackchannelSilence port)
  | .retrainAttemptEnd port ok => some (execRetrainAttemptEnd port ok)
  | .supplyFaultTimeout port => some (execSupplyFaultTimeout port)
  | _ => none

/-- R234: a command that is still to come in this cycle brings the held platen a new cause. A fall of HOLD_N is none: the platen
drives the line itself (R225). -/
def causeToCome (s : State) : Bool :=
  s.pending.any fun c => match causeCommand c with
    | none => false
    | some run => match run s with
      | .next t => t.plat.causeLoc == s.loc + 1
      | _ => false

/-- FREEZE_END (R230, R234): the freeze ends unless a cause comes in the same cycle. -/
def execFreezeEnd (s : State) : Host.Outcome State Fault Refusal :=
  .next (whenDo (ohlOn s) (fun s =>
    let s := linkChecks s
    if mayResume s ∧ ¬ causeToCome s then endFreeze s else s) s)

end Sys2Proof.Machine
end

