-- ==== Sys2Proof/Machine/Pcie.lean ====
section
/-! DEFINITION. Machine/Pcie.lean: the function's configuration space and its link (R84 to R86, R103, R420, R481). Which bits
of the registers of the configuration space can be written is the family's, PCI Express (log entry 42). -/

namespace Sys2Proof.Machine

/-- The function's state with a change. -/
def modPcie (f : Pcie → Pcie) (s : State) : State := { s with pcie := f s.pcie }

/-- R85: what a write leaves in a dword of a 64-bit BAR pair: the address bits above its size. -/
def barBits (n v : Nat) : Nat :=
  match n with
  | 0 => v / 0x400000 * 0x400000
  | 2 => v / 0x1000000 * 0x1000000
  | 4 => v / 0x10000 * 0x10000
  | _ => v

/-- R84: a read of a register of the configuration space. -/
def cfgRead (r : CfgReg) (s : State) : Nat :=
  let p := s.pcie
  match r with
  | .vendorDevice => 0x24401F9C
  | .command => p.command
  | .classCode => 0x118000
  | .bar n => p.bars[n] + (if n.val % 2 = 0 then 4 else 0)
  | .powerState => if p.d3hot then 3 else 0
  | .deviceControl => p.devCtl
  | .deviceControl2 => p.devCtl2
  | .aerStatus => p.aer
  | .msixControl => p.msixCtl + 63
  | .msixTable => 0x48000
  | .msixPending => 0x49000
  | .deviceCapabilities => 0x10008022
  | .deviceCapabilities2 => 0x3001F
  | .linkCapabilities => 0x884
  | .linkControl => p.linkCtl + 65536 * (p.speed + 16 * p.width)
  | .l1Capabilities => 0x1F
  | .l1Control => p.l1Ctl
  | .subsystemOther => 0

/-- R84: what a write leaves in Device Control: a payload size above 512 B, or a read request size that is none, changes
nothing (log entry 42). -/
def devCtlBits (old v : Nat) : Nat :=
  mergeBits (mergeBits (mergeBits old v 0x0F1F) v (if bits v 7 5 ≤ 2 then 0xE0 else 0)) v
    (if bits v 14 12 ≤ 5 then 0x7000 else 0)

/-- R84: a write of a register of the configuration space. Device Control bit 15 is the FLR. -/
def cfgWrite (r : CfgReg) (v : Nat) (s : State) : State :=
  match r with
  | .command => flushMsix (modPcie (fun p => { p with command := Nat.land v 0x546 }) s)
  | .bar n => modPcie (fun p => { p with bars := p.bars.set n (barBits n v) }) s
  | .powerState =>
    if v % 4 = 0 then modPcie (fun p => { p with d3hot := false }) s
    else if v % 4 = 3 then modPcie (fun p => { p with d3hot := true }) s
    else s
  | .deviceControl =>
    let s := modPcie (fun p => { p with devCtl := devCtlBits p.devCtl v }) s
    if bit v 15 then hotAsserted true s else s
  | .deviceControl2 => modPcie (fun p => { p with devCtl2 := v % 65536 }) s
  | .aerStatus => modPcie (fun p => { p with aer := bitMap 32 fun b => bit p.aer b && !bit v b }) s
  | .msixControl => flushMsix (modPcie (fun p => { p with msixCtl := v % 65536 / 2 ^ 14 * 2 ^ 14 }) s)
  | .linkControl => modPcie (fun p => { p with linkCtl := Nat.land v 0x42 }) s
  | .l1Control => modPcie (fun p => { p with l1Ctl := Nat.land v 0xE3FFFF0F }) s
  | _ => s

/-- PCI_CONFIG_ACCESS (R84): the identification that the manual does not give reads as free values. -/
def execPciConfigAccess (r : CfgReg) (acc : RegAccess) (s : State) : Host.Outcome State Fault Refusal :=
  .next (pwrRecompute (match acc, r with
    | .read, .subsystemOther => setRead (wrapTo 32 (drawFree s)) (freeDrawn s)
    | .read, r => setRead (cfgRead r s) s
    | .write v, r => cfgWrite r v.toNat s))

/-- R84: the widths and rates that the link can have. -/
def linkAble (width speed : Nat) : Bool := [1, 2, 4, 8].contains width && decide (1 ≤ speed) && decide (speed ≤ 4)

/-- PCIE_LINK_UP (R86, R427, R481): the data link layer comes up over a reference that is present, unless PERST_N holds it down or the device is in SLEEP. -/
def execPcieLinkUp (width speed : Nat) (s : State) : Host.Outcome State Fault Refusal :=
  .next (
    if ¬ (s.pcie.perst ∧ s.pwr.state ≠ 4 ∧ linkAble width speed) then s
    else
      let up := fun p : Pcie => { p with linkUp := true, width := width, speed := speed, trained := true, l23 := false }
      let s := { modPcie up s with clk := { s.clk with sris := s.ob OD.PCIE_CLOCK_MODE, pcieRefOk := true } }
      let param := 16 * width + speed
      let s := raise EV.PCIE_LINK_UP param s
      let s := if degraded s then raise EV.PCIE_LINK_DEGRADED param s else s
      pwrRecompute (flushMsix s))

/-- PME_TURN_OFF (R84, R420): in D3hot, the link enters L2/L3 Ready; no event is raised. -/
def execPmeTurnOff (s : State) : Host.Outcome State Fault Refusal :=
  .next (
    if s.pcie.linkUp ∧ s.pcie.d3hot then
      pwrRecompute (modPcie (fun p => { p with l23 := true, linkUp := false, width := 0, speed := 0 }) s)
    else s)

/-- PCIE_AER_ERROR (R84, R481): an error that AER reports. -/
def execPcieAerError (b : BitVec 16) (s : State) : Host.Outcome State Fault Refusal :=
  .next (raise EV.PCIE_AER_ERROR b.toNat
    (modPcie (fun p => { p with aer := setBit p.aer (b.toNat % 32) true }) s))

end Sys2Proof.Machine
end

