-- ==== Sys2Proof/Machine/Dispatch.lean ====
section
/-! DEFINITION. Machine/Dispatch.lean: one arm per command. -/

namespace Sys2Proof.Machine

open Sys2Proof

/-- The effect of a command on everything but the queue. -/
def exec (i : Instr) (s : State) : Host.Outcome State Fault Refusal :=
  match i with
  | .sdoUpload idx sub => Sys2Proof.Machine.execSdoUpload idx sub s
  | .sdoDownload idx sub data => Sys2Proof.Machine.execSdoDownload idx sub data s
  | .sdoSegment idx sub write data last => Sys2Proof.Machine.execSdoSegment idx sub write data last s
  | .sdoSegmentTimeout path => Sys2Proof.Machine.execSdoSegmentTimeout path s
  | .completeAccess idx fromOne write => Sys2Proof.Machine.execCompleteAccess idx fromOne write s
  | .sdoInformation idx => Sys2Proof.Machine.execSdoInformation idx s
  | .rz2440FwWrite file password data last => Sys2Proof.Machine.execRz2440FwWrite file password data last s
  | .tympanJnlRead open_ => Sys2Proof.Machine.execTympanJnlRead open_ s
  | .eventsLogRead open_ => Sys2Proof.Machine.execEventsLogRead open_ s
  | .alStateRequest target => Sys2Proof.Machine.execAlStateRequest target s
  | .preopAcknowledge => Sys2Proof.Machine.execPreopAcknowledge s
  | .processDataWatchdog => Sys2Proof.Machine.execProcessDataWatchdog s
  | .sm2Event outputs => Sys2Proof.Machine.execSm2Event outputs s
  | .sync0Edge => Sys2Proof.Machine.execSync0Edge s
  | .sync0Missing => Sys2Proof.Machine.execSync0Missing s
  | .stationAddressWrite addr => Sys2Proof.Machine.execStationAddressWrite addr s
  | .netReset value => Sys2Proof.Machine.execNetReset value s
  | .miiLinkChange port up => Sys2Proof.Machine.execMiiLinkChange port up s
  | .eventLogOverflow => Sys2Proof.Machine.execEventLogOverflow s
  | .winRead => Sys2Proof.Machine.execWinRead s
  | .winWrite => Sys2Proof.Machine.execWinWrite s
  | .winRequestDone => Sys2Proof.Machine.execWinRequestDone s
  | .registerWrite bar offset size acc => Sys2Proof.Machine.execRegisterWrite bar offset size acc s
  | .pciConfigAccess reg acc => Sys2Proof.Machine.execPciConfigAccess reg acc s
  | .pcieLinkUp width speed => Sys2Proof.Machine.execPcieLinkUp width speed s
  | .pcieLinkDown => Sys2Proof.Machine.execPcieLinkDown s
  | .hotReset flr => Sys2Proof.Machine.execHotReset flr s
  | .perstNEdge level => Sys2Proof.Machine.execPerstNEdge level s
  | .doorbellWrite ring tail => Sys2Proof.Machine.execDoorbellWrite ring tail s
  | .ringEnable ring => Sys2Proof.Machine.execRingEnable ring s
  | .ringDisable ring => Sys2Proof.Machine.execRingDisable ring s
  | .ringStop ring => Sys2Proof.Machine.execRingStop ring s
  | .ringResume ring => Sys2Proof.Machine.execRingResume ring s
  | .ringAbort ring => Sys2Proof.Machine.execRingAbort ring s
  | .ringSkip ring => Sys2Proof.Machine.execRingSkip ring s
  | .descriptorFetched ring bytes => Sys2Proof.Machine.execDescriptorFetched ring bytes s
  | .poolWaitEnd ring => Sys2Proof.Machine.execPoolWaitEnd ring s
  | .ductRingResumed ring => Sys2Proof.Machine.execDuctRingResumed ring s
  | .sgEntryRead ring bytes => Sys2Proof.Machine.execSgEntryRead ring bytes s
  | .hostReadCompletion ring data => Sys2Proof.Machine.execHostReadCompletion ring data s
  | .hostWriteFailure ring => Sys2Proof.Machine.execHostWriteFailure ring s
  | .pcieCompletionTimeout ring => Sys2Proof.Machine.execPcieCompletionTimeout ring s
  | .retainedTransferResume ring => Sys2Proof.Machine.execRetainedTransferResume ring s
  | .descriptorComplete ring => Sys2Proof.Machine.execDescriptorComplete ring s
  | .egressFlushExpiry ring => Sys2Proof.Machine.execEgressFlushExpiry ring s
  | .lineDecode engine => Sys2Proof.Machine.execLineDecode engine s
  | .formeSubmit path forme => Sys2Proof.Machine.execFormeSubmit path forme s
  | .formeAbort path forme => Sys2Proof.Machine.execFormeAbort path forme s
  | .lineCompose head => Sys2Proof.Machine.execLineCompose head s
  | .reqSubmit path => Sys2Proof.Machine.execReqSubmit path s
  | .rateClassRequest path plane cls => Sys2Proof.Machine.execRateClassRequest path plane cls s
  | .pageAccept => Sys2Proof.Machine.execPageAccept s
  | .compChangeFolded => Sys2Proof.Machine.execCompChangeFolded s
  | .quadratureCount source a b => Sys2Proof.Machine.execQuadratureCount source a b s
  | .lineBoundary => Sys2Proof.Machine.execLineBoundary s
  | .indexEdge edge => Sys2Proof.Machine.execIndexEdge edge s
  | .stepPendingApply => Sys2Proof.Machine.execStepPendingApply s
  | .presetNow path => Sys2Proof.Machine.execPresetNow path s
  | .presetAtIndex path => Sys2Proof.Machine.execPresetAtIndex path s
  | .latch path => Sys2Proof.Machine.execLatch path s
  | .strobe => Sys2Proof.Machine.execStrobe s
  | .clearCounters path => Sys2Proof.Machine.execClearCounters path s
  | .speedWindowClose => Sys2Proof.Machine.execSpeedWindowClose s
  | .webStopped => Sys2Proof.Machine.execWebStopped s
  | .emulatorCatchUp => Sys2Proof.Machine.execEmulatorCatchUp s
  | .platCommit path head => Sys2Proof.Machine.execPlatCommit path head s
  | .holdCyclingClear => Sys2Proof.Machine.execHoldCyclingClear s
  | .holdNFall => Sys2Proof.Machine.execHoldNFall s
  | .freezeEnd => Sys2Proof.Machine.execFreezeEnd s
  | .headDetect port => Sys2Proof.Machine.execHeadDetect port s
  | .trainingAttemptEnd port ok => Sys2Proof.Machine.execTrainingAttemptEnd port ok s
  | .statusHello port vmax => Sys2Proof.Machine.execStatusHello port vmax s
  | .dataFrame port source chunk data => Sys2Proof.Machine.execDataFrame port source chunk data s
  | .descReadTimeout port => Sys2Proof.Machine.execDescReadTimeout port s
  | .statusUpgradeAck port => Sys2Proof.Machine.execStatusUpgradeAck port s
  | .upgradeTrainingEnd port ok => Sys2Proof.Machine.execUpgradeTrainingEnd port ok s
  | .statusEcho port roundTrip => Sys2Proof.Machine.execStatusEcho port roundTrip s
  | .timeSetRepeat port => Sys2Proof.Machine.execTimeSetRepeat port s
  | .attachComplete port => Sys2Proof.Machine.execAttachComplete port s
  | .detach port => Sys2Proof.Machine.execDetach port s
  | .slotSend port => Sys2Proof.Machine.execSlotSend port s
  | .trimFrameSend port => Sys2Proof.Machine.execTrimFrameSend port s
  | .ackFrame port fseq => Sys2Proof.Machine.execAckFrame port fseq s
  | .nakFrame port fseq => Sys2Proof.Machine.execNakFrame port fseq s
  | .resendTimeout port => Sys2Proof.Machine.execResendTimeout port s
  | .doneFrame port slot late => Sys2Proof.Machine.execDoneFrame port slot late s
  | .groupAckOverdue port => Sys2Proof.Machine.execGroupAckOverdue port s
  | .tornFrame port slot reason => Sys2Proof.Machine.execTornFrame port slot reason s
  | .statusReady port value => Sys2Proof.Machine.execStatusReady port value s
  | .telemetryFrame port t => Sys2Proof.Machine.execTelemetryFrame port t s
  | .telemetryTimeout port => Sys2Proof.Machine.execTelemetryTimeout port s
  | .supplyFaultTimeout port => Sys2Proof.Machine.execSupplyFaultTimeout port s
  | .laneLockLost port => Sys2Proof.Machine.execLaneLockLost port s
  | .backchannelSilence port => Sys2Proof.Machine.execBackchannelSilence port s
  | .retrainAttemptEnd port ok => Sys2Proof.Machine.execRetrainAttemptEnd port ok s
  | .selftest path port => Sys2Proof.Machine.execSelftest path port s
  | .statusSelftestDone port fails => Sys2Proof.Machine.execStatusSelftestDone port fails s
  | .frameStart channel => Sys2Proof.Machine.execFrameStart channel s
  | .frameEnd channel => Sys2Proof.Machine.execFrameEnd channel s
  | .pixelPacket port id payload crcOk bufferFull => Sys2Proof.Machine.execPixelPacket port id payload crcOk bufferFull s
  | .otherPacket port id multiBitEcc => Sys2Proof.Machine.execOtherPacket port id multiBitEcc s
  | .camCommit path port => Sys2Proof.Machine.execCamCommit path port s
  | .cciWriteComplete port nak => Sys2Proof.Machine.execCciWriteComplete port nak s
  | .cciRead path port => Sys2Proof.Machine.execCciRead path port s
  | .cciWrite path port => Sys2Proof.Machine.execCciWrite path port s
  | .camCciDone port nak data => Sys2Proof.Machine.execCamCciDone port nak data s
  | .streamingTimeout port => Sys2Proof.Machine.execStreamingTimeout port s
  | .clkRefclkSwitch port => Sys2Proof.Machine.execClkRefclkSwitch port s
  | .windowProcessed port => Sys2Proof.Machine.execWindowProcessed port s
  | .confirm path value => Sys2Proof.Machine.execConfirm path value s
  | .compareMatch unit => Sys2Proof.Machine.execCompareMatch unit s
  | .trigPulseEnd pin => Sys2Proof.Machine.execTrigPulseEnd pin s
  | .captureEdge input edge => Sys2Proof.Machine.execCaptureEdge input edge s
  | .netPairSample escTime => Sys2Proof.Machine.execNetPairSample escTime s
  | .paceLinkHello side vmax => Sys2Proof.Machine.execPaceLinkHello side vmax s
  | .paceLinkDown side => Sys2Proof.Machine.execPaceLinkDown side s
  | .enum position => Sys2Proof.Machine.execEnum position s
  | .cycle line hold => Sys2Proof.Machine.execCycle line hold s
  | .busy b => Sys2Proof.Machine.execBusy b s
  | .paceSyncIn => Sys2Proof.Machine.execPaceSyncIn s
  | .mirrorRecord r => Sys2Proof.Machine.execMirrorRecord r s
  | .heartbeatMiss => Sys2Proof.Machine.execHeartbeatMiss s
  | .quoinTake => Sys2Proof.Machine.execQuoinTake s
  | .paceOutEnable => Sys2Proof.Machine.execPaceOutEnable s
  | .takeoverHoldPulseEnd => Sys2Proof.Machine.execTakeoverHoldPulseEnd s
  | .paceQuoinStuck => Sys2Proof.Machine.execPaceQuoinStuck s
  | .standbyQuoinTimeout => Sys2Proof.Machine.execStandbyQuoinTimeout s
  | .dramRequest r => Sys2Proof.Machine.execDramRequest r s
  | .dramReadReturn channel ecc => Sys2Proof.Machine.execDramReadReturn channel ecc s
  | .refreshDue channel pair => Sys2Proof.Machine.execRefreshDue channel pair s
  | .mr4Poll channel code => Sys2Proof.Machine.execMr4Poll channel code s
  | .driftTracking channel change gap => Sys2Proof.Machine.execDriftTracking channel change gap s
  | .scrubRead granule => Sys2Proof.Machine.execScrubRead granule s
  | .move path axis => Sys2Proof.Machine.execMove path axis s
  | .runSegments path axis => Sys2Proof.Machine.execRunSegments path axis s
  | .home path axis => Sys2Proof.Machine.execHome path axis s
  | .stop path axis => Sys2Proof.Machine.execStop path axis s
  | .setPosition path axis => Sys2Proof.Machine.execSetPosition path axis s
  | .clearFault path axis => Sys2Proof.Machine.execClearFault path axis s
  | .motCommit path axis => Sys2Proof.Machine.execMotCommit path axis s
  | .profileTick => Sys2Proof.Machine.execProfileTick s
  | .currentSample axis ia ib => Sys2Proof.Machine.execCurrentSample axis ia ib s
  | .chopOffTimeEnd axis phaseB => Sys2Proof.Machine.execChopOffTimeEnd axis phaseB s
  | .senseTimeout axis phaseB => Sys2Proof.Machine.execSenseTimeout axis phaseB s
  | .faultInputLow input => Sys2Proof.Machine.execFaultInputLow input s
  | .holdDelayExpiry axis => Sys2Proof.Machine.execHoldDelayExpiry axis s
  | .powerOnReset => Sys2Proof.Machine.execPowerOnReset s
  | .pinReset => Sys2Proof.Machine.execPinReset s
  | .wdgReset detail => Sys2Proof.Machine.execWdgReset detail s
  | .cpuWatchdogWarn core => Sys2Proof.Machine.execCpuWatchdogWarn core s
  | .cpuFirmwareFault core code => Sys2Proof.Machine.execCpuFirmwareFault core code s
  | .resetCommand path => Sys2Proof.Machine.execResetCommand path s
  | .subReset path number => Sys2Proof.Machine.execSubReset path number s
  | .pwrSubResetDone => Sys2Proof.Machine.execPwrSubResetDone s
  | .start report => Sys2Proof.Machine.execStart report s
  | .startWatchdog => Sys2Proof.Machine.execStartWatchdog s
  | .activateA path => Sys2Proof.Machine.execActivateA path s
  | .activateB path => Sys2Proof.Machine.execActivateB path s
  | .restart path => Sys2Proof.Machine.execRestart path s
  | .journalFormat path => Sys2Proof.Machine.execJournalFormat path s
  | .journalCommit => Sys2Proof.Machine.execJournalCommit s
  | .tympCompactionDone => Sys2Proof.Machine.execTympCompactionDone s
  | .scheduledWake => Sys2Proof.Machine.execScheduledWake s
  | .powerExitComplete train => Sys2Proof.Machine.execPowerExitComplete train s
  | .sleepIdleExpiry => Sys2Proof.Machine.execSleepIdleExpiry s
  | .pwrWakeLate source => Sys2Proof.Machine.execPwrWakeLate source s
  | .pwrBrownoutWarn rail => Sys2Proof.Machine.execPwrBrownoutWarn rail s
  | .pwrBrownoutClear rail => Sys2Proof.Machine.execPwrBrownoutClear rail s
  | .brownoutReset rail => Sys2Proof.Machine.execBrownoutReset rail s
  | .crystalLoss rootUnlock => Sys2Proof.Machine.execCrystalLoss rootUnlock s
  | .ddrPllUnlock => Sys2Proof.Machine.execDdrPllUnlock s
  | .clkPcieRefLost => Sys2Proof.Machine.execClkPcieRefLost s
  | .clkPcieRefRestored => Sys2Proof.Machine.execClkPcieRefRestored s
  | .junctionTempSample temp => Sys2Proof.Machine.execJunctionTempSample temp s
  | .guardedWrite path idx sub data => Sys2Proof.Machine.execGuardedWrite path idx sub data s
  | .consentMessage path message => Sys2Proof.Machine.execConsentMessage path message s
  | .proposalExpiry => Sys2Proof.Machine.execProposalExpiry s
  | .idcode => Sys2Proof.Machine.execIdcode s
  | .bypass => Sys2Proof.Machine.execBypass s
  | .sample pins => Sys2Proof.Machine.execSample pins s
  | .debugInstruction code => Sys2Proof.Machine.execDebugInstruction code s
  | .dispPush path first count => Sys2Proof.Machine.execDispPush path first count s
  | .dispTeBlank => Sys2Proof.Machine.execDispTeBlank s
  | .dsi1TeEdge skewNs => Sys2Proof.Machine.execDsi1TeEdge skewNs s
  | .dispFrameDone => Sys2Proof.Machine.execDispFrameDone s
  | .scanRowAdvance rowsSent => Sys2Proof.Machine.execScanRowAdvance rowsSent s
  | .panelInit => Sys2Proof.Machine.execPanelInit s
  | .cellRepush head => Sys2Proof.Machine.execCellRepush head s
  | .mirrorHeartbeat => Sys2Proof.Machine.execMirrorHeartbeat s
  | .pmeTurnOff => Sys2Proof.Machine.execPmeTurnOff s
  | .pcieAerError bit => Sys2Proof.Machine.execPcieAerError bit s
  | .escRegisterWrite reg value => Sys2Proof.Machine.execEscRegisterWrite reg value s
  | .powerEntryComplete => Sys2Proof.Machine.execPowerEntryComplete s
  | .paceSyncPulseEnd => Sys2Proof.Machine.execPaceSyncPulseEnd s

end Sys2Proof.Machine
end

