-- ==== Sys2Proof/Machine/Tick.lean ====
section
/-! DEFINITION. Machine/Tick.lean: the passing of local time. -/

namespace Sys2Proof.Machine

/-- R314: LOC counts one per 2.5 ns, and wraps at 64 bits; on the fallback oscillator it counts 4 per cycle (R408). It is
what passes when no command waits (log entry 1), once the cycle has ended (R141). The DRAM channels issue a command (R347). R417: the power manager recomputes its calendar. -/
def locTick (s : State) : State :=
  let s := lateNotices s
  let s := { s with loc := wrapTo 64 (s.loc + if s.clk.fallback then 4 else 1) }
  pwrRecompute (dramTick s)

end Sys2Proof.Machine
end

