-- ==== Sys2Proof/Safety.lean ====
section
/-! DEFINITION. Safety.lean: the terms in which the statements speak: the parts of the state and the objects that a command
may change (frames), and what the object server needs to serve a command at once. -/

namespace Sys2Proof.Machine

/-- A part of the state outside the object store `od`. -/
inductive Part where
  /-- the command queue -/
  | queue
  /-- LOC (R314) -/
  | loc
  /-- the model's counter of free values (log entry 3) -/
  | free
  /-- the bytes of DOMAIN objects -/
  | dom
  /-- the live sets (R26) -/
  | live
  /-- the live sets' DOMAIN bytes -/
  | liveDom
  /-- the event log and its SEQ (R47, R475, R480) -/
  | log
  /-- the ledger halt and the note of R33 -/
  | dev
  /-- the ledgers (R36) -/
  | ledgers
  /-- the object server (R48) -/
  | srv
  /-- the EtherCAT slave controller (R60 to R75) -/
  | net
  /-- the PCIe endpoint and its window (R77 to R86), its messages and host accesses apart -/
  | pcie
  /-- MSI-X messages, pending and sent (R44) -/
  | msix
  /-- the rings' accesses to host memory (R107, R108) -/
  | hostWrites
  /-- the DMA rings (R89) -/
  | rings
  /-- the slots of rings 97 to 105 (R110) -/
  | egress
  /-- ring 96 as an egress ring -/
  | logRing
  /-- Galley streams and engines (R114 to R135) -/
  | gal
  /-- forme contexts (R136) -/
  | formes
  /-- the compositor (R155 to R176) -/
  | comp
  /-- the platen (R205 to R236) -/
  | plat
  /-- the head ports (R248) -/
  | ports
  /-- the web position unit (R181 to R203) -/
  | web
  /-- the timebase unit (R314 to R324) -/
  | time
  /-- the pace unit (R326 to R336) -/
  | pace
  /-- the camera ports (R267 to R287) -/
  | cams
  /-- the proof lanes (R288 to R312) -/
  | prf
  /-- the DRAM controller (R338 to R363) -/
  | ddr
  /-- the bytes of the DRAM -/
  | mem
  /-- the motion axes (R364 to R380) -/
  | axes
  /-- the start and the firmware slots (R381 to R394) -/
  | boot
  /-- the journal (R395 to R401) -/
  | tymp
  /-- the power state (R415), a wake in progress apart -/
  | pwr
  /-- a power entry or exit in progress (R419) -/
  | wake
  /-- the clocks (R402 to R408) -/
  | clk
  /-- security (R427 to R437) -/
  | sec
  /-- the display (R463 to R470) -/
  | disp
  /-- the pins -/
  | pins
  deriving DecidableEq, Repr

/-- Two states agree in a part. -/
def Part.same : Part → State → State → Prop
  | .queue, s, t => t.pending = s.pending
  | .loc, s, t => t.loc = s.loc
  | .free, s, t => t.freeCtr = s.freeCtr
  | .dom, s, t => t.dom = s.dom
  | .live, s, t => t.live = s.live
  | .liveDom, s, t => t.liveDom = s.liveDom
  | .log, s, t => t.dev.evLog = s.dev.evLog ∧ t.dev.evSeq = s.dev.evSeq ∧ t.dev.dropsSince = s.dev.dropsSince ∧
      t.dev.errStamp = s.dev.errStamp ∧ t.dev.pdoStamp = s.dev.pdoStamp
  | .dev, s, t => t.dev.ledgerHalt = s.dev.ledgerHalt ∧ t.dev.offFired = s.dev.offFired
  | .ledgers, s, t => t.ledgers = s.ledgers
  | .srv, s, t => t.srv = s.srv
  | .net, s, t => t.net = s.net
  | .pcie, s, t => { t.pcie with msixPending := [], msixSent := [], hostAccess := [] } = { s.pcie with msixPending := [], msixSent := [], hostAccess := [] }
  | .msix, s, t => t.pcie.msixPending = s.pcie.msixPending ∧ t.pcie.msixSent = s.pcie.msixSent
  | .hostWrites, s, t => t.pcie.hostAccess = s.pcie.hostAccess
  | .rings, s, t => t.rings = s.rings
  | .egress, s, t => ∀ i : Fin 10, i ≠ 0 → t.egress.get i = s.egress.get i
  | .logRing, s, t => t.egress.get 0 = s.egress.get 0
  | .gal, s, t => t.gal = s.gal
  | .formes, s, t => t.formes = s.formes
  | .comp, s, t => t.comp = s.comp
  | .plat, s, t => t.plat = s.plat
  | .ports, s, t => t.ports = s.ports
  | .web, s, t => t.web = s.web
  | .time, s, t => t.time = s.time
  | .pace, s, t => t.pace = s.pace
  | .cams, s, t => t.cams = s.cams
  | .prf, s, t => t.prf = s.prf
  | .ddr, s, t => { t.ddr with mem := [] } = { s.ddr with mem := [] }
  | .mem, s, t => t.ddr.mem = s.ddr.mem
  | .axes, s, t => t.axes = s.axes
  | .boot, s, t => t.boot = s.boot
  | .tymp, s, t => t.tymp = s.tymp
  | .pwr, s, t => { t.pwr with exiting := false, entering := none } = { s.pwr with exiting := false, entering := none }
  | .wake, s, t => t.pwr.exiting = s.pwr.exiting ∧ t.pwr.entering = s.pwr.entering
  | .clk, s, t => t.clk = s.clk
  | .sec, s, t => t.sec = s.sec
  | .disp, s, t => t.disp = s.disp
  | .pins, s, t => t.pins = s.pins

/-- A family of objects that commands other than object writes change, by the name of Machine/Keys.lean; `rateClass` is the
rate classes of 0x3400, `platenHead` the objects 0x3500 to 0x3517, `pdo` the mapping and assignment objects, `any` every
object. -/
inductive Fam where
  | any
  | pdo | platenHead | rateClass | ACTIVE_SLOT | BAD_LINES_TOTAL | BAND_SIGNATURE | BARE_CAUSE | BARE_ENTRIES
  | BROWNOUTS | CAM_COMMIT_CAUSE | CAM_COMMIT_PENDING | CAM_RECORDS_LOST | CAP_LOC | CAP_NET | CAP_OVERRUNS
  | CAP_POSITION | CCI_DATA | CCI_STATUS | CHANGE_SEQ | CLOCK_FAILURES | CMP_ARM | CMP_FRACTION | CMP_MATCHES
  | CMP_TARGET | COMPACTIONS | COOL_MODE | DCHK_ENABLE | DCHK_OFF_FIRST_LINE | DCHK_OFF_LAST_LINE | DECODED_LINES
  | DEFERRED_SLOTS | DELIVERED_BYTES | DENSITY | DISCARDED_SLOTS | ECC_CORRECTED | ECC_ERRORS | ECC_LAST_ADDRESS
  | ECC_UNCORRECTABLE | EVENT_ACK | EVENT_BITS | EVENT_LOG_DROPPED | FAILED_STARTS | FAULT_CHECK | FAULT_HELD
  | FAULT_LEDGER | FAULT_LOC | FAULT_SUM | FINDINGS | FORME_CAUSE | FORME_FIRST_LINE | FORME_LAST_LINE
  | FORME_SKIPPED | FRAMES_DROPPED | FRAMES_SKIPPED | FSN | HEAD_FLAGS | HEAD_MODEL | HEAD_SERIAL | HELD_LINE
  | HOLD_COUNT | INDEX_ACTUAL | INDEX_EXPECTED | INDEX_MISMATCHES | INSTALLED_SIZE | JUNCTION_MAX
  | JUNCTION_TEMP | KNOWN_SERIAL | LAST_CAUSE | LAST_STEP | LAST_TAKEOVER_LINE | LEDGER_FAULT_COUNT | LIVE_ID
  | LIVE_SEQ | LOOP_LATE | MAX_LATE | MISSED_RECORDS | MISSED_TRIGGERS | MOT_COMMIT_CAUSE | MOT_COMMIT_PENDING
  | MR_VENDOR | NEGOTIATED_VERSION | NEXT_SOURCE | NOZZLE_GRID | OHL_FAULT_CAUSE | OTHER_PACKETS | PACE_POSITION
  | PAGES_COMMITTED | PARTNER_READY | PLAT_COMMIT_PENDING | PLAT_LAG | PRESS_CONTROL | PRF_RECORDS_LOST
  | PROPOSAL_ID | PUSH_COUNT | PUSH_FIRST | PUSH_SEQ | QUAD_ERRORS | RANKS | REFRESH_FORCED | REFRESH_RATE
  | REFUSALS | REFUSED_WRITES | REQUESTS | REQUESTS_REFUSED | REQ_BAND_TAKEN | REQ_CAUSE | RESET_DETAIL | RESET_KIND
  | RETRAINS | RETRIES | RETURNS | ROW_OFFSET | SELFTEST_FAILS | SETTINGS_LATE | SIGNATURE_BAND | SLACK | SLIP_TICKS
  | START_CAUSE | START_TIME | STEP_PENDING | STREAM_ERRORS | SUMMARIES_LOST | SUPPLY_STATUS | SYNC_SKEW_LAST
  | TAKEOVERS | TARGET_FSN | TEMPERATURE | TORN_LINES | TORN_TAILS | TRACE_DROPPED | TRAINING_RESULT | TRAINING_TIME
  | TRIAL | TRIALS | UNCOVERED_DOTS | UNRESOLVED | UPDATE_SLOT | VHEAD | VLOGIC | WAKE_LATE | WEB_LINE_AT_SYNC
  | WEB_SPEED | WINDOWS_INSPECTED | RESUME_LINE
  deriving DecidableEq, Repr

/-- The key is one of the family. -/
def Fam.has : Fam → Nat → Prop
  | .any, _ => True
  | .pdo, k => k ∈ pdoKeys
  | .platenHead, k => 0x3500 ≤ k / 256 ∧ k / 256 < 0x3518
  | .rateClass, k => k = OD.RATE_CLASS_A ∨ k = OD.RATE_CLASS_B
  | .ACTIVE_SLOT, k => k = OD.ACTIVE_SLOT
  | .BAD_LINES_TOTAL, k => ∃ n, k = OD.BAD_LINES_TOTAL n
  | .BAND_SIGNATURE, k => ∃ n, k = OD.BAND_SIGNATURE n
  | .BARE_CAUSE, k => k = OD.BARE_CAUSE
  | .BARE_ENTRIES, k => k = OD.BARE_ENTRIES
  | .BROWNOUTS, k => k = OD.BROWNOUTS
  | .CAM_COMMIT_CAUSE, k => ∃ n, k = OD.CAM_COMMIT_CAUSE n
  | .CAM_COMMIT_PENDING, k => ∃ n, k = OD.CAM_COMMIT_PENDING n
  | .CAM_RECORDS_LOST, k => ∃ n, k = OD.CAM_RECORDS_LOST n
  | .CAP_LOC, k => ∃ n, k = OD.CAP_LOC n
  | .CAP_NET, k => ∃ n, k = OD.CAP_NET n
  | .CAP_OVERRUNS, k => ∃ n, k = OD.CAP_OVERRUNS n
  | .CAP_POSITION, k => ∃ n, k = OD.CAP_POSITION n
  | .CCI_DATA, k => ∃ n, k = OD.CCI_DATA n
  | .CCI_STATUS, k => ∃ n, k = OD.CCI_STATUS n
  | .CHANGE_SEQ, k => k = OD.CHANGE_SEQ
  | .CLOCK_FAILURES, k => k = OD.CLOCK_FAILURES
  | .CMP_ARM, k => ∃ n, k = OD.CMP_ARM n
  | .CMP_FRACTION, k => ∃ n, k = OD.CMP_FRACTION n
  | .CMP_MATCHES, k => ∃ n, k = OD.CMP_MATCHES n
  | .CMP_TARGET, k => ∃ n, k = OD.CMP_TARGET n
  | .COMPACTIONS, k => k = OD.COMPACTIONS
  | .COOL_MODE, k => ∃ n, k = OD.COOL_MODE n
  | .DCHK_ENABLE, k => k = OD.DCHK_ENABLE
  | .DCHK_OFF_FIRST_LINE, k => k = OD.DCHK_OFF_FIRST_LINE
  | .DCHK_OFF_LAST_LINE, k => k = OD.DCHK_OFF_LAST_LINE
  | .DECODED_LINES, k => ∃ n i, k = OD.DECODED_LINES n i
  | .DEFERRED_SLOTS, k => ∃ n, k = OD.DEFERRED_SLOTS n
  | .DELIVERED_BYTES, k => ∃ n i, k = OD.DELIVERED_BYTES n i
  | .DENSITY, k => k = OD.DENSITY
  | .DISCARDED_SLOTS, k => ∃ n, k = OD.DISCARDED_SLOTS n
  | .ECC_CORRECTED, k => k = OD.ECC_CORRECTED
  | .ECC_ERRORS, k => ∃ n, k = OD.ECC_ERRORS n
  | .ECC_LAST_ADDRESS, k => k = OD.ECC_LAST_ADDRESS
  | .ECC_UNCORRECTABLE, k => k = OD.ECC_UNCORRECTABLE
  | .EVENT_ACK, k => ∃ n, k = OD.EVENT_ACK n
  | .EVENT_BITS, k => ∃ n, k = OD.EVENT_BITS n
  | .EVENT_LOG_DROPPED, k => k = OD.EVENT_LOG_DROPPED
  | .FAILED_STARTS, k => k = OD.FAILED_STARTS
  | .FAULT_CHECK, k => k = OD.FAULT_CHECK
  | .FAULT_HELD, k => ∃ n, k = OD.FAULT_HELD n
  | .FAULT_LEDGER, k => k = OD.FAULT_LEDGER
  | .FAULT_LOC, k => k = OD.FAULT_LOC
  | .FAULT_SUM, k => k = OD.FAULT_SUM
  | .FINDINGS, k => k = OD.FINDINGS
  | .FORME_CAUSE, k => ∃ n, k = OD.FORME_CAUSE n
  | .FORME_FIRST_LINE, k => ∃ n, k = OD.FORME_FIRST_LINE n
  | .FORME_LAST_LINE, k => ∃ n, k = OD.FORME_LAST_LINE n
  | .FORME_SKIPPED, k => ∃ n, k = OD.FORME_SKIPPED n
  | .FRAMES_DROPPED, k => ∃ n, k = OD.FRAMES_DROPPED n
  | .FRAMES_SKIPPED, k => k = OD.FRAMES_SKIPPED
  | .FSN, k => ∃ n, k = OD.FSN n
  | .HEAD_FLAGS, k => ∃ n, k = OD.HEAD_FLAGS n
  | .HEAD_MODEL, k => ∃ n, k = OD.HEAD_MODEL n
  | .HEAD_SERIAL, k => ∃ n, k = OD.HEAD_SERIAL n
  | .HELD_LINE, k => k = OD.HELD_LINE
  | .HOLD_COUNT, k => k = OD.HOLD_COUNT
  | .INDEX_ACTUAL, k => k = OD.INDEX_ACTUAL
  | .INDEX_EXPECTED, k => k = OD.INDEX_EXPECTED
  | .INDEX_MISMATCHES, k => k = OD.INDEX_MISMATCHES
  | .INSTALLED_SIZE, k => k = OD.INSTALLED_SIZE
  | .JUNCTION_MAX, k => k = OD.JUNCTION_MAX
  | .JUNCTION_TEMP, k => k = OD.JUNCTION_TEMP
  | .KNOWN_SERIAL, k => ∃ n, k = OD.KNOWN_SERIAL n
  | .LAST_CAUSE, k => k = OD.LAST_CAUSE
  | .LAST_STEP, k => k = OD.LAST_STEP
  | .LAST_TAKEOVER_LINE, k => k = OD.LAST_TAKEOVER_LINE
  | .LEDGER_FAULT_COUNT, k => ∃ n, k = OD.LEDGER_FAULT_COUNT n
  | .LIVE_ID, k => ∃ n, k = OD.LIVE_ID n
  | .LIVE_SEQ, k => ∃ n, k = OD.LIVE_SEQ n
  | .LOOP_LATE, k => k = OD.LOOP_LATE
  | .MAX_LATE, k => ∃ n, k = OD.MAX_LATE n
  | .MISSED_RECORDS, k => k = OD.MISSED_RECORDS
  | .MISSED_TRIGGERS, k => ∃ n, k = OD.MISSED_TRIGGERS n
  | .MOT_COMMIT_CAUSE, k => ∃ n, k = OD.MOT_COMMIT_CAUSE n
  | .MOT_COMMIT_PENDING, k => ∃ n, k = OD.MOT_COMMIT_PENDING n
  | .MR_VENDOR, k => k = OD.MR_VENDOR
  | .NEGOTIATED_VERSION, k => ∃ n, k = OD.NEGOTIATED_VERSION n
  | .NEXT_SOURCE, k => k = OD.NEXT_SOURCE
  | .NOZZLE_GRID, k => ∃ n, k = OD.NOZZLE_GRID n
  | .OHL_FAULT_CAUSE, k => ∃ n, k = OD.OHL_FAULT_CAUSE n
  | .OTHER_PACKETS, k => ∃ n, k = OD.OTHER_PACKETS n
  | .PACE_POSITION, k => k = OD.PACE_POSITION
  | .PAGES_COMMITTED, k => k = OD.PAGES_COMMITTED
  | .PARTNER_READY, k => k = OD.PARTNER_READY
  | .PLAT_COMMIT_PENDING, k => ∃ n, k = OD.PLAT_COMMIT_PENDING n
  | .PLAT_LAG, k => k = OD.PLAT_LAG
  | .PRESS_CONTROL, k => k = OD.PRESS_CONTROL
  | .PRF_RECORDS_LOST, k => k = OD.PRF_RECORDS_LOST
  | .PROPOSAL_ID, k => k = OD.PROPOSAL_ID
  | .PUSH_COUNT, k => k = OD.PUSH_COUNT
  | .PUSH_FIRST, k => k = OD.PUSH_FIRST
  | .PUSH_SEQ, k => k = OD.PUSH_SEQ
  | .QUAD_ERRORS, k => k = OD.QUAD_ERRORS
  | .RANKS, k => k = OD.RANKS
  | .REFRESH_FORCED, k => k = OD.REFRESH_FORCED
  | .REFRESH_RATE, k => k = OD.REFRESH_RATE
  | .REFUSALS, k => k = OD.REFUSALS
  | .REFUSED_WRITES, k => k = OD.REFUSED_WRITES
  | .REQUESTS, k => k = OD.REQUESTS
  | .REQUESTS_REFUSED, k => k = OD.REQUESTS_REFUSED
  | .REQ_BAND_TAKEN, k => k = OD.REQ_BAND_TAKEN
  | .REQ_CAUSE, k => k = OD.REQ_CAUSE
  | .RESET_DETAIL, k => k = OD.RESET_DETAIL
  | .RESET_KIND, k => k = OD.RESET_KIND
  | .RETRAINS, k => ∃ n, k = OD.RETRAINS n
  | .RETRIES, k => ∃ n, k = OD.RETRIES n
  | .RETURNS, k => k = OD.RETURNS
  | .ROW_OFFSET, k => ∃ n i, k = OD.ROW_OFFSET n i
  | .SELFTEST_FAILS, k => ∃ n, k = OD.SELFTEST_FAILS n
  | .SETTINGS_LATE, k => ∃ n, k = OD.SETTINGS_LATE n
  | .SIGNATURE_BAND, k => ∃ n, k = OD.SIGNATURE_BAND n
  | .SLACK, k => k = OD.SLACK
  | .SLIP_TICKS, k => ∃ n, k = OD.SLIP_TICKS n
  | .START_CAUSE, k => ∃ n, k = OD.START_CAUSE n
  | .START_TIME, k => k = OD.START_TIME
  | .STEP_PENDING, k => k = OD.STEP_PENDING
  | .STREAM_ERRORS, k => k = OD.STREAM_ERRORS
  | .SUMMARIES_LOST, k => k = OD.SUMMARIES_LOST
  | .SUPPLY_STATUS, k => k = OD.SUPPLY_STATUS
  | .SYNC_SKEW_LAST, k => k = OD.SYNC_SKEW_LAST
  | .TAKEOVERS, k => k = OD.TAKEOVERS
  | .TARGET_FSN, k => ∃ n, k = OD.TARGET_FSN n
  | .TEMPERATURE, k => ∃ n, k = OD.TEMPERATURE n
  | .TORN_LINES, k => k = OD.TORN_LINES
  | .TORN_TAILS, k => k = OD.TORN_TAILS
  | .TRACE_DROPPED, k => k = OD.TRACE_DROPPED
  | .TRAINING_RESULT, k => k = OD.TRAINING_RESULT
  | .TRAINING_TIME, k => k = OD.TRAINING_TIME
  | .TRIAL, k => k = OD.TRIAL
  | .TRIALS, k => k = OD.TRIALS
  | .UNCOVERED_DOTS, k => ∃ n, k = OD.UNCOVERED_DOTS n
  | .UNRESOLVED, k => k = OD.UNRESOLVED
  | .UPDATE_SLOT, k => k = OD.UPDATE_SLOT
  | .VHEAD, k => ∃ n, k = OD.VHEAD n
  | .VLOGIC, k => ∃ n, k = OD.VLOGIC n
  | .WAKE_LATE, k => k = OD.WAKE_LATE
  | .WEB_LINE_AT_SYNC, k => k = OD.WEB_LINE_AT_SYNC
  | .WEB_SPEED, k => k = OD.WEB_SPEED
  | .WINDOWS_INSPECTED, k => k = OD.WINDOWS_INSPECTED
  | .RESUME_LINE, k => ∃ n, k = OD.RESUME_LINE n

/-- A place of the state: a part, or a family of objects. -/
inductive Place where
  | part (p : Part)
  | objects (f : Fam)
  deriving DecidableEq, Repr

/-- The number of a place. -/
def Place.num : Place → Nat
  | .part p => p.ctorIdx
  | .objects f => 38 + f.ctorIdx

/-- The places of a list as bits of a number. -/
def maskOf (l : List Place) : Nat := l.foldl (fun m p => Nat.lor m (2 ^ p.num)) 0

/-- `t` differs from `s` at most in the places of the mask `m`. -/
def Keeps (m : Nat) (s t : State) : Prop :=
  (∀ p : Part, m.testBit (Place.part p).num = false → p.same s t) ∧
  (∀ k : Nat, (∀ f : Fam, m.testBit (Place.objects f).num = true → ¬ f.has k) → t.o k = s.o k)

/-- Places from parts and object families. -/
def places (ps : List Part) (fs : List Fam) : List Place := ps.map .part ++ fs.map .objects

/-- What raising an event may change (R44, R47, R419, R480): the log, the MSI-X messages, the PDO event bits, the journal, and
a power exit that its message demands. -/
def evented : List Place :=
  places [.log, .logRing, .msix, .wake, .tymp] [.EVENT_BITS, .EVENT_LOG_DROPPED, .TRACE_DROPPED]

/-- What a reset may change (R411): everything but the queue, LOC and the model's own counter. -/
def resetPlaces : List Place := places
  [.dom, .live, .liveDom, .log, .dev, .ledgers, .srv, .net, .pcie, .msix, .hostWrites, .rings, .egress, .logRing, .gal, .formes, .comp, .plat, .ports, .web, .time, .pace, .cams, .prf, .ddr, .mem, .axes, .boot, .tymp, .pwr, .wake, .clk, .sec, .disp, .pins] [.any]

/-- What an access to an object may change: any object may be written, and a command among them may reset the device. -/
def serverPlaces : List Place := .part .free :: resetPlaces

/-- What each command may change, beyond its own entry in the queue. -/
def changes : Instr → List Place
  | .sdoUpload .. | .sdoDownload .. | .sdoSegment .. | .completeAccess .. | .sdoInformation .. | .winRead .. |
      .winWrite .. | .registerWrite .. | .formeSubmit .. | .formeAbort .. | .reqSubmit .. | .rateClassRequest .. |
      .pageAccept .. | .compChangeFolded .. | .presetNow .. | .presetAtIndex .. | .latch .. | .clearCounters .. |
      .platCommit .. | .selftest .. | .camCommit .. | .cciRead .. | .cciWrite .. | .confirm .. | .move .. | .runSegments
      .. | .home .. | .stop .. | .setPosition .. | .clearFault .. | .motCommit .. | .resetCommand .. | .subReset .. |
      .start .. | .startWatchdog .. | .activateA .. | .activateB .. | .restart .. | .journalFormat .. | .journalCommit ..
      | .tympCompactionDone .. | .powerExitComplete .. | .guardedWrite .. | .consentMessage .. | .dispPush .. |
      .dispFrameDone .. => serverPlaces
  | .sdoSegmentTimeout .. => places [.srv, .net, .pcie] []
  | .rz2440FwWrite .. => evented ++ places [.net, .boot] []
  | .tympanJnlRead .. | .eventsLogRead .. => evented ++ places [.free, .net] []
  | .alStateRequest .. => evented ++ places [.dev, .net, .plat, .axes, .pwr] [.FAULT_CHECK, .FAULT_HELD,
      .FAULT_LEDGER, .FAULT_LOC, .FAULT_SUM, .LEDGER_FAULT_COUNT, .NEGOTIATED_VERSION, .NEXT_SOURCE, .SLACK, .pdo]
  | .preopAcknowledge .. | .processDataWatchdog .. => evented ++ places [.dev, .net, .plat, .axes, .pwr]
      [.FAULT_CHECK, .FAULT_HELD, .FAULT_LEDGER, .FAULT_LOC, .FAULT_SUM, .LEDGER_FAULT_COUNT, .NEGOTIATED_VERSION,
      .NEXT_SOURCE, .SLACK]
  | .sm2Event .. | .sync0Edge .. => places [.dom, .live, .liveDom, .log, .dev, .ledgers, .net, .msix, .rings, .egress,
      .logRing, .gal, .formes, .comp, .plat, .ports, .web, .cams, .prf, .ddr, .mem, .axes, .tymp, .pwr, .wake, .disp]
      [.any]
  | .sync0Missing .. | .miiLinkChange .. => evented ++ places [.net] []
  | .stationAddressWrite .. => places [.net] []
  | .netReset .. | .dramReadReturn .. | .pinReset .. | .wdgReset .. | .cpuFirmwareFault .. | .crystalLoss .. |
      .ddrPllUnlock .. | .escRegisterWrite .. => resetPlaces
  | .eventLogOverflow .. => places [.log, .msix, .egress, .logRing, .wake] [.EVENT_BITS, .EVENT_LOG_DROPPED,
      .TRACE_DROPPED]
  | .winRequestDone .. | .pmeTurnOff .. => evented ++ places [.pcie, .pwr] [.NEXT_SOURCE, .SLACK]
  | .pciConfigAccess .. => evented ++ places [.free, .dev, .ledgers, .srv, .pcie, .hostWrites, .rings, .egress, .gal,
      .comp, .plat, .cams, .ddr, .mem, .boot, .pwr, .clk, .disp, .pins] [.FAULT_CHECK, .FAULT_HELD, .FAULT_LEDGER,
      .FAULT_LOC, .FAULT_SUM, .LEDGER_FAULT_COUNT, .NEXT_SOURCE, .SLACK]
  | .pcieLinkUp .. => evented ++ places [.pcie, .pwr, .clk] [.NEXT_SOURCE, .SLACK]
  | .pcieLinkDown .. | .hotReset .. | .perstNEdge .. => evented ++ places [.dev, .ledgers, .srv, .pcie, .hostWrites,
      .rings, .egress, .gal, .comp, .plat, .cams, .ddr, .mem, .boot, .pwr, .clk, .disp, .pins] [.FAULT_CHECK, .FAULT_HELD,
      .FAULT_LEDGER, .FAULT_LOC, .FAULT_SUM, .LEDGER_FAULT_COUNT]
  | .doorbellWrite .. => evented ++ places [.rings, .egress, .pwr] []
  | .ringEnable .. | .ringSkip .. => places [.log, .msix, .rings, .egress, .logRing, .pwr, .wake] [.EVENT_BITS,
      .EVENT_LOG_DROPPED, .TRACE_DROPPED]
  | .ringDisable .. | .ringStop .. => places [.ledgers, .rings, .gal, .comp, .pwr, .wake, .disp] []
  | .ringResume .. => places [.rings, .pwr, .wake] []
  | .ringAbort .. => evented ++ places [.dom, .dev, .ledgers, .hostWrites, .rings, .egress, .gal, .formes, .comp,
      .plat, .ports, .prf, .ddr, .mem, .boot, .pwr, .disp] [.CHANGE_SEQ, .DELIVERED_BYTES, .FAULT_CHECK, .FAULT_HELD,
      .FAULT_LEDGER, .FAULT_LOC, .FAULT_SUM, .FORME_CAUSE, .LEDGER_FAULT_COUNT, .NEGOTIATED_VERSION, .NEXT_SOURCE, .SLACK,
      .STREAM_ERRORS]
  | .descriptorFetched .. | .egressFlushExpiry .. => evented ++ places [.dom, .ledgers, .hostWrites, .rings, .egress,
      .gal, .formes, .comp, .plat, .ports, .prf, .ddr, .mem, .pwr, .disp] [.CHANGE_SEQ, .DELIVERED_BYTES, .FORME_CAUSE,
      .NEGOTIATED_VERSION, .NEXT_SOURCE, .SLACK, .STREAM_ERRORS]
  | .poolWaitEnd .. | .ductRingResumed .. => evented ++ places [.ledgers, .rings, .gal] []
  | .sgEntryRead .. => evented ++ places [.ledgers, .hostWrites, .rings, .gal, .comp, .disp] []
  | .hostReadCompletion .. | .retainedTransferResume .. => evented ++ places [.ledgers, .hostWrites, .rings, .gal,
      .comp, .ddr, .mem, .boot, .disp] []
  | .hostWriteFailure .. | .pcieCompletionTimeout .. => evented ++ places [.ledgers, .rings, .gal, .comp, .disp] []
  | .descriptorComplete .. => evented ++ places [.dom, .ledgers, .hostWrites, .rings, .egress, .gal, .formes, .comp,
      .plat, .ports, .prf, .ddr, .mem, .boot, .pwr, .disp] [.CHANGE_SEQ, .DELIVERED_BYTES, .FORME_CAUSE,
      .NEGOTIATED_VERSION, .NEXT_SOURCE, .SLACK, .STREAM_ERRORS]
  | .lineDecode .. => evented ++ places [.ledgers, .rings, .gal, .formes, .comp] [.DECODED_LINES, .FORME_CAUSE,
      .NEGOTIATED_VERSION, .STREAM_ERRORS]
  | .lineCompose .. => evented ++ places [.ledgers, .gal, .comp, .plat, .ports, .prf] [.UNCOVERED_DOTS]
  | .quadratureCount .. => evented ++ places [.plat, .web] [.QUAD_ERRORS, .WEB_LINE_AT_SYNC]
  | .lineBoundary .. => evented ++ places [.live, .liveDom, .dev, .ledgers, .rings, .egress, .gal, .formes, .comp,
      .plat, .ports, .web, .pace, .prf, .ddr, .mem, .pwr, .pins] [.BAND_SIGNATURE, .CHANGE_SEQ, .COOL_MODE,
      .DCHK_OFF_FIRST_LINE, .DCHK_OFF_LAST_LINE, .DISCARDED_SLOTS, .FAULT_CHECK, .FAULT_HELD, .FAULT_LEDGER, .FAULT_LOC,
      .FAULT_SUM, .FORME_CAUSE, .FORME_FIRST_LINE, .FORME_LAST_LINE, .HELD_LINE, .HOLD_COUNT, .LEDGER_FAULT_COUNT,
      .LIVE_SEQ, .NEGOTIATED_VERSION, .NEXT_SOURCE, .PARTNER_READY, .PLAT_COMMIT_PENDING, .PLAT_LAG, .RESUME_LINE,
      .RETURNS, .SIGNATURE_BAND, .SLACK, .SLIP_TICKS, .TORN_LINES]
  | .indexEdge .. | .stepPendingApply .. => evented ++ places [.ledgers, .comp, .plat, .web] [.FORME_SKIPPED,
      .INDEX_ACTUAL, .INDEX_EXPECTED, .INDEX_MISMATCHES, .LAST_STEP, .STEP_PENDING, .WEB_LINE_AT_SYNC, .WEB_SPEED]
  | .strobe .. => places [.web] [.WEB_LINE_AT_SYNC, .WEB_SPEED]
  | .speedWindowClose .. => places [.free, .web] []
  | .webStopped .. => evented ++ places [.plat, .web] []
  | .emulatorCatchUp .. => places [.web] []
  | .holdCyclingClear .. => places [.plat] []
  | .holdNFall .. => places [.plat, .pins] []
  | .freezeEnd .. => evented ++ places [.plat, .ports, .web, .pins] []
  | .headDetect .. | .statusHello .. | .groupAckOverdue .. => places [.plat, .ports] []
  | .trainingAttemptEnd .. | .supplyFaultTimeout .. | .retrainAttemptEnd .. => evented ++ places [.dev, .ledgers,
      .rings, .gal, .comp, .plat, .ports, .web, .prf] [.DISCARDED_SLOTS, .FAULT_CHECK, .FAULT_HELD, .FAULT_LEDGER,
      .FAULT_LOC, .FAULT_SUM, .HELD_LINE, .LEDGER_FAULT_COUNT, .OHL_FAULT_CAUSE, .RESUME_LINE, .TORN_LINES]
  | .dataFrame .. => evented ++ places [.dom, .dev, .ledgers, .rings, .gal, .comp, .plat, .ports, .web, .prf]
      [.DISCARDED_SLOTS, .FAULT_CHECK, .FAULT_HELD, .FAULT_LEDGER, .FAULT_LOC, .FAULT_SUM, .HELD_LINE,
      .LEDGER_FAULT_COUNT, .OHL_FAULT_CAUSE, .RESUME_LINE, .SELFTEST_FAILS, .TORN_LINES]
  | .descReadTimeout .. | .statusUpgradeAck .. | .statusEcho .. | .timeSetRepeat .. | .trimFrameSend .. => places
      [.ports] []
  | .upgradeTrainingEnd .. | .telemetryTimeout .. => evented ++ places [.plat, .ports] []
  | .attachComplete .. => evented ++ places [.dom, .live, .ledgers, .egress, .comp, .plat, .ports, .ddr, .mem]
      [.CHANGE_SEQ, .HEAD_MODEL, .HEAD_SERIAL, .KNOWN_SERIAL, .NEGOTIATED_VERSION, .NOZZLE_GRID, .PLAT_COMMIT_PENDING,
      .ROW_OFFSET, .platenHead]
  | .detach .. => evented ++ places [.dev, .ledgers, .rings, .gal, .formes, .comp, .plat, .ports, .web, .prf, .ddr,
      .mem] [.DEFERRED_SLOTS, .DISCARDED_SLOTS, .FAULT_CHECK, .FAULT_HELD, .FAULT_LEDGER, .FAULT_LOC, .FAULT_SUM,
      .HELD_LINE, .LEDGER_FAULT_COUNT, .MAX_LATE, .NEGOTIATED_VERSION, .OHL_FAULT_CAUSE, .RESUME_LINE, .SUMMARIES_LOST,
      .TORN_LINES]
  | .slotSend .. | .ackFrame .. => places [.ledgers, .ports] []
  | .nakFrame .. | .resendTimeout .. => evented ++ places [.ledgers, .plat, .ports] [.DISCARDED_SLOTS, .RETRAINS,
      .RETRIES]
  | .doneFrame .. => evented ++ places [.ledgers, .rings, .gal, .formes, .comp, .plat, .ports, .prf, .ddr, .mem]
      [.DEFERRED_SLOTS, .MAX_LATE, .NEGOTIATED_VERSION, .SUMMARIES_LOST]
  | .tornFrame .. => evented ++ places [.ledgers, .rings, .gal, .comp, .plat, .ports, .web, .prf] [.DISCARDED_SLOTS,
      .HELD_LINE, .RESUME_LINE, .TORN_LINES]
  | .statusReady .. => evented ++ places [.ledgers, .rings, .gal, .formes, .comp, .plat, .ports, .web, .prf, .ddr,
      .mem] [.HELD_LINE, .NEGOTIATED_VERSION, .RESUME_LINE, .SUMMARIES_LOST, .TORN_LINES]
  | .telemetryFrame .. => evented ++ places [.plat, .ports] [.HEAD_FLAGS, .TEMPERATURE, .VHEAD, .VLOGIC]
  | .laneLockLost .. | .backchannelSilence .. => evented ++ places [.ledgers, .plat, .ports] [.DISCARDED_SLOTS,
      .RETRAINS]
  | .statusSelftestDone .. => evented ++ places [.ports] [.SELFTEST_FAILS]
  | .frameStart .. => evented ++ places [.live, .liveDom, .ledgers, .net, .pcie, .egress, .gal, .comp, .plat, .ports,
      .cams, .prf, .ddr, .mem] [.CAM_COMMIT_PENDING, .CAM_RECORDS_LOST, .CHANGE_SEQ, .FINDINGS, .FRAMES_DROPPED,
      .FRAMES_SKIPPED, .FSN, .LIVE_ID, .LOOP_LATE, .PRF_RECORDS_LOST, .REFUSED_WRITES, .REQUESTS, .REQUESTS_REFUSED,
      .REQ_BAND_TAKEN, .SETTINGS_LATE, .TARGET_FSN, .TRIALS, .UNCOVERED_DOTS, .UNRESOLVED, .WINDOWS_INSPECTED]
  | .frameEnd .. => evented ++ places [.ledgers, .egress, .cams, .prf, .ddr, .mem] [.CAM_RECORDS_LOST]
  | .pixelPacket .. => evented ++ places [.cams, .ddr, .mem] [.BAD_LINES_TOTAL, .OTHER_PACKETS]
  | .otherPacket .. => evented ++ places [] [.ECC_ERRORS, .OTHER_PACKETS]
  | .cciWriteComplete .. => evented ++ places [.live, .liveDom, .cams] [.CAM_COMMIT_PENDING, .LIVE_ID, .SETTINGS_LATE,
      .TARGET_FSN]
  | .camCciDone .. => evented ++ places [.live, .liveDom, .cams] [.CAM_COMMIT_PENDING, .CCI_DATA, .CCI_STATUS,
      .LIVE_ID, .SETTINGS_LATE, .TARGET_FSN]
  | .streamingTimeout .. => places [.cams] []
  | .clkRefclkSwitch .. => evented ++ places [.cams] []
  | .windowProcessed .. => evented ++ places [.ledgers, .net, .pcie, .egress, .gal, .comp, .plat, .ports, .cams, .prf,
      .ddr, .mem] [.CHANGE_SEQ, .FINDINGS, .FRAMES_SKIPPED, .LOOP_LATE, .PRF_RECORDS_LOST, .REFUSED_WRITES, .REQUESTS,
      .REQUESTS_REFUSED, .REQ_BAND_TAKEN, .TRIALS, .UNCOVERED_DOTS, .UNRESOLVED, .WINDOWS_INSPECTED]
  | .compareMatch .. => evented ++ places [.time, .cams, .axes] [.CMP_ARM, .CMP_FRACTION, .CMP_MATCHES, .CMP_TARGET,
      .MISSED_TRIGGERS]
  | .trigPulseEnd .. => places [.time] []
  | .captureEdge .. | .faultInputLow .. => evented ++ places [.web, .time, .axes] [.CAP_LOC, .CAP_NET, .CAP_OVERRUNS,
      .CAP_POSITION, .WEB_LINE_AT_SYNC, .WEB_SPEED]
  | .netPairSample .. => evented ++ places [.net, .time, .pwr] []
  | .paceLinkHello .. => evented ++ places [.pace] [.NEGOTIATED_VERSION]
  | .paceLinkDown .. | .paceQuoinStuck .. => evented ++ places [.pace] []
  | .enum .. => places [.pace] [.PACE_POSITION]
  | .cycle .. | .busy .. | .mirrorHeartbeat .. | .paceSyncPulseEnd .. => places [.pace] []
  | .paceSyncIn .. => evented ++ places [] [.SYNC_SKEW_LAST]
  | .mirrorRecord .. => evented ++ places [.web, .pace, .pins] [.PARTNER_READY]
  | .heartbeatMiss .. => evented ++ places [.web, .pace, .pins] [.MISSED_RECORDS, .PARTNER_READY]
  | .quoinTake .. | .standbyQuoinTimeout .. => evented ++ places [.web, .pace, .pins] [.LAST_TAKEOVER_LINE,
      .TAKEOVERS]
  | .paceOutEnable .. => evented ++ places [.web, .pace] [.PACE_POSITION]
  | .takeoverHoldPulseEnd .. => places [.pace, .pins] []
  | .dramRequest .. | .scrubRead .. => places [.ddr, .mem] []
  | .refreshDue .. => evented ++ places [.ddr] [.REFRESH_FORCED]
  | .mr4Poll .. => evented ++ places [.ddr] [.REFRESH_RATE]
  | .driftTracking .. => evented ++ places [.ddr] []
  | .profileTick .. => evented ++ places [.live, .liveDom, .axes] [.MOT_COMMIT_PENDING]
  | .currentSample .. | .senseTimeout .. | .holdDelayExpiry .. => evented ++ places [.axes] []
  | .chopOffTimeEnd .. => places [.axes] []
  | .powerOnReset .. | .brownoutReset .. => .part .loc :: resetPlaces
  | .cpuWatchdogWarn .. => evented
  | .pwrSubResetDone .. => evented ++ places [.dev, .plat, .cams, .boot, .disp, .pins] [.FAULT_CHECK, .FAULT_HELD,
      .FAULT_LEDGER, .FAULT_LOC, .FAULT_SUM, .LEDGER_FAULT_COUNT]
  | .scheduledWake .. => places [.wake] []
  | .sleepIdleExpiry .. => places [.pwr, .wake] []
  | .pwrWakeLate .. => evented ++ places [] [.WAKE_LATE]
  | .pwrBrownoutWarn .. | .pwrBrownoutClear .. => evented ++ places [] [.SUPPLY_STATUS]
  | .clkPcieRefLost .. => evented ++ places [.dev, .ledgers, .srv, .pcie, .hostWrites, .rings, .egress, .gal, .comp,
      .plat, .cams, .ddr, .mem, .boot, .pwr, .clk, .disp, .pins] [.CLOCK_FAILURES, .FAULT_CHECK, .FAULT_HELD,
      .FAULT_LEDGER, .FAULT_LOC, .FAULT_SUM, .LEDGER_FAULT_COUNT]
  | .clkPcieRefRestored .. => evented ++ places [.clk] []
  | .junctionTempSample .. => evented ++ places [.pwr] [.JUNCTION_MAX, .JUNCTION_TEMP]
  | .proposalExpiry .. => evented ++ places [.sec] [.LAST_CAUSE]
  | .idcode .. | .bypass .. | .sample .. | .debugInstruction .. => places [.pins] []
  | .dispTeBlank .. => evented ++ places [.disp] [.PUSH_SEQ]
  | .dsi1TeEdge .. | .panelInit .. | .cellRepush .. => places [.disp] []
  | .scanRowAdvance .. => evented ++ places [.disp] []
  | .pcieAerError .. => evented ++ places [.pcie] []
  | .powerEntryComplete .. => places [.dom, .live, .liveDom, .log, .dev, .ledgers, .srv, .net, .pcie, .msix,
      .hostWrites, .rings, .egress, .logRing, .gal, .formes, .comp, .plat, .ports, .web, .time, .pace, .cams, .prf, .ddr,
      .mem, .axes, .tymp, .pwr, .wake, .clk, .sec, .disp, .pins] [.any]

/-! ### Where commands store in the DRAM -/

/-- The byte belongs to a write among these requests (R345, R348). -/
def writeByte (rs : List DramReq) (a : Nat) : Prop :=
  ∃ r ∈ rs, r.write = true ∧ r.address ≤ a ∧ a < r.address + (r.data.take (64 - r.address % 64)).length

/-- The byte lies in a slot of rings 97 to 105 (R110). -/
def recordByte (s : State) (a : Nat) : Prop :=
  ∃ r n, 97 ≤ r ∧ r ≤ 105 ∧ n < max 1 (egressSlots r s) ∧ slotAddress r n s ≤ a ∧ a < slotAddress r n s + slotBytes r

/-- The byte lies in a summary slot of the proof area (R289). -/
def summaryByte (s : State) (a : Nat) : Prop :=
  ∃ p n, p < 4 ∧ n < max 1 (s.o OD.SUMMARY_SLOTS) ∧ summaryAddress p n s ≤ a ∧ a < summaryAddress p n s + 32768

/-- The byte lies in the frame buffer of the port's open frame (R275, R289). -/
def frameByte (p : Nat) (s : State) (a : Nat) : Prop :=
  ∃ f, (camOf p s).frame = some f ∧ bit f.flags flagDropped = false ∧ bufferAddress f.buffer s ≤ a ∧
    a < bufferAddress f.buffer s + f.height * f.width * 5 / 4

/-- The byte lies in a block of a stream of the ring's head (R128). -/
def blockByte (ring : Nat) (s : State) (a : Nat) : Prop :=
  ∃ st ∈ s.gal.streams, st.head = ring / 4 ∧ ∃ k, streamAddress st k s = some a

/-- The byte belongs to a TO_DEVICE descriptor of the diagnostic window, target 7, whose data has come (R111). -/
def diagnosticByte (s : State) (a : Nat) : Prop :=
  ∃ (r : Fin 128) (x : Xfer), (s.rings.get r).xfer = some x ∧ x.desc.op = 2 ∧ x.desc.target = 7 ∧ x.desc.offset ≤ a ∧
    a < x.desc.offset + x.gathered.length

/-- The bytes of the DRAM that a command may store to, for the commands that neither serve an object nor reset the device. -/
def storesAt : Instr → Option (State → Nat → Prop)
  | .pciConfigAccess .. | .pcieLinkDown | .hotReset .. | .perstNEdge .. | .clkPcieRefLost | .scrubRead .. =>
    some fun s => writeByte s.ddr.waiting
  | .dramRequest r => some fun s => writeByte (s.ddr.waiting ++ [r])
  | .ringAbort .. | .descriptorFetched .. | .descriptorComplete .. | .egressFlushExpiry .. =>
    some fun s a => recordByte s a ∨ diagnosticByte s a
  | .hostReadCompletion ring .. | .retainedTransferResume ring => some fun s => blockByte ring s
  | .lineBoundary | .attachComplete .. | .windowProcessed .. => some recordByte
  | .detach .. | .doneFrame .. | .statusReady .. => some summaryByte
  | .pixelPacket port .. => some fun s => frameByte port s
  | .frameStart channel | .frameEnd channel => some fun s a => recordByte s a ∨ frameByte channel.port s a
  | _ => none

/-- What a request may change that reads, or that is refused for what it names (R48, R52, R417, R419). -/
def readPlaces : List Place := evented ++ places [.srv, .net, .pcie, .pwr] [.NEXT_SOURCE, .SLACK]

/-- The command brings a read, or a write of an object that does not exist or takes none (R52). -/
def readsOnly : Instr → Bool
  | .sdoUpload .. | .sdoInformation .. | .winRead => true
  | .completeAccess _ _ write => write.isNone
  | .sdoSegment _ _ write _ _ => !write
  | .sdoDownload idx sub _ => !indexExists idx.toNat || (rowOf idx.toNat sub.toNat).all fun r => r.acc == .ro
  | _ => false

/-! ### Requests served at once -/

/-- A path has nothing in hand: over the mailbox its sync managers are enabled, in the window no request is in progress,
no mailbox request of the cycle is still to come, and the device is awake (R48, R78, R79, R82, R419, R488). -/
def pathFree (path : Path) (s : State) : Prop :=
  match path with
  | .mailbox => mailboxOpen s = true
  | .window => s.pcie.winBusy = false ∧ s.pcie.winResult = none ∧ s.pcie.winLost = false ∧ mailboxToCome s = false ∧ awake s = true

/-- Nothing stands between a request of the path and the object server: the device has started, the AL state is PRE-OPERATIONAL or
higher, nothing waits or is in progress in the server, and no subsystem is being reset (R48, R49, R60, R410). -/
def pathIdle (path : Path) (s : State) : Prop :=
  pathFree path s ∧ s.boot.phase = .ready ∧ s.net.al ≠ .init ∧ s.net.al ≠ .boot ∧ s.boot.subBusy = [] ∧
    s.srv.waiting = [] ∧ s.srv.segs = [] ∧ s.srv.busy = false ∧ answerOwed path s = false

/-- The object server serves a request of the path at once, whatever subsystem it goes to: every one has clocks and power (R415). -/
def pathReady (path : Path) (s : State) : Prop := pathIdle path s ∧ s.pwr.state < 2

/-- The state in which a request of a ready path is served: the window is busy, and the request is a demand wake. -/
def pathBegin (path : Path) (write : Bool) (s : State) : State :=
  demandWake (match path with
    | .mailbox => s
    | .window => { s with pcie := { s.pcie with winBusy := true, winWrite := write } })

/-- The path's request has been answered with `a`: the mailbox shows it, the window publishes it at WIN_REQUEST_DONE
(R52, R79). -/
def answered (path : Path) (a : Answer) (t : State) : Prop :=
  match path with
  | .mailbox => t.net.answer = a
  | .window => t.pcie.winResult = some a

/-! ### Objects -/

/-- A key that no check of R52 from check 5 on depends on other state for: neither an area, a ratio, a limit, a mapping, a
shadow object, a guarded field nor a target of a ring. -/
def plainKey (key : Nat) : Bool :=
  let idx := key / 256
  !(key == OD.GAL_AREA_BASE || key == OD.GAL_AREA_SIZE || egressObject key) &&
  !(decide (0x3300 ≤ idx) && decide (idx ≤ 0x33FF) && formeField (key % 256)) && key != OD.UPDATE_SLOT &&
  (comparePart key).isNone && !(isMapping idx || isAssignment idx) &&
  !(platShadow key || cameraSet key || (decide (0x4800 ≤ idx ∧ idx < 0x4808) && motShadow (idx - 0x4800) key)) &&
  !([OD.NOZZLE_TABLE, OD.SEGMENT_TABLE, OD.PUSH_BUFFER, OD.FLAT_FIELD, OD.PRF_AREA_BASE, OD.PRF_AREA_SIZE,
     OD.FRAME_BUFFER_BYTES, OD.FRAME_BUFFERS, OD.SUMMARY_SLOTS, OD.WEAK_RATIO, OD.MISSING_RATIO, OD.DITHER, OD.SCALE_NUM,
     OD.SCALE_DEN, OD.COUNTS_PER_REV, OD.INDEX_PHASE, OD.LEAD_LOW, OD.LEAD_RESUME, OD.PACE_HIGH_DEFAULT, OD.DATA_RATE,
     OD.DDR_MODE].contains key) &&
  !(decide (OD.CAM_DISTANCE 0 ≤ key ∧ key ≤ OD.CAM_DISTANCE 3)) && !(decide (OD.FW_KEY 0 ≤ key ∧ key ≤ OD.FW_KEY 2)) &&
  !(decide (0x3500 ≤ idx ∧ idx < 0x3518 ∧ (key % 256 = 0x39)))

/-- An object that an access stores and that no unit acts on: neither a command nor a value whose change does something at once. -/
def valueKey (key : Nat) : Bool :=
  let idx := key / 256
  let sub := key % 256
  plainKey key && !(decide (0x3300 ≤ idx ∧ idx < 0x3400 ∧ sub = 2)) &&
  !([OD.REQ_COMMAND, OD.RATE_CLASS_A, OD.RATE_CLASS_B, OD.WEB_COMMAND, OD.CONFIRM, OD.RESET_COMMAND, OD.SUB_RESET, OD.BOOT_COMMAND,
     OD.CONSENT_MESSAGE, OD.PUSH_COUNT, OD.PRESS_CONTROL, OD.EVENT_ACK 0, OD.EVENT_ACK 1, OD.DCHK_ENABLE, OD.INDEX_POLICY,
     OD.HOST_CELLS, OD.READY_BLOCKS, OD.UNDERRUN_BYTES].contains key) &&
  !(decide (0x3500 ≤ idx ∧ idx < 0x3518 ∧ sub = 0x34)) && !(decide (0x3700 ≤ idx ∧ idx < 0x3718 ∧ (sub = 1 ∨ sub = 0x30))) &&
  !(decide (0x4000 ≤ idx ∧ idx < 0x4004 ∧ (sub = 1 ∨ sub = 5 ∨ sub = 0x20 ∨ sub = 0x43))) &&
  !(decide (0x4800 ≤ idx ∧ idx < 0x4808 ∧ (sub = 1 ∨ sub = 2 ∨ sub = 0x38))) &&
  !(decide (OD.CMP_ARM 0 ≤ key ∧ key ≤ OD.CMP_ARM 15 ∧ (key - OD.CMP_ARM 0) % 6 = 0))

/-- The objects that raising an event may change (R45, R47, R477). -/
def eventKeys : List Nat := [OD.EVENT_BITS 0, OD.EVENT_BITS 1, OD.EVENT_LOG_DROPPED, OD.TRACE_DROPPED]

/-- The objects that serving a request may change besides what the request itself does: those of `eventKeys`, and what the power
manager shows of the next event (R417). -/
def servedKeys : List Nat := eventKeys ++ [OD.NEXT_SOURCE, OD.SLACK]

/-! ### Resets -/

/-- The families of objects that raising an event may change (R45, R47, R477), and that a failed check of the ledgers latches and
counts (R38). -/
def lossFams : List Fam :=
  [.EVENT_BITS, .EVENT_LOG_DROPPED, .TRACE_DROPPED, .FAULT_CHECK, .FAULT_HELD, .FAULT_LEDGER, .FAULT_LOC, .FAULT_SUM,
    .LEDGER_FAULT_COUNT]

/-- Every ledger's total is the sum of its holdings: what the check of R36 compares at each move (R35). -/
def ledgersWhole (s : State) : Prop := ∀ k : Fin 7, (s.ledgers.get k).held.toList.sum = (s.ledgers.get k).total

/-- MSI-X messages can go out: MSI-X is enabled, the link is up and the host lets the device master the bus (R44, R84). -/
def msixOn (s : State) : Bool := bit s.pcie.msixCtl 15 && s.pcie.linkUp && bit s.pcie.command 2

/-- A line boundary falls due at which the platen acts (R189, R206). -/
def platenDue (s : State) : Prop := ohlOn s = true ∧ boundaryDue s = true ∧ ∀ p m r, Instr.tornFrame p m r ∉ s.pending

/-- Nothing holds the boundary that falls due: no cause waits, none acts at it, and no reading that it evaluates is at the hard
limit; every port is READY or DISABLED (R206, R221, R222, R225, R256). -/
def quietBoundary (s : State) : Prop :=
  platenDue s ∧ s.dev.ledgerHalt = false ∧ s.plat.taken = [] ∧
    (∀ h < 24, ((portOf h s).state = .ready ∨ (portOf h s).state = .disabled) ∧
      (∀ r ∈ (seqrOf h s).readings, r.2 < s.oi (OD.TEMP_HARD h)) ∧
      (printingHead h s = true → s.o OD.LEAD_LOW ≤ leadFrom (s.web.hwl + 1) (laneOf h s).lead)) ∧
    ∀ p ∈ planesOf s, (101 / 100 * (rateMax p (s.web.hwl + 1) s : Rat) < s.web.speed → vgetN s.plat.overCount p < 64) ∧
      (slotTiming (boundaryRec (s.web.hwl + 1) s) p s).2.2 ≤ 16

/-- The configuration space is at reset (R84). -/
def configReset (p : Pcie) : Prop :=
  p.command = 0 ∧ p.bars = Vector.replicate 6 0 ∧ p.devCtl = Pcie.reset.devCtl ∧ p.devCtl2 = 0 ∧ p.aer = 0 ∧ p.msixCtl = 0 ∧
    p.linkCtl = 0 ∧ p.l1Ctl = 0 ∧ p.d3hot = false

/-- `t` is what a HOT reset leaves of `s` (R82, R84, R112): every ring DISABLED with its registers at reset, the window empty, the
configuration space at reset; WEB and the objects are kept, but for those of `lossFams` and of the families given. -/
def hotFrom (also : List Fam) (s t : State) : Prop :=
  t.rings = Vector.replicate 128 Ring.reset ∧ t.pcie.winBusy = false ∧ t.pcie.winBuf = [] ∧ t.pcie.msixTable = [] ∧
    configReset t.pcie ∧ t.web = s.web ∧ ∀ key, (∀ f ∈ lossFams ++ also, ¬ f.has key) → t.o key = s.o key

/-- `t` is what a reset of a kind, with its detail code, leaves of `s` (R409, R411, R413, R414): the start waits, LOC and the objects that
the kind keeps are as they were, every other object reads its default, the press line is empty and held, and the debug port is locked.
The objects of `eventKeys` and the counters of R408 and R423 are left out: raising an event and the counting itself change them. -/
def resetFrom (kind detail : Nat) (s t : State) : Prop :=
  t.boot.phase = .starting ∧ t.o OD.RESET_KIND = kind ∧ t.o OD.RESET_DETAIL = detail ∧
    t.loc = (if kind = 0 then 0 else s.loc) ∧ t.pending = s.pending ∧ t.live = [] ∧ t.formes = State.reset.formes ∧
    t.plat = Plat.reset ∧ t.axes = State.reset.axes ∧ t.pins.holdN = false ∧ t.sec.unlocked = false ∧ t.tymp.objs = s.tymp.objs ∧
    ∀ key, key ∉ eventKeys ++ [OD.RESET_KIND, OD.RESET_DETAIL, OD.BROWNOUTS, OD.CLOCK_FAILURES] →
      t.o key = if keptAtReset kind key then s.o key else dfltOf key

end Sys2Proof.Machine
end

