-- ==== Sys2Proof/Certificates/Slice0/Obligations.lean ====
section
/-! DEFINITION. Certificates/Slice0/Obligations.lean: the statements about the model. The docstring of each names the rules of spec/ it
rests on; one that rests on a choice of the model says so, with its log entry. Every `exec` conclusion is a completion: the command
answers a next state with the effect named. -/

section
open Sys2Proof Sys2Proof.Machine

/-- The model's queue: a step takes the command at its front and runs exactly it, on the state with the rest of the queue. -/
def Obligations.StepRunsFrontCommand : Prop :=
  ∀ (c : Instr) (rest : List Instr) (s : State), s.pending = c :: rest → step s = exec c { s with pending := rest }

/-- R314, R408. On an empty queue a step is one tick of LOC, four on the fallback oscillator, modulo 2^64: the model's choice (log
entry 1), with the power manager's recomputation of R417. While the DRAM runs each of its channels issues a command in it (log
entry 199). -/
def Obligations.EmptyQueueIsOneTick : Prop :=
  ∀ s : State, s.pending = [] → ∃ t, step s = .next t ∧ t.pending = [] ∧
    t.loc = (s.loc + if s.clk.fallback = true then 4 else 1) % 2 ^ 64 ∧ t.dom = s.dom ∧ t.comp = s.comp ∧ t.plat = s.plat ∧
    (s.ddr.state ≠ 2 → t.ddr = s.ddr) ∧
    (s.ddr.state = 2 → s.ddr.waiting = [] → t.ddr.mem = s.ddr.mem ∧ t.ddr.channels = s.ddr.channels.map channelTick)

/-- R26, R33, R36, R314, R395, R409, R411, R437. What power-on leaves: LOC 0, the start in progress, no command waiting (the queue is
the model's own, log entry 153), HOLD_N low, the debug port locked, memory with nothing listed (log entry 4), every object at its
default, no record in the log; and every resource of a ledger is free. Values of registers for which no reset value is given are log
entry 138. The memory of the reset state is in its canonical form, LOC is below 2^64, and every ledger is whole. -/
def Obligations.ResetValues : Prop :=
  (State.reset.loc = 0 ∧ State.reset.boot.phase = .starting ∧ State.reset.pending = [] ∧ State.reset.pins.holdN = false ∧
    State.reset.sec.unlocked = false ∧ State.reset.ddr.mem = [] ∧ State.reset.dev.evLog = [] ∧ State.reset.net.al = .init ∧
    State.reset.web.hwl = 0 ∧ State.reset.plat.held = false ∧
    (∀ key, State.reset.o key = dfltOf key) ∧
    ∀ k : Fin 7, (State.reset.ledgers.get k).held.get 0 = (State.reset.ledgers.get k).total) ∧
  (Memory.wf State.reset.ddr.mem = true ∧ State.reset.loc < 2 ^ 64 ∧ ledgersWhole State.reset)

/-- R48, R52, R111, R128, R275, R289, R348, R417, R419. Every command touches only the parts of the state and the families of objects
that `changes` lists for it; all else, every byte of memory among it, is as it was. Of the commands that store to the DRAM and neither
serve an object nor reset the device, every byte outside those that `storesAt` gives reads as before: the writes that wait, the slots of
records and summaries, the open frame's buffer, the blocks of the head's streams, the diagnostic window of a descriptor. A request that
reads, or that names no object that it may write, changes no more than `readPlaces` where no other request waits; nor does a read of a
register, but for the snapshots of WEB and TIME. -/
def Obligations.CommandsTouchOnlyTheirParts : Prop :=
  ∀ (c : Instr) (s t : State), exec c s = .next t →
    Keeps (maskOf (changes c)) s t ∧
    (∀ stored, storesAt c = some stored → Memory.wf s.ddr.mem = true →
      ∀ a, ¬ stored s a → Memory.read t.ddr.mem a = Memory.read s.ddr.mem a) ∧
    (readsOnly c = true → s.srv.waiting = [] → Keeps (maskOf readPlaces) s t) ∧
    (∀ bar offset size, c = .registerWrite bar offset size .read →
      Keeps (maskOf (readPlaces ++ places [.web, .time] [])) s t)

/-- R315. LOC counts on through every reset other than POR and through every power state: no command but a power-on reset, or the
brown-out of rail 0 or 1, which is one, sets it, whatever state the device is in; and once below 2^64 it stays below. -/
def Obligations.OnlyPowerOnChangesLoc : Prop :=
  (∀ (c : Instr) (s t : State), exec c s = .next t → c ≠ .powerOnReset → c ≠ .brownoutReset 0 → c ≠ .brownoutReset 1 → t.loc = s.loc) ∧
    ∀ s t : State, s.loc < 2 ^ 64 → step s = .next t → t.loc < 2 ^ 64

/-- R437. No command ends a run: each answers a next state in every state (log entry 154), the debug instruction of an unlocked port
alone excepted, which is refused (log entry 149). -/
def Obligations.EveryCommandCompletes : Prop :=
  ∀ (c : Instr) (s : State), (∃ t, exec c s = .next t) ∨ (∃ code, c = .debugInstruction code ∧ s.sec.unlocked = true)

/-- R348, R465. The DRAM: a byte reads as it was last written, every other byte is as before, and a run of written bytes reads
back. -/
def Obligations.MemoryReadsWhatWasWritten : Prop :=
  (∀ (m : List Host.Cell) (a b : Nat) (v : Byte), Memory.wf m = true →
    Memory.read (Memory.write a v m) b = if b = a then v else Memory.read m b) ∧
    ∀ (m : List Host.Cell) (a : Nat) (bs : List Byte), Memory.wf m = true →
      Memory.reads (Memory.writes a bs m) a bs.length = bs ∧ Memory.wf (Memory.writes a bs m) = true ∧
        ∀ b, b < a ∨ a + bs.length ≤ b → Memory.read (Memory.writes a bs m) b = Memory.read m b

/-- R338, R348. Every step keeps the DRAM's memory in its one canonical form, from every state in which it is. -/
def Obligations.StepKeepsMemoryForm : Prop :=
  ∀ s t : State, Memory.wf s.ddr.mem = true → step s = .next t → Memory.wf t.ddr.mem = true

/-- R35, R36, R38, R40. Nothing is created or lost: every step takes a state in which each ledger's holders have together its total to
such a state. A move between two holders of a ledger keeps the sum of what its holders have, takes no more than the giver has (log
entry 26), and leaves the other holders alone. -/
def Obligations.LedgerMovesKeepTheSum : Prop :=
  (∀ s t : State, ledgersWhole s → step s = .next t → ledgersWhole t) ∧
  ∀ (l : Ledger) (a b c : Fin 7) (n : Nat), a ≠ b →
    (((l.move a b n).held.toList).sum = l.held.toList.sum) ∧ (l.move a b n).total = l.total ∧
    (l.move a b n).held.get a = l.held.get a - min n (l.held.get a) ∧ (l.move a b n).held.get b = l.held.get b + min n (l.held.get a) ∧
    (c ≠ a → c ≠ b → (l.move a b n).held.get c = l.held.get c)

/-- R43, R44, R45, R47, R475, R476, R481. An event that only reports: CPU_WATCHDOG_WARN writes its log record, with its parameter
and LOC, where its route says so and the log has room, and sets the process data bit that its route names. Once the event log has
room outside the trace reserve, EVENT_LOG_OVERFLOW is written with the number of records dropped, and takes the process data route
of its word; without a drop, or without room, nothing is. Ring 96 has reported its stall, so that no second record is written. The
MSI-X message of CPU_WATCHDOG_WARN: its route's vector is sent, or pends while it is masked, if the route has the bit and MSI-X is
enabled, the link up and bus mastering on; else none is (log entry 6). The message leaves when the mask is cleared. -/
def Obligations.EventsFollowTheirRoute : Prop :=
  (∀ (core : Fin 3) (s : State),
    (bit (routeWord EV.CPU_WATCHDOG_WARN s) 15 = true → s.dev.dropsSince = 0 → logRoom s = true →
      ∃ t, exec (.cpuWatchdogWarn core) s = .next t ∧
        ∃ r ∈ t.dev.evLog, r.event = EV.CPU_WATCHDOG_WARN ∧ r.param = core.val ∧ r.loc = s.loc ∧ r.x18 = webpOf s.web.p) ∧
    (bit (routeWord EV.CPU_WATCHDOG_WARN s) 7 = true →
      let b := bits (routeWord EV.CPU_WATCHDOG_WARN s) 6 0
      ∃ t, exec (.cpuWatchdogWarn core) s = .next t ∧ bit (t.o (OD.EVENT_BITS (b / 64))) (b % 64) = true) ∧
    ∃ t, exec (.cpuWatchdogWarn core) s = .next t ∧ t.boot = s.boot ∧ t.plat = s.plat) ∧
  (∀ (core : Fin 3) (s : State), (s.egress.get 0).stalled = true → s.dev.dropsSince = 0 →
    let v := bits (routeWord EV.CPU_WATCHDOG_WARN s) 13 8
    (bit (routeWord EV.CPU_WATCHDOG_WARN s) 14 = true → msixOn s = true → msixMasked v s = false →
      ∃ t, exec (.cpuWatchdogWarn core) s = .next t ∧ t.pcie.msixSent = s.pcie.msixSent ++ [v] ∧
        t.pcie.msixPending = s.pcie.msixPending) ∧
    (bit (routeWord EV.CPU_WATCHDOG_WARN s) 14 = true → msixOn s = true → msixMasked v s = true →
      ∃ t, exec (.cpuWatchdogWarn core) s = .next t ∧ t.pcie.msixSent = s.pcie.msixSent ∧ v ∈ t.pcie.msixPending ∧
        ∀ u, u ≠ v → (u ∈ t.pcie.msixPending ↔ u ∈ s.pcie.msixPending)) ∧
    (bit (routeWord EV.CPU_WATCHDOG_WARN s) 14 = false ∨ msixOn s = false →
      ∃ t, exec (.cpuWatchdogWarn core) s = .next t ∧ t.pcie = s.pcie)) ∧
  (∀ (v : Fin 64) (s : State), awake s = true → msixOn s = true → bit s.pcie.msixCtl 14 = false → v.val ∈ s.pcie.msixPending →
    ∃ t, exec (.registerWrite .bar0 (0x4800C + 16 * v) 4 (.write 0)) s = .next t ∧ v.val ∈ t.pcie.msixSent ∧
      v.val ∉ t.pcie.msixPending ∧ msixMasked v t = false) ∧
  (∀ s : State, (s.egress.get 0).stalled = true →
    (0 < s.dev.dropsSince → logRoom s = true →
      ∃ t, exec .eventLogOverflow s = .next t ∧ t.dev.dropsSince = 0 ∧ t.dev.evSeq = (s.dev.evSeq + 1) % 2 ^ 32 ∧
        t.dev.evLog.length = s.dev.evLog.length + 1 ∧
        (bit (routeWord EV.EVENT_LOG_OVERFLOW s) 7 = false → t.od = s.od) ∧
        (bit (routeWord EV.EVENT_LOG_OVERFLOW s) 7 = true →
          let b := bits (routeWord EV.EVENT_LOG_OVERFLOW s) 6 0
          bit (t.o (OD.EVENT_BITS (b / 64))) (b % 64) = true) ∧
        ∃ r ∈ t.dev.evLog, r.event = EV.EVENT_LOG_OVERFLOW ∧ r.param = min 65535 s.dev.dropsSince ∧ r.x10 = s.dev.dropsSince ∧
          r.loc = s.loc) ∧
    (s.dev.dropsSince = 0 ∨ logRoom s = false → exec .eventLogOverflow s = .next s))

/-- R48, R52, R59, R63, R78, R486, R487, R488. Reads over a ready mailbox: one subindex, a whole index, a first segment; each
answers the bytes of the value and changes no object but those of `servedKeys`. What refuses a read over a ready mailbox, in the
order of R52: no such index, no such subindex, an object that is write-only. The SDO information service: the list of the
indices, or of one index's subindices; while an earlier request of the mailbox is not answered it waits; a mailbox that is not
enabled takes nothing, and in BOOT a request is refused as a protocol that is not supported. -/
def Obligations.SdoReadsAreAnswered : Prop :=
  (∀ (idx : BitVec 16) (s : State), pathIdle .mailbox s → indexExists idx.toNat = true →
    (∀ (sub : BitVec 8) (row : ObjRow), rowOf idx.toNat sub.toNat = some row → row.acc ≠ .wo →
      ∃ t, exec (.sdoUpload idx sub) s = .next t ∧ t.net.answer = .done (viewObject idx.toNat sub.toNat (demandWake s)) ∧
        t.dom = s.dom ∧ ∀ k, k ∉ servedKeys → t.o k = s.o k) ∧
    (∀ fromOne : Bool, (fromOne = true → subsOf idx.toNat ≠ []) →
      ∃ t, exec (.completeAccess idx fromOne none) s = .next t ∧
        t.net.answer = .done (completeBytes idx.toNat fromOne (demandWake s)) ∧
        t.dom = s.dom ∧ ∀ k, k ∉ servedKeys → t.o k = s.o k) ∧
    (∀ (sub : BitVec 8) (row : ObjRow) (data : List Byte) (last : Bool), rowOf idx.toNat sub.toNat = some row → row.acc ≠ .wo →
      isDomain (okey idx.toNat sub.toNat) = false →
      ∃ t, exec (.sdoSegment idx sub false data last) s = .next t ∧
        t.net.answer = .done ((viewObject idx.toNat sub.toNat (demandWake s)).take data.length) ∧
        (t.srv.segs = [] ↔ last = true) ∧ t.dom = s.dom ∧ ∀ k, k ∉ servedKeys → t.o k = s.o k)) ∧
  (∀ (idx : BitVec 16) (sub : BitVec 8) (s : State), pathIdle .mailbox s →
    (indexExists idx.toNat = false → ∃ t, exec (.sdoUpload idx sub) s = .next t ∧ t.net.answer = .abort 0x06020000) ∧
    (indexExists idx.toNat = true → rowOf idx.toNat sub.toNat = none →
      ∃ t, exec (.sdoUpload idx sub) s = .next t ∧ t.net.answer = .abort 0x06090011) ∧
    (∀ row, indexExists idx.toNat = true → rowOf idx.toNat sub.toNat = some row → row.acc = .wo →
      ∃ t, exec (.sdoUpload idx sub) s = .next t ∧ t.net.answer = .abort 0x06010001)) ∧
  (∀ s : State,
    (pathFree .mailbox s → s.net.al ≠ .boot → s.srv.waiting = [] → s.srv.busy = false → s.boot.phase ≠ .starting →
      answerOwed .mailbox s = false →
      (∃ t, exec (.sdoInformation none) s = .next t ∧ t.net.answer = .objects (listedIndices s)) ∧
      (∀ i : BitVec 16, i.toNat ∈ listedIndices s →
        ∃ t, exec (.sdoInformation (some i)) s = .next t ∧ t.net.answer = .objects (0 :: subsOf i.toNat)) ∧
      (∀ i : BitVec 16, i.toNat ∉ listedIndices s →
        ∃ t, exec (.sdoInformation (some i)) s = .next t ∧ t.net.answer = .abort 0x06020000)) ∧
    (pathFree .mailbox s → s.net.al ≠ .boot → s.srv.waiting = [] → answerOwed .mailbox s = true ∨ s.srv.busy = true →
      ∀ idx : Option (BitVec 16), ∃ t, exec (.sdoInformation idx) s = .next t ∧ t.net = s.net) ∧
    (pathFree .mailbox s → s.net.al = .boot → s.srv.waiting = [] → ∀ idx : Option (BitVec 16),
      ∃ t, exec (.sdoInformation idx) s = .next t ∧ t.net.answer = .mailboxError 2) ∧
    (¬ pathFree .mailbox s → s.srv.waiting = [] → ∀ idx : Option (BitVec 16), exec (.sdoInformation idx) s = .next s))

/-- R14, R16, R49, R51, R52, R81, R396. A whole value written over a ready mailbox to a readable, writable object that is not journaled
and on whose value no unit acts at once: it is stored without its reserved bits, answered, and no other object changes but those of `servedKeys`. A write
over a ready mailbox that a check refuses names the first check that fails, in the order of R52, and changes no object but those
of `servedKeys`: no index, no subindex, a read-only object, a wrong length, a value out of range. A segmented write that goes on
no further is given up: the path's transfer ends, the mailbox answers 0x05040000, and no object changes. The COMMIT word of the
oldest record: the values that its request wrote take effect, the journal holds them, and the request is answered. -/
def Obligations.SdoWritesAreTakenOrRefused : Prop :=
  (∀ (idx : BitVec 16) (sub : BitVec 8) (data : List Byte) (row : ObjRow) (s : State), pathReady .mailbox s →
    indexExists idx.toNat = true → rowOf idx.toNat sub.toNat = some row → row.acc = .rw → row.cls ≠ .j →
    isDomain (okey idx.toNat sub.toNat) = false → row.ty ≠ .bool → valueKey (okey idx.toNat sub.toNat) = true →
    data.length = row.ty.bytes → data ≠ [] → row.chk.ok (leNum data) = true →
    ∃ t, exec (.sdoDownload idx sub data) s = .next t ∧ t.net.answer = .done [] ∧
      t.o (okey idx.toNat sub.toNat) = storedNum (okey idx.toNat sub.toNat) (leNum data) ∧
      t.dom = s.dom ∧ ∀ k, k ≠ okey idx.toNat sub.toNat → k ∉ servedKeys → t.o k = s.o k) ∧
  (∀ (idx : BitVec 16) (sub : BitVec 8) (data : List Byte) (s : State), pathReady .mailbox s →
    ∃ t, exec (.sdoDownload idx sub data) s = .next t ∧
      (indexExists idx.toNat = false → t.net.answer = .abort 0x06020000 ∧ ∀ k, k ∉ servedKeys → t.o k = s.o k) ∧
      (indexExists idx.toNat = true → rowOf idx.toNat sub.toNat = none →
        t.net.answer = .abort 0x06090011 ∧ ∀ k, k ∉ servedKeys → t.o k = s.o k) ∧
      (∀ row, indexExists idx.toNat = true → rowOf idx.toNat sub.toNat = some row → row.acc = .ro →
        t.net.answer = .abort 0x06010002 ∧ ∀ k, k ∉ servedKeys → t.o k = s.o k) ∧
      (∀ row, indexExists idx.toNat = true → rowOf idx.toNat sub.toNat = some row → row.acc = .rw →
        plainKey (okey idx.toNat sub.toNat) = true → isDomain (okey idx.toNat sub.toNat) = false → data.length ≠ row.ty.bytes →
        t.net.answer = .abort 0x06070010 ∧ ∀ k, k ∉ servedKeys → t.o k = s.o k) ∧
      (∀ row, indexExists idx.toNat = true → rowOf idx.toNat sub.toNat = some row → row.acc = .rw →
        plainKey (okey idx.toNat sub.toNat) = true → isDomain (okey idx.toNat sub.toNat) = false → data.length = row.ty.bytes →
        data ≠ [] → row.ty ≠ .bool → row.chk.ok (leNum data) = false →
        t.net.answer = .abort 0x06090030 ∧ ∀ k, k ∉ servedKeys → t.o k = s.o k)) ∧
  (∀ (path : Path) (g : SegXfer) (s : State), segOf path s = some g → g.write = true → answerOwed path s = false →
    ∃ t, exec (.sdoSegmentTimeout path) s = .next t ∧ segOf path t = none ∧ t.od = s.od ∧ t.dom = s.dom ∧
      (path = .mailbox → t.net.answer = .abort 0x05040000)) ∧
  (∀ (key v : Nat) (bytes : List Byte) (rest : List JRec) (s : State), s.tymp.state = 1 → s.tymp.logBytes * 4 < 3 * 4194304 →
    s.srv.waiting = [] → s.pwr.restartWaiting = false → valueKey key = true → key ∉ servedKeys → bytes.length = bytesOf key → isDomain key = false →
    s.tymp.open_ = ⟨.objects false [(key, v)], .answer .mailbox [(key, bytes)]⟩ :: rest →
    ∃ t, exec .journalCommit s = .next t ∧ t.tymp.open_ = rest ∧ t.srv.busy = false ∧ t.net.answer = .done [] ∧
      t.o key = storedNum key (leNum bytes) ∧ t.tymp.objs = kset dfltOf key v s.tymp.objs ∧
      ∀ k, k ≠ key → k ∉ servedKeys → t.o k = s.o k)

/-- R53, R432, R434, R435, R439. A guarded object written over a ready path, past the checks of R52: nothing is applied; the write
opens a proposal with the path's party, the object, the value, a new identifier and a window of 10 s; one that is open it closes, as
cause 0x0A, and replaces. A proposal whose window ends without both consents closes, as cause 0x09, and shows no field of its own any
more (log entry 147: one with both consents waits for its records); the object keeps its value. A consent message over a ready path,
with room in the journal: one that the checks pass sets its party's bit in CONSENTS, its record waits to be committed, and the request
and the party's counter wait with it (log entry 148); one for no open proposal is refused as cause 1, counted, and answered
0x08000020. -/
def Obligations.GuardedWritesNeedConsent : Prop :=
  (∀ (path : Path) (idx : BitVec 16) (sub : BitVec 8) (data : List Byte) (row : ObjRow) (s : State), pathReady path s →
    indexExists idx.toNat = true → rowOf idx.toNat sub.toNat = some row → row.acc = .g → data.length = row.ty.bytes → data ≠ [] →
    checkWrites path false true true [⟨okey idx.toNat sub.toNat, row, data⟩] s = 0 →
    storeRefuses path ⟨okey idx.toNat sub.toNat, row, data⟩ s = false →
    firstProvisioning (okey idx.toNat sub.toNat) (partyOf path) s = false →
    ∃ t, exec (.guardedWrite path idx sub data) s = .next t ∧ answered path (.done []) t ∧
      t.sec.isOpen = true ∧ t.sec.target = okey idx.toNat sub.toNat ∧ t.sec.value = data ∧ t.sec.party = partyOf path ∧
      t.sec.consents = 0 ∧ t.sec.deadline = s.loc + 4000000000 ∧
      t.o OD.PROPOSAL_ID = (s.o OD.PROPOSAL_ID + 1) % 2 ^ 32 ∧ t.dom = s.dom ∧ (s.sec.isOpen = true → t.o OD.LAST_CAUSE = 0x0A) ∧
      ∀ k, k ≠ OD.PROPOSAL_ID → ¬ (s.sec.isOpen = true ∧ k = OD.LAST_CAUSE) → k ∉ servedKeys → t.o k = s.o k) ∧
  (∀ s : State, s.sec.isOpen = true → s.sec.consents ≠ 3 →
    ∃ t, exec .proposalExpiry s = .next t ∧ t.sec.isOpen = false ∧ t.o OD.LAST_CAUSE = 9 ∧
      t.sec = { s.sec with
        isOpen := false, target := 0, value := [], party := 0, challenge := 0, deadline := 0, tagFails := 0,
        consents := 0, propLine := none, propHost := none } ∧
      ∀ k, k ≠ OD.LAST_CAUSE → k ∉ eventKeys → t.o k = s.o k) ∧
  (∀ (path : Path) (message : List Byte) (s : State), pathReady path s → message.length = 32 →
    (consentCause (partyOf path) message s = 0 → s.tymp.blocked = false →
      ∃ t, exec (.consentMessage path message) s = .next t ∧ t.srv.busy = true ∧
        t.o (counterKey (partyOf path)) = s.o (counterKey (partyOf path)) ∧
        t.sec.consents = setBit s.sec.consents (partyOf path - 1) true ∧
        t.tymp.open_ = s.tymp.open_ ++ [⟨.consent (partyOf path) (leNum ((message.drop 8).take 8)), .consented (partyOf path)⟩]) ∧
    (s.sec.isOpen = false →
      ∃ t, exec (.consentMessage path message) s = .next t ∧ answered path (.abort 0x08000020) t ∧ t.sec = s.sec ∧
        t.o OD.LAST_CAUSE = 1 ∧ t.o OD.REFUSALS = (s.o OD.REFUSALS + 1) % 2 ^ 32))

/-- R60, R61, R62, R71, R75, R391. An AL state request. One that the EtherCAT state machine permits is entered with AL status 0
(from PRE-OPERATIONAL to SAFE-OPERATIONAL only with an assignment and a synchronisation that R62 accepts); one that it does not
permit is refused with 0x0011, and the state is kept. The codes other than those of R62 are log entry 40. AL states that the
device itself sets: a request for PRE-OPERATIONAL during a start waits and is entered at PREOP_ACKNOWLEDGE; the process-data
watchdog takes OPERATIONAL to SAFE-OPERATIONAL with AL status 0x001B; bare-forme mode refuses SAFE-OPERATIONAL and OPERATIONAL
with 0x8001, and a start SAFE-OPERATIONAL with 0x8002. -/
def Obligations.AlStateIsEnteredOrRefused : Prop :=
  (∀ (target : AlState) (s : State), s.boot.phase ≠ .starting → (isBare s = true → runsData target = false) →
    (alPermits s.net.al target = true → (s.net.al = .preop → target ≠ .safeop) →
      ∃ t, exec (.alStateRequest target) s = .next t ∧ t.net.al = target ∧ t.net.alStatus = 0) ∧
    (s.net.al = .preop → target = .safeop → safeopCause (loadPdos s) = 0 →
      ∃ t, exec (.alStateRequest target) s = .next t ∧ t.net.al = .safeop ∧ t.net.alStatus = 0) ∧
    (s.net.al = .preop → target = .safeop → safeopCause (loadPdos s) ≠ 0 →
      ∃ t, exec (.alStateRequest target) s = .next t ∧ t.net.al = .preop ∧ t.net.alStatus = safeopCause (loadPdos s)) ∧
    (alPermits s.net.al target = false →
      ∃ t, exec (.alStateRequest target) s = .next t ∧ t.net = { s.net with alStatus := 0x0011 })) ∧
  (∀ s : State,
    (s.boot.phase = .starting → s.net.al = .init →
      ∃ t, exec (.alStateRequest .preop) s = .next t ∧ t = { s with net := { s.net with preopWaiting := true } }) ∧
    (s.net.preopWaiting = true → s.boot.phase ≠ .starting → s.net.al = .init →
      ∃ t, exec .preopAcknowledge s = .next t ∧ t.net.al = .preop ∧ t.net.preopWaiting = false ∧ t.net.alStatus = 0) ∧
    (s.net.al = .op → ∃ t, exec .processDataWatchdog s = .next t ∧ t.net.al = .safeop ∧ t.net.alStatus = 0x001B ∧
      t.net.outputs = none) ∧
    (isBare s = true →
      (∃ t, exec (.alStateRequest .safeop) s = .next t ∧ t.net = { s.net with alStatus := 0x8001 }) ∧
      ∃ t, exec (.alStateRequest .op) s = .next t ∧ t.net = { s.net with alStatus := 0x8001 }) ∧
    (s.boot.phase = .starting →
      ∃ t, exec (.alStateRequest .safeop) s = .next t ∧ t.net = { s.net with alStatus := 0x8002 }))

/-- R60, R66, R68, R70, R198, R316. Process data in OPERATIONAL: at an SM2 event in SM-synchronous mode, or at a SYNC0 edge in DC
mode, the inputs are latched with latch slot 0 of WEB, then the outputs are applied: PRESS_CONTROL in the first 16 bits, and at most
one further entry, an object that a write stores, in the bits behind them. In DC mode an SM2 event keeps the outputs for the edge, and
a missing edge is reported once until the next. -/
def Obligations.ProcessDataIsExchanged : Prop :=
  ∀ (outputs : List Byte) (more : List Nat) (s : State), s.net.al = .op → assignedEntries 0x1C12 s = 0x21010110 :: more →
    more.length ≤ 1 → imageBits s.o 0x1C12 = 16 + (more.map (· % 256)).sum →
    outputs.length = (16 + (more.map (· % 256)).sum + 7) / 8 →
    (∀ e ∈ more, ∃ row, objRow (e / 256) = some row ∧ row.acc = .rw ∧ valueKey (e / 256) = true ∧ isDomain (e / 256) = false ∧
      e / 65536 ≠ 0 ∧ e % 256 ≤ 8 * row.ty.bytes) →
    let applied := fun t : State => t.o OD.PRESS_CONTROL = leNum outputs % 8 ∧
      ∀ e ∈ more, t.o (e / 256) = storedNum (e / 256) (leNum outputs / 65536 % 2 ^ (e % 256))
    (s.o OD.SYNC_MODE_OUT ≠ 2 → webOn s = true →
      ∃ t, exec (.sm2Event outputs) s = .next t ∧ applied t ∧
        t.web.latches.get 0 = ⟨webpOf s.web.p, s.loc, netNow s, speedNow s⟩ ∧ t.web.p = s.web.p ∧
        t.net.sm2Loc = some s.loc ∧ t.net.inputs = inputImage (latchSlot 0 (noteSm2 s))) ∧
    (s.o OD.SYNC_MODE_OUT = 2 →
      ∃ t, exec (.sm2Event outputs) s = .next t ∧ t.net.outputs = some outputs ∧ t.net.inputs = s.net.inputs ∧
        t.o OD.PRESS_CONTROL = s.o OD.PRESS_CONTROL ∧ (∀ e ∈ more, t.o (e / 256) = s.o (e / 256)) ∧ t.web = s.web) ∧
    (s.o OD.SYNC_MODE_OUT = 2 → s.net.outputs = some outputs → webOn s = true →
      let s1 := { s with net := { s.net with sync0Loc := s.loc, syncMissed := false } }
      ∃ t, exec .sync0Edge s = .next t ∧ t.net.outputs = none ∧ t.net.sync0Loc = s.loc ∧ t.net.syncMissed = false ∧ applied t ∧
        t.web.latches.get 0 = ⟨webpOf s.web.p, s.loc, netNow s1, speedNow s⟩ ∧ t.web.p = s.web.p ∧
        t.net.inputs = inputImage (latchSlot 0 s1)) ∧
    (s.o OD.SYNC_MODE_OUT = 2 → s.net.syncMissed = false →
      ∃ t, exec .sync0Missing s = .next t ∧ t.net = { s.net with syncMissed := true } ∧ ∀ k, k ∉ eventKeys → t.o k = s.o k) ∧
    (s.o OD.SYNC_MODE_OUT = 2 → s.net.syncMissed = true → exec .sync0Missing s = .next s)

/-- R71, R73, R75, R481, R488. The slave controller's registers: the station address, the reset sequence 0x52, 0x45, 0x53 of
register 0x0040, the watchdog, a mailbox sync manager (their numbers: log entry 41), and a change of a port's link. -/
def Obligations.SlaveControllerRegisters : Prop :=
  ∀ s : State,
    (∀ addr : BitVec 16, exec (.stationAddressWrite addr) s = .next { s with net := { s.net with station := addr.toNat } }) ∧
    (∀ value : Byte, (s.net.resetSeq = 2 → value ≠ 0x53#8) →
      ∃ t, exec (.netReset value) s = .next t ∧ t = { s with net := { s.net with
        resetSeq := if value = 0x52#8 then 1 else if s.net.resetSeq = 1 ∧ value = 0x45#8 then 2 else 0 } }) ∧
    (s.net.resetSeq = 2 → s.boot.phase ≠ .starting →
      ∃ t, exec (.netReset 0x53#8) s = .next t ∧ t.boot.phase = .starting ∧ t.o OD.RESET_KIND = 3 ∧ t.net.al = .init ∧
        t.net.station = s.net.station ∧ t.loc = s.loc ∧ t.ddr.mem = s.ddr.mem) ∧
    (∀ value : BitVec 32, exec (.escRegisterWrite 0x0420#16 value) s =
      .next { s with net := { s.net with watchdog := value.toNat % 65536 } }) ∧
    (∀ value : BitVec 32, s.net.al ≠ .init → ∃ t, exec (.escRegisterWrite 0x0806#16 value) s = .next t ∧
      t = { s with net := { s.net with smOn := s.net.smOn.set 0 (value.getLsbD 0) } }) ∧
    (∀ (port : Fin 2) (up : Bool), s.net.linkUp.get port ≠ up →
      ∃ t, exec (.miiLinkChange port up) s = .next t ∧ t.net = { s.net with linkUp := s.net.linkUp.set port up } ∧
        ∀ k, k ∉ eventKeys → t.o k = s.o k)

/-- R72, R383, R387, R393, R475. Files read over FoE with password 0 while the mailbox is enabled: the journal's image, and the
log records, which stay, the end's own event alone being added where its route logs it; a wrong password is refused with 0x8002, and
a name that is not a file's with 0x8001, before the password is looked at (log entry 56). rz2440.fw written over FoE in BOOT: bytes are
taken in order into the target slot, which is WRITING, each piece behind the ones before; the last byte has the slot verified, and
the transfer ends well exactly if the image is valid; outside BOOT, or past 16 MiB, it is refused. -/
def Obligations.FilesPassOverFoE : Prop :=
  (∀ s : State, pathFree .mailbox s →
    (∃ t, exec (.tympanJnlRead ⟨.journal, 0⟩) s = .next t ∧ t.net.answer = .done (journalImageBytes s)) ∧
    (s.net.al ≠ .boot → ∃ t, exec (.eventsLogRead ⟨.events, 0⟩) s = .next t ∧ t.net.answer = .done (s.dev.evLog.flatMap LogRec.bytes) ∧
      (s.dev.evLog.map fun r => { r with seq := 0 }).Sublist (t.dev.evLog.map fun r => { r with seq := 0 }) ∧
      (bit (routeWord EV.NET_FOE_DONE s) 15 = false → (s.egress.get 0).stalled = true → t.dev.evLog = s.dev.evLog)) ∧
    (∀ password : BitVec 32, password ≠ 0 →
      (∃ t, exec (.tympanJnlRead ⟨.journal, password⟩) s = .next t ∧ t.net.answer = .fileError 0x8002) ∧
      ∃ t, exec (.eventsLogRead ⟨.events, password⟩) s = .next t ∧ t.net.answer = .fileError 0x8002) ∧
    (∀ password : BitVec 32,
      (∃ t, exec (.tympanJnlRead ⟨.other, password⟩) s = .next t ∧ t.net.answer = .fileError 0x8001) ∧
      ∃ t, exec (.eventsLogRead ⟨.other, password⟩) s = .next t ∧ t.net.answer = .fileError 0x8001)) ∧
  (∀ (data : List Byte) (s : State), pathFree .mailbox s →
    (s.net.al = .boot → s.net.foe = none → data ≠ [] → data.length ≤ 16777216 →
      ∃ t, exec (.rz2440FwWrite .firmware 0 data false) s = .next t ∧ t.net.foe = some data.length ∧ t.net.answer = .done [] ∧
        (slotOf (targetSlot s) t) = ⟨.writing, 0, data, false⟩) ∧
    (s.net.al = .boot → s.net.foe = none → data ≠ [] → data.length ≤ 16777216 →
      ∃ t, exec (.rz2440FwWrite .firmware 0 data true) s = .next t ∧ t.net.foe = none ∧
        slotOf (targetSlot s) t = verifySlot ⟨.writing, 0, data, false⟩ s ∧
        t.net.answer = if (slotOf (targetSlot s) t).status = .valid then .done [] else .fileError 0x800B) ∧
    (∀ (pos : Nat) (x : FwSlot), s.net.al = .boot → s.net.foe = some pos → 0 < pos → data ≠ [] → pos + data.length ≤ 16777216 →
      slotOf (targetSlot s) s = x → x.status = .writing → x.image.length = pos →
      (∃ t, exec (.rz2440FwWrite .firmware 0 data false) s = .next t ∧ t.net.foe = some (pos + data.length) ∧
        t.net.answer = .done [] ∧ slotOf (targetSlot s) t = { x with image := x.image ++ data }) ∧
      ∃ t, exec (.rz2440FwWrite .firmware 0 data true) s = .next t ∧ t.net.foe = none ∧
        slotOf (targetSlot s) t = verifySlot { x with image := x.image ++ data } s ∧
        t.net.answer = if (slotOf (targetSlot s) t).status = .valid then .done [] else .fileError 0x800B) ∧
    (∀ last, s.net.al = .boot → 16777216 < s.net.foe.getD 0 + data.length →
      ∃ t, exec (.rz2440FwWrite .firmware 0 data last) s = .next t ∧ t.net.answer = .fileError 0x8003 ∧ t.boot = s.boot) ∧
    (∀ last, s.net.al ≠ .boot →
      ∃ t, exec (.rz2440FwWrite .firmware 0 data last) s = .next t ∧ t.net.answer = .fileError 0x8008 ∧ t.boot = s.boot) ∧
    (∀ password last, ∃ t, exec (.rz2440FwWrite .other password data last) s = .next t ∧ t.net.answer = .fileError 0x8001))

/-- R16, R52, R78, R79, R82, R419. WIN_READ and WIN_WRITE of one subindex with OFFSET 0: the request is served with its answer kept until it is
published; while BUSY is 1 a request is ignored and sets COLLISION; in DOZE and deeper it waits for the exit, which it starts. The end of a window request: BUSY falls, DONE rises, STATUS
and LENGTH take the result, and the data of a read lies in the buffer. -/
def Obligations.WindowRequestsAreServedAndPublished : Prop :=
  (∀ (row : ObjRow) (s : State),
    (pathReady .window s → bit s.pcie.winAddr 0 = false → s.pcie.winOffset = 0 → indexExists (bits s.pcie.winAddr 31 16) = true →
      rowOf (bits s.pcie.winAddr 31 16) (bits s.pcie.winAddr 15 8) = some row →
      isDomain (okey (bits s.pcie.winAddr 31 16) (bits s.pcie.winAddr 15 8)) = false →
      row.ty.bytes ≤ 61440 →
      (row.acc ≠ .wo → s.pcie.winLength = 0 →
        ∃ t, exec .winRead s = .next t ∧ t.pcie.winBusy = true ∧
          t.pcie.winResult =
            some (.done (viewObject (bits s.pcie.winAddr 31 16) (bits s.pcie.winAddr 15 8) (pathBegin .window false s))) ∧
          ∀ k, k ∉ servedKeys → t.o k = s.o k) ∧
      (row.acc = .rw → row.cls ≠ .j → row.ty ≠ .bool →
        valueKey (okey (bits s.pcie.winAddr 31 16) (bits s.pcie.winAddr 15 8)) = true →
        s.pcie.winLength = row.ty.bytes → s.pcie.winLength ≠ 0 → row.chk.ok (leNum (windowData s)) = true →
        ∃ t, exec .winWrite s = .next t ∧ t.pcie.winBusy = true ∧ t.pcie.winResult = some (.done []) ∧
          t.o (okey (bits s.pcie.winAddr 31 16) (bits s.pcie.winAddr 15 8)) =
            storedNum (okey (bits s.pcie.winAddr 31 16) (bits s.pcie.winAddr 15 8)) (leNum (windowData s)))) ∧
    (s.pcie.winBusy = true →
      (∃ t, exec .winRead s = .next t ∧ t.pcie = { s.pcie with winCollision := true } ∧ t.od = s.od) ∧
      ∃ t, exec .winWrite s = .next t ∧ t.pcie = { s.pcie with winCollision := true } ∧ t.od = s.od) ∧
    (s.pcie.winBusy = false → s.srv.waiting = [] → 2 ≤ s.pwr.state →
      (∃ t, exec .winRead s = .next t ∧ t.pwr.exiting = true ∧ t.pcie = { s.pcie with winBusy := true, winWrite := false } ∧
        t.srv.waiting.length = 1 ∧ t.od = s.od) ∧
      ∃ t, exec .winWrite s = .next t ∧ t.pwr.exiting = true ∧ t.pcie = { s.pcie with winBusy := true, winWrite := true } ∧
        t.srv.waiting.length = 1 ∧ t.od = s.od)) ∧
  (∀ s : State,
    (∀ data : List Byte, s.pcie.winResult = some (.done data) → data.length ≤ 61440 →
      ∃ t, exec .winRequestDone s = .next t ∧ t.pcie.winBusy = false ∧ t.pcie.winDone = true ∧ t.pcie.winStatus = 0 ∧
        t.pcie.winLength = (if s.pcie.winWrite then s.pcie.winLength else data.length) ∧ t.pcie.winResult = none ∧
        (∀ i (h : i < data.length), kget (fun _ => 0) t.pcie.winBuf i = data[i].toNat) ∧
        ∀ i, data.length ≤ i → kget (fun _ => 0) t.pcie.winBuf i = kget (fun _ => 0) s.pcie.winBuf i) ∧
    (∀ code : Nat, code ≠ 0 → s.pcie.winResult = some (.abort code) →
      ∃ t, exec .winRequestDone s = .next t ∧ t.pcie.winBusy = false ∧ t.pcie.winDone = true ∧ t.pcie.winStatus = code ∧
        t.pcie.winLength = 0 ∧ t.pcie.winResult = none ∧ t.pcie.winBuf = s.pcie.winBuf))

/-- R15, R85, R203, R318, R419. Register accesses in BAR0: in DOZE and deeper one waits for the exit, which it starts, and is carried
out after it (log entry 205). In RUN and READY, with no entry or exit in progress, an access that is not an aligned one of 32 bits reads all ones and writes
nothing; a read of WEB_POSITION_LO takes its snapshots; a 1 written to a match flag of TIME_CMP clears it, a 0 leaves it. -/
def Obligations.RegisterAccessesByTheMap : Prop :=
  ∀ s : State,
    (∀ (bar : Bar) (offset size : Nat) (acc : RegAccess), offset < barSize bar → 2 ≤ s.pwr.state →
      exec (.registerWrite bar offset size acc) s = .next { s with pwr := { s.pwr with
        exiting := true, entering := none, held := s.pwr.held ++ [.registerWrite bar offset size acc] } }) ∧
    (awake s = true → ∀ (offset size : Nat), offset < 0x400000 → (size ≠ 4 ∨ offset % 4 ≠ 0) →
      (∃ t, exec (.registerWrite .bar0 offset size .read) s = .next t ∧ t.pcie.readData = 0xFFFFFFFF) ∧
      ∀ v, ∃ t, exec (.registerWrite .bar0 offset size (.write v)) s = .next t ∧ ∀ k, k ∉ servedKeys → t.o k = s.o k) ∧
    (awake s = true → ∃ t, exec (.registerWrite .bar0 0xC0004 4 .read) s = .next t ∧ t.pcie.readData = webpOf s.web.p % 2 ^ 32 ∧
      t.web = { s.web with
        snapHi := webpOf s.web.p / 2 ^ 32 % 2 ^ 32, snapHwlLo := s.web.hwl % 2 ^ 32, snapHwlHi := s.web.hwl / 2 ^ 32 % 65536 }) ∧
    (awake s = true → ∀ (v : BitVec 32) (u : Fin 16), ∃ t, exec (.registerWrite .bar0 0xD0010 4 (.write v)) s = .next t ∧
      t.time.matched.get u = (s.time.matched.get u && !v.getLsbD (16 + u.val)))

/-- R82, R84, R85, R86, R103, R112, R408, R409, R420, R421, R481. The configuration space: its identification, the power state D3hot and
back, a BAR pair's address bits, the AER status, of which a 1 written clears, and Device Control; the identification that the
manual does not give reads a fresh free value. Which bits can be written is log entry 42, and what a HOT reset leaves of the space
and what PERST_N low does are log entries 33 and 144. The link: it comes up with a width and
a rate it can have; PME_Turn_Off in D3hot takes it to L2/L3 Ready with the configuration space kept; an error that AER reports
sets its bit. What acts as a HOT reset: a link lost, a hot reset or an FLR, PERST_N low, the loss of the reference clock. Every
ring is DISABLED with its registers at reset, the window is empty, the configuration space is at reset, and the objects are kept
but for the counts and latches that the loss itself makes. During a start it is absorbed into the start. -/
def Obligations.LinkAndConfigurationSpace : Prop :=
  (∀ s : State,
    (∃ t, exec (.pciConfigAccess .vendorDevice .read) s = .next t ∧ t.pcie.readData = 0x24401F9C) ∧
    (∃ t, exec (.pciConfigAccess .powerState (.write 3)) s = .next t ∧ t.pcie.d3hot = true ∧ t.pcie.bars = s.pcie.bars) ∧
    (∃ t, exec (.pciConfigAccess .powerState (.write 0)) s = .next t ∧ t.pcie.d3hot = false ∧ t.pcie.bars = s.pcie.bars) ∧
    (∀ v : BitVec 32, ∃ t, exec (.pciConfigAccess (.bar 0) (.write v)) s = .next t ∧
      t.pcie.bars.get 0 = v.toNat / 0x400000 * 0x400000 ∧ ∀ j : Fin 6, j ≠ 0 → t.pcie.bars.get j = s.pcie.bars.get j) ∧
    (∀ (v : BitVec 32) (b : Fin 32), ∃ t, exec (.pciConfigAccess .aerStatus (.write v)) s = .next t ∧
      bit t.pcie.aer b = (bit s.pcie.aer b && !v.getLsbD b)) ∧
    (∀ v : BitVec 32,
      (v.getLsbD 15 = false → ∃ t, exec (.pciConfigAccess .deviceControl (.write v)) s = .next t ∧
        t.pcie.devCtl = devCtlBits s.pcie.devCtl v.toNat ∧ t.rings = s.rings) ∧
      (v.getLsbD 15 = true → s.boot.phase ≠ .starting →
        ∃ t, exec (.pciConfigAccess .deviceControl (.write v)) s = .next t ∧ configReset t.pcie ∧
          t.rings = Vector.replicate 128 Ring.reset)) ∧
    (∃ t, exec (.pciConfigAccess .subsystemOther .read) s = .next t ∧ t.freeCtr = s.freeCtr + 1 ∧
      t.pcie.readData = Config.freeValue s.freeCtr % 2 ^ 32)) ∧
  (∀ s : State,
    (∀ width speed : Nat, s.pcie.perst = true → s.pwr.state ≠ 4 → linkAble width speed = true →
      ∃ t, exec (.pcieLinkUp width speed) s = .next t ∧ t.pcie.linkUp = true ∧ t.pcie.width = width ∧ t.pcie.speed = speed ∧
        t.pcie.trained = true ∧ t.pcie.l23 = false ∧ t.clk.pcieRefOk = true ∧ t.rings = s.rings) ∧
    (s.pcie.linkUp = true → s.pcie.d3hot = true →
      ∃ t, exec .pmeTurnOff s = .next t ∧ t.pcie = { s.pcie with linkUp := false, width := 0, speed := 0, l23 := true } ∧
        t.rings = s.rings) ∧
    (∀ b : BitVec 16, ∃ t, exec (.pcieAerError b) s = .next t ∧ t.pcie.aer = setBit s.pcie.aer (b.toNat % 32) true ∧
      t.rings = s.rings ∧ t.pcie.command = s.pcie.command)) ∧
  (∀ s : State,
    (s.boot.phase ≠ .starting →
      (∃ t, exec .pcieLinkDown s = .next t ∧ t.pcie.linkUp = false ∧ hotFrom [] s t) ∧
      (∀ flr, ∃ t, exec (.hotReset flr) s = .next t ∧ t.pcie.linkUp = s.pcie.linkUp ∧ hotFrom [] s t) ∧
      (∃ t, exec (.perstNEdge false) s = .next t ∧ t.pcie.perst = false ∧ t.pcie.linkUp = false ∧ hotFrom [] s t) ∧
      ∃ t, exec .clkPcieRefLost s = .next t ∧ t.clk.pcieRefOk = false ∧ t.pcie.linkUp = false ∧ hotFrom [.CLOCK_FAILURES] s t ∧
        t.o OD.CLOCK_FAILURES = (s.o OD.CLOCK_FAILURES + 1) % 2 ^ 32) ∧
    (s.boot.phase = .starting →
      (∀ flr, exec (.hotReset flr) s = .next s) ∧ ∃ t, exec .pcieLinkDown s = .next t ∧ t.pcie.linkUp = false ∧ t.boot = s.boot) ∧
    (s.pwr.state ≠ 4 → ∃ t, exec (.perstNEdge true) s = .next t ∧ t = { s with pcie := { s.pcie with perst := true } }) ∧
    (∃ t, exec .clkPcieRefRestored s = .next t ∧ t.clk = { s.clk with pcieRefOk := true } ∧ t.rings = s.rings))

/-- R87, R89, R90, R91, R92, R109, R391, R419. In RUN and READY, with no entry or exit in progress: a doorbell moves the tail of an enabled ring forward, within its size; one that does not fit changes no
ring; both leave every other ring as it was. In bare-forme mode doorbells are ignored (R391), and in DOZE and deeper one waits for the
exit, which it starts. The control bits of a ring: ENABLE of a DISABLED ring of a usable size; one of another size stays DISABLED
with CAUSE CONFIG. DISABLE of a ring that is STOPPED or HALTED, or RUNNING with nothing pending; STOP of a RUNNING one between
descriptors and within one; RESUME; ABORT, an idle RUNNING ring halting as well (log entry 11), behind what completes in its cycle;
and SKIP of a pending descriptor. A bit that the state does not permit changes no ring; that STOP and ABORT act on a RUNNING ring
only is log entry 207. -/
def Obligations.RingsAreCommanded : Prop :=
  (∀ (ring : Fin 128) (tail : BitVec 16) (s : State),
    (awake s = true → s.boot.phase ≠ .bare → tailAccepted (s.rings.get ring) tail.toNat = true →
      ∃ t, exec (.doorbellWrite ring tail) s = .next t ∧ t.rings.get ring = { s.rings.get ring with tail := tail.toNat } ∧
        ∀ j, j ≠ ring → t.rings.get j = s.rings.get j) ∧
    (awake s = true → s.boot.phase ≠ .bare → tailAccepted (s.rings.get ring) tail.toNat = false →
      ∃ t, exec (.doorbellWrite ring tail) s = .next t ∧ t.rings = s.rings) ∧
    (s.boot.phase ≠ .bare → 2 ≤ s.pwr.state → exec (.doorbellWrite ring tail) s = .next { s with pwr := { s.pwr with
      exiting := true, entering := none, held := s.pwr.held ++ [.doorbellWrite ring tail] } }) ∧
    (s.boot.phase = .bare → exec (.doorbellWrite ring tail) s = .next s)) ∧
  (∀ (ring : Fin 128) (s : State), awake s = true →
    (s.boot.phase ≠ .bare → ¬ (106 ≤ ring.val ∧ ring.val ≤ 111) → (s.rings.get ring).state = .disabled →
      3 ≤ (s.rings.get ring).sizeLog2 → (s.rings.get ring).sizeLog2 ≤ 12 →
      ∃ t, exec (.ringEnable ring) s = .next t ∧ t.rings.get ring = { s.rings.get ring with
          state := .running, head := 0, tail := 0, low := s.o OD.PACE_LOW_DEFAULT, high := s.o OD.PACE_HIGH_DEFAULT } ∧
        ∀ j, j ≠ ring → t.rings.get j = s.rings.get j) ∧
    (s.boot.phase ≠ .bare → ¬ (106 ≤ ring.val ∧ ring.val ≤ 111) → (s.rings.get ring).state = .disabled →
      ((s.rings.get ring).sizeLog2 < 3 ∨ 12 < (s.rings.get ring).sizeLog2) →
      ∃ t, exec (.ringEnable ring) s = .next t ∧ t.rings.get ring = { s.rings.get ring with cause := 0xC } ∧
        ∀ j, j ≠ ring → t.rings.get j = s.rings.get j) ∧
    ((s.rings.get ring).state ≠ .disabled ∨ (106 ≤ ring.val ∧ ring.val ≤ 111) ∨ s.boot.phase = .bare →
      ∃ t, exec (.ringEnable ring) s = .next t ∧ t.rings = s.rings) ∧
    ((s.rings.get ring).state = .disabled ∨ ((s.rings.get ring).state = .running ∧ (s.rings.get ring).pendingCount ≠ 0) →
      exec (.ringDisable ring) s = .next s) ∧
    ((s.rings.get ring).state ≠ .running → exec (.ringStop ring) s = .next s ∧ exec (.ringAbort ring) s = .next s) ∧
    ((s.rings.get ring).state = .disabled ∨ (s.rings.get ring).state = .running →
      exec (.ringResume ring) s = .next s ∧ exec (.ringSkip ring) s = .next s) ∧
    ((s.rings.get ring).state = .stopped ∨ (s.rings.get ring).state = .halted ∨
        ((s.rings.get ring).state = .running ∧ (s.rings.get ring).pendingCount = 0) → (s.rings.get ring).xfer = none →
      ∃ t, exec (.ringDisable ring) s = .next t ∧
        t.rings.get ring = { s.rings.get ring with state := .disabled, paced := false, promoted := false } ∧
        ∀ j, j ≠ ring → t.rings.get j = s.rings.get j) ∧
    ((s.rings.get ring).state = .running → (s.rings.get ring).xfer = none →
      ∃ t, exec (.ringStop ring) s = .next t ∧ t.rings.get ring = { s.rings.get ring with state := .stopped } ∧
        ∀ j, j ≠ ring → t.rings.get j = s.rings.get j) ∧
    (∀ x, (s.rings.get ring).state = .running → (s.rings.get ring).xfer = some x → x.started = true →
      ∃ t, exec (.ringStop ring) s = .next t ∧ t.rings.get ring = { s.rings.get ring with stopping := true } ∧
        ∀ j, j ≠ ring → t.rings.get j = s.rings.get j) ∧
    ((s.rings.get ring).state = .stopped ∨ (s.rings.get ring).state = .halted →
      (∃ t, exec (.ringResume ring) s = .next t ∧ t.rings.get ring = { s.rings.get ring with state := .running } ∧
        ∀ j, j ≠ ring → t.rings.get j = s.rings.get j) ∧
      ((s.rings.get ring).pendingCount ≠ 0 →
        ∃ t, exec (.ringSkip ring) s = .next t ∧
          t.rings.get ring = { s.rings.get ring with head := ((s.rings.get ring).head + 1) % 65536 } ∧
          ∀ j, j ≠ ring → t.rings.get j = s.rings.get j)) ∧
    ((s.rings.get ring).state = .running →
      let u := completionsFirst ring s
      ∃ t, exec (.ringAbort ring) s = .next t ∧ (t.rings.get ring).state = .halted ∧ (t.rings.get ring).cause = 0xB ∧
        (t.rings.get ring).errDesc = (u.rings.get ring).head ∧ (t.rings.get ring).xfer = none ∧
        (t.rings.get ring).head = (u.rings.get ring).head ∧
        ((u.rings.get ring).xfer = none → (t.rings.get ring).errEntry = 0) ∧
        ∀ x, (u.rings.get ring).xfer = some x → x.entry.isSome = true → (t.rings.get ring).errEntry = x.entries))

/-- R93, R97, R98, R100, R103. A descriptor fetched by a RUNNING ring: one that could not be read halts the ring as FETCH; one that a
check of R97 fails halts it with that check's cause; one that passes starts, a GALLEY one once pacing and the block pool let it. One
that a ring of the high class starts pre-empts the transfers of the normal class that read (log entry 32).
A GALLEY descriptor that waits: with blocks for it in the pool it starts, with the blocks reserved; a paced ring whose FILL has
fallen to LOW is paced no more. -/
def Obligations.DescriptorsAreFetched : Prop :=
  (∀ (ring : Fin 128) (s : State), mayFetch ring s = true →
    (∃ t, exec (.descriptorFetched ring none) s = .next t ∧ (t.rings.get ring).state = .halted ∧ (t.rings.get ring).cause = 1 ∧
      (t.rings.get ring).errDesc = (s.rings.get ring).head ∧ (t.rings.get ring).head = (s.rings.get ring).head) ∧
    (∀ bytes, descCause ring (parseDesc bytes).1 (parseDesc bytes).2 s ≠ 0 →
      ∃ t, exec (.descriptorFetched ring (some bytes)) s = .next t ∧ (t.rings.get ring).state = .halted ∧
        (t.rings.get ring).cause = descCause ring (parseDesc bytes).1 (parseDesc bytes).2 s ∧
        (t.rings.get ring).errEntry = 0 ∧ (t.rings.get ring).errDesc = (s.rings.get ring).head) ∧
    (∀ bytes, descCause ring (parseDesc bytes).1 (parseDesc bytes).2 s = 0 → (parseDesc bytes).1.op ≠ 1 →
      (parseDesc bytes).1.count ≠ 0 →
      ∃ t, exec (.descriptorFetched ring (some bytes)) s = .next t ∧
        t.rings.get ring =
          { s.rings.get ring with xfer := some { Xfer.fresh (parseDesc bytes).1 with started := true } } ∧
        ((∀ r < 128, (ringOf r s).isHigh = false) → ∀ j, j ≠ ring → t.rings.get j = s.rings.get j) ∧
        ((s.rings.get ring).isHigh = true → (parseDesc bytes).1.op = 2 → ∀ (j : Fin 128) (y : Xfer), j ≠ ring →
          (s.rings.get j).xfer = some y → y.staging = .reading → (s.rings.get j).highTransfer = false →
          (t.rings.get j).xfer = some { y with staging := .retained, heldAt := s.loc })) ∧
    (∀ bytes st, descCause ring (parseDesc bytes).1 (parseDesc bytes).2 s = 0 → (parseDesc bytes).1.op = 1 →
      (parseDesc bytes).1.count ≠ 0 → (s.rings.get ring).paced = false → streamOf (parseDesc bytes).1.forme (ring.val / 4) s = some st →
      let u := modStream (parseDesc bytes).1.forme (ring.val / 4) (fun st => { st with bound := some ring.val }) s
      ((s.rings.get ring).high ≤ fillOf ring u →
        ∃ t, exec (.descriptorFetched ring (some bytes)) s = .next t ∧
          (t.rings.get ring).xfer = some (Xfer.fresh (parseDesc bytes).1) ∧ (t.rings.get ring).paced = true) ∧
      (fillOf ring u < (s.rings.get ring).high →
        mayTake ring (blocksNeeded st ((parseDesc bytes).1.offset + (parseDesc bytes).1.total)) u = true →
        ∃ t, exec (.descriptorFetched ring (some bytes)) s = .next t ∧
          (t.rings.get ring).xfer = some { Xfer.fresh (parseDesc bytes).1 with started := true } ∧
          (t.rings.get ring).poolWait = false))) ∧
  (∀ (ring : Fin 128) (x : Xfer) (st : Stream) (s : State), s.dev.ledgerHalt = false → (s.rings.get ring).xfer = some x →
    x.started = false → x.staging = .none → x.desc.op = 1 → streamOf x.desc.forme (ring.val / 4) s = some st →
    ((s.rings.get ring).poolWait = true → (s.rings.get ring).paced = false → fillOf ring s < (s.rings.get ring).high →
      mayTake ring (blocksNeeded st (x.desc.offset + x.desc.total)) s = true →
      ∃ t, exec (.poolWaitEnd ring) s = .next t ∧ (t.rings.get ring).poolWait = false ∧
        (t.rings.get ring).xfer = some { x with started := true } ∧
        heldOf 1 1 t = heldOf 1 1 s + blocksNeeded st (x.desc.offset + x.desc.total)) ∧
    ((s.rings.get ring).paced = true → fillOf ring s ≤ (s.rings.get ring).low →
      ∃ t, exec (.ductRingResumed ring) s = .next t ∧ (t.rings.get ring).paced = false ∧
        (t.rings.get ring).head = (s.rings.get ring).head))

/-- R94, R96, R97, R104, R105, R110, R111. A scatter-gather entry of a started descriptor: one that could not be read halts the ring
as READ; one with a reserved bit as FIELD, one that exceeds the total as LENGTH; a good one of a TO_DEVICE descriptor is the
entry in progress. A descriptor whose data has moved completes: HEAD advances, LAST_TAG takes its TAG; a TO_DEVICE one for the
diagnostic window has its bytes in the DRAM. A RECORDS descriptor with records completes once EGRESS_FLUSH has elapsed. -/
def Obligations.ScatterGatherAndCompletion : Prop :=
  (∀ (ring : Fin 128) (x : Xfer) (s : State), (s.rings.get ring).xfer = some x → x.started = true → x.entry = none →
    x.entries < x.desc.count → x.staging = .none →
    (∃ t, exec (.sgEntryRead ring none) s = .next t ∧ (t.rings.get ring).state = .halted ∧ (t.rings.get ring).cause = 9 ∧
      (t.rings.get ring).errEntry = x.entries ∧ (t.rings.get ring).errDesc = (s.rings.get ring).head) ∧
    (∀ bytes : List Byte, 2 ≤ leNum ((bytes.drop 12).take 4) →
      ∃ t, exec (.sgEntryRead ring (some bytes)) s = .next t ∧ (t.rings.get ring).state = .halted ∧
        (t.rings.get ring).cause = 3 ∧ (t.rings.get ring).errEntry = x.entries) ∧
    (∀ bytes : List Byte, leNum ((bytes.drop 12).take 4) < 2 → x.desc.total < x.sum + leNum ((bytes.drop 8).take 4) →
      ∃ t, exec (.sgEntryRead ring (some bytes)) s = .next t ∧ (t.rings.get ring).state = .halted ∧
        (t.rings.get ring).cause = 7 ∧ (t.rings.get ring).errEntry = x.entries) ∧
    (∀ bytes : List Byte, leNum ((bytes.drop 12).take 4) < 2 → x.sum + leNum ((bytes.drop 8).take 4) ≤ x.desc.total →
      leNum ((bytes.drop 8).take 4) ≠ 0 → x.desc.op = 2 →
      ∃ t y, exec (.sgEntryRead ring (some bytes)) s = .next t ∧ (t.rings.get ring).xfer = some y ∧
        y.sum = x.sum + leNum ((bytes.drop 8).take 4) ∧ y.entries = x.entries ∧ y.moved = x.moved ∧
        y.entry = some ⟨leNum (bytes.take 8), leNum ((bytes.drop 8).take 4), bit (leNum ((bytes.drop 12).take 4)) 0, 0⟩)) ∧
  (∀ (ring : Fin 128) (x : Xfer) (s : State), (s.rings.get ring).xfer = some x →
    (x.desc.op = 3 → x.entry = none → descMoved ring x s = true →
      ∃ t, exec (.descriptorComplete ring) s = .next t ∧ (t.rings.get ring).xfer = none ∧
        (t.rings.get ring).head = ((s.rings.get ring).head + 1) % 65536 ∧ (t.rings.get ring).lastTag = x.desc.tag ∧
        (t.rings.get ring).state = if (s.rings.get ring).stopping then .stopped else (s.rings.get ring).state) ∧
    (x.desc.op = 2 → x.desc.target = 7 → descMoved ring x s = true →
      ∃ t, exec (.descriptorComplete ring) s = .next t ∧ (t.rings.get ring).xfer = none ∧
        (t.rings.get ring).head = ((s.rings.get ring).head + 1) % 65536 ∧ (t.rings.get ring).lastTag = x.desc.tag ∧
        (∀ i (h : i < x.gathered.length), Memory.read t.ddr.mem (x.desc.offset + i) = x.gathered[i]) ∧
        ∀ a, (a < x.desc.offset ∨ x.desc.offset + x.gathered.length ≤ a) → Memory.read t.ddr.mem a = Memory.read s.ddr.mem a) ∧
    (x.desc.op = 4 → x.entry = none → 0 < x.records → s.o OD.EGRESS_FLUSH ≠ 0 →
      x.firstLoc + s.o OD.EGRESS_FLUSH * 400 ≤ s.loc →
      ∃ t, exec (.egressFlushExpiry ring) s = .next t ∧ (t.rings.get ring).xfer = none ∧
        (t.rings.get ring).head = ((s.rings.get ring).head + 1) % 65536 ∧ (t.rings.get ring).lastTag = x.desc.tag))

/-- R84, R97, R102, R103, R109, R111. Data of the entry in progress, that of one read request, in a staging buffer that is reading
and while no other turn is due: it goes to the target, and the entry advances; a retained buffer keeps it; a failed read halts the
ring as READ. A transfer whose buffer was retained reads on once no high-class ring is
ready. Failures of a ring's host accesses: a failed posted write halts it as WRITE, a read that times out as READ within a
descriptor and as FETCH before one. The descriptor named is the one at HEAD, which does not move. -/
def Obligations.HostDataMovesOrHaltsTheRing : Prop :=
  (∀ (ring : Fin 128) (x : Xfer) (e : SgEntry) (s : State), (s.rings.get ring).xfer = some x → x.entry = some e → x.desc.op = 2 →
    (∀ data : List Byte, x.staging = .reading → x.desc.target ≠ 1 ∨ s.comp.load.isSome = true →
      nextTurn s = none → x.kept = [] → data.length ≤ readSize s → data.length ≤ bufRoom x e →
      e.used + data.length < e.length →
      ∃ t y, exec (.hostReadCompletion ring (some data)) s = .next t ∧ (t.rings.get ring).xfer = some y ∧
        y.gathered = x.gathered ++ data ∧ y.moved = x.moved + data.length ∧ y.entries = x.entries ∧
        y.entry = some { e with used := e.used + data.length }) ∧
    (∀ data : List Byte, x.staging = .reading → x.desc.target ≠ 1 ∨ s.comp.load.isSome = true →
      nextTurn s = none → x.kept = [] → data.length ≤ readSize s → data.length ≤ bufRoom x e →
      e.used + data.length = e.length →
      (x.entries + 1 = x.desc.count → x.sum = x.desc.total) →
      ∃ t y, exec (.hostReadCompletion ring (some data)) s = .next t ∧ (t.rings.get ring).xfer = some y ∧
        y.gathered = x.gathered ++ data ∧ y.moved = x.moved + data.length ∧ y.entries = x.entries + 1 ∧ y.entry = none ∧
        y.staging = .none) ∧
    (∀ data : List Byte, x.staging = .retained → nextTurn s = none → x.heldAt ≠ s.loc →
      ∃ t, exec (.hostReadCompletion ring (some data)) s = .next t ∧
        (t.rings.get ring).xfer = some { x with kept := (x.kept ++ data.take (readSize s)).take (bufRoom x e) }) ∧
    (x.staging = .reading →
      ∃ t, exec (.hostReadCompletion ring none) s = .next t ∧ (t.rings.get ring).state = .halted ∧ (t.rings.get ring).cause = 9 ∧
        (t.rings.get ring).errEntry = x.entries) ∧
    (x.staging = .retained → x.kept = [] → (∀ r < 128, (ringOf r s).isHigh = true → (ringOf r s).isBusy = false) →
      ∃ t, exec (.retainedTransferResume ring) s = .next t ∧ (t.rings.get ring).xfer = some { x with staging := .reading })) ∧
  (∀ (ring : Fin 128) (s : State),
    (∀ x, (s.rings.get ring).xfer = some x → x.started = true → (x.desc.op = 3 ∨ x.desc.op = 4) →
      ∃ t, exec (.hostWriteFailure ring) s = .next t ∧ (t.rings.get ring).state = .halted ∧ (t.rings.get ring).cause = 0xA ∧
        (t.rings.get ring).errDesc = (s.rings.get ring).head ∧ (t.rings.get ring).xfer = none) ∧
    (∀ x, (s.rings.get ring).xfer = some x → x.started = true → timeoutOn s = true →
      ∃ t, exec (.pcieCompletionTimeout ring) s = .next t ∧ (t.rings.get ring).state = .halted ∧ (t.rings.get ring).cause = 9 ∧
        (t.rings.get ring).errEntry = x.entries ∧ (t.rings.get ring).errDesc = (s.rings.get ring).head) ∧
    (mayFetch ring s = true → timeoutOn s = true →
      ∃ t, exec (.pcieCompletionTimeout ring) s = .next t ∧ (t.rings.get ring).state = .halted ∧ (t.rings.get ring).cause = 1 ∧
        (t.rings.get ring).errDesc = (s.rings.get ring).head))

/-- R125, R126, R131, R135, R140. An engine decodes the next line of the head it picks: the lane has it as its last input, with a token
of ledger 3, and the engine's status word names it. A line that fails a check fails its stream from that line on, and is counted; the
stream of a forme from LOADING to PRINTING takes the forme to FAULTED with the check as its cause, and any other leaves the formes as
they are. Without a line to decode nothing changes. Which lines are permitted is log entry 9. -/
def Obligations.EngineDecodesALine : Prop :=
  ∀ (engine : Fin 8) (s : State), lineOn s = true →
    (∀ (h : Fin 24) (st st' : Stream) (dots : List Nat), pickHead engine s = some h.val → readyLine h s = some (st, .line st' dots) →
      st.head = h.val → 0 < heldOf 3 0 s →
      ∃ t, exec (.lineDecode engine) s = .next t ∧
        (t.comp.lanes.get h).input = (s.comp.lanes.get h).input ++ [⟨st.firstFire + st.nextLine, st.forme, st.nextLine, dots⟩] ∧
        heldOf 3 1 t = heldOf 3 1 s + 1 ∧ heldOf 3 0 t = heldOf 3 0 s - 1 ∧
        t.gal.engines.get engine = ⟨st'.head / 8, st'.forme, ((s.gal.engines.get engine).lines + 1) % 65536⟩) ∧
    (∀ (h : Fin 24) (st : Stream) (cause : Nat), pickHead engine s = some h.val → readyLine h s = some (st, .error cause) →
      st.head = h.val →
      ∃ t, exec (.lineDecode engine) s = .next t ∧ t.o OD.STREAM_ERRORS = (s.o OD.STREAM_ERRORS + 1) % 2 ^ 32 ∧
        t.comp.lanes = s.comp.lanes ∧ (∃ x ∈ t.gal.streams, x.same st = true) ∧
        (∀ x ∈ t.gal.streams, x.same st = true → x.failed = true ∧ x.failAt = st.failLine cause) ∧
        (∀ f : Fin 256, st.context = true → st.forme = f.val →
          ((s.formes.get f).state ∈ [FormeState.loading, .ready, .armed, .printing] →
            (t.formes.get f).state = .faulted ∧ t.o (OD.FORME_CAUSE f) = (0x200 + cause) % 65536 ∧
              ∀ g, g ≠ f → t.formes.get g = s.formes.get g) ∧
          ((s.formes.get f).state ∉ [FormeState.loading, .ready, .armed, .printing] → t.formes = s.formes)) ∧
        (st.context = false → t.formes = s.formes)) ∧
    (pickHead engine s = none → exec (.lineDecode engine) s = .next s)

/-- R155, R156, R168. The next line of a lane: where no stream holds it, it is blank and takes a token; where its decoded line is
there, it is composed; either enters the lead buffer from the resume line on. No change is pending, and none was accepted in the
cycle in which the line would begin a band (log entry 169). -/
def Obligations.LaneComposesItsNextLine : Prop :=
  ∀ (head : Fin 24) (s : State), lineOn s = true → bandWaits head (nextFire head s) s = false → s.comp.items = [] → s.comp.unapplied = [] →
    (s.comp.lanes.get head).lead.length < 32 → (s.plat.heads.get head).nextSlot ≤ nextFire head s →
    (streamAt head (nextFire head s) s = none → (s.comp.lanes.get head).input = [] → tokensOf head s < 32 → 0 < heldOf 3 0 s →
      ∃ t, exec (.lineCompose head) s = .next t ∧
        (t.comp.lanes.get head).lead = (s.comp.lanes.get head).lead ++ [⟨nextFire head s, none, [], []⟩] ∧
        (t.comp.lanes.get head).next = nextFire head s + 1 ∧ heldOf 3 2 t = heldOf 3 2 s + 1 ∧
        ∀ j, j ≠ head → t.comp.lanes.get j = s.comp.lanes.get j) ∧
    (∀ d : DecodedLine, (streamAt head (nextFire head s) s).isSome = true → (s.comp.lanes.get head).input = [d] →
      d.line = nextFire head s → passedByStep head (nextFire head s) s = false → 0 < heldOf 3 1 s →
      ∃ t c, exec (.lineCompose head) s = .next t ∧ (t.comp.lanes.get head).lead = (s.comp.lanes.get head).lead ++ [c] ∧
        c.line = nextFire head s ∧ c.forme = some d.forme ∧
        c.own = (composeDots (lineCtx head d s) d.dots (rateAt (planeOf head) (d.line / 64) s == 1) s).1 ∧
        (t.comp.lanes.get head).next = nextFire head s + 1 ∧ (t.comp.lanes.get head).input = [] ∧
        heldOf 3 2 t = heldOf 3 2 s + 1 ∧ heldOf 3 1 t = heldOf 3 1 s - 1 ∧
        ∀ j, j ≠ head → t.comp.lanes.get j = s.comp.lanes.get j)

/-- R136, R137, R139, R140, R141, R142, R145, R146, R147. SUBMIT over a ready path: a forme that passes the checks is LOADING with an
empty stream for each of its heads and its cause cleared; one that fails keeps its state, shows the first check that fails as its
cause, and answers 0x08000020. ABORT over a ready path: an EMPTY or RETIRED context refuses; one that does not print, or is FAULTED
and did not, retires with cause source 3, a FAULTED one keeping its cause code (log entry 166); one that prints, or whose first line
this cycle's boundary commits (log entries 62 and 174), or that is FAULTED from PRINTING, waits for the hold, its cause as it was (log
entry 165), or, while the hold is in force, retires at the held line. At a line boundary a READY forme is ARMED once the high-water
line has reached its START less ARM_LEAD and arming is permitted, and stays READY else; a LOADING one is late; a PRINTING one whose
last lines are passed and whose streams have ended is PRINTED (log entry 10), and a PRINTED one of which no block and no line is left
is RETIRED. A LOADING forme whose streams are filled is READY, and ARMED at once where its arming line is crossed. -/
def Obligations.FormesAreLoadedAndAborted : Prop :=
  (∀ (path : Path) (forme : Fin 256) (s : State), pathReady path s →
    (submitCause forme s = 0 →
      ∃ t, exec (.formeSubmit path forme) s = .next t ∧ answered path (.done []) t ∧ (t.formes.get forme).state = .loading ∧
        t.o (OD.FORME_CAUSE forme) = 0 ∧
        (∀ h < 24, hasHead forme h s = true → ∃ st ∈ t.gal.streams, st.forme = forme.val ∧ st.head = h ∧ st.delivered = 0 ∧
          st.firstFire = firstFireOf forme h s ∧ st.endFire = endFireOf forme h s) ∧
        ∀ g, g ≠ forme → t.formes.get g = s.formes.get g) ∧
    (submitCause forme s ≠ 0 →
      ∃ t, exec (.formeSubmit path forme) s = .next t ∧ answered path (.abort 0x08000020) t ∧ t.formes = s.formes ∧
        t.o (OD.FORME_CAUSE forme) = 0x100 + submitCause forme s)) ∧
  (∀ (path : Path) (forme : Fin 256) (s : State), pathReady path s →
    ((s.formes.get forme).state = .empty ∨ (s.formes.get forme).state = .retired →
      ∃ t, exec (.formeAbort path forme) s = .next t ∧ answered path (.abort 0x08000022) t ∧ t.formes = s.formes) ∧
    ((s.formes.get forme).state = .loading ∨ (s.formes.get forme).state = .ready ∨ (s.formes.get forme).state = .printed ∨
        (s.formes.get forme).state = .armed ∧ commitDue forme s = false →
      ∃ t, exec (.formeAbort path forme) s = .next t ∧ answered path (.done []) t ∧ (t.formes.get forme).state = .retired ∧
        t.o (OD.FORME_CAUSE forme) = 0x300 ∧ ∀ g, g ≠ forme → t.formes.get g = s.formes.get g) ∧
    ((s.formes.get forme).state = .faulted → (s.formes.get forme).fromPrinting = false →
      ∃ t, exec (.formeAbort path forme) s = .next t ∧ answered path (.done []) t ∧ (t.formes.get forme).state = .retired ∧
        t.o (OD.FORME_CAUSE forme) = 0x300 + s.o (OD.FORME_CAUSE forme) % 256 ∧
        ∀ g, g ≠ forme → t.formes.get g = s.formes.get g) ∧
    ((s.formes.get forme).state = .printing ∨ (s.formes.get forme).state = .armed ∧ commitDue forme s = true ∨
        (s.formes.get forme).state = .faulted ∧ (s.formes.get forme).fromPrinting = true → s.plat.held = false →
      ∃ t, exec (.formeAbort path forme) s = .next t ∧ answered path (.done []) t ∧
        t.formes.get forme = { s.formes.get forme with aborting := true } ∧
        t.o (OD.FORME_CAUSE forme) = s.o (OD.FORME_CAUSE forme)) ∧
    ((s.formes.get forme).state = .printing ∨ (s.formes.get forme).state = .faulted ∧ (s.formes.get forme).fromPrinting = true →
      s.plat.held = true →
      ∃ t, exec (.formeAbort path forme) s = .next t ∧ answered path (.done []) t ∧ (t.formes.get forme).state = .retired ∧
        t.o (OD.FORME_LAST_LINE forme) = s.o OD.HELD_LINE % 2 ^ 64)) ∧
  (∀ (forme : Fin 256) (s : State), platenDue s → (s.formes.get forme).aborting = false →
    let reached := s.o (OD.FORME_START forme) ≤ s.web.hwl + 1 + s.o OD.ARM_LEAD
    ((s.formes.get forme).state = .ready → reached → armingPermitted s = true →
      (∀ st ∈ s.gal.streams, st.forme = forme.val → s.web.hwl + 1 < st.firstFire) →
      ∃ t, exec .lineBoundary s = .next t ∧ (t.formes.get forme).state = .armed) ∧
    ((s.formes.get forme).state = .ready → ¬ reached ∨ armingPermitted s = false →
      ∃ t, exec .lineBoundary s = .next t ∧ (t.formes.get forme).state = .ready) ∧
    ((s.formes.get forme).state = .loading → reached → (s.formes.get forme).lateRaised = false →
      ∃ t, exec .lineBoundary s = .next t ∧ (t.formes.get forme).state = .loading ∧ (t.formes.get forme).lateDue = true) ∧
    ((s.formes.get forme).state = .printing →
      (∀ h < 24, hasHead forme h s = true → endFireOf forme h s ≤ s.web.hwl + 1 ∧ ∃ st, streamOf forme h s = some st ∧ st.ended = true) →
      ∃ t, exec .lineBoundary s = .next t ∧ (t.formes.get forme).state = .printed) ∧
    ((s.formes.get forme).state = .printed →
      (∀ h < 24, hasHead forme h s = true → endFireOf forme h s ≤ lowestUnacked h s ∧
        ∀ st, streamOf forme h s = some st → st.blocks = []) →
      ∃ t, exec .lineBoundary s = .next t ∧ (t.formes.get forme).state = .retired)) ∧
  (∀ (forme : Fin 256) (s : State), (s.formes.get forme).state = .loading → formeFilled forme s = true →
    ((readyCheck forme s).formes.get forme).state =
      if armingReached forme s = true ∧ armingPermitted s = true then .armed else .ready)

/-- R165, R170, R171, R172, R173, R174, R175. Changes requested over a ready path: one that the checks pass is accepted, pends at
its band behind the earlier ones, and its band is shown; one that a check refuses shows its cause and answers 0x08000020. The
oldest pending change folds once no forme is ARMED or PRINTING: it leaves the pending ones and the table, or the rate class of
its plane, takes it. The next page of a load is accepted once no page pends. That band 0 of a request is the higher of the earliest
band and the last pending band of its nozzle is log entry 64. -/
def Obligations.ChangesAreAcceptedAndFold : Prop :=
  (∀ (path : Path) (s : State), pathReady path s →
    let n := tableIndex (idHead (s.o OD.REQ_NOZZLE)) (idRow (s.o OD.REQ_NOZZLE)) (idIndex (s.o OD.REQ_NOZZLE))
    let it := Item.entry n (s.o OD.REQ_VALUE) (s.o OD.REQ_MASK) (sourceOf path)
    let band := if s.o OD.REQ_BAND = 0 then max (earliestBand it s) (pendingBand n s) else s.o OD.REQ_BAND
    let cause := requestCause (s.o OD.REQ_NOZZLE) (s.o OD.REQ_VALUE) (s.o OD.REQ_MASK) (s.o OD.REQ_BAND) (sourceOf path) s
    (cause = 0 →
      ∃ t, exec (.reqSubmit path) s = .next t ∧ answered path (.done []) t ∧
        t.comp.items = s.comp.items ++ [⟨it, band, dchkOff s, false⟩] ∧ t.o OD.REQ_BAND_TAKEN = band % 2 ^ 64 ∧
        t.comp.seq = (s.comp.seq + 1) % 65536) ∧
    (cause ≠ 0 →
      ∃ t, exec (.reqSubmit path) s = .next t ∧ answered path (.abort 0x08000020) t ∧ t.comp = s.comp ∧ t.o OD.REQ_CAUSE = cause) ∧
    (∀ (plane : Fin 2) (cls : Byte), cls.toNat ≤ 1 → changeSlots s ≠ 0 →
      ∃ t, exec (.rateClassRequest path plane cls) s = .next t ∧ answered path (.done []) t ∧
        t.comp.items = s.comp.items ++ [⟨.rate plane cls.toNat, earliestBand (.rate plane cls.toNat) s, dchkOff s, false⟩] ∧
        t.o (if plane = 0 then OD.RATE_CLASS_A else OD.RATE_CLASS_B) = cls.toNat)) ∧
  (∀ s : State, s.srv.waiting = [] →
    (∀ (n v mask source band : Nat) (imm : Bool) (rest : List Pending),
      (∀ f : Fin 256, (s.formes.get f).state ≠ .armed ∧ (s.formes.get f).state ≠ .printing) →
      s.comp.items = ⟨.entry n v mask source, band, imm, true⟩ :: rest →
      ∃ t, exec .compChangeFolded s = .next t ∧ t.comp.items = rest ∧
        folded n t = mergeBits (folded n s) v (Nat.land mask printMask) ∧ ∀ m, m ≠ n → folded m t = folded m s) ∧
    (∀ (q : Fin 2) (cls band : Nat) (imm applied : Bool) (rest : List Pending),
      (∀ f : Fin 256, (s.formes.get f).state ≠ .armed ∧ (s.formes.get f).state ≠ .printing) →
      s.comp.items = ⟨.rate q cls, band, imm, applied⟩ :: rest →
      ∃ t, exec .compChangeFolded s = .next t ∧ t.comp.items = rest ∧ t.comp.rate.get q = cls ∧ t.comp.table = s.comp.table) ∧
    (∀ l : TableLoad, s.comp.load = some l → l.data ≠ [] → l.pos % 1024 = 0 → l.path = none → pagePending s = false →
      129 ≤ changeSlots s →
      ∃ t, exec .pageAccept s = .next t ∧
        t.comp.items = s.comp.items ++ [⟨.page (l.pos / 1024) 0 (min l.data.length 1024 - 1) (l.data.take (min l.data.length 1024)) l.source,
          earliestBand (.page (l.pos / 1024) 0 (min l.data.length 1024 - 1) (l.data.take (min l.data.length 1024)) l.source) s,
          dchkOff s, false⟩] ∧
        t.o OD.PAGES_COMMITTED = (s.o OD.PAGES_COMMITTED + 1) % 2 ^ 32 ∧ t.comp.table = s.comp.table))

/-- R187, R198. WEB_COMMAND over a path that is ready: a preset, now or at the index, the latch, and the clearing of the counters. A
preset is refused while a forme is ARMED or PRINTING or the web is frozen, and changes nothing of WEB. -/
def Obligations.WebCommandsTakeEffect : Prop :=
  ∀ (path : Path) (s : State), pathReady path s →
    (formesBusy s = false → s.web.frozen = false →
      ∃ t, exec (.presetNow path) s = .next t ∧ answered path (.done []) t ∧
        t.web.p = (s.o OD.PRESET_LINE : Rat) ∧ t.web.forward = (s.o OD.PRESET_LINE : Rat) ∧ t.web.hwl = s.o OD.PRESET_LINE ∧
        t.web.homed = true ∧ t.web.locked = false) ∧
    (formesBusy s = false → s.web.frozen = false →
      ∃ t, exec (.presetAtIndex path) s = .next t ∧ answered path (.done []) t ∧
        t.web = { s.web with presetArmed := true }) ∧
    (formesBusy s = true ∨ s.web.frozen = true →
      (∃ t, exec (.presetNow path) s = .next t ∧ answered path (.abort 0x08000022) t ∧ t.web = s.web ∧ t.plat = s.plat) ∧
      ∃ t, exec (.presetAtIndex path) s = .next t ∧ answered path (.abort 0x08000022) t ∧ t.web = s.web ∧ t.plat = s.plat) ∧
    (∃ t, exec (.latch path) s = .next t ∧ answered path (.done []) t ∧
        t.web = { s.web with
          latches := s.web.latches.set 2 ⟨webpOf s.web.p, s.loc, netNow s, speedNow s⟩
          latchedAt := s.web.latchedAt.set 2 (s.loc + 1) }) ∧
    (∃ t, exec (.clearCounters path) s = .next t ∧ answered path (.done []) t ∧
        t.o OD.QUAD_ERRORS = 0 ∧ t.o OD.INDEX_MISMATCHES = 0 ∧ t.web = s.web)

/-- R182, R183, R184, R185, R186. The filtered level of a line is that of its samples once FILTER_SAMPLES in a row agree, and else the
one before (the samples as operands: log entry 152). A filtered (A, B) state of the source in effect that differs in one signal is
one count: it moves P by the ratio, forward or back, never below line 0, and leaves HWL. One that differs in both signals counts
nothing: it is counted as a quadrature error, dated, and P and HWL stay. One that differs in none changes nothing. -/
def Obligations.QuadratureCountsMovePosition : Prop :=
  ∀ (source : Fin 2) (a b : Samples) (s : State),
    let old := s.web.ab.get source
    let new := (if max 1 (s.o OD.FILTER_SAMPLES) ≤ a.run then a.level else old.1,
      if max 1 (s.o OD.FILTER_SAMPLES) ≤ b.run then b.level else old.2)
    (webOn s = true → sourceNow s = source.val → Bool.xor old.1 new.1 ≠ Bool.xor old.2 new.2 →
      ∃ t, exec (.quadratureCount source a b) s = .next t ∧ t.web.ab.get source = new ∧ t.web.hwl = s.web.hwl ∧
        t.web.lastForward = Bool.xor (Bool.xor new.1 old.2) (s.ob OD.DIRECTION_INVERT) ∧
        t.web.p = max 0 (if t.web.lastForward then s.web.p + ratio s else s.web.p - ratio s)) ∧
    (webOn s = true → sourceNow s = source.val → old.1 ≠ new.1 → old.2 ≠ new.2 →
      ∃ t, exec (.quadratureCount source a b) s = .next t ∧ t.web.ab.get source = new ∧ t.web.p = s.web.p ∧
        t.web.hwl = s.web.hwl ∧ t.o OD.QUAD_ERRORS = (s.o OD.QUAD_ERRORS + 1) % 2 ^ 32 ∧ t.web.illegalLoc = s.loc + 1) ∧
    (new = old → exec (.quadratureCount source a b) s = .next s)

/-- R34, R140, R189, R190, R206, R207, R208, R221, R222. The next line boundary, as soon as P has reached it: P stays, the high-water
line takes the line by one unless a hold taken at the boundary freezes it, and the next boundary waits for a later LOC. At one that
nothing holds, slot N is committed on a READY head that may fire it: its port holds the slot with its recipes, its groups in the order of
their ticks, each with the levels of the composed lines, and its timing from the boundary record (a record without forward speed:
log entry 14); the sequencer goes on with the next slot; the running CRC takes the body (its bytes: log entry 15), and with the last
slot of a band the signature is written with the band. The line's forme is PRINTING, with its first and last line, and its token
passes from COMP lead to PLAT committed. A head's waiting reading puts it in cool mode or ends it. Each plane counts its consecutive
boundaries above 1.01 R_max. -/
def Obligations.LineBoundaryRaisesHighWater : Prop :=
  (∀ s : State, webOn s = true → s.web.frozen = false → s.web.releaseFrom ≤ s.loc → ((s.web.hwl + 1 : Nat) : Rat) ≤ s.web.p →
    ∃ t, exec .lineBoundary s = .next t ∧ t.web.p = s.web.p ∧ t.web.releaseFrom = s.loc + 1 ∧
      (t.web.frozen = false → t.web.hwl = s.web.hwl + 1)) ∧
  (∀ (h : Fin 24) (s : State), quietBoundary s →
    let n := s.web.hwl + 1
    let q := s.plat.heads.get h
    let time := slotTiming (boundaryRec n s) (planeOf h) s
    ∃ t, exec .lineBoundary s = .next t ∧ t.web.hwl = n ∧ t.web.frozen = false ∧ t.plat.held = s.plat.held ∧
      (∀ p ∈ planesOf s, vgetN t.plat.overCount p =
        if 101 / 100 * (rateMax p n s : Rat) < s.web.speed then vgetN s.plat.overCount p + 1 else 0) ∧
      (q.readings = [] → (t.plat.heads.get h).cool = q.cool) ∧
      (∀ l v, q.readings = [(l, v)] → l < s.loc →
        (t.plat.heads.get h).readings = [] ∧
        (t.plat.heads.get h).cool = if s.oi (OD.TEMP_SOFT h) ≤ v then true
          else if v ≤ s.oi (OD.TEMP_SOFT h) - s.o (OD.TEMP_HYST h) then false else q.cool) ∧
      (populated (planeOf h) s = true → (s.ports.get h).state = .ready → q.nextSlot ≤ n → q.commit = false → q.loadRecord = false →
        q.refire = [] → q.tornSlot = none → (∀ x ∈ (s.ports.get h).slots, x.body.slot ≠ n) →
        ((t.plat.heads.get h).nextSlot = n + 1 ∧
        ∃ x ∈ (t.ports.get h).slots, x.body.slot = n ∧ x.due = true ∧ x.torn = false ∧ x.credit = .available ∧ x.refire = false ∧
          x.body.recipes = (if (t.plat.heads.get h).cool then bits (s.l (OD.RECIPE_SELECT h)) 27 16
            else bits (s.l (OD.RECIPE_SELECT h)) 11 0) ∧
          x.body.start = (roundRat time.1).toNat ∧ x.body.u = subLineWord time.2.1 ∧
          x.body.groups.Pairwise (fun a b => a.tick ≤ b.tick) ∧
          (∀ g ∈ x.body.groups, g.levels = (groupLevels h n (g.num / 8) (g.num % 8) t).1 ∧ g.levels.any (· != 0) = true) ∧
          ((∀ b < 32, ∃ i < 32, s.lbyte (OD.ROTATION h) i = b) → ∀ r < rowsOf h s, ∀ b < 8,
            (groupLevels h n r b t).1.any (· != 0) = true → ∃ g ∈ x.body.groups, g.num = 8 * r + b) ∧
          (∀ c, q.crc = some c → q.crcBand = n / 64 →
            let c' := crcFeed c (Config.bodyBytes x.body.fields)
            (n % 64 = 63 → t.o (OD.BAND_SIGNATURE h) = Nat.xor c' 0xFFFFFFFF % 2 ^ 32 ∧
              t.o (OD.SIGNATURE_BAND h) = n / 64 % 2 ^ 32) ∧
            (n % 64 ≠ 63 → (t.plat.heads.get h).crc = some c' ∧ (t.plat.heads.get h).crcBand = n / 64))) ∧
        (∀ (c : Composed) (rest : List Composed), (s.comp.lanes.get h).lead = c :: rest → c.line = n → 0 < heldOf 3 2 s →
          (∀ x ∈ (s.ports.get h).slots, x.torn = false) →
          (∀ g < 24, g ≠ h.val → n < (seqrOf g s).nextSlot ∨ populated (planeOf g) s = false) →
          (t.comp.lanes.get h).lead = rest ∧ heldOf 3 2 t = heldOf 3 2 s - 1 ∧ heldOf 3 3 t = heldOf 3 3 s + 1) ∧
        ∀ (st : Stream) (f : Fin 256), streamAt h n s = some st → st.context = true → st.forme = f.val →
          (s.formes.get f).state = .armed → (s.formes.get f).aborting = false → (∀ g : Fin 256, (s.formes.get g).state ≠ .printed) →
          n < 2 ^ 48 → s.o (OD.FORME_FIRST_LINE f) = 0 → s.o (OD.FORME_LAST_LINE f) ≤ n →
          (t.formes.get f).state = .printing ∧ t.o (OD.FORME_FIRST_LINE f) = n ∧ t.o (OD.FORME_LAST_LINE f) = n))

/-- R182, R192, R194, R195, R197, R198, R200. An index edge of the source in effect that passes the filter latches slot 1; an eligible
one locks an unlocked phase. One that is not eligible, in reverse, in the reversal window, before any count (log entry 74) or in the
sample of an illegal transition (log entry 210), latches and changes nothing else; one that the filter discards, or that has acted
in its cycle (log entry 174), changes nothing. A strobe latches slot 2. A pending position step is applied in a gutter: P takes the
step's counts, never below line 0, the phase moves with it (log entry 75), and the step is remembered as the last. The speed window
closes and a new one begins (log entry 76); a moving web that counts no edge for STOP_TIMEOUT stops, with P and HWL as they were; a
driving emulator emits the counts that it owes (log entry 77). The step comes in a cycle with no index edge to come. -/
def Obligations.LatchesStepsAndSpeedWindows : Prop :=
  (∀ s : State, webOn s = true →
    (∀ (source : Fin 2) (high : Nat), sourceNow s = source.val → max 1 (s.o OD.FILTER_SAMPLES) ≤ high → s.web.indexLoc ≠ s.loc + 1 →
      (s.web.lastForward = true → s.web.edgesSeen ≠ 0 → s.web.reversed = false →
        s.web.illegalLoc ≠ s.loc + 1 → s.web.presetArmed = false → s.web.locked = false → s.o OD.COUNTS_PER_REV ≠ 0 →
        ∃ t, exec (.indexEdge ⟨source, high⟩) s = .next t ∧ t.web.locked = true ∧ t.web.phase = s.o OD.INDEX_PHASE ∧
          t.web.p = s.web.p ∧ (t.web.latches.get 1).pos = webpOf s.web.p ∧ (t.web.latches.get 1).loc = s.loc) ∧
      (s.web.lastForward = false ∨ s.web.edgesSeen = 0 ∨ s.web.reversed = true ∨ s.web.illegalLoc = s.loc + 1 →
        ∃ t, exec (.indexEdge ⟨source, high⟩) s = .next t ∧
          t.web = { s.web with
            indexLoc := s.loc + 1
            latches := s.web.latches.set 1 ⟨webpOf s.web.p, s.loc, netNow s, speedNow s⟩
            latchedAt := s.web.latchedAt.set 1 (s.loc + 1) } ∧
          ∀ k, t.o k = s.o k)) ∧
    (∀ (source : Fin 2) (high : Nat), high < max 1 (s.o OD.FILTER_SAMPLES) ∨ s.web.indexLoc = s.loc + 1 →
      exec (.indexEdge ⟨source, high⟩) s = .next s) ∧
    (∃ t, exec .strobe s = .next t ∧
      t.web = { s.web with
        latches := s.web.latches.set 2 ⟨webpOf s.web.p, s.loc, netNow s, speedNow s⟩
        latchedAt := s.web.latchedAt.set 2 (s.loc + 1) } ∧
      ∀ k, t.o k = s.o k)) ∧
  (∀ s : State, webOn s = true → s.oi OD.STEP_PENDING ≠ 0 → s.web.frozen = false → (∀ edge, Instr.indexEdge edge ∉ s.pending) →
    (∀ f ∈ s.formes.toList, f.state ≠ .printing) →
    (∀ h < 24, (laneOf h s).lead.all (fun c => c.forme.isNone) = true ∧
      (laneOf h s).delay.all (fun c => decide (c.line + maxDelay h s ≤ s.web.hwl)) = true) →
    ∃ t, exec .stepPendingApply s = .next t ∧ t.o OD.STEP_PENDING = 0 ∧ t.oi OD.LAST_STEP = s.oi OD.STEP_PENDING ∧
      (s.o OD.COUNTS_PER_REV ≠ 0 → t.web.phase = (((s.web.phase : Int) + s.oi OD.STEP_PENDING) % s.o OD.COUNTS_PER_REV).toNat) ∧
      t.web.p = max 0 (s.web.p + s.oi OD.STEP_PENDING * ratio s)) ∧
  (∀ s : State, webOn s = true →
    (∃ t, exec .speedWindowClose s = .next t ∧ t.web.windowFrom = s.loc ∧ t.web.p = s.web.p ∧ t.web.hwl = s.web.hwl ∧
      ∀ k, t.o k = s.o k) ∧
    (s.web.moving = true → ∃ t, exec .webStopped s = .next t ∧ t.web.moving = false ∧ t.web.speed = 0 ∧ t.web.direction = 0 ∧
      t.web.p = s.web.p ∧ t.web.hwl = s.web.hwl) ∧
    (s.pace.driving = true → ∃ t, exec .emulatorCatchUp s = .next t ∧
      t.web = { s.web with emuCount := emuTarget s, emuBehind := false, emuFree := s.loc + emuGap } ∧ ∀ k, t.o k = s.o k))

/-- R27, R217, R218. COMMIT of a head's shadow set, over a ready path or as the register PLAT_HEAD_COMMIT: a set that passes is
pending with its source and 7 record slots reserved; one that a check refuses is not pending and answers 0x06090030; one for whose
records fewer than 7 slots are free answers 0x08000020; a second COMMIT while one is pending answers 0x08000021 (log entry 100). -/
def Obligations.PlatenCommitIsTaken : Prop :=
  ∀ (path : Path) (head : Fin 24) (s : State),
    (pathReady path s → s.ob (OD.PLAT_COMMIT_PENDING head) = false → setCause head s = 0 → 7 ≤ changeSlots s →
      ∃ t, exec (.platCommit (.object path) head) s = .next t ∧ answered path (.done []) t ∧
        t.o (OD.PLAT_COMMIT_PENDING head) = 1 ∧
        t.plat.heads.get head =
          { s.plat.heads.get head with commit := true, commitSource := sourceOf path, commitLoc := s.loc + 1 } ∧
        (t.egress.get 9).reserved = (s.egress.get 9).reserved + 7 ∧ t.live = s.live) ∧
    (pathReady path s → s.ob (OD.PLAT_COMMIT_PENDING head) = false → setCause head s ≠ 0 →
      ∃ t, exec (.platCommit (.object path) head) s = .next t ∧ answered path (.abort 0x06090030) t ∧
        t.o (OD.PLAT_COMMIT_PENDING head) = 0 ∧ t.plat = s.plat) ∧
    (pathReady path s → s.ob (OD.PLAT_COMMIT_PENDING head) = false → setCause head s = 0 → changeSlots s < 7 →
      ∃ t, exec (.platCommit (.object path) head) s = .next t ∧ answered path (.abort 0x08000020) t ∧
        t.o (OD.PLAT_COMMIT_PENDING head) = s.o (OD.PLAT_COMMIT_PENDING head) ∧ t.plat = s.plat) ∧
    (pathReady path s → s.ob (OD.PLAT_COMMIT_PENDING head) = true →
      ∃ t, exec (.platCommit (.object path) head) s = .next t ∧ answered path (.abort 0x08000021) t ∧ t.plat = s.plat) ∧
    (awake s = true → isBare s = false → s.ob (OD.PLAT_COMMIT_PENDING head) = false → setCause head s = 0 → 7 ≤ changeSlots s →
      ∃ t, exec (.platCommit .register head) s = .next t ∧ t.o (OD.PLAT_COMMIT_PENDING head) = 1 ∧
        t.plat.heads.get head = { s.plat.heads.get head with commit := true, commitSource := 2, commitLoc := s.loc + 1 } ∧ t.live = s.live)

/-- R38, R190, R221, R222, R225, R226, R227, R230, R233, R234, R333. Holds: HOLD_N_FALL, a fall that the chip did not drive, takes cause EXTERNAL, to act
from a later cycle on; FREEZE_END ends the freeze once the conditions hold, with the cause word cleared and HOLD_N released unless
PACE drives it, and changes nothing while they do not, or where a command of the cycle still brings a cause (log entry 174);
HOLD_CYCLING_CLEAR clears HOLD_CYCLING. While the print line is halted by a ledger fault, the next line boundary that is released
holds: the web is frozen below the held line, which is no higher than the boundary's, the cause word has LEDGER, and HOLD_N is low. So
does a boundary with cause LEAD where a printing head's lead is below LEAD_LOW, OVERSPEED at the 65th consecutive one above 1.01
R_max of a plane, LAG where a plane's slot would start more than 16 sub-lines late, and TEMP_HARD where a head's waiting reading is at
or above the hard limit, which puts the head in cool mode. -/
def Obligations.HoldsAreTakenAndEnd : Prop :=
  (∀ s : State,
    (ohlOn s = true → s.plat.held = false → s.plat.initDone = true → s.pace.holdPulse = false → s.ob OD.EXTERNAL_HOLD = true →
      ∃ t, exec .holdNFall s = .next t ∧ t.plat = { s.plat with taken := s.plat.taken ++ [⟨10, 0xFF, s.loc + 1⟩] } ∧
        t.pins = { s.pins with holdN := false } ∧ t.web = s.web) ∧
    (ohlOn s = true → s.plat.held = true → (linkChecks s).plat.causeLoc ≠ s.loc + 1 → s.plat.forwardSeen = true →
      s.web.reversed = false → s.web.p ≤ ((s.o OD.HELD_LINE : Nat) : Rat) - s.o OD.RESUME_CLEARANCE →
      causesCleared (linkChecks s) = true →
      causeToCome (linkChecks s) = false →
      (∀ h < 24, printingHead h s = true → s.o OD.LEAD_RESUME ≤ (laneOf h s).recomposed) →
      ∃ t, exec .freezeEnd s = .next t ∧ t.plat.held = false ∧ t.plat.cause = 0 ∧ t.web = { s.web with frozen := false } ∧
        t.pins.holdN = (s.plat.initDone && !s.pace.holdPulse) ∧ holdCause t = 0) ∧
    (ohlOn s = true → mayResume (linkChecks s) = false ∨ causeToCome (linkChecks s) = true →
      ∃ t, exec .freezeEnd s = .next t ∧ t.plat.held = s.plat.held ∧ t.web = s.web ∧ t.pins = s.pins) ∧
    exec .holdCyclingClear s = .next { s with plat := { s.plat with cycling := false } }) ∧
  (∀ s : State, ohlOn s = true → s.dev.ledgerHalt = true → s.web.frozen = false → s.web.releaseFrom ≤ s.loc →
    ((s.web.hwl + 1 : Nat) : Rat) ≤ s.web.p →
    ∃ t n, exec .lineBoundary s = .next t ∧ t.plat.held = true ∧ t.web.frozen = true ∧ n ≤ s.web.hwl + 1 ∧
      t.o OD.HELD_LINE = n % 2 ^ 64 ∧ t.web.hwl = n - 1 ∧ t.web.p = s.web.p ∧ bit t.plat.cause 8 = true ∧ t.pins.holdN = false) ∧
  (∀ s : State, platenDue s → s.plat.held = false →
    let line := s.web.hwl + 1
    let holds := fun (cause : Nat) (also : State → Prop) => ∃ t n, exec .lineBoundary s = .next t ∧ t.plat.held = true ∧
      t.web.frozen = true ∧ n ≤ line ∧ t.o OD.HELD_LINE = n % 2 ^ 64 ∧ t.web.hwl = n - 1 ∧ t.web.p = s.web.p ∧
      bit t.plat.cause cause = true ∧ t.pins.holdN = false ∧ also t
    (∀ h < 24, printingHead h s = true → leadFrom line (laneOf h s).lead < s.o OD.LEAD_LOW → holds 0 fun _ => True) ∧
    (∀ p ∈ planesOf s, 101 / 100 * (rateMax p line s : Rat) < s.web.speed → 64 ≤ vgetN s.plat.overCount p → holds 3 fun _ => True) ∧
    (∀ p ∈ planesOf s, 16 < (slotTiming (boundaryRec line s) p s).2.2 → holds 4 fun _ => True) ∧
    (∀ (h : Fin 24) (l : Nat) (v : Int), (s.plat.heads.get h).readings = [(l, v)] → l < s.loc → s.oi (OD.TEMP_HARD h) ≤ v →
      holds 5 fun t => (t.plat.heads.get h).cool = true))

/-- R245, R246, R247, R248, R249, R250. The first steps of an attach: HEAD_DETECT has the lane trained; TRAINING_ATTEMPT_END
counts the failures, and the third is FAULT 1; STATUS_HELLO starts the reading of the descriptor, chunk after chunk, and
DESC_READ_TIMEOUT asks again for a chunk that does not come. With its last chunk a descriptor is checked: one that passes sets the
version and goes on with ECHO, or with UPGRADE; a bad CRC is read again, at most twice; any other failure is FAULT with the
check's cause. -/
def Obligations.HeadTrainsAndNamesItself : Prop :=
  (∀ (port : Fin 24) (s : State), ohlOn s = true →
    ((s.ports.get port).state = .empty →
      ∃ t, exec (.headDetect port) s = .next t ∧ (t.ports.get port).state = .training ∧ (t.ports.get port).en = true ∧
        (t.ports.get port).det = true ∧ (t.ports.get port).chunks = []) ∧
    ((s.ports.get port).state = .training →
      ∃ t, exec (.trainingAttemptEnd port true) s = .next t ∧
        t.ports.get port = { s.ports.get port with fseq := 0, unacked := [] }) ∧
    ((s.ports.get port).state = .training → (s.ports.get port).fails < 2 →
      ∃ t, exec (.trainingAttemptEnd port false) s = .next t ∧
        t.ports.get port = { s.ports.get port with fails := (s.ports.get port).fails + 1 }) ∧
    ((s.ports.get port).state = .training → 2 ≤ (s.ports.get port).fails →
      ∃ t, exec (.trainingAttemptEnd port false) s = .next t ∧ (t.ports.get port).state = .fault ∧
        (t.ports.get port).en = false ∧ t.o (OD.OHL_FAULT_CAUSE port) = 1) ∧
    ((s.ports.get port).state = .training → ∀ vmax : Nat,
      ∃ t, exec (.statusHello port vmax) s = .next t ∧ (t.ports.get port).state = .descriptor ∧
        (t.ports.get port).vmax = vmax % 256 ∧ (t.ports.get port).sent = (s.ports.get port).sent ++ [.command 1 0]) ∧
    ((s.ports.get port).state = .descriptor → (s.ports.get port).version = 0 →
      (∀ (chunk : Nat) (data : List Byte), chunk < 4 → data.length = 64 →
        descriptorBytes { s.ports.get port with chunks := ((s.ports.get port).chunks.filter fun c => c.1 != chunk) ++ [(chunk, data)] } = none →
        ∃ t, exec (.dataFrame port 0 chunk data) s = .next t ∧
          (t.ports.get port).chunks = ((s.ports.get port).chunks.filter fun c => c.1 != chunk) ++ [(chunk, data)] ∧
          (t.ports.get port).sent = (s.ports.get port).sent ++ [.command 1 ((chunk + 1) % 4)]) ∧
      (∀ missing : Nat, missing < 4 → ((s.ports.get port).chunks.any fun x => x.1 == missing) = false →
        (∀ c : Nat, c < missing → ((s.ports.get port).chunks.any fun x => x.1 == c) = true) →
        ∃ t, exec (.descReadTimeout port) s = .next t ∧ (t.ports.get port).chunks = (s.ports.get port).chunks ∧
          (t.ports.get port).sent = (s.ports.get port).sent ++ [.command 1 missing]))) ∧
  (∀ (port : Fin 24) (chunk : Nat) (data d : List Byte) (s : State), ohlOn s = true → (s.ports.get port).state = .descriptor →
    (s.ports.get port).version = 0 → chunk < 4 → data.length = 64 →
    let s1 := modPort port (fun p => { p with chunks := (p.chunks.filter fun c => c.1 != chunk) ++ [(chunk, data)] }) s
    descriptorBytes (s1.ports.get port) = some d →
    (descriptorCause port d s1 = 0 → min (s.o (OD.VERSION_LIMIT port)) (s.ports.get port).vmax < 2 →
      ∃ t, exec (.dataFrame port 0 chunk data) s = .next t ∧ (t.ports.get port).state = .descriptor ∧ (t.ports.get port).version = 1 ∧
        (t.ports.get port).sent = (s.ports.get port).sent ++ [.command 6 0]) ∧
    (descriptorCause port d s1 = 0 → 2 ≤ min (s.o (OD.VERSION_LIMIT port)) (s.ports.get port).vmax →
      ∃ t, exec (.dataFrame port 0 chunk data) s = .next t ∧ (t.ports.get port).state = .upgrade ∧
        (t.ports.get port).sent = (s.ports.get port).sent ++ [.command 3 2]) ∧
    (descriptorCause port d s1 = 3 → (s.ports.get port).badReads < 2 →
      ∃ t, exec (.dataFrame port 0 chunk data) s = .next t ∧ (t.ports.get port).state = .descriptor ∧ (t.ports.get port).chunks = [] ∧
        (t.ports.get port).sent = (s.ports.get port).sent ++ [.command 1 0]) ∧
    (descriptorCause port d s1 ≠ 0 → (descriptorCause port d s1 = 3 → 2 ≤ (s.ports.get port).badReads) →
      ∃ t, exec (.dataFrame port 0 chunk data) s = .next t ∧ (t.ports.get port).state = .fault ∧ (t.ports.get port).en = false ∧
        t.o (OD.OHL_FAULT_CAUSE port) = descriptorCause port d s1))

/-- R243, R247, R249, R251. The later steps of an attach: the upgrade, the alignment of LOC and its repetition, the taking of the
descriptor and READY; and the end of an attach with the head, FAULT_CAUSE being 0 from then on (log entry 191). The backchannel's count
in STATUS_UPGRADE_ACK is log entry 178. -/
def Obligations.HeadAttachesAndDetaches : Prop :=
  ∀ (port : Fin 24) (s : State), ohlOn s = true →
    ((s.ports.get port).state = .upgrade →
      (∃ t, exec (.statusUpgradeAck port) s = .next t ∧ t.ports.get port = { s.ports.get port with
          fails := 0, unacked := [], backNext := (s.ports.get port).backNext.map fun n => (n + 1) % 65536 }) ∧
      (∃ t, exec (.upgradeTrainingEnd port true) s = .next t ∧ (t.ports.get port).state = .descriptor ∧
        (t.ports.get port).version = 2 ∧ (t.ports.get port).sent = (s.ports.get port).sent ++ [.command 6 0]) ∧
      (2 ≤ (s.ports.get port).fails →
        ∃ t, exec (.upgradeTrainingEnd port false) s = .next t ∧ (t.ports.get port).state = .descriptor ∧
          (t.ports.get port).version = 1 ∧ (t.ports.get port).sent = (s.ports.get port).sent ++ [.command 6 0])) ∧
    ((s.ports.get port).state = .descriptor → (s.ports.get port).version ≠ 0 → (s.ports.get port).aligned = false →
      ∀ roundTrip : Nat, ∃ t, exec (.statusEcho port roundTrip) s = .next t ∧ (t.ports.get port).aligned = true ∧
        (t.ports.get port).latency = roundTrip / 2 ∧
        (t.ports.get port).sent = (s.ports.get port).sent ++ [.command 2 ((s.loc + roundTrip / 2) % 2 ^ 32)]) ∧
    ((s.ports.get port).version = 1 → (s.ports.get port).aligned = true → (s.ports.get port).state ≠ .retrain →
      ∃ t, exec (.timeSetRepeat port) s = .next t ∧
        (t.ports.get port).sent = (s.ports.get port).sent ++ [.command 2 ((s.loc + (s.ports.get port).latency) % 2 ^ 32)]) ∧
    (∀ d, descriptorBytes (s.ports.get port) = some d → (s.ports.get port).state = .descriptor → (s.ports.get port).aligned = true →
      (loadsRecipes port d s = true → 7 ≤ changeSlots s) →
      ∃ t, exec (.attachComplete port) s = .next t ∧ (t.ports.get port).state = .ready ∧
        (t.ports.get port).lastSerial = some (descField d 8 8) ∧ t.o (OD.HEAD_SERIAL port) = descField d 8 8 ∧
        t.o (OD.KNOWN_SERIAL port) = descField d 8 8 ∧ t.o (OD.NOZZLE_GRID port) = descField d 6 1 ∧
        (∀ i : Fin 8, t.o (OD.ROW_OFFSET port i) = descField d (0x20 + 2 * i) 2) ∧
        (loadsRecipes port d s = true → ∀ i : Fin 16, t.o (OD.RECIPE port i) = descField d (0x30 + 8 * i) 8 / 2 ^ 20 * 2 ^ 20)) ∧
    ((s.ports.get port).state ≠ .disabled →
      ∃ t, exec (.detach port) s = .next t ∧ (t.ports.get port).state = .empty ∧ (t.ports.get port).en = false ∧
        (t.ports.get port).det = false ∧ (t.ports.get port).slots = [] ∧ t.o (OD.OHL_FAULT_CAUSE port) = 0)

/-- R39, R241, R252, R253, R257, R259. A READY port sends the first slot it holds that is due, when a credit and retry buffer are
free and no trim of it waits: the slot's credit and token pass on; a torn slot that is sent again keeps what it has; it sends the
lowest trim that waits; frames not acknowledged are sent again after a NAK and after a timeout, in their order. -/
def Obligations.HeldFramesAreSent : Prop :=
  ∀ (port : Fin 24) (s : State), ohlOn s = true →
    (∀ x : HeldSlot, (s.ports.get port).slots.find? (·.due) = some x → (s.ports.get port).state = .ready → x.credit = .available →
      creditsUsed (s.ports.get port) < 8 → retryUsed (s.ports.get port) + 64 * x.body.groups.length ≤ 16384 →
      ((s.ports.get port).trims.any fun t => t.slot == x.body.slot) = false →
      ∃ t, exec (.slotSend port) s = .next t ∧ (t.ports.get port).sent = (s.ports.get port).sent ++ bodyFrames x.body x.refire ∧
        (t.ports.get port).slots = lmod (fun y => y.body.slot == x.body.slot) (fun y => { y with credit := .inFlight, due := false })
          (s.ports.get port).slots ∧
        t.ledgers = (moveLedger 3 3 4 1 (moveLedger 4 0 1 1 s)).ledgers) ∧
    (∀ x : HeldSlot, (s.ports.get port).slots.find? (·.due) = some x → (s.ports.get port).state = .ready → x.credit ≠ .available →
      ((s.ports.get port).trims.any fun t => t.slot == x.body.slot) = false →
      ∃ t, exec (.slotSend port) s = .next t ∧ (t.ports.get port).sent = (s.ports.get port).sent ++ bodyFrames x.body x.refire ∧
        t.ledgers = s.ledgers) ∧
    ((s.ports.get port).state = .ready → (s.ports.get port).trims ≠ [] →
      ∃ t m, exec (.trimFrameSend port) s = .next t ∧ m ∈ (s.ports.get port).trims ∧ (∀ x ∈ (s.ports.get port).trims, m.slot ≤ x.slot) ∧
        (t.ports.get port).sent = (s.ports.get port).sent ++ [.trim m] ∧
        (t.ports.get port).trims = (s.ports.get port).trims.erase m) ∧
    (∀ fseq : BitVec 16, (s.ports.get port).en = true → (s.ports.get port).state ≠ .retrain →
      ((s.ports.get port).unacked.any fun e => e.1 == fseq.toNat) = true →
      ((s.ports.get port).naks.filter fun t => decide (s.loc < t + 100 * ticksUs)).length < 15 →
      ∃ t, exec (.nakFrame port fseq) s = .next t ∧
        (t.ports.get port).sent = (s.ports.get port).sent ++ ((s.ports.get port).unacked.dropWhile fun e => e.1 != fseq.toNat).map (·.2) ∧
        (t.ports.get port).unacked = (s.ports.get port).unacked ∧ t.o (OD.RETRIES port) = (s.o (OD.RETRIES port) + 1) % 2 ^ 32) ∧
    ((s.ports.get port).unacked ≠ [] → (s.ports.get port).state ≠ .retrain → (s.ports.get port).timeouts = 0 →
      ∃ t, exec (.resendTimeout port) s = .next t ∧
        (t.ports.get port).sent = (s.ports.get port).sent ++ (s.ports.get port).unacked.map (·.2) ∧
        (t.ports.get port).timeouts = 1 ∧ t.o (OD.RETRIES port) = (s.o (OD.RETRIES port) + 1) % 2 ^ 32)

/-- R254, R256, R259, R263. What a head reports of its slots: an acknowledgement frees the frames up to its FSEQ and the credits of
whole slots pass to the head; DONE releases every slot it covers that was sent and is not torn; a group not acknowledged in time is
LINK; the first TORN of slot M drops the slots above M, keeps M, and recovers; READY ends it. -/
def Obligations.HeadReportsAreTaken : Prop :=
  ∀ (port : Fin 24) (s : State), ohlOn s = true →
    (∀ fseq : BitVec 16, (s.ports.get port).state ≠ .retrain → ((s.ports.get port).unacked.any fun e => e.1 == fseq.toNat) = true →
      ((s.ports.get port).slots.map (·.body.slot)).Nodup →
      ∃ t, exec (.ackFrame port fseq) s = .next t ∧ (t.ports.get port).unacked = afterAck fseq.toNat (s.ports.get port).unacked ∧
        (t.ports.get port).slots = (s.ports.get port).slots.map fun x =>
          if x.credit = .inFlight ∧ awaits x.body.slot (afterAck fseq.toNat (s.ports.get port).unacked) = false then
            { x with credit := .head } else x) ∧
    (portAttached port s = true → ∀ (slot : BitVec 32) (late : BitVec 16),
      ∃ t, exec (.doneFrame port slot late) s = .next t ∧
        (∀ x ∈ (t.ports.get port).slots, coveredBy slot.toNat x.body.slot = false ∨ x.credit = .available ∨ x.due = true ∨ x.torn = true) ∧
        (∀ x ∈ (s.ports.get port).slots, coveredBy slot.toNat x.body.slot = false → x ∈ (t.ports.get port).slots) ∧
        (late ≠ 0 → t.o (OD.DEFERRED_SLOTS port) = (s.o (OD.DEFERRED_SLOTS port) + 1) % 2 ^ 32 ∧
          t.o (OD.MAX_LATE port) = max late.toNat (s.o (OD.MAX_LATE port)) % 65536)) ∧
    ((∃ e ∈ (s.ports.get port).unacked, ∃ slot num, e.2 = .group slot num) → s.plat.held = false →
      ∃ t, exec (.groupAckOverdue port) s = .next t ∧
        t.plat = { s.plat with taken := s.plat.taken ++ [⟨causeLink, port, s.loc + 1⟩] }) ∧
    (∀ (slot : BitVec 32) (reason : Byte) (x : HeldSlot), portAttached port s = true → (s.ports.get port).tornAt = none →
      (s.ports.get port).slots.find? (fun x => x.body.slot % 2 ^ 32 == slot.toNat % 2 ^ 32) = some x →
      ∃ t, exec (.tornFrame port slot reason) s = .next t ∧ (t.ports.get port).state = .recover ∧
        (t.ports.get port).tornAt = some x.body.slot ∧ (∀ y ∈ (t.ports.get port).slots, y.body.slot ≤ x.body.slot) ∧
        (∀ y ∈ (t.ports.get port).slots, y.body.slot = x.body.slot → y.torn = true ∧ y.due = false) ∧
        (t.ports.get port).sent = (s.ports.get port).sent ++ [.command 4 (x.body.slot % 2 ^ 32)] ∧
        t.o OD.TORN_LINES = (s.o OD.TORN_LINES + 1) % 2 ^ 32) ∧
    (∀ value : BitVec 32, (s.ports.get port).state = .recover →
      ∃ t, exec (.statusReady port value) s = .next t ∧ (t.ports.get port).state = .ready ∧ (t.ports.get port).tornAt = none ∧
        ∀ x ∈ (t.ports.get port).slots, coveredBy value.toNat x.body.slot = false ∨ x.credit = .available ∨ x.due = true ∨ x.torn = true)

/-- R241, R250, R258, R261. Watching a head: telemetry is shown, and its number shows how many frames were lost before it (log entry 178); its absence counts as TEMP_HARD; a supply out of range for 1 ms is FAULT
9; a lost link retrains, and the third failure is FAULT 8; an attach whose link is regained goes on (log entry 173). -/
def Obligations.HeadLinkIsWatched : Prop :=
  ∀ (port : Fin 24) (s : State), ohlOn s = true →
    ((s.ports.get port).en = true → ∀ data : Telemetry,
      ∃ t, exec (.telemetryFrame port data) s = .next t ∧ t.o (OD.TEMPERATURE port) = unsignedOf 16 data.temp ∧
        t.o (OD.VHEAD port) = data.vhead % 65536 ∧ t.o (OD.VLOGIC port) = data.vlogic % 65536 ∧
        t.o (OD.HEAD_FLAGS port) = data.flags % 65536 ∧ (t.plat.heads.get port).readings = (s.plat.heads.get port).readings ++ [(s.loc, data.temp)] ∧
        (t.ports.get port).telemetryLost = false ∧ (t.ports.get port).backNext = some ((data.fseq.toNat + 1) % 65536) ∧
        (t.ports.get port).backLost = (s.ports.get port).backLost +
          (((s.ports.get port).backNext.map fun n => (data.fseq.toNat + 65536 - n) % 65536).getD 0)) ∧
    (portAttached port s = true → (s.ports.get port).telemetryLost = false →
      ∃ t, exec (.telemetryTimeout port) s = .next t ∧ (t.ports.get port).telemetryLost = true ∧
        (t.plat.heads.get port).readings = (s.plat.heads.get port).readings ++ [(s.loc, s.oi (OD.TEMP_HARD port))]) ∧
    (portAttached port s = true → (s.ports.get port).supplyRaised = true →
      ∃ t, exec (.supplyFaultTimeout port) s = .next t ∧ (t.ports.get port).state = .fault ∧ (t.ports.get port).en = false ∧
        t.o (OD.OHL_FAULT_CAUSE port) = 9) ∧
    ((s.ports.get port).state = .ready →
      (∃ t, exec (.laneLockLost port) s = .next t ∧ (t.ports.get port).state = .retrain ∧
        t.o (OD.RETRAINS port) = (s.o (OD.RETRAINS port) + 1) % 2 ^ 32) ∧
      (∃ t, exec (.backchannelSilence port) s = .next t ∧ (t.ports.get port).state = .retrain ∧
        t.o (OD.RETRAINS port) = (s.o (OD.RETRAINS port) + 1) % 2 ^ 32)) ∧
    ((s.ports.get port).state = .retrain →
      ((s.ports.get port).attaching = false →
        ∃ t, exec (.retrainAttemptEnd port true) s = .next t ∧
          (t.ports.get port).fseq = (if (s.ports.get port).tornAt = none then 0 else 1) ∧ (t.ports.get port).retrainFails = 0) ∧
      ((s.ports.get port).attaching = true →
        ∃ t, exec (.retrainAttemptEnd port true) s = .next t ∧ (t.ports.get port).state = .descriptor ∧ (t.ports.get port).fseq = 1 ∧
          (t.ports.get port).retrainFails = 0) ∧
      ((s.ports.get port).retrainFails < 2 →
        ∃ t, exec (.retrainAttemptEnd port false) s = .next t ∧
          t.ports.get port = { s.ports.get port with retrainFails := (s.ports.get port).retrainFails + 1 }) ∧
      (2 ≤ (s.ports.get port).retrainFails →
        ∃ t, exec (.retrainAttemptEnd port false) s = .next t ∧ (t.ports.get port).state = .fault ∧
          t.o (OD.OHL_FAULT_CAUSE port) = 8))

/-- R243, R262. The self-test of a head: refused with 0x08000022 on a port that is not READY and where a forme with a stream for the head
is ARMED or PRINTING; otherwise the SELFTEST command of R243 is sent, the chunks of DATA source 1 fill SELFTEST_MAP, and once all 32
and the head's report are there, in either order (log entry 97), the port sets SELFTEST_FAILS and raises OHL_SELFTEST_DONE. No nozzle
table entry changes. -/
def Obligations.SelftestFillsItsMap : Prop :=
  ∀ (port : Fin 24) (s : State),
    (∀ path : Path, pathReady path s → (s.ports.get port).state ≠ .ready ∨ headActive port s = true →
      ∃ t, exec (.selftest path port) s = .next t ∧ answered path (.abort 0x08000022) t ∧ t.ports = s.ports) ∧
    (∀ path : Path, pathReady path s → (s.ports.get port).state = .ready → headActive port s = false →
      ∃ t, exec (.selftest path port) s = .next t ∧ answered path (.done []) t ∧ (t.ports.get port).selftest = true ∧
        (t.ports.get port).selfChunks = 0 ∧ (t.ports.get port).sent = (s.ports.get port).sent ++ [.command 5 0] ∧ t.comp = s.comp) ∧
    (∀ (chunk : Nat) (data : List Byte), ohlOn s = true → (s.ports.get port).selftest = true → chunk < 32 → data.length = 64 →
      ∃ t, exec (.dataFrame port 1 chunk data) s = .next t ∧ t.comp = s.comp ∧
        (∀ i : Nat, i < 64 → t.dbyte (OD.SELFTEST_MAP port) (64 * chunk + i) = (data.getD i 0).toNat) ∧
        (∀ i : Nat, i < 2048 → i < 64 * chunk ∨ 64 * chunk + 64 ≤ i →
          t.dbyte (OD.SELFTEST_MAP port) i = s.dbyte (OD.SELFTEST_MAP port) i) ∧
        ((s.ports.get port).selfDone = true → setBit (s.ports.get port).selfChunks chunk true = 2 ^ 32 - 1 →
          (t.ports.get port).selftest = false ∧ t.o (OD.SELFTEST_FAILS port) = (s.ports.get port).selfFails % 65536 ∧
          ∃ u, t = raise EV.OHL_SELFTEST_DONE port u)) ∧
    (∀ fails : BitVec 16, ohlOn s = true → (s.ports.get port).selftest = true → (s.ports.get port).selfChunks = 2 ^ 32 - 1 →
      ∃ t, exec (.statusSelftestDone port fails) s = .next t ∧ t.comp = s.comp ∧ (t.ports.get port).selftest = false ∧
        t.o (OD.SELFTEST_FAILS port) = fails.toNat ∧ ∃ u, t = raise EV.OHL_SELFTEST_DONE port u)

/-- R39, R267, R271, R272, R273, R274, R282, R284. Frames of a camera port: Frame Start counts FSN and opens a frame in a free
buffer, or a dropped one when none is free and none returns in the cycle; a good line is stored and counted, a bad one is stored as pad, one too many is cut;
Frame End closes the frame and passes its buffer to PRF, unless the frame began in its cycle (R284); packets of other types and
multi-bit header errors are counted; packets of another virtual channel change nothing. The buffer taken and the RAW packing are
the model's choices (log entries 16 and 17). -/
def Obligations.FramesAreTaken : Prop :=
  ∀ (port : Fin 4) (s : State), lineOn s = true →
    (∀ vc : Nat, takesPacket port vc s = true → (s.cams.get port).frame = none → (s.cams.get port).commit = false →
      (s.cams.get port).writesDue = false →
      (∀ b, heldOf 5 0 s ≠ 0 → freeBuffer s = some b →
        ∃ t f, exec (.frameStart ⟨port, vc⟩) s = .next t ∧ t.o (OD.FSN port) = (s.o (OD.FSN port) + 1) % 2 ^ 32 ∧
          (t.cams.get port).frame = some f ∧ f.fsn = (s.o (OD.FSN port) + 1) % 2 ^ 32 ∧ f.fsLoc = s.loc ∧ f.buffer = b ∧
          f.width = s.l (OD.WIDTH port) ∧ f.height = s.l (OD.HEIGHT port) ∧ f.stored = 0 ∧ bit f.flags flagDropped = false ∧
          t.ledgers.get 5 = (s.ledgers.get 5).move 0 1 1) ∧
      (heldOf 5 0 s = 0 → (∀ q, Instr.windowProcessed q ∉ s.pending) →
        ∃ t f, exec (.frameStart ⟨port, vc⟩) s = .next t ∧ (t.cams.get port).frame = some f ∧ bit f.flags flagDropped = true ∧
          t.o (OD.FRAMES_DROPPED port) = (s.o (OD.FRAMES_DROPPED port) + 1) % 2 ^ 32 ∧ t.ledgers.get 5 = s.ledgers.get 5)) ∧
    (∀ f, (s.cams.get port).frame = some f → bit f.flags flagDropped = false →
      (∀ vc : Nat, takesPacket port vc s = true → f.fsLoc ≠ s.loc → ∃ t g, exec (.frameEnd ⟨port, vc⟩) s = .next t ∧ (t.cams.get port).frame = none ∧
        (t.cams.get port).toPrf = (s.cams.get port).toPrf ++ [g] ∧ g.fsn = f.fsn ∧ g.buffer = f.buffer ∧ g.feLoc = s.loc ∧
        g.padLines = f.height - f.stored ∧ bit g.flags flagShort = decide (f.stored < f.height) ∧
        t.ledgers.get 5 = (s.ledgers.get 5).move 1 2 1) ∧
      (∀ (vc : Nat) (payload : List Byte), takesPacket port vc s = true → f.stored < f.height →
        ∃ t g, exec (.pixelPacket port ⟨vc, s.o (OD.DATA_TYPE port)⟩ payload true false) s = .next t ∧ (t.cams.get port).frame = some g ∧
          g.lines = f.lines + 1 ∧ g.stored = f.stored + 1 ∧
          g.validLens = f.validLens ++ [min f.width (8 * payload.length / pixelBits port s - s.l (OD.X_OFFSET port))] ∧
          t.ddr.mem = (dramWrite (bufferAddress f.buffer s + f.stored * f.width * 5 / 4) (packLine
            (((List.range (min f.width (8 * payload.length / pixelBits port s - s.l (OD.X_OFFSET port)))).map fun x =>
              correctPixel (s.l (OD.BLACK_LEVEL port)) (s.l (OD.GAIN port))
                (rawPixel (pixelBits port s) payload (s.l (OD.X_OFFSET port) + x))) ++
              List.replicate (f.width - min f.width (8 * payload.length / pixelBits port s - s.l (OD.X_OFFSET port)))
                (s.l (OD.PAD_VALUE port)))) s).ddr.mem) ∧
      (∀ (vc : Nat) (payload : List Byte), takesPacket port vc s = true → f.stored < f.height →
        ∃ t g, exec (.pixelPacket port ⟨vc, s.o (OD.DATA_TYPE port)⟩ payload false false) s = .next t ∧ (t.cams.get port).frame = some g ∧
          g.badLines = f.badLines + 1 ∧ g.stored = f.stored + 1 ∧ bit g.flags flagLineCrc = true ∧
          t.o (OD.BAD_LINES_TOTAL port) = (s.o (OD.BAD_LINES_TOTAL port) + 1) % 2 ^ 32 ∧
          t.ddr.mem = (dramWrite (bufferAddress f.buffer s + f.stored * f.width * 5 / 4)
            (packLine (List.replicate f.width (s.l (OD.PAD_VALUE port)))) s).ddr.mem) ∧
      (∀ (vc : Nat) (payload : List Byte), takesPacket port vc s = true → f.height ≤ f.stored →
        ∃ t g, exec (.pixelPacket port ⟨vc, s.o (OD.DATA_TYPE port)⟩ payload true false) s = .next t ∧ (t.cams.get port).frame = some g ∧
          g.cutLines = f.cutLines + 1 ∧ g.stored = f.stored ∧ t.ddr.mem = s.ddr.mem)) ∧
    (s.ob (OD.CAM_PORT_ENABLE port) = true →
      (∀ vc dt : Nat, ∃ t, exec (.otherPacket port ⟨vc, dt⟩ true) s = .next t ∧
        t.o (OD.ECC_ERRORS port) = (s.o (OD.ECC_ERRORS port) + 1) % 2 ^ 32 ∧ t.o (OD.OTHER_PACKETS port) = s.o (OD.OTHER_PACKETS port)) ∧
      (∀ dt : Nat, 0x10 ≤ dt → ∃ t, exec (.otherPacket port ⟨s.o (OD.VIRTUAL_CHANNEL port), dt⟩ false) s = .next t ∧
        t.o (OD.OTHER_PACKETS port) = (s.o (OD.OTHER_PACKETS port) + 1) % 2 ^ 32) ∧
      (∀ (dt : Nat) (payload : List Byte) (crcOk full : Bool), dt ≠ s.o (OD.DATA_TYPE port) →
        ∃ t, exec (.pixelPacket port ⟨s.o (OD.VIRTUAL_CHANNEL port), dt⟩ payload crcOk full) s = .next t ∧
          t.o (OD.OTHER_PACKETS port) = (s.o (OD.OTHER_PACKETS port) + 1) % 2 ^ 32 ∧ t.cams = s.cams ∧ t.ddr = s.ddr)) ∧
    (∀ (vc dt : Nat) (payload : List Byte) (crcOk full : Bool), takesPacket port vc s = false →
      exec (.frameStart ⟨port, vc⟩) s = .next s ∧ exec (.frameEnd ⟨port, vc⟩) s = .next s ∧
        exec (.pixelPacket port ⟨vc, dt⟩ payload crcOk full) s = .next s) ∧
    (∀ (f : FrameRec) (vc : Nat), (s.cams.get port).frame = some f → f.fsLoc = s.loc → exec (.frameEnd ⟨port, vc⟩) s = .next s) ∧
    exec (.streamingTimeout port) s = .next (modCam port (fun c => { c with streaming := false }) s)

/-- R276, R277, R278. Immediate CCI accesses: one is taken only while no settings write runs (log entry 104), sends its device, register
and data bytes, sets CCI_STATUS to 1, and a further one is refused with 0x08000022 until it ends; its end sets CCI_STATUS to 0, with a
read's data cut to the bytes asked for (log entry 104), or to 2 after a NAK, with the event; a COMMIT that comes meanwhile is dispatched
when the access ends. -/
def Obligations.ImmediateCciAccessesRun : Prop :=
  ∀ (port : Fin 4) (s : State),
    (∀ path : Path, pathReady path s →
      ((s.cams.get port).cciBusy = false → (s.cams.get port).writing = false →
        (∃ t, exec (.cciRead path port) s = .next t ∧ answered path (.done []) t ∧ t.o (OD.CCI_STATUS port) = 1 ∧
          t.cams.get port = { s.cams.get port with
            cciBusy := true, cciRead := true, cciBytes := bits (s.o (OD.CCI_SIZES port)) 4 2
            cciSent := (s.cams.get port).cciSent ++ cciReadBytes port (s.o (OD.CCI_SIZES port)) (s.o (OD.CCI_REG port)) s }) ∧
        (∃ t, exec (.cciWrite path port) s = .next t ∧ answered path (.done []) t ∧ t.o (OD.CCI_STATUS port) = 1 ∧
          t.cams.get port = { s.cams.get port with
            cciBusy := true, cciRead := false, cciBytes := bits (s.o (OD.CCI_SIZES port)) 4 2
            cciSent := (s.cams.get port).cciSent ++
              [cciWriteBytes port (s.o (OD.CCI_SIZES port)) (s.o (OD.CCI_REG port)) (s.o (OD.CCI_DATA port)) s] })) ∧
      ((s.cams.get port).writing = true →
        (∃ t, exec (.cciRead path port) s = .next t ∧ t.cams = s.cams ∧ t.o (OD.CCI_STATUS port) = s.o (OD.CCI_STATUS port)) ∧
        (∃ t, exec (.cciWrite path port) s = .next t ∧ t.cams = s.cams ∧ t.o (OD.CCI_STATUS port) = s.o (OD.CCI_STATUS port))) ∧
      ((s.cams.get port).cciBusy = true →
        (∃ t, exec (.cciRead path port) s = .next t ∧ answered path (.abort 0x08000022) t ∧ t.cams = s.cams) ∧
        (∃ t, exec (.cciWrite path port) s = .next t ∧ answered path (.abort 0x08000022) t ∧ t.cams = s.cams)) ∧
      ((s.cams.get port).cciBusy = true → s.ob (OD.CAM_COMMIT_PENDING port) = false → camCommitCause port s = 0 →
        ∃ t, exec (.camCommit (.object path) port) s = .next t ∧ answered path (.done []) t ∧
          t.cams.get port = { s.cams.get port with commit := true, commitWaiting := true, latency := s.o (OD.CAM_LATENCY port) })) ∧
    (∀ data : BitVec 32, lineOn s = true → (s.cams.get port).cciBusy = true → (s.cams.get port).commitWaiting = false →
      (s.cams.get port).writesWaiting = false →
      (∃ t u, exec (.camCciDone port false data) s = .next t ∧ t.o (OD.CCI_STATUS port) = 0 ∧ t = raise EV.CAM_CCI_DONE port u ∧
        ((s.cams.get port).cciRead = true → t.o (OD.CCI_DATA port) = data.toNat % 256 ^ (s.cams.get port).cciBytes) ∧
        t.cams.get port = { s.cams.get port with cciBusy := false, cciRead := false }) ∧
      (∃ t u, exec (.camCciDone port true data) s = .next t ∧ t.o (OD.CCI_STATUS port) = 2 ∧ t = raise EV.CAM_CCI_ERROR port u ∧
        t.o (OD.CCI_DATA port) = s.o (OD.CCI_DATA port) ∧
        t.cams.get port = { s.cams.get port with cciBusy := false, cciRead := false })) ∧
    (∀ (nak : Bool) (data : BitVec 32), lineOn s = true → (s.cams.get port).cciBusy = true → (s.cams.get port).commitWaiting = true →
      ∃ t u, exec (.camCciDone port nak data) s = .next t ∧ t = dispatchCommit port u ∧ u.loc = s.loc ∧
        u.cams.get port = { s.cams.get port with cciBusy := false, cciRead := false, commitWaiting := false } ∧
        u.o (OD.CCI_STATUS port) = if nak then 2 else 0)

/-- R27, R278, R279, R280, R281, R406. Settings of a camera: COMMIT passes its checks and is pending, or shows its cause; one that comes
while one is pending answers 0x08000021 (log entry 100). On an enabled port whose CCI is free it is dispatched at once: TARGET_FSN is
FSN plus the latency where the writes start now, before a deadline that they meet, and one more where they wait for the next Frame
Start, or where no frame has started. Each write ends with the next entry of the set being sent; the last one hands the set of a
disabled port over, with TARGET_FSN 1; a switched reference clock starts. -/
def Obligations.CameraSettingsAreTaken : Prop :=
  ∀ (port : Fin 4) (s : State),
    (∀ path : Path, pathReady path s →
      (s.ob (OD.CAM_COMMIT_PENDING port) = true →
        ∃ t, exec (.camCommit (.object path) port) s = .next t ∧ answered path (.abort 0x08000021) t ∧ t.cams = s.cams) ∧
      (s.ob (OD.CAM_COMMIT_PENDING port) = false → camCommitCause port s ≠ 0 →
        ∃ t, exec (.camCommit (.object path) port) s = .next t ∧ answered path (.abort 0x06090030) t ∧
          t.o (OD.CAM_COMMIT_CAUSE port) = camCommitCause port s ∧ t.cams = s.cams) ∧
      (s.ob (OD.CAM_COMMIT_PENDING port) = false → camCommitCause port s = 0 → s.ob (OD.CAM_PORT_ENABLE port) = true →
        ∃ t, exec (.camCommit (.object path) port) s = .next t ∧ answered path (.done []) t ∧ t.o (OD.CAM_COMMIT_PENDING port) = 1 ∧
          (t.cams.get port).commit = true ∧ t.live = s.live) ∧
      (s.ob (OD.CAM_COMMIT_PENDING port) = false → camCommitCause port s = 0 → s.ob (OD.CAM_PORT_ENABLE port) = true →
        (s.cams.get port).cciBusy = false → (s.cams.get port).writing = false → (s.cams.get port).commitWaiting = false →
        s.loc < 2 ^ 64 →
        let fsn := s.o (OD.FSN port)
        let lat := s.o (OD.CAM_LATENCY port)
        let deadline := (s.cams.get port).fsLoc + if lat = 0 then 0 else deadlineTicks port s
        let inTime := s.loc < deadline ∧ s.loc + setTime port s ≤ deadline
        ∃ t, exec (.camCommit (.object path) port) s = .next t ∧
          (fsn = 0 → t.o (OD.TARGET_FSN port) = (1 + lat) % 2 ^ 32 ∧
            (t.cams.get port).writing = decide (0 < s.o (OD.CCI_COUNT port))) ∧
          (fsn ≠ 0 → inTime → t.o (OD.TARGET_FSN port) = (fsn + lat) % 2 ^ 32 ∧ (t.cams.get port).deadline = deadline ∧
            (t.cams.get port).writing = decide (0 < s.o (OD.CCI_COUNT port))) ∧
          (fsn ≠ 0 → ¬ inTime → t.o (OD.TARGET_FSN port) = (fsn + 1 + lat) % 2 ^ 32 ∧ (t.cams.get port).writing = false ∧
            (t.cams.get port).writesDue = true))) ∧
    (awake s = true → lineOn s = true → s.ob (OD.CAM_COMMIT_PENDING port) = false → camCommitCause port s = 0 →
      s.ob (OD.CAM_PORT_ENABLE port) = true →
      ∃ t, exec (.camCommit .register port) s = .next t ∧ t.o (OD.CAM_COMMIT_PENDING port) = 1 ∧
        (t.cams.get port).commit = true ∧ t.live = s.live) ∧
    (lineOn s = true → (s.cams.get port).writing = true →
      (2 ≤ (s.cams.get port).writesLeft →
        ∃ t, exec (.cciWriteComplete port false) s = .next t ∧
          t.cams.get port = { s.cams.get port with
            writesLeft := (s.cams.get port).writesLeft - 1
            cciSent := (s.cams.get port).cciSent ++
              [entryBytes port (setCount port s + 1 - (s.cams.get port).writesLeft) s] }) ∧
      ((s.cams.get port).writesLeft ≤ 1 → (s.cams.get port).commit = true → (s.cams.get port).commitWaiting = false →
        s.ob (OD.CAM_PORT_ENABLE port) = false →
        ∃ t, exec (.cciWriteComplete port false) s = .next t ∧ t.l (OD.WIDTH port) = s.o (OD.WIDTH port) ∧
          t.l (OD.HEIGHT port) = s.o (OD.HEIGHT port) ∧ t.l (OD.X_OFFSET port) = s.o (OD.X_OFFSET port) ∧
          t.o (OD.LIVE_ID port) = s.o (OD.SET_ID port) % 65536 ∧ t.o (OD.CAM_COMMIT_PENDING port) = 0 ∧
          t.o (OD.TARGET_FSN port) = 1 ∧ (t.cams.get port).commit = false)) ∧
    ((s.cams.get port).refclkDue = true →
      ∃ t, exec (.clkRefclkSwitch port) s = .next t ∧
        t.cams.get port = { s.cams.get port with refclkOn := s.ob (OD.REFCLK port), refclkDue := false })

/-- R289, R291, R294, R296, R298, R299, R300, R303, R304, R305, R306, R310. The proof lane and its oldest frame, by the parameters of the
frame's window (log entry 181): a port that inspects nothing gives it back (log entry 105); a frame that cannot be compared is skipped
and counted; a frame that matches a closed window, the nearest one (log entry 105), is inspected, once; it waits for a window still
open. Where no trial of the port is open, an inspection counts each finding of the classifier in FINDINGS and writes one FINDING record
for it (log entry 198). A finding without evidence, or whose candidates are all locked, changes no HEALTH; with evidence it adds the
step of its class to its lead's HEALTH, and at ACT_THRESHOLD it is tried, proposed or reported by CONFIRM_POLICY, the undo value and
the band of an accepted request standing in the trial. A trial waits for a window at its band; it resolves where the finding is gone;
where the finding is repeated it is undone, and without a further candidate the finding is unresolved. CONFIRM of a proposed finding
makes its request, but none for a nozzle in the lock list, and counts a FINDING record (log entry 183); it answers 0x08000020 of no
proposed finding, and where the ring has no slot for the record (log entry 214). -/
def Obligations.ProofFramesAreCompared : Prop :=
  ∀ (s : State),
    (lineOn s = true → ∀ (port : Fin 4) (f : FrameRec) (rest : List FrameRec), (s.cams.get port).toPrf = f :: rest →
      (s.prf.lanes.get port).ahead ≠ s.loc + 1 →
      let par := frameParam port f s
      (par (OD.CAM_DISTANCE port) = 0 →
        ∃ t, exec (.windowProcessed port) s = .next t ∧ (t.cams.get port).toPrf = rest ∧
          (bit f.flags flagDropped = false → t.ledgers = (moveLedger 5 2 0 1 s).ledgers)) ∧
      (par (OD.CAM_DISTANCE port) ≠ 0 → skipFlags f = true →
        ∃ t, exec (.windowProcessed port) s = .next t ∧ (t.cams.get port).toPrf = rest ∧
          t.o OD.FRAMES_SKIPPED = (s.o OD.FRAMES_SKIPPED + 1) % 2 ^ 32 ∧ (t.prf.lanes.get port).inspected = (s.prf.lanes.get port).inspected) ∧
      (∀ w : WindowSum, par (OD.CAM_DISTANCE port) ≠ 0 → skipFlags f = false →
        let base := matchedBase (par OD.WINDOW_BASE) (par OD.WINDOW_LINES) (par (OD.CAM_DISTANCE port)) f
        misalignment base (par (OD.CAM_DISTANCE port)) f ≤ par OD.ALIGN_TOLERANCE →
        (s.prf.lanes.get port).inspected.contains base = false →
        (s.prf.lanes.get port).summaries.find? (fun w => w.base == base) = some w →
        ∃ t, exec (.windowProcessed port) s = .next t ∧ (t.cams.get port).toPrf = rest ∧
          t.o OD.WINDOWS_INSPECTED = (s.o OD.WINDOWS_INSPECTED + 1) % 2 ^ 32 ∧
          (t.prf.lanes.get port).inspected = (s.prf.lanes.get port).inspected ++ [base] ∧
          t.ledgers.get 5 = (s.ledgers.get 5).move 2 0 1 ∧
          ((∀ x ∈ s.prf.trials, x.port ≠ port.val) → s.o OD.FINDINGS < 2 ^ 32 → s.prf.findingSeq < 65536 →
            let all := (List.range 2).flatMap fun q => classify w port q f (columnSites w port f s) s
            let found := if w.torn then all.filter fun x => decide (4 ≤ x.cls) else all
            t.o OD.FINDINGS = (s.o OD.FINDINGS + found.length) % 2 ^ 32 ∧
              t.prf.findingSeq = (s.prf.findingSeq + found.length) % 65536)) ∧
      (par (OD.CAM_DISTANCE port) ≠ 0 → skipFlags f = false →
        let base := matchedBase (par OD.WINDOW_BASE) (par OD.WINDOW_LINES) (par (OD.CAM_DISTANCE port)) f
        misalignment base (par (OD.CAM_DISTANCE port)) f ≤ par OD.ALIGN_TOLERANCE →
        (s.prf.lanes.get port).inspected.contains base = false →
        (s.prf.lanes.get port).summaries.find? (fun w => w.base == base) = none →
        (s.prf.lanes.get port).open_.any (fun w => w.base == base) = true →
        ∃ t, exec (.windowProcessed port) s = .next t ∧ t.cams = s.cams ∧ t.prf.lanes = s.prf.lanes ∧ t.ledgers = s.ledgers ∧
          t.od = s.od)) ∧
    (∀ (path : Path) (value : BitVec 32), pathReady path s →
      (s.prf.proposed.find? (fun q => q.port == bits value.toNat 17 16 && q.seq == bits value.toNat 15 0) = none →
        ∃ t, exec (.confirm path value) s = .next t ∧ answered path (.abort 0x08000020) t ∧ t.prf = s.prf ∧ t.comp = s.comp) ∧
      (∀ q, s.prf.proposed.find? (fun q => q.port == bits value.toNat 17 16 && q.seq == bits value.toNat 15 0) = some q →
        egressFree (97 + bits value.toNat 17 16) s ≠ 0 →
        ∃ t, exec (.confirm path value) s = .next t ∧ answered path (.done []) t ∧
          t.prf.findingSeq = wrapTo 16 (s.prf.findingSeq + 1) ∧
          (isLocked q.nozzle s = false → t.o OD.REQUESTS = (s.o OD.REQUESTS + 1) % 2 ^ 32) ∧
          (isLocked q.nozzle s = true → t.o OD.REQUESTS = s.o OD.REQUESTS ∧ t.comp = s.comp)) ∧
      (egressFree (97 + bits value.toNat 17 16) s = 0 →
        ∃ t, exec (.confirm path value) s = .next t ∧ answered path (.abort 0x08000020) t ∧ t.prf = s.prf ∧ t.comp = s.comp)) ∧
    (∀ (w : WindowSum) (p fsn : Nat) (f : Found),
      let t := actOn w p fsn f s
      let s1 := prfEvent EV.PRF_FINDING f.cls p (s.bump OD.FINDINGS)
      let leads := (candidates f s1).filter fun n => !isLocked n s1
      (f.evidence = false ∨ leads = [] → t.comp = s.comp ∧ t.prf.trials = s.prf.trials ∧ t.prf.proposed = s.prf.proposed) ∧
      (∀ n rest, f.evidence = true → leads = n :: rest →
        let h := min 255 (healthOf n s1 + healthStep w f.cls)
        let s2 := setHealth n h s1
        let r := prfRequest p n (targetValue n f.cls (w.par OD.PRF_SUB_PATTERN) s2) (prfBand w n) s2
        (h < w.par OD.ACT_THRESHOLD ∨ 2 ≤ w.par OD.CONFIRM_POLICY ∨ w.par OD.CONFIRM_POLICY = 0 ∧ 64 ≤ s.prf.trials.length →
          t.comp = s2.comp ∧ t.prf.trials = s.prf.trials ∧ t.prf.proposed = s.prf.proposed) ∧
        (w.par OD.ACT_THRESHOLD ≤ h → w.par OD.CONFIRM_POLICY = 1 →
          t.comp = s2.comp ∧ t.prf.trials = s.prf.trials ∧ ∃ q : Proposed, q.port = p ∧ q.nozzle = n ∧ q.cls = f.cls ∧
            q.seq = s.prf.findingSeq ∧ t.prf.proposed = (s.prf.proposed ++ [q]).drop (s.prf.proposed.length - 63)) ∧
        (w.par OD.ACT_THRESHOLD ≤ h → w.par OD.CONFIRM_POLICY = 0 → s.prf.trials.length < 64 → egressFree (97 + p) s2 ≠ 0 →
          r.1.cause = 0 → t.comp = r.2.comp ∧
            t.prf.trials = r.2.prf.trials ++ [{ port := p, cls := f.cls, plane := f.plane, column := f.column, lead := n
                                                undo := Nat.land r.1.old prfMask, band := r.1.band, strength := f.strength
                                                rest := rest, waits := false }]))) ∧
    (∀ (w : WindowSum) (fsn : Nat) (found : List Found) (x : Trial),
      let t := judgeTrial w fsn found x s
      let s1 : State := { s with prf := { s.prf with trials := s.prf.trials.filter fun y => y != x } }
      let r := prfRequest x.port x.lead x.undo (prfBand w x.lead) s
      (trialWindow w x = false → t = s) ∧
      (trialWindow w x = true → x.waits = false → found.any x.repeatedBy = false →
        t.prf.trials = s1.prf.trials ∧ t.comp = s.comp ∧ ∃ u, t = prfEvent EV.PRF_RESOLVED x.cls x.port u) ∧
      (trialWindow w x = true → x.waits = false → found.any x.repeatedBy = true → egressFree (97 + x.port) s ≠ 0 →
        isLocked x.lead s = false → r.1.cause = 0 → (∀ n ∈ x.rest, isLocked n s = true) →
        t.prf.trials = r.2.prf.trials.filter (fun y => y != x) ∧ t.comp = (setHealth x.lead 0 r.2).comp ∧
          t.o OD.UNRESOLVED = (s.o OD.UNRESOLVED + 1) % 2 ^ 32))

/-- R316, R317, R318, R319, R320, R321, R322. Compare units, pulses and captures: an armed unit whose target is reached where its domain
is evaluated, or that was armed with its target reached (log entry 112), matches, starts the pulses of its pins 4 ticks later, one that
runs going on into the new one (log entry 113), and disarms or moves its target on by its period; any other does nothing; a pulse ends
after TRIG_WIDTH; a selected edge past the filter, whose samples the command brings (log entry 152), captures LOC and P, and one that
the filter discards, or that brings no new level, nothing; a pair of NET and LOC joins the fit, or starts it anew after a step of more
than 1 µs. -/
def Obligations.TimeUnitsMatchAndCapture : Prop :=
  ∀ s : State,
    (∀ unit : Fin 16, s.ob (OD.CMP_ARM unit) = true → cmpReached unit s = true →
      cmpEvaluated unit s = true ∨ cmpLate unit s = true →
      ∃ t, exec (.compareMatch unit) s = .next t ∧ t.time.matched.get unit = true ∧
        t.o (OD.CMP_MATCHES unit) = (s.o (OD.CMP_MATCHES unit) + 1) % 2 ^ 32 ∧
        (∀ pin : Fin 16, s.o (OD.TRIG_SOURCE pin) = unit → s.o (OD.TRIG_WIDTH pin) ≠ 0 →
          ((∀ x ∈ s.time.pulse.get pin, s.loc < x.1) →
            t.time.pulse.get pin =
              s.time.pulse.get pin ++ [(s.loc + pulseDelay, s.loc + pulseDelay + s.o (OD.TRIG_WIDTH pin))]) ∧
          (∀ x, s.time.pulse.get pin = [x] → x.1 ≤ s.loc →
            t.time.pulse.get pin = [(x.1, s.loc + pulseDelay + s.o (OD.TRIG_WIDTH pin))])) ∧
        (∀ pin : Fin 16, s.o (OD.TRIG_SOURCE pin) ≠ unit → t.time.pulse.get pin = s.time.pulse.get pin) ∧
        (s.o (OD.CMP_PERIOD unit) = 0 → t.o (OD.CMP_ARM unit) = 0 ∧ t.o (OD.CMP_TARGET unit) = s.o (OD.CMP_TARGET unit)) ∧
        (s.o (OD.CMP_PERIOD unit) ≠ 0 → s.o (OD.CMP_DOMAIN unit) ≠ 2 → pastTarget unit s < s.o (OD.CMP_PERIOD unit) →
          t.ob (OD.CMP_ARM unit) = true ∧ t.o (OD.CMP_TARGET unit) = (s.o (OD.CMP_TARGET unit) + s.o (OD.CMP_PERIOD unit)) % 2 ^ 32)) ∧
    (∀ unit : Fin 16, s.ob (OD.CMP_ARM unit) = false ∨ cmpReached unit s = false ∨
      cmpEvaluated unit s = false ∧ cmpLate unit s = false →
      exec (.compareMatch unit) s = .next s) ∧
    (∀ pin : Fin 16, ∃ t, exec (.trigPulseEnd pin) s = .next t ∧
      t.time.pulse.get pin = (s.time.pulse.get pin).filter (fun x => decide (s.loc < x.2)) ∧
      (∀ k : Fin 16, k ≠ pin → t.time.pulse.get k = s.time.pulse.get k) ∧ t.od = s.od) ∧
    (∀ (input : Fin 8) (edge : Samples), edge.run < max 1 (s.o OD.CAP_FILTER) ∨ edge.level = s.time.level.get input →
      exec (.captureEdge input edge) s = .next s) ∧
    (∀ (input : Fin 8) (edge : Samples), max 1 (s.o OD.CAP_FILTER) ≤ edge.run → edge.level ≠ s.time.level.get input →
      (s.o (OD.CAP_EDGE input) = 3 ∨ s.o (OD.CAP_EDGE input) = (if edge.level then 1 else 2) →
        ∃ t, exec (.captureEdge input edge) s = .next t ∧ t.o (OD.CAP_LOC input) = s.loc % 2 ^ 64 ∧
          t.o (OD.CAP_POSITION input) = webpOf s.web.p % 2 ^ 64 ∧ t.o (OD.CAP_NET input) = netNow s % 2 ^ 64 ∧
          t.time.valid.get input = true ∧ t.time.level.get input = edge.level ∧
          t.o (OD.CAP_OVERRUNS input) = (if s.time.valid.get input then (s.o (OD.CAP_OVERRUNS input) + 1) % 2 ^ 32
            else s.o (OD.CAP_OVERRUNS input))) ∧
      (s.o (OD.CAP_EDGE input) = 0 →
        ∃ t, exec (.captureEdge input edge) s = .next t ∧ t.o (OD.CAP_LOC input) = s.o (OD.CAP_LOC input) ∧
          t.time.valid = s.time.valid ∧ t.time.level.get input = edge.level)) ∧
    (∀ escTime : Nat,
      ((∃ p rest, s.time.pairs = p :: rest ∧ 1000 < offFit s.time (escTime % 2 ^ 64, s.loc)) →
        ∃ t, exec (.netPairSample escTime) s = .next t ∧ t.time.pairs = [(escTime % 2 ^ 64, s.loc)]) ∧
      (s.time.pairs = [] ∨ offFit s.time (escTime % 2 ^ 64, s.loc) ≤ 1000 →
        ∃ t, exec (.netPairSample escTime) s = .next t ∧ t.time.pairs = ((escTime % 2 ^ 64, s.loc) :: s.time.pairs).take 8))

/-- R326, R327, R328, R329. The pace links: a HELLO brings a side up at the version both support, within
PACE_VERSION_LIMIT, and is answered with the highest version of the chip; a side goes down;
ENUM is stored and passed on with its successor; CYCLE is passed downstream and answered with BUSY upstream; a sync pulse that
misses the nearest multiple of 8 lines by more than the tolerance shows its skew. -/
def Obligations.PaceLinkFramesAreAnswered : Prop :=
  ∀ s : State, webOn s = true →
    (∀ (side : Side) (vmax : Nat), vmax ≠ 0 →
      ∃ t, exec (.paceLinkHello side vmax) s = .next t ∧
        (if side = .upstream then t.pace.upVersion else t.pace.dnVersion) = min (min vmax paceVersionMax) (s.o OD.PACE_VERSION_LIMIT) ∧
        t.pace.framesSent = s.pace.framesSent ++ [(0, paceVersionMax)] ++
          (if side = .downstream ∧ s.pace.driving = true then [(1, 1)] else [])) ∧
    (∀ side : Side, ∃ t, exec (.paceLinkDown side) s = .next t ∧
      t.pace = (if side = .upstream then { s.pace with upVersion := 0 } else { s.pace with dnVersion := 0 })) ∧
    (∀ position : BitVec 8, ∃ t, exec (.enum position) s = .next t ∧ t.o OD.PACE_POSITION = position.toNat ∧
      t.pace = { s.pace with framesSent := s.pace.framesSent ++ (if s.pace.dnVersion = 0 then [] else [(1, (position.toNat + 1) % 256)]) }) ∧
    (∀ (line : Nat) (hold : Bool), ∃ t, exec (.cycle line hold) s = .next t ∧
      t.pace.framesSent = s.pace.framesSent ++ (if s.pace.dnVersion = 0 then [] else [(2, cycleContent line hold s)]) ++
        (if s.pace.upVersion = 2 then [(3, b2n (busyFlag s || busyBelow s))] else [])) ∧
    (∀ b : Bool, exec (.busy b) s = .next { s with pace := { s.pace with busyIn := b, busyCycle := s.pace.busyCycle || b } }) ∧
    (s.pace.driving = false → s.o OD.SYNC_TOLERANCE ≠ 0 →
      (s.o OD.SYNC_TOLERANCE < ((s.web.p - 8 * roundRat (s.web.p / 8)) * 65536).floor.natAbs →
        ∃ t, exec .paceSyncIn s = .next t ∧
          t.o OD.SYNC_SKEW_LAST = unsignedOf 32 ((s.web.p - 8 * roundRat (s.web.p / 8)) * 65536).floor) ∧
      (((s.web.p - 8 * roundRat (s.web.p / 8)) * 65536).floor.natAbs ≤ s.o OD.SYNC_TOLERANCE → exec .paceSyncIn s = .next s)) ∧
    (∃ t, exec .paceSyncPulseEnd s = .next t ∧ t.pace = { s.pace with syncPulse := false })

/-- R330, R331, R332, R333. The mirror pair: a record that arrives is the last one seen and is compared with P; 100 µs without one
is counted, and at the second a MASTER whose partner was ready lets QUOIN_N go, a ready STANDBY is due to take it; a heartbeat
sends the chip's own record. QUOIN_N: it is taken when a case of R332 holds; a STANDBY counts the takeover, with its line; 2 µs later the drivers
are on; a STANDBY takes it after 3 s without any record; one whose QUOIN_N stays low gives the take up; the pulse on HOLD_N
ends. -/
def Obligations.MirrorPairHandsQuoinOver : Prop :=
  (∀ s : State, webOn s = true → hasPartner s = true →
    (∀ r : MirrorRec, r.crcOk = true →
      ∃ t, exec (.mirrorRecord r) s = .next t ∧ t.pace.missed = 0 ∧ t.pace.last = some r ∧ t.pace.everRecord = true ∧
        t.o OD.PARTNER_READY = b2n (s.pace.driving && r.ready) ∧
        (r.acting = true → s.pace.driving = false → r.cycleLine ≠ s.pace.cycleLine →
          t.pace.good = if absRat (s.web.p - (r.pos : Rat) / 65536) ≤ s.o OD.MIRROR_TOLERANCE then min 16 (s.pace.good + 1) else 0)) ∧
    (s.pace.missed ≠ 1 →
      ∃ t, exec .heartbeatMiss s = .next t ∧ t.pace = { s.pace with missed := s.pace.missed + 1 } ∧
        t.o OD.MISSED_RECORDS = (s.o OD.MISSED_RECORDS + 1) % 2 ^ 32) ∧
    (s.pace.missed = 1 →
      (∀ r, s.pace.role = 1 → s.pace.last = some r → r.ready = true →
        ∃ t, exec .heartbeatMiss s = .next t ∧ t.pace.missed = 2 ∧ t.pace.ready = false ∧ t.pace.quoinHeld = false ∧ t.pace.driving = false) ∧
      (s.pace.role = 2 → s.pace.ready = true →
        ∃ t, exec .heartbeatMiss s = .next t ∧ t.pace.missed = 2 ∧ t.pace.ready = false ∧ t.pace.takeDue = !s.pace.quoinHeld)) ∧
    exec .mirrorHeartbeat s = .next { s with pace := { s.pace with recordsSent := s.pace.recordsSent ++ [ownRecord s] } }) ∧
  (∀ s : State,
    (ohlOn s = true → mayTakeQuoin s = true →
      ∃ t, exec .quoinTake s = .next t ∧ t.pace.quoinHeld = true ∧ t.pace.takenAt = s.loc ∧ t.pace.takeDue = false ∧
        (s.pace.role = 2 → t.o OD.TAKEOVERS = (s.o OD.TAKEOVERS + 1) % 2 ^ 32 ∧
          t.o OD.LAST_TAKEOVER_LINE = s.web.hwl % 2 ^ 64)) ∧
    (mayTakeQuoin s = false → exec .quoinTake s = .next s) ∧
    (ohlOn s = true → s.pace.role = 2 → s.pace.everRecord = false → s.pace.quoinHeld = false →
      ∃ t, exec .standbyQuoinTimeout s = .next t ∧ t.pace.quoinHeld = true ∧ t.o OD.TAKEOVERS = (s.o OD.TAKEOVERS + 1) % 2 ^ 32) ∧
    (webOn s = true → s.pace.quoinHeld = true → s.pace.driving = false →
      ∃ t, exec .paceOutEnable s = .next t ∧ t.pace.driving = true ∧ (s.pace.role = 1 → t.o OD.PACE_POSITION = 0)) ∧
    (webOn s = true → s.pace.role = 2 → 2 ≤ s.pace.missed → s.pace.quoinHeld = false →
      ∃ t, exec .paceQuoinStuck s = .next t ∧ t.pace = { s.pace with takeDue := false }) ∧
    (s.pace.holdPulse = true →
      ∃ t, exec .takeoverHoldPulseEnd s = .next t ∧ t.pace = { s.pace with holdPulse := false } ∧
        t.pins = { s.pins with holdN := !s.plat.held && s.plat.initDone }))

/-- R343, R345, R347, R348, R352, R359. Requests to the DRAM: one that a bank queue of 8 has room for is accepted; a write's bytes are in
DRAM then, and a read's are those of its 64 B granule then; one whose queue is full (log entry 120), or that comes in a cycle in which
a requester of lower number has yet to come (log entry 174), waits at its requester, as does one that comes during the entry to
self-refresh; one beyond INSTALLED_SIZE is dropped (log entry 120). The next read of a channel, for which its commands go on until one
is served (log entry 199), returns with its data; a corrected and an uncorrectable error are counted with their address while inline
ECC is on. -/
def Obligations.DramRequestsAreServed : Prop :=
  ∀ s : State, s.ddr.state = 2 →
    (dramOpen s = true → s.ddr.waiting = [] → ∀ r : DramReq,
      (r.address < s.o OD.INSTALLED_SIZE → lowerToCome r s = false →
        (vgetN (channelOf (placeNow r.address s).channel s).banks (placeNow r.address s).bank).queue.length < 8 →
        ∃ t q, exec (.dramRequest r) s = .next t ∧ t.ddr.waiting = [] ∧
          (vgetN (channelOf (placeNow r.address s).channel t).banks (placeNow r.address s).bank).queue =
            (vgetN (channelOf (placeNow r.address s).channel s).banks (placeNow r.address s).bank).queue ++ [q] ∧
          q.req.requester = r.requester ∧ q.req.address = r.address ∧ q.place = placeNow r.address s ∧
          (r.write = true → t.ddr.mem = Memory.writes r.address (r.data.take (64 - r.address % 64)) s.ddr.mem) ∧
          (r.write = false → t.ddr.mem = s.ddr.mem ∧ q.req.data = Memory.reads s.ddr.mem (r.address / 64 * 64) 64)) ∧
      (r.address < s.o OD.INSTALLED_SIZE → lowerToCome r s = true ∨
        8 ≤ (vgetN (channelOf (placeNow r.address s).channel s).banks (placeNow r.address s).bank).queue.length →
        ∃ t, exec (.dramRequest r) s = .next t ∧ t.ddr = { s.ddr with waiting := [r] }) ∧
      (s.o OD.INSTALLED_SIZE ≤ r.address → exec (.dramRequest r) s = .next s)) ∧
    (s.pwr.entering = some 3 → ∀ r : DramReq,
      ∃ t, exec (.dramRequest r) s = .next t ∧ t.ddr = { s.ddr with waiting := s.ddr.waiting ++ [r] }) ∧
    (∀ (c : Fin 4) (r : DramReq) (ch : Channel), serveRead 1024 (s.ddr.channels.get c) = (some r, ch) → s.ddr.waiting = [] →
      (∀ ecc : EccOutcome, ecc = .clean ∨ s.ddr.eccOn = false →
        ∃ t, exec (.dramReadReturn c ecc) s = .next t ∧ t.ddr.returned = some (r.requester.val, r.data, false) ∧
          t.ddr.channels.get c = ch ∧ t.od = s.od) ∧
      (s.ddr.eccOn = true →
        (∃ t, exec (.dramReadReturn c .corrected) s = .next t ∧ t.ddr.returned = some (r.requester.val, r.data, false) ∧
          t.o OD.ECC_CORRECTED = (s.o OD.ECC_CORRECTED + 1) % 2 ^ 32 ∧ t.o OD.ECC_LAST_ADDRESS = r.address % 2 ^ 64) ∧
        (r.requester.val ≠ 5 →
          ∃ t, exec (.dramReadReturn c .uncorrectable) s = .next t ∧ t.ddr.returned = some (r.requester.val, r.data, true) ∧
            t.o OD.ECC_UNCORRECTABLE = (s.o OD.ECC_UNCORRECTABLE + 1) % 2 ^ 32 ∧ t.o OD.ECC_LAST_ADDRESS = r.address % 2 ^ 64)))

/-- R349, R350, R351, R353, R357. Upkeep of the DRAM: a refresh that falls due in the next bank of the rotation, or the next pair (log
entries 122 and 199), is issued where the banks are idle, owed where they are not, and forced at a debt of 8, which closes the rows and
pays one; an idle bank pays what it owes, one in a cycle (log entry 122), in a pair while the other bank is idle too; the rate code
shown is the highest of the channels; a tracking pass in a gap, or in one that is forced, moves the delays; the scrub asks for the
granules in turn, each once it is due (log entry 125), through the bank queues, and one that returns corrected is written back, unless a
write to it comes in its cycle. -/
def Obligations.DramIsKeptUp : Prop :=
  (∀ (c : Channel) (i : Nat) (b : Bank),
    (b.queue = [] → b.openRow = none → c.refPair = false ∨ bankIdle (vgetN c.banks (pairOf i)) = true →
      payDebt c i b = { b with debt := b.debt - 1 }) ∧
    (b.queue ≠ [] ∨ b.openRow ≠ none ∨ c.refPair = true ∧ bankIdle (vgetN c.banks (pairOf i)) = false → payDebt c i b = b)) ∧
  ∀ s : State, s.ddr.state = 2 →
    (∀ (c : Fin 4) (pair : Bool), s.o OD.RANKS ≤ 2 →
      let ch := s.ddr.channels.get c
      let due := refreshBanks pair ch.refNext (s.o OD.RANKS)
      ((due.all fun i => bankIdle (vgetN ch.banks i)) = true →
        ∃ t, exec (.refreshDue c pair) s = .next t ∧
          t.ddr.channels.get c = { ch with refPair := pair, refNext := (ch.refNext + 1) % 32 } ∧ t.od = s.od) ∧
      ((due.all fun i => bankIdle (vgetN ch.banks i)) = false → (∀ i ∈ due, (vgetN ch.banks i).debt < 7) →
        ∃ t, exec (.refreshDue c pair) s = .next t ∧ (t.ddr.channels.get c).refNext = (ch.refNext + 1) % 32 ∧ t.od = s.od ∧
          ∀ i : Nat, i < 32 → vgetN (t.ddr.channels.get c).banks i =
            if i ∈ due then { vgetN ch.banks i with debt := (vgetN ch.banks i).debt + 1 } else vgetN ch.banks i) ∧
      ((due.all fun i => bankIdle (vgetN ch.banks i)) = false → (∃ i ∈ due, 7 ≤ (vgetN ch.banks i).debt) →
        ∃ t, exec (.refreshDue c pair) s = .next t ∧ (t.ddr.channels.get c).refNext = (ch.refNext + 1) % 32 ∧
          t.o OD.REFRESH_FORCED = (s.o OD.REFRESH_FORCED + 1) % 2 ^ 32 ∧
          (∀ i ∈ due, (vgetN (t.ddr.channels.get c).banks i).openRow = none ∧
            (vgetN (t.ddr.channels.get c).banks i).debt = (vgetN ch.banks i).debt ∧
            (vgetN (t.ddr.channels.get c).banks i).queue = (vgetN ch.banks i).queue) ∧
          ∀ i : Nat, i < 32 → i ∉ due → vgetN (t.ddr.channels.get c).banks i = vgetN ch.banks i)) ∧
    (∀ (c : Fin 4) (code : Byte),
      ∃ t, exec (.mr4Poll c code) s = .next t ∧ (t.ddr.channels.get c).rateCode = code.toNat ∧
        t.o OD.REFRESH_RATE = ((t.ddr.channels.toList.map (·.rateCode)).foldl max 0) % 256) ∧
    (∀ (c : Fin 4) (change : List Int) (gap : Bool),
      (s.ddr.fixed = false → gap = true ∨ gapForced c s = true → ∃ t, exec (.driftTracking c change gap) s = .next t ∧
        (∀ i : Fin 32, (t.ddr.channels.get c).drift.get i = (s.ddr.channels.get c).drift.get i + change.getD i 0) ∧
        (t.ddr.channels.get c).trackAt = s.loc ∧ t.ddr.inUse = moveDelays c change s.ddr.inUse) ∧
      (s.ddr.fixed = true ∨ (gap = false ∧ gapForced c s = false) → exec (.driftTracking c change gap) s = .next s)) ∧
    (∀ granule : Nat, s.ddr.eccOn = false ∨ s.o OD.SCRUB_PERIOD = 0 ∨ 64 * granule ≠ s.ddr.scrubPos ∨ scrubDue s = false →
      exec (.scrubRead granule) s = .next s) ∧
    (∀ granule : Nat, s.ddr.eccOn = true → s.o OD.SCRUB_PERIOD ≠ 0 → 64 * granule = s.ddr.scrubPos → scrubDue s = true →
      (∃ t, exec (.scrubRead granule) s = .next t ∧ t.od = s.od ∧
        t.ddr.scrubPos = (if s.ddr.scrubPos + 64 < s.o OD.INSTALLED_SIZE then s.ddr.scrubPos + 64 else 0)) ∧
      (dramOpen s = true → s.ddr.waiting = [] → s.ddr.scrubPos < s.o OD.INSTALLED_SIZE →
        (∀ q, Instr.dramRequest q ∉ s.pending) →
        (vgetN (channelOf (placeNow s.ddr.scrubPos s).channel s).banks (placeNow s.ddr.scrubPos s).bank).queue.length < 8 →
        ∃ t q, exec (.scrubRead granule) s = .next t ∧
          (vgetN (channelOf (placeNow s.ddr.scrubPos s).channel t).banks (placeNow s.ddr.scrubPos s).bank).queue =
            (vgetN (channelOf (placeNow s.ddr.scrubPos s).channel s).banks (placeNow s.ddr.scrubPos s).bank).queue ++ [q] ∧
          q.req.requester = 6 ∧ q.req.address = s.ddr.scrubPos ∧ q.req.write = false ∧ t.ddr.mem = s.ddr.mem)) ∧
    (∀ (c : Fin 4) (r : DramReq) (ch : Channel), serveRead 1024 (s.ddr.channels.get c) = (some r, ch) → r.requester = 6 →
      s.ddr.eccOn = true → s.ddr.waiting = [] →
      let s1 := modChannel c (fun _ => ch) s
      (writtenNow r.address s = true →
        ∃ t, exec (.dramReadReturn c .corrected) s = .next t ∧ t.ddr.mem = s.ddr.mem ∧ t.ddr.waiting = [] ∧
          (t.ddr.channels.get c).banks = ch.banks) ∧
      (writtenNow r.address s = false → dramOpen s = true → r.address < s.o OD.INSTALLED_SIZE →
        (∀ q, Instr.dramRequest q ∉ s.pending) →
        (vgetN (channelOf (placeNow r.address s).channel s1).banks (placeNow r.address s).bank).queue.length < 8 →
        ∃ t q, exec (.dramReadReturn c .corrected) s = .next t ∧ t.ddr.mem = s.ddr.mem ∧
          (vgetN (channelOf (placeNow r.address s).channel t).banks (placeNow r.address s).bank).queue =
            (vgetN (channelOf (placeNow r.address s).channel s1).banks (placeNow r.address s).bank).queue ++ [q] ∧
          q.req = writeBack r.address))

/-- R27, R368, R369, R370, R371, R372, R373, R376, R377, R378, R379. Commands to an axis over a ready path. MOVE and RUN_SEGMENTS start
where motion is permitted and the position certain, HOME where motion is permitted; STOP stops, unless what is still to come in the
cycle ends the motion (R379 as log entry 174 reads it); SET_POSITION presets an idle axis; CLEAR_FAULT ends a fault, in IDLE; COMMIT is
pending or shows its cause. A command that its condition does not permit answers 0x08000022 and changes no axis. -/
def Obligations.AxisCommandsAreTaken : Prop :=
  ∀ (path : Path) (axis : Fin 8) (s : State), pathReady path s →
    (motionPermitted axis s = true → (s.axes.get axis).uncertain = false →
      (microOf (s.axes.get axis).x ≠ s.oi (OD.AXIS_TARGET axis) →
        ∃ t, exec (.move path axis) s = .next t ∧ answered path (.done []) t ∧ (t.axes.get axis).state = .moving ∧
          (t.axes.get axis).target = s.oi (OD.AXIS_TARGET axis) ∧ (t.axes.get axis).x = (s.axes.get axis).x ∧
          (t.axes.get axis).v = if microOf (s.axes.get axis).x < s.oi (OD.AXIS_TARGET axis) then (s.l (OD.V_START axis) : Rat)
            else -(s.l (OD.V_START axis) : Rat)) ∧
      (microOf (s.axes.get axis).x = s.oi (OD.AXIS_TARGET axis) →
        ∃ t, exec (.move path axis) s = .next t ∧ answered path (.done []) t ∧ t.axes = s.axes) ∧
      (1 ≤ s.l (OD.SEG_COUNT axis) → s.l (OD.SEG_FIRST axis) ≠ 0xFFFF → (segEntry (s.l (OD.SEG_FIRST axis)) s).duration ≠ 0 →
        ∃ t, exec (.runSegments path axis) s = .next t ∧ answered path (.done []) t ∧ (t.axes.get axis).state = .segments ∧
          (t.axes.get axis).segment = s.l (OD.SEG_FIRST axis) ∧ (t.axes.get axis).segStartV = 0 ∧
          (t.axes.get axis).segWaiting = bit (segEntry (s.l (OD.SEG_FIRST axis)) s).flags 1)) ∧
    (motionPermitted axis s = true → s.o (OD.HOME_INPUT axis) ≠ 0xFF →
      ∃ t, exec (.home path axis) s = .next t ∧ answered path (.done []) t ∧ (t.axes.get axis).state = .homing ∧
        (t.axes.get axis).homeTravel = 0 ∧ (t.axes.get axis).homeFound = false) ∧
    (motionPermitted axis s = false ∨ (s.axes.get axis).uncertain = true →
      (∃ t, exec (.move path axis) s = .next t ∧ answered path (.abort 0x08000022) t ∧ t.axes = s.axes) ∧
      (∃ t, exec (.runSegments path axis) s = .next t ∧ answered path (.abort 0x08000022) t ∧ t.axes = s.axes)) ∧
    (s.l (OD.SEG_COUNT axis) = 0 →
      ∃ t, exec (.runSegments path axis) s = .next t ∧ answered path (.abort 0x08000022) t ∧ t.axes = s.axes) ∧
    (motionPermitted axis s = false ∨ s.o (OD.HOME_INPUT axis) = 0xFF →
      ∃ t, exec (.home path axis) s = .next t ∧ answered path (.abort 0x08000022) t ∧ t.axes = s.axes) ∧
    ((s.axes.get axis).state ≠ .fault →
      ∃ t, exec (.clearFault path axis) s = .next t ∧ answered path (.abort 0x08000022) t ∧ t.axes = s.axes) ∧
    ((s.axes.get axis).state.moves = true → s.pending = [] →
      ∃ t, exec (.stop path axis) s = .next t ∧ answered path (.done []) t ∧ (t.axes.get axis).state = .idle ∧
        (t.axes.get axis).v = 0 ∧ (t.axes.get axis).uncertain = true ∧ (t.axes.get axis).x = (s.axes.get axis).x) ∧
    ((s.axes.get axis).state.moves = false ∨ (∃ i : Fin 8, Instr.faultInputLow i ∈ s.pending ∧ s.o (OD.FAULT_INPUT axis) = i) →
      ∃ t, exec (.stop path axis) s = .next t ∧ answered path (.done []) t ∧ t.axes = s.axes) ∧
    ((s.axes.get axis).state = .idle →
      ∃ t, exec (.setPosition path axis) s = .next t ∧ answered path (.done []) t ∧
        (t.axes.get axis).x = fixOf (s.oi (OD.PRESET_POSITION axis)) ∧ (t.axes.get axis).uncertain = false) ∧
    ((s.axes.get axis).state ≠ .idle →
      ∃ t, exec (.setPosition path axis) s = .next t ∧ answered path (.abort 0x08000022) t ∧ t.axes = s.axes) ∧
    ((s.axes.get axis).state = .fault →
      ∃ t, exec (.clearFault path axis) s = .next t ∧ answered path (.done []) t ∧ (t.axes.get axis).cause = 0 ∧
        (t.axes.get axis).state = .idle) ∧
    ((s.axes.get axis).commit = false → motCause axis s = 0 →
      ∃ t, exec (.motCommit (.object path) axis) s = .next t ∧ answered path (.done []) t ∧ (t.axes.get axis).commit = true ∧
        t.o (OD.MOT_COMMIT_PENDING axis) = 1 ∧ t.live = s.live) ∧
    ((s.axes.get axis).commit = false → motCause axis s ≠ 0 →
      ∃ t, exec (.motCommit (.object path) axis) s = .next t ∧ answered path (.abort 0x06090030) t ∧
        t.o (OD.MOT_COMMIT_CAUSE axis) = motCause axis s ∧ t.axes = s.axes)

/-- R365, R367, R368, R371, R376, R378. Axes in motion: one tick brings a MOVE to its end position when no more than the tick's
distance remains, where the axis takes its shadow set, and else that distance on, no faster than V_LIMIT at either end; an axis
at rest takes its shadow set, unless it was committed in this cycle; 32 bits of each bitstream give a sample of its phase, which the
filter makes of them and of the bits before (log entry 130), and which is ignored within 1 µs of a leg switch; the second over the
limit in a row is FAULT 1 also in DISABLED, and in FAULT where the cause that stands leaves the outputs driven (log entry 189); the
off-time, the watch on the sense lines, a bridge fault and the hold delay act. -/
def Obligations.AxesAreDriven : Prop :=
  ∀ (axis : Fin 8) (s : State), lineOn s = true →
    let counts := fun cause => (s.axes.get axis).state ≠ .fault ∨ lowCause cause = true ∧ lowCause (s.axes.get axis).cause = false
    ((s.axes.get axis).state = .moving → bridgeFault axis s = false →
      let goal : Rat := (s.axes.get axis).target
      let pos : Rat := ((s.axes.get axis).x : Rat) / 2 ^ 32
      let v := min (s.o (OD.V_LIMIT axis) : Rat) (absRat (s.axes.get axis).v)
      let braking := (s.axes.get axis).braking || decide (absRat (goal - pos) ≤ brakeDistance axis v s)
      let v' := min (s.o (OD.V_LIMIT axis) : Rat) (nextSpeed axis braking v s)
      let d := (v + v') / 2 * tickSec
      (absRat (goal - pos) ≤ d →
        ∃ t, exec .profileTick s = .next t ∧ (t.axes.get axis).x = fixOf goal ∧ (t.axes.get axis).state = .idle ∧
          (t.axes.get axis).v = 0 ∧
          ((s.axes.get axis).commit = true → (s.axes.get axis).commitLoc ≠ s.loc + 1 →
            (t.axes.get axis).commit = false ∧ t.l (OD.V_MAX axis) = s.o (OD.V_MAX axis))) ∧
      (d < absRat (goal - pos) → v' ≠ 0 →
        ∃ t, exec .profileTick s = .next t ∧ (t.axes.get axis).x = fixOf (if pos < goal then pos + d else pos - d) ∧
          (t.axes.get axis).state = .moving ∧ absRat (t.axes.get axis).v = absRat v')) ∧
    ((s.axes.get axis).state = .idle → (s.axes.get axis).commit = true → (s.axes.get axis).commitLoc ≠ s.loc + 1 →
      bridgeFault axis s = false →
      ∃ t, exec .profileTick s = .next t ∧ (t.axes.get axis).commit = false ∧ t.l (OD.V_MAX axis) = s.o (OD.V_MAX axis) ∧
        t.l (OD.RUN_CURRENT axis) = s.o (OD.RUN_CURRENT axis) ∧ t.o (OD.MOT_COMMIT_PENDING axis) = 0) ∧
    (∀ wa wb : BitVec 32, (s.axes.get axis).switchLoc ≠ 0 → s.loc + 1 < (s.axes.get axis).switchLoc + ticksUs →
      exec (.currentSample axis wa wb) s = .next (takeBits axis wa wb s)) ∧
    (∀ wa wb : BitVec 32, (s.axes.get axis).switchLoc = 0 ∨ (s.axes.get axis).switchLoc + ticksUs ≤ s.loc + 1 →
      let a := sampleOf axis (streamWith wa (s.axes.get axis).phaseA.stream) s
      let b := sampleOf axis (streamWith wb (s.axes.get axis).phaseB.stream) s
      ∃ t, exec (.currentSample axis wa wb) s = .next t ∧ (t.axes.get axis).phaseA.current = a ∧
        (t.axes.get axis).phaseB.current = b ∧
        (t.axes.get axis).phaseA.stream = streamWith wa (s.axes.get axis).phaseA.stream ∧
        (t.axes.get axis).phaseB.stream = streamWith wb (s.axes.get axis).phaseB.stream ∧
        (counts 1 →
          (s.axes.get axis).phaseA.overNow = true ∧ s.o (OD.OVERCURRENT_LIMIT axis) < a.natAbs ∨
            (s.axes.get axis).phaseB.overNow = true ∧ s.o (OD.OVERCURRENT_LIMIT axis) < b.natAbs →
          (t.axes.get axis).state = .fault ∧ (t.axes.get axis).cause = 1)) ∧
    (∀ bs : List Bool, bs.length = 94 → (∀ x ∈ bs, x = true) → sampleOf axis bs s = s.o (OD.ISENSE_FULL_SCALE axis)) ∧
    (∃ t, exec (.chopOffTimeEnd axis false) s = .next t ∧ (t.axes.get axis).phaseA.decay = false) ∧
    (∃ t, exec (.chopOffTimeEnd axis true) s = .next t ∧ (t.axes.get axis).phaseB.decay = false) ∧
    (counts 7 →
      ((s.axes.get axis).phaseA.legP = true ∨ (s.axes.get axis).phaseA.legN = true →
        ∃ t, exec (.senseTimeout axis false) s = .next t ∧ (t.axes.get axis).state = .fault ∧ (t.axes.get axis).cause = 7) ∧
      ((s.axes.get axis).phaseB.legP = true ∨ (s.axes.get axis).phaseB.legN = true →
        ∃ t, exec (.senseTimeout axis true) s = .next t ∧ (t.axes.get axis).state = .fault ∧ (t.axes.get axis).cause = 7)) ∧
    (counts 2 → ∀ input : Fin 8, s.o (OD.FAULT_INPUT axis) = input →
      ∃ t, exec (.faultInputLow input) s = .next t ∧ t.time.level.get input = false ∧ (t.axes.get axis).state = .fault ∧
        (t.axes.get axis).cause = 2 ∧ (t.axes.get axis).uncertain = true) ∧
    ((s.axes.get axis).v = 0 → (s.axes.get axis).state ≠ .moving → (s.axes.get axis).state ≠ .homing →
      ∃ t, exec (.holdDelayExpiry axis) s = .next t ∧ (t.axes.get axis).holding = true ∧ (t.axes.get axis).x = (s.axes.get axis).x)

/-- R408, R409, R411, R412, R413, R414, R423, R480. The resets that run a start: each kind leaves exactly what its retention class keeps
and records kind and detail, a firmware fault with its ERROR record in the journal first (log entry 225); while a start is in progress a
narrower reset is absorbed. -/
def Obligations.ResetsKeepTheirClasses : Prop :=
  ∀ s : State,
    (∃ t, exec .powerOnReset s = .next t ∧ resetFrom 0 0 s t) ∧
    (s.boot.phase ≠ .starting →
      (∃ t, exec .pinReset s = .next t ∧ resetFrom 1 0 s t) ∧
      (∀ detail : Byte, ∃ t, exec (.wdgReset detail) s = .next t ∧ resetFrom 2 detail.toNat s t) ∧
      (∀ (core : Fin 3) (code : Byte), ∃ t, exec (.cpuFirmwareFault core code) s = .next t ∧
        resetFrom 2 1 (completeOpen (raise EV.CPU_FIRMWARE_FAULT (256 * code.toNat + core) s)) t) ∧
      (∀ rootUnlock : Bool, ∃ t, exec (.crystalLoss rootUnlock) s = .next t ∧ resetFrom 2 (if rootUnlock then 5 else 4) s t ∧
        t.clk.fallback = true ∧ t.o OD.CLOCK_FAILURES = (s.o OD.CLOCK_FAILURES + 1) % 2 ^ 32) ∧
      (s.pwr.state < 3 → ∃ t, exec .ddrPllUnlock s = .next t ∧ resetFrom 2 6 s t ∧
        t.o OD.CLOCK_FAILURES = (s.o OD.CLOCK_FAILURES + 1) % 2 ^ 32)) ∧
    (3 ≤ s.pwr.state → exec .ddrPllUnlock s = .next { s with clk := { s.clk with ddrLock := false } }) ∧
    (∀ rail : Fin 8,
      (rail.val ≤ 1 → ∃ t, exec (.brownoutReset rail) s = .next t ∧ resetFrom 0 0 s t) ∧
      (s.boot.phase ≠ .starting → 2 ≤ rail.val → rail.val ≤ 5 → ∃ t, exec (.brownoutReset rail) s = .next t ∧
        resetFrom 2 (if rail.val ≤ 3 then 7 else 8) s t ∧ t.o OD.BROWNOUTS = (s.o OD.BROWNOUTS + 1) % 2 ^ 32) ∧
      (6 ≤ rail.val → ∃ t, exec (.brownoutReset rail) s = .next t ∧ t.pcie.linkUp = false ∧
        t.boot = (if s.boot.phase = .starting then s.boot else { s.boot with subBusy := [] }) ∧
        t.o OD.BROWNOUTS = (s.o OD.BROWNOUTS + 1) % 2 ^ 32)) ∧
    (s.boot.phase = .starting → s.o OD.RESET_KIND = 0 → exec .pinReset s = .next s ∧ ∀ detail : Byte, exec (.wdgReset detail) s = .next s)

/-- R409, R410, R411, R424, R458. RESET_COMMAND resets with kind SOFT; SUB_RESET takes one subsystem to the defaults of class V; either acts
at once also during an entry to a deeper state; in DOZE or a deeper state either waits for the exit, behind those that wait already; a
number that SUB_RESET does not name answers 0x06090030; the end of a SUB reset, the oldest first, initialises the subsystem again, and
PLAT lets HOLD_N go, unless it holds or PACE pulses the line. -/
def Obligations.ResetCommandsAreTaken : Prop :=
  ∀ (path : Path) (s : State),
    (pathReady path s → ∃ t, exec (.resetCommand path) s = .next t ∧ resetFrom 4 0 s t) ∧
    (pathIdle path s → 2 ≤ s.pwr.state →
      ∃ t, exec (.resetCommand path) s = .next t ∧ answered path (.done []) t ∧ 
        t.pwr.resetWaiting = s.pwr.resetWaiting ++ [(0, 0)] ∧ t.pwr.exiting = true ∧ t.boot = s.boot) ∧
    (∀ number : Byte, pathReady path s → subNumber number.toNat = true → (subHeld number.toNat = true → formesBusy s = false) →
      ∃ t, exec (.subReset path number) s = .next t ∧ answered path (.done []) t ∧ t.boot = { s.boot with subBusy := [number.toNat] } ∧
        ∀ key, key ∉ eventKeys → ownerOf key = number.toNat → clsOf key = .v → t.o key = dfltOf key) ∧
    (∀ number : Byte, pathIdle path s → subNumber number.toNat = true → (subHeld number.toNat = true → formesBusy s = false) →
      2 ≤ s.pwr.state →
      ∃ t, exec (.subReset path number) s = .next t ∧ answered path (.done []) t ∧
        t.pwr.resetWaiting = s.pwr.resetWaiting ++ [(1, number.toNat)] ∧ t.pwr.exiting = true ∧ t.boot = s.boot) ∧
    (∀ number : Byte, pathReady path s → subNumber number.toNat = false →
      ∃ t, exec (.subReset path number) s = .next t ∧ answered path (.abort 0x06090030) t ∧ t.boot = s.boot) ∧
    (∀ n rest, s.boot.subBusy = n :: rest →
      ∃ t, exec .pwrSubResetDone s = .next t ∧ t.boot = { s.boot with subBusy := rest } ∧
        (n = 11 → t.plat.initDone = true ∧ t.pins.holdN = (!s.plat.held && !s.pace.holdPulse)))

/-- R75, R386, R387, R388, R389, R390, R391, R451. A start that nothing cuts short, with no request waiting in the object server, ends in
one of three ways: ready, with the counts of failed starts cleared and every unit initialised; failed, with its cause and a WDG reset;
or, from the third failure on, bare-forme mode. One that is cut short (log entry 225) at step 3 or later has been counted, and one cut
short at step 1 has not; one cut short in step 4 has reverted a trial that has failed. A short start (NET, SOFT) boots the slot that was
running, with the DRAM as it is unless a SLEEP has left it without power. In test mode, which power-on samples, no start runs, and none
expires. TRIAL at a start of the active slot is log entry 200. -/
def Obligations.StartEndsReadyFailedOrBare : Prop :=
  ∀ (r : StartReport) (s : State), s.boot.phase = .starting → s.srv.waiting = [] →
    let testMode := if s.o OD.RESET_KIND = 0 then r.testMode else s.boot.testMode
    (testMode = false → r.stopsIn = none →
      ∃ t, exec (.start r) s = .next t ∧
        ((t.boot.phase = .ready ∧ t.boot.mirrorFails = 0 ∧ t.o OD.FAILED_STARTS = 0 ∧
            (t.o OD.ACTIVE_SLOT = t.boot.running → t.o OD.TRIAL = 0) ∧
            (s.o OD.RESET_KIND < 3 → t.o OD.ACTIVE_SLOT = t.boot.running) ∧
            t.o OD.START_TIME = r.elapsed % 2 ^ 32 ∧ t.plat.initDone = true ∧ t.pins.holdN = (!s.plat.held) ∧ r.elapsed ≤ 3000) ∨
          (t.boot.phase = .bare ∧ t.net.forwarding = true ∧ t.plat.initDone = s.plat.initDone) ∨
          (t.boot.phase = .starting ∧ t.o OD.RESET_KIND = 2 ∧ t.o OD.RESET_DETAIL = 2 ∧ 1 ≤ t.boot.mirrorCause ∧ t.boot.mirrorCause ≤ 9))) ∧
    (testMode = true → ∃ t, exec (.start r) s = .next t ∧ t.boot = { s.boot with testMode := true } ∧ t.net = s.net ∧ t.od = s.od ∧
      (s.o OD.RESET_KIND = 0 → t.clk.bypass = r.refBypass)) ∧
    (s.o OD.RESET_KIND < 3 → testMode = false → cutBy 1 r = false → r.pllLocks = false →
      ∃ t, exec (.start r) s = .next t ∧ t.boot.mirrorCause = 6 ∧ t.o OD.RESET_KIND = 2 ∧ t.o OD.RESET_DETAIL = 2) ∧
    (3 ≤ s.o OD.RESET_KIND → s.boot.testMode = false →
      (cutBy 1 r = true → exec (.start r) s = .next (forwardFrames s)) ∧
      (r.flashAnswers = true → cutBy 2 r = false →
        let s1 := readPair (choosePair r.pairOk s.tymp) (forwardFrames s)
        (r.stopsIn ≠ none → s.boot.counted = false → failedStarts s1 < 3 →
          ∃ t, exec (.start r) s = .next t ∧ t.boot.phase = .starting ∧ t.boot.mirrorFails = failedStarts s1 + 1 ∧
            (cutBy 4 r = true → t.boot.counted = true ∧ t.o OD.FAILED_STARTS = failedStarts s1 + 1) ∧
            (cutBy 3 r = true → t.o OD.ACTIVE_SLOT = s1.o OD.ACTIVE_SLOT ∧ t.o OD.TRIAL = s1.o OD.TRIAL) ∧
            (cutBy 3 r = false → cutBy 4 r = true → s1.ob OD.TRIAL = true → 1 ≤ failedStarts s1 →
              t.o OD.ACTIVE_SLOT = 1 - s1.o OD.ACTIVE_SLOT ∧ t.o OD.TRIAL = 0)) ∧
        (∀ booted, r.stopsIn = none → s.ddr.state ≠ 0 → (choosePair r.pairOk s.tymp).isSome = true → s.boot.counted = true ∨ failedStarts s1 < 3 →
          chooseSlot true (revertTrial (verifySlots true (countStart false s1))) = some booted →
          r.copyRead = none → r.headSupplyOk = true → r.initOk = true → r.elapsed ≤ 3000 →
          ∃ t, exec (.start r) s = .next t ∧ t.boot.phase = .ready ∧ t.boot.running = booted) ∧
        (choosePair r.pairOk s.tymp = none → s.boot.counted = false → 3 ≤ failedStarts s →
          ∃ t, exec (.start r) s = .next t ∧ t.boot.phase = .bare ∧ t.o OD.BARE_CAUSE = lastCause s % 256))) ∧
    (s.boot.testMode = true → exec .startWatchdog s = .next s) ∧
    (s.boot.testMode = false → ∃ t, exec .startWatchdog s = .next t ∧ t.boot.phase = .starting ∧ t.boot.mirrorCause = 3 ∧ t.o OD.RESET_KIND = 2 ∧ t.o OD.RESET_DETAIL = 2)

/-- R387, R394, R395, R398, R399, R400, R401. Boot commands over a ready path: ACTIVATE of a valid slot and RESTART write a BOOT record
that the answer waits for; the record of a RESTART that finds no room waits for the compaction that it starts, and with a journal that
cannot be read RESTART acts at once; ACTIVATE of a slot that is not valid is refused; JOURNAL_FORMAT is taken only where the journal
cannot be read, and is no compaction; a compaction that ends switches to the other pair, with the next GENERATION, and keeps the old
one beside it until the next record commits (log entry 226). -/
def Obligations.BootCommandsWriteTheirRecord : Prop :=
  ∀ (path : Path) (s : State),
    (pathReady path s → s.tymp.blocked = false →
      (∀ p, activateRecord 0 s = some p → journalRoom p s = true →
        ∃ t, exec (.activateA path) s = .next t ∧ t.tymp.open_ = s.tymp.open_ ++ [⟨p, .answer path []⟩] ∧ t.srv.busy = true) ∧
      (∀ p, activateRecord 1 s = some p → journalRoom p s = true →
        ∃ t, exec (.activateB path) s = .next t ∧ t.tymp.open_ = s.tymp.open_ ++ [⟨p, .answer path []⟩] ∧ t.srv.busy = true) ∧
      (journalRoom (restartRecord s) s = true →
        ∃ t, exec (.restart path) s = .next t ∧ 
          t.tymp.open_ = s.tymp.open_ ++ [⟨restartRecord s, .answer path [(OD.BOOT_COMMAND, [3])]⟩] ∧
          t.srv.busy = true ∧ t.pwr.restartWaiting = true) ∧
      (s.tymp.state ≠ 4 → journalRoom (restartRecord s) s = false →
        ∃ t, exec (.restart path) s = .next t ∧ t.tymp.state = 2 ∧ t.tymp.open_ = s.tymp.open_ ∧
          t.tymp.stalled = s.tymp.stalled ++ [⟨restartRecord s, .answer path [(OD.BOOT_COMMAND, [3])]⟩] ∧
          t.srv.busy = true ∧ t.pwr.restartWaiting = true)) ∧
    (pathReady path s → s.tymp.state = 4 → s.tymp.stalled = [] →
      ∃ t, exec (.restart path) s = .next t ∧ t.boot.phase = .starting ∧ t.boot.mirrorFails = 0 ∧ t.o OD.RESET_KIND = 2 ∧
        t.o OD.RESET_DETAIL = 3) ∧
    (pathReady path s → activateRecord 0 s = none →
      ∃ t, exec (.activateA path) s = .next t ∧ answered path (.abort 0x08000020) t ∧ t.tymp = s.tymp) ∧
    (pathReady path s → activateRecord 1 s = none →
      ∃ t, exec (.activateB path) s = .next t ∧ answered path (.abort 0x08000020) t ∧ t.tymp = s.tymp) ∧
    (pathReady path s → s.tymp.state = 4 →
      ∃ t, exec (.journalFormat path) s = .next t ∧ answered path (.done []) t ∧ t.tymp.state = 2 ∧ t.tymp.objs = [] ∧ t.tymp.logBytes = 0 ∧
        t.tymp.generation = 0 ∧ t.tymp.seq = s.tymp.seq) ∧
    (pathReady path s → s.tymp.state ≠ 4 →
      ∃ t, exec (.journalFormat path) s = .next t ∧ answered path (.abort 0x08000020) t ∧ t.tymp = s.tymp) ∧
    (s.tymp.state = 2 → s.tymp.stalled = [] → s.pwr.restartWaiting = false → s.srv.waiting = [] →
      4 * s.tymp.snapBytes < 3 * logSector →
      ∃ t, exec .tympCompactionDone s = .next t ∧ t.tymp.state = 1 ∧ t.tymp.pair = 1 - s.tymp.pair ∧
        t.tymp.generation = nextGeneration s.tymp.generation ∧ 1 ≤ t.tymp.generation ∧ t.tymp.generation ≤ 0xFFFFFFFE ∧
        t.tymp.logBytes = s.tymp.snapBytes ∧ t.tymp.image = s.tymp.newImage ∧
        t.tymp.spare = (if s.tymp.generation = 0 then none else some s.tymp.inUse) ∧
        t.o OD.COMPACTIONS = if s.tymp.generation = 0 then s.o OD.COMPACTIONS else (s.o OD.COMPACTIONS + 1) % 2 ^ 32)

/-- R113, R357, R359, R406, R415, R418, R419, R420, R421, R423, R424. A rail that sags sets its bit of SUPPLY_STATUS and raises
PWR_BROWNOUT_WARN, but no event where the reset of the rail comes in the same cycle; its recovery clears the bit. Power states: the scheduled wake begins the exit, or reverses an entry;
the exit ends in READY or RUN, and that from STANDBY makes one tracking pass over the DRAM, but in fixed-delay mode; an entry completes
in its state if its latency still fits the slack, with the DRAM in self-refresh and its PLL stopped in STANDBY, and without its
contents in SLEEP, which is not entered if its conditions no longer hold; with a demand of the same cycle still to come it does not
complete; a late wake is counted. -/
def Obligations.PowerStatesAreEnteredAndLeft : Prop :=
  (∀ (rail : Fin 8) (s : State),
    (∃ t, exec (.pwrBrownoutWarn rail) s = .next t ∧ bit (t.o OD.SUPPLY_STATUS) rail = true ∧
      (Instr.brownoutReset rail ∈ s.pending → t.dev = s.dev) ∧
      (Instr.brownoutReset rail ∉ s.pending → ∃ u, t = raise EV.PWR_BROWNOUT_WARN rail u) ∧
      ∀ k : Fin 8, k ≠ rail → bit (t.o OD.SUPPLY_STATUS) k = bit (s.o OD.SUPPLY_STATUS) k) ∧
    (bit (s.o OD.SUPPLY_STATUS) rail = true → ∃ t, exec (.pwrBrownoutClear rail) s = .next t ∧ bit (t.o OD.SUPPLY_STATUS) rail = false ∧
      ∀ k : Fin 8, k ≠ rail → bit (t.o OD.SUPPLY_STATUS) k = bit (s.o OD.SUPPLY_STATUS) k)) ∧
  ∀ s : State,
    (2 ≤ s.pwr.state ∨ s.pwr.entering.isSome = true →
      exec .scheduledWake s = .next { s with pwr := { s.pwr with exiting := true, entering := none } }) ∧
    (s.pwr.state < 2 → s.pwr.entering = none → exec .scheduledWake s = .next s) ∧
    (∀ train : TrainReport, s.pwr.exiting = true → s.pwr.resetWaiting = [] → s.pwr.held = [] → s.srv.waiting = [] →
      (2 ≤ s.pwr.state → ∃ t, exec (.powerExitComplete train) s = .next t ∧ t.pwr.exiting = false ∧ t.pwr.state ≤ 1) ∧
      (s.pwr.state = 3 → s.ddr.state = 3 → s.ddr.waiting = [] →
        ∃ t, exec (.powerExitComplete train) s = .next t ∧ t.ddr.state = 2 ∧ t.clk.ddrLock = true ∧ t.ddr.mem = s.ddr.mem ∧
          (s.ddr.fixed = true → t.ddr = { s.ddr with state := 2, channels := s.ddr.channels.map fun c => { c with state := 2 } }) ∧
          (s.ddr.fixed = false → ∀ c : Fin 4,
            (t.ddr.channels.get c).trackAt = s.loc ∧
            (t.ddr.channels.get c).drift =
              (s.ddr.channels.get c).drift.mapIdx fun i d => d + (train.drift.getD c []).getD i 0))) ∧
    (∀ source : Byte, s.pwr.exiting = true →
      ∃ t, exec (.pwrWakeLate source) s = .next t ∧ t.o OD.WAKE_LATE = (s.o OD.WAKE_LATE + 1) % 2 ^ 32) ∧
    (∀ n, s.pwr.entering = some n → s.pending.any (demands { s with pwr := { s.pwr with entering := none } }) = true →
      exec .powerEntryComplete s = .next { s with pwr := { s.pwr with entering := none } }) ∧
    (s.pending.any (demands { s with pwr := { s.pwr with entering := none } }) = false →
    (∀ n, n = 2 ∨ n = 3 → s.pwr.entering = some n → stillFits n { s with pwr := { s.pwr with entering := none } } = false →
      ∃ t, exec .powerEntryComplete s = .next t ∧ t.ddr = s.ddr ∧ t.disp = s.disp ∧ (s.pwr.state ≠ n → t.pwr.state ≠ n)) ∧
    (s.pwr.entering = some 2 → stillFits 2 { s with pwr := { s.pwr with entering := none } } = true →
      ∃ t, exec .powerEntryComplete s = .next t ∧ t.pwr.state = 2 ∧ t.pwr.entering = none ∧ t.ddr = s.ddr) ∧
    (s.pwr.entering = some 3 → stillFits 3 { s with pwr := { s.pwr with entering := none } } = true →
      ∃ t, exec .powerEntryComplete s = .next t ∧ t.pwr.state = 3 ∧ t.pwr.entering = none ∧ t.ddr.state = 3 ∧ t.ddr.mem = s.ddr.mem ∧
        t.clk.ddrLock = false ∧ t.disp.panelOn = false ∧ t.disp.pending = none) ∧
    (s.pwr.entering = some 4 →
      (sleepPermitted { s with pwr := { s.pwr with entering := none } } = true →
        ∃ t, exec .powerEntryComplete s = .next t ∧ t.pwr.state = 4 ∧ t.pwr.entering = none ∧ t.ddr.state = 0 ∧ t.live = [] ∧
          t.pcie.linkUp = false) ∧
      (sleepPermitted { s with pwr := { s.pwr with entering := none } } = false →
        ∃ t, exec .powerEntryComplete s = .next t ∧ t.ddr = s.ddr ∧ t.live = s.live ∧ (s.pwr.state ≠ 4 → t.pwr.state ≠ 4))))

/-- R446. A reading of the on-die sensor is reported in JUNCTION_TEMP, and is the temperature that the quick path of the training
compares with the recorded one; the highest is kept. When it reaches TEMP_HIGH_LIMIT, DEVICE_TEMP_HIGH is raised once, and again only
after a reading below TEMP_HIGH_LIMIT − 5.0 °C. The device takes no other action: only the reading's own parts and those of an event
change, but for a wake from SLEEP. -/
def Obligations.DieTemperatureIsWatched : Prop :=
  (∀ delays : List Byte, ∃ recorded : Int, ∀ (temp : Int) (s : State), -32768 ≤ temp → temp ≤ 32767 →
    ∃ t, exec (.junctionTempSample temp) s = .next t ∧ tempMatches delays t = decide ((temp - recorded).natAbs ≤ 200)) ∧
  ∀ (temp : Int) (s : State), -32768 ≤ temp → temp ≤ 32767 →
    ∃ t, exec (.junctionTempSample temp) s = .next t ∧ t.oi OD.JUNCTION_TEMP = temp ∧
      t.oi OD.JUNCTION_MAX = max temp (s.oi OD.JUNCTION_MAX) ∧
      (s.pwr.state ≠ 4 →
        (s.oi OD.TEMP_HIGH_LIMIT ≤ temp → s.pwr.tempArmed = true →
          t.pwr.tempArmed = false ∧ ∃ u, t = raise EV.DEVICE_TEMP_HIGH (unsignedOf 16 (temp / 10)) u) ∧
        (s.oi OD.TEMP_HIGH_LIMIT ≤ temp → s.pwr.tempArmed = false → t.pwr = s.pwr ∧ t.dev = s.dev ∧ t.pcie = s.pcie) ∧
        (s.oi OD.TEMP_HIGH_LIMIT - 50 ≤ temp → temp < s.oi OD.TEMP_HIGH_LIMIT → t.pwr = s.pwr ∧ t.dev = s.dev ∧ t.pcie = s.pcie) ∧
        (temp < s.oi OD.TEMP_HIGH_LIMIT - 50 →
          t.pwr = { s.pwr with tempArmed := true } ∧ t.dev = s.dev ∧ t.pcie = s.pcie)) ∧
      t.web = s.web ∧ t.plat = s.plat ∧ t.formes = s.formes ∧ t.comp = s.comp ∧ t.ports = s.ports ∧ t.axes = s.axes ∧
      t.rings = s.rings ∧ t.ddr = s.ddr ∧ t.boot = s.boot

/-- R437, R451. The test port: IDCODE, BYPASS and SAMPLE act whatever the lock; any other instruction acts as BYPASS while the port
is locked, and is refused while it is unlocked, since what it then does is not described. -/
def Obligations.TestPortObeysItsLock : Prop :=
  ∀ s : State,
    exec .idcode s = .next { s with pins := { s.pins with jtagOut := jtagIdcode } } ∧ jtagIdcode % 2 ^ 28 = 0x2440C9D ∧
    exec .bypass s = .next { s with pins := { s.pins with jtagOut := 0 } } ∧
    (∀ pins : List Bool, exec (.sample pins) s = .next { s with pins := { s.pins with jtagSampled := pins } }) ∧
    (∀ code : Nat, s.sec.unlocked = false → exec (.debugInstruction code) s = .next { s with pins := { s.pins with jtagOut := 0 } }) ∧
    (∀ code : Nat, s.sec.unlocked = true → exec (.debugInstruction code) s = .refused .debugUnitNotDescribed)

/-- R420. SLEEP is entered exactly when all its conditions hold: DEEPEST_STATE 4, in STANDBY for SLEEP_IDLE, no forme context in
use, no ring pending, no compare unit armed, a FOLLOWER without its pace link on both sides, no PCIe link, no axis in motion,
and 40 ms of slack without EtherCAT frames; an entry whose conditions still hold at its end returns every value of class V, but
those of the slave controller's objects (log entry 141), to its default. -/
def Obligations.SleepNeedsAllItsConditions : Prop :=
  ∀ s : State,
    (s.pwr.exiting = false → s.pwr.entering = none →
      let holds := s.o OD.DEEPEST_STATE = 4 ∧ s.pwr.state = 3 ∧
        (∀ f : Fin 256, (s.formes.get f).state = .empty ∨ (s.formes.get f).state = .retired) ∧ ringsPending s = false ∧
        (∀ u : Fin 16, s.ob (OD.CMP_ARM u) = false) ∧ s.pace.role = 0 ∧ (s.pace.upVersion = 0 ∨ s.pace.dnVersion = 0) ∧
        (s.pcie.perst = false ∨ s.pcie.trained = false ∨ (s.pcie.d3hot = true ∧ s.pcie.l23 = true)) ∧
        (∀ a : Fin 8, (s.axes.get a).state ≠ .moving ∧ (s.axes.get a).state ≠ .homing ∧ (s.axes.get a).state ≠ .segments) ∧
        fits 40000 (slackOf (calendar false s) s) = true
      (holds → ∃ t, exec .sleepIdleExpiry s = .next t ∧ t.pwr.entering = some 4 ∧ t.od = s.od) ∧
        (¬ holds → exec .sleepIdleExpiry s = .next s)) ∧
    (s.pwr.entering = some 4 → sleepPermitted { s with pwr := { s.pwr with entering := none } } = true →
      s.pending.any (demands { s with pwr := { s.pwr with entering := none } }) = false →
      ∃ t, exec .powerEntryComplete s = .next t ∧ t.pwr.state = 4 ∧
        ∀ key, clsOf key = .v → netObject key = false → key ∉ eventKeys → t.o key = dfltOf key)

/-- R463, R464, R465, R467, R468, R469, R470, R473. The bar display: a push over a ready path that passes its checks is pending, and one
that does not shows its cause; the next blanking starts it; its rows go out on both links, each link the part of a region on its half,
in the palette's colours as they are then, and its end counts; the estimated scan row follows the time since the blanking; the panel is
initialised once, with its start-up commands on both links and a push of the firmware's cells; a cell of the firmware is pushed again.
The addresses that 0x2A and 0x2B carry and how a cell is drawn are log entry 220. -/
def Obligations.DisplayPushesArePublished : Prop :=
  (∀ (path : Path) (first : Byte) (count : BitVec 16) (s : State), pathReady path s →
    s.o OD.HOST_CELLS < 2 ^ 24 → s.o OD.LINE_MATCH < 64 → count.toNat ≤ 256 →
    (pushCause first.toNat count.toNat s = 0 →
      ∃ t, exec (.dispPush (.object path) first count) s = .next t ∧ answered path (.done []) t ∧
        t.disp.pending = some ⟨(List.range count.toNat).map (fun i => regionAt (first.toNat + i) s), false⟩ ∧
        t.o OD.PUSH_FIRST = first.toNat ∧ t.o OD.PUSH_COUNT = count.toNat) ∧
    (pushCause first.toNat count.toNat s ≠ 0 →
      ∃ t, exec (.dispPush (.object path) first count) s = .next t ∧
        answered path (.abort (pushAbort (pushCause first.toNat count.toNat s))) t ∧ t.disp.pending = s.disp.pending ∧
        t.disp.cause = pushCause first.toNat count.toNat s)) ∧
  (∀ s : State, lineOn s = true →
    (s.disp.running = none → s.disp.redraw = [] → ∀ p, s.disp.pending = some p →
      (p.regions ≠ [] →
        ∃ t, exec .dispTeBlank s = .next t ∧ t.disp.pending = none ∧ t.disp.running = some p ∧ t.disp.rowsSent = 0 ∧
          t.disp.scanNext = 0 ∧ t.disp.teLoc = s.loc + 1) ∧
      (p.regions = [] →
        ∃ t, exec .dispTeBlank s = .next t ∧ t.disp.pending = none ∧ t.disp.running = none ∧
          t.o OD.PUSH_SEQ = (s.o OD.PUSH_SEQ + 1) % 2 ^ 32)) ∧
    (∀ skewNs : Nat, ∃ t, exec (.dsi1TeEdge skewNs) s = .next t ∧ t.disp = { s.disp with teSkew := decide (2000 < skewNs) }) ∧
    (∀ p, s.disp.running = some p → s.disp.landing = [] → s.srv.waiting = [] →
      ∃ t, exec .dispFrameDone s = .next t ∧ t.disp.running = none ∧ t.o OD.PUSH_SEQ = (s.o OD.PUSH_SEQ + 1) % 2 ^ 32 ∧
        (p.firmware = false → t.disp.sent = s.disp.sent ++
          (p.rows.drop s.disp.rowsSent).flatMap fun x => rowPart false x.1 x.2 0 s ++ rowPart false x.1 x.2 1 s)) ∧
    (∀ rowsSent : Nat,
      let since := s.loc + 1 - s.disp.teLoc - s.o OD.SCAN_START * ticksUs
      (s.disp.teLoc ≠ 0 → s.disp.teLoc + s.o OD.SCAN_START * ticksUs ≤ s.loc + 1 →
        ∃ t, exec (.scanRowAdvance rowsSent) s = .next t ∧
          t.disp.scanNext = max s.disp.scanNext (min 64 (since / (s.o OD.SCAN_ROW_TIME * ticksUs) + 1)) ∧
          (∀ p, s.disp.running = some p → t.disp.rowsSent = max s.disp.rowsSent (min rowsSent p.rows.length))) ∧
      (s.disp.teLoc ≠ 0 → s.loc + 1 < s.disp.teLoc + s.o OD.SCAN_START * ticksUs → s.disp.running = none →
        exec (.scanRowAdvance rowsSent) s = .next s)) ∧
    (s.disp.panelOn = false → s.disp.pending = none → s.disp.redraw = [] →
      let cells := (List.range 24).filter fun h => firmwareCell h s
      ∃ t, exec .panelInit s = .next t ∧ t.disp.panelOn = true ∧
        t.disp.sent = s.disp.sent ++ startUpCommands 0 ++ startUpCommands 1 ∧
        (cells ≠ [] → t.disp.pending = some ⟨cells.map cellRegion, true⟩)) ∧
    (∀ head : Fin 24, bit (s.o OD.HOST_CELLS) head = false → s.disp.panelOn = true → s.disp.pending = none →
      kget (fun _ => 0) s.disp.repushStamp head = 0 → s.disp.redraw = [] →
      ∃ t, exec (.cellRepush head) s = .next t ∧ t.disp.pending = some ⟨[cellRegion head], true⟩))

end
end

