-- ==== Sys2Proof/Laws/Crypto.lean ====
section
/-! SUPPORT. Laws/Crypto.lean: the lengths of what the security unit computes (R433, R439). -/

namespace Sys2Proof.Machine

open Sys2Proof

theorem shaRound_length (x : List (BitVec 32) × List (BitVec 32)) (k : BitVec 32) (h : x.1.length = 8) : (shaRound x k).1.length = 8 := by
  obtain ⟨l, w⟩ := x
  match l, h with
  | [_, _, _, _, _, _, _, _], _ => cases w <;> rfl

theorem shaRounds_length (ks : List (BitVec 32)) (x : List (BitVec 32) × List (BitVec 32)) (h : x.1.length = 8) :
    (ks.foldl shaRound x).1.length = 8 := by
  induction ks generalizing x with
  | nil => exact h
  | cons k ks ih => exact ih _ (shaRound_length x k h)

theorem shaBlocks_length (bs : List (List Byte)) (l : List (BitVec 32)) (h : l.length = 8) : (bs.foldl shaBlock l).length = 8 := by
  induction bs generalizing l with
  | nil => exact h
  | cons b bs ih =>
    refine ih _ ?_
    rw [shaBlock, List.length_zipWith, h, shaRounds_length _ _ h, Nat.min_self]

/-- A SHA-256 digest has 32 bytes. -/
theorem sha256_length (m : List Byte) : (sha256 m).length = 32 := by
  have h : ∀ l : List (BitVec 32), (l.flatMap fun x => beBytes 4 x.toNat).length = 4 * l.length := by
    intro l
    induction l with
    | nil => rfl
    | cons x l ih => rw [List.flatMap_cons, List.length_append, ih]; simp [beBytes]; omega
  rw [sha256, h, shaBlocks_length _ _ rfl]

/-- A consent tag has 16 bytes (R433). -/
theorem consentTag_length (party counter key : Nat) (s : State) : (consentTag party counter key s).length = 16 := by
  rw [consentTag, List.length_take, hmacSha256, sha256_length]; rfl

end Sys2Proof.Machine
end

