-- ==== Sys2Proof/Laws/Formes.lean ====
section
/-! SUPPORT. Laws/Formes.lean: what the searches over the forme contexts answer. -/

namespace Sys2Proof.Machine

open Sys2Proof

/-- A context is found exactly when its number is one of the 256 and it meets the condition. -/
theorem mem_formesWith (p : Forme → Bool) (f : Nat) (s : State) : f ∈ formesWith p s ↔ f < 256 ∧ p (formeOf f s) = true := by
  have hl : s.formes.toList.length = 256 := by simp
  simp only [formesWith, List.mem_map, List.mem_filter, Prod.exists, exists_eq_right]
  constructor
  · rintro ⟨a, hm, hp⟩
    obtain ⟨i, hi, he⟩ := List.mem_iff_getElem.1 hm
    rw [List.getElem_zip] at he
    simp only [List.length_zip, hl, List.length_range, Nat.min_self] at hi
    simp only [List.getElem_range, Prod.mk.injEq] at he
    obtain ⟨ha, rfl⟩ := he
    refine ⟨hi, ?_⟩
    have : formeOf i s = a := by
      rw [← ha]; simp [formeOf, vgetN, Vector.get, Nat.min_eq_left (Nat.le_of_lt_succ hi)]
    rw [this]; exact hp
  · rintro ⟨hf, hp⟩
    refine ⟨formeOf f s, ?_, hp⟩
    refine List.mem_iff_getElem.2 ⟨f, by simp [hf], ?_⟩
    rw [List.getElem_zip]
    simp [formeOf, vgetN, Vector.get, Nat.min_eq_left (Nat.le_of_lt_succ hf)]

/-- A forme is found on a head exactly when its state meets the condition and it has a stream for the head. -/
theorem mem_formesOn (h f : Nat) (p : FormeState → Bool) (s : State) :
    f ∈ formesOn h p s ↔ f < 256 ∧ p (formeOf f s).state = true ∧ hasHead f h s = true := by
  rw [formesOn, List.mem_filter, mem_formesWith, and_assoc]

end Sys2Proof.Machine
end

