-- ==== Sys2Proof/Laws/Store.lean ====
section
/-! SUPPORT. Laws/Store.lean: the laws of the sparse stores: a read after a write of the same key gives the value written,
other keys keep theirs, and every operation keeps the canonical form; the DRAM contents and the objects are such stores. -/

namespace Sys2Proof.Machine

variable {α : Type}

/-! ### One key -/

theorem kget_kput_same (d : Nat → α) (k : Nat) (v : α) (m : List (Nat × α)) : kget d (kput k v m) k = v := by
  induction m with
  | nil => simp [kput, kget]
  | cons h t ih =>
    obtain ⟨a, w⟩ := h
    unfold kput
    split
    · simp [kget]
    · split
      · simp [kget]
      · rename_i h1 h2
        simp [kget, Ne.symm h2, ih]

theorem kget_kput_other (d : Nat → α) {k j : Nat} (h : j ≠ k) (v : α) (m : List (Nat × α)) :
    kget d (kput k v m) j = kget d m j := by
  induction m with
  | nil => simp [kput, kget, Ne.symm h]
  | cons x t ih =>
    obtain ⟨a, w⟩ := x
    unfold kput
    split
    · simp [kget, Ne.symm h]
    · split
      · rename_i h1 h2
        subst h2
        simp [kget, Ne.symm h]
      · simp [kget, ih]

theorem kget_kdel_same (d : Nat → α) (k : Nat) (m : List (Nat × α)) : kget d (kdel k m) k = d k := by
  induction m with
  | nil => rfl
  | cons x t ih =>
    obtain ⟨a, w⟩ := x
    unfold kdel
    split
    · exact ih
    · rename_i h
      simp [kget, h, ih]

theorem kget_kdel_other (d : Nat → α) {k j : Nat} (h : j ≠ k) (m : List (Nat × α)) :
    kget d (kdel k m) j = kget d m j := by
  induction m with
  | nil => rfl
  | cons x t ih =>
    obtain ⟨a, w⟩ := x
    unfold kdel
    split
    · rename_i h1
      subst h1
      simp [kget, Ne.symm h, ih]
    · simp [kget, ih]

/-! ### The canonical form -/

theorem krising_weaken {lo hi : Nat} (h : lo ≤ hi) (m : List (Nat × α)) (hm : krising hi m = true) : krising lo m = true := by
  cases m with
  | nil => rfl
  | cons x t =>
    obtain ⟨a, w⟩ := x
    simp only [krising, Bool.and_eq_true, decide_eq_true_eq] at hm ⊢
    exact ⟨by omega, hm.2⟩

theorem krising_kput {lo k : Nat} (hk : lo ≤ k) (v : α) (m : List (Nat × α)) (hm : krising lo m = true) :
    krising lo (kput k v m) = true := by
  induction m generalizing lo with
  | nil => simp [kput, krising]; omega
  | cons x t ih =>
    obtain ⟨a, w⟩ := x
    simp only [krising, Bool.and_eq_true, decide_eq_true_eq] at hm
    unfold kput
    split
    · simp only [krising, Bool.and_eq_true, decide_eq_true_eq]
      exact ⟨by omega, by omega, hm.2⟩
    · split
      · rename_i h1 h2
        subst h2
        simp only [krising, Bool.and_eq_true, decide_eq_true_eq]
        exact ⟨by omega, hm.2⟩
      · simp only [krising, Bool.and_eq_true, decide_eq_true_eq]
        exact ⟨hm.1, ih (by omega) hm.2⟩

theorem krising_kdel {lo : Nat} (k : Nat) (m : List (Nat × α)) (hm : krising lo m = true) :
    krising lo (kdel k m) = true := by
  induction m generalizing lo with
  | nil => rfl
  | cons x t ih =>
    obtain ⟨a, w⟩ := x
    simp only [krising, Bool.and_eq_true, decide_eq_true_eq] at hm
    unfold kdel
    split
    · exact krising_weaken (by omega) _ (ih hm.2)
    · simp only [krising, Bool.and_eq_true, decide_eq_true_eq]
      exact ⟨hm.1, ih hm.2⟩

theorem all_kput (p : Nat × α → Bool) (k : Nat) (v : α) (m : List (Nat × α)) (hv : p (k, v) = true)
    (hm : m.all p = true) : (kput k v m).all p = true := by
  induction m with
  | nil => simp [kput, hv]
  | cons x t ih =>
    obtain ⟨a, w⟩ := x
    simp only [List.all_cons, Bool.and_eq_true] at hm
    unfold kput
    split
    · simp [hv, hm.1, hm.2]
    · split
      · simp [hv, hm.2]
      · simp [hm.1, ih hm.2]

theorem all_kdel (p : Nat × α → Bool) (k : Nat) (m : List (Nat × α)) (hm : m.all p = true) : (kdel k m).all p = true := by
  induction m with
  | nil => rfl
  | cons x t ih =>
    obtain ⟨a, w⟩ := x
    simp only [List.all_cons, Bool.and_eq_true] at hm
    unfold kdel
    split
    · exact ih hm.2
    · simp [hm.1, ih hm.2]

variable [DecidableEq α]

theorem kget_kset_same (d : Nat → α) (k : Nat) (v : α) (m : List (Nat × α)) : kget d (kset d k v m) k = v := by
  unfold kset
  split
  · rename_i h; rw [kget_kdel_same, h]
  · exact kget_kput_same d k v m

theorem kget_kset_other (d : Nat → α) {k j : Nat} (h : j ≠ k) (v : α) (m : List (Nat × α)) :
    kget d (kset d k v m) j = kget d m j := by
  unfold kset
  split
  · exact kget_kdel_other d h m
  · exact kget_kput_other d h v m

/-- A write keeps the canonical form. -/
theorem kwf_kset (d : Nat → α) (k : Nat) (v : α) (m : List (Nat × α)) (hm : kwf d m = true) :
    kwf d (kset d k v m) = true := by
  unfold kwf at hm ⊢
  rw [Bool.and_eq_true] at hm ⊢
  unfold kset
  split
  · exact ⟨krising_kdel k m hm.1, all_kdel _ k m hm.2⟩
  · rename_i h
    exact ⟨krising_kput (Nat.zero_le k) v m hm.1, all_kput _ k v m (by simp [h]) hm.2⟩

/-! ### DRAM -/

/-- A byte written is read back. -/
theorem read_write_same (m : List Host.Cell) (a : Nat) (b : Byte) : Memory.read (Memory.write a b m) a = b :=
  kget_kset_same memDflt a b m

/-- A write leaves every other byte. -/
theorem read_write_other (m : List Host.Cell) {a c : Nat} (h : c ≠ a) (b : Byte) :
    Memory.read (Memory.write a b m) c = Memory.read m c :=
  kget_kset_other memDflt h b m

/-- Writes of consecutive bytes leave every byte outside them. -/
theorem read_writes_outside (bs : List Byte) (m : List Host.Cell) {a c : Nat} (h : c < a ∨ a + bs.length ≤ c) :
    Memory.read (Memory.writes a bs m) c = Memory.read m c := by
  induction bs generalizing a m with
  | nil => rfl
  | cons b bs ih =>
    simp only [List.length_cons] at h
    unfold Memory.writes
    rw [ih _ (by omega), read_write_other _ (by omega)]

/-- Writes of consecutive bytes are read back. -/
theorem read_writes_inside (bs : List Byte) (m : List Host.Cell) (a i : Nat) (h : i < bs.length) :
    Memory.read (Memory.writes a bs m) (a + i) = bs[i] := by
  induction bs generalizing a m i with
  | nil => simp at h
  | cons b bs ih =>
    unfold Memory.writes
    cases i with
    | zero => rw [read_writes_outside _ _ (by omega), Nat.add_zero, read_write_same]; rfl
    | succ i =>
      have := ih (Memory.write a b m) (a + 1) i (by simpa using h)
      rw [show a + (i + 1) = a + 1 + i by omega, this]; rfl

/-- A byte write keeps the canonical form of memory. -/
theorem wf_write (a : Nat) (b : Byte) (m : List Host.Cell) (h : Memory.wf m = true) : Memory.wf (Memory.write a b m) = true :=
  kwf_kset memDflt a b m h

/-- Writes of consecutive bytes keep the canonical form of memory. -/
theorem wf_writes (bs : List Byte) (a : Nat) (m : List Host.Cell) (h : Memory.wf m = true) :
    Memory.wf (Memory.writes a bs m) = true := by
  induction bs generalizing a m with
  | nil => exact h
  | cons b bs ih => exact ih _ _ (wf_write a b m h)

/-! ### Bytes and numbers -/

theorem leBytes_length (n x : Nat) : (leBytes n x).length = n := by
  induction n generalizing x with
  | zero => rfl
  | succ n ih => simp [leBytes, ih]

/-- R50: the low `n` bytes of a number, read back as a number. -/
theorem leNum_leBytes (n x : Nat) : leNum (leBytes n x) = x % 256 ^ n := by
  induction n generalizing x with
  | zero => simp [leBytes, leNum, Nat.mod_one]
  | succ n ih =>
    have h : (BitVec.ofNat 8 (x % 256)).toNat = x % 256 := by simp
    rw [leBytes, leNum, ih, h, Nat.pow_succ, Nat.mul_comm (256 ^ n) 256, Nat.mod_mul]

/-! ### Objects -/

namespace State

/-- A written object reads back as the value cut to its width. -/
@[simp] theorem o_setO_same (s : State) (k v : Nat) : (s.setO k v).o k = wrapTo (8 * bytesOf k) v :=
  kget_kset_same dfltOf k _ s.od

/-- A write of one object leaves every other. -/
theorem o_setO_other (s : State) {k j : Nat} (h : j ≠ k) (v : Nat) : (s.setO k v).o j = s.o j :=
  kget_kset_other dfltOf h _ s.od

/-- A write of one object leaves every byte of a DOMAIN. -/
@[simp] theorem dbyte_setO (s : State) (k v j i : Nat) : (s.setO k v).dbyte j i = s.dbyte j i := rfl

/-- Bytes of a DOMAIN outside those written keep their values. -/
theorem dbyte_setDom_outside (bs : List Byte) (s : State) (key off k : Nat)
    (h : k < key * 2 ^ 24 + off ∨ key * 2 ^ 24 + off + bs.length ≤ k) :
    kget domDflt (setDom key off bs s).dom k = kget domDflt s.dom k := by
  induction bs generalizing off s with
  | nil => rfl
  | cons b bs ih =>
    simp only [List.length_cons] at h
    unfold setDom
    rw [ih _ _ (by omega), kget_kset_other domDflt (by omega)]

end State

/-! ### Vectors -/

theorem vgetN_eq {β : Type} {n : Nat} (v : Vector β (n + 1)) {i : Nat} (h : i < n + 1) : vgetN v i = v[i] := by
  have h2 : (⟨min i n, by omega⟩ : Fin (n + 1)) = ⟨i, h⟩ := Fin.ext (by simp; omega)
  unfold vgetN
  rw [h2]
  rfl

theorem vmodN_eq {β : Type} {n : Nat} (v : Vector β n) {i : Nat} (h : i < n) (f : β → β) : vmodN v i f = v.set i (f v[i]) := by
  unfold vmodN
  rw [dif_pos h]
  rfl

/-- An updated element. -/
theorem vgetN_vmodN_same {β : Type} {n : Nat} (v : Vector β (n + 1)) {i : Nat} (h : i < n + 1) (f : β → β) :
    vgetN (vmodN v i f) i = f (vgetN v i) := by
  rw [vgetN_eq _ h, vgetN_eq _ h, vmodN_eq _ h, Vector.getElem_set_self]

/-- An update of one element leaves every other. -/
theorem vgetN_vmodN_other {β : Type} {n : Nat} (v : Vector β (n + 1)) {i j : Nat} (hj : j < n + 1) (h : j ≠ i) (f : β → β) :
    vgetN (vmodN v i f) j = vgetN v j := by
  by_cases hi : i < n + 1
  · rw [vgetN_eq _ hj, vgetN_eq _ hj, vmodN_eq _ hi, Vector.getElem_set_ne _ _ (Ne.symm h)]
  · unfold vmodN
    rw [dif_neg hi]

@[simp] theorem vset_get_same {β : Type} {n : Nat} (v : Vector β n) (i : Fin n) (x : β) (h : i.val < n) :
    (v.set i.val x h).get i = x := by
  show (v.set i.val x h)[i.val] = x
  simp

theorem vset_get_other {β : Type} {n : Nat} (v : Vector β n) {i : Nat} {j : Fin n} (hj : j.val ≠ i) (x : β) (h : i < n) :
    (v.set i x h).get j = v.get j := by
  show (v.set i x h)[j.val] = v[j.val]
  rw [Vector.getElem_set_ne]; exact fun e => hj e.symm

@[simp] theorem vmod_get_same {β : Type} {n : Nat} (v : Vector β n) (i : Fin n) (f : β → β) :
    (vmod v i f).get i = f (v.get i) := by simp [vmod]

theorem vmod_get_other {β : Type} {n : Nat} (v : Vector β n) {i j : Fin n} (hj : j ≠ i) (f : β → β) :
    (vmod v i f).get j = v.get j := vset_get_other v (fun e => hj (Fin.ext e)) _ _

theorem State.o_bump_same (s : State) (k : Nat) : (s.bump k).o k = wrapTo (8 * bytesOf k) (s.o k + 1) := State.o_setO_same ..

theorem State.o_bump_other (s : State) {k j : Nat} (h : j ≠ k) : (s.bump k).o j = s.o j := State.o_setO_other _ h _

end Sys2Proof.Machine
end

