-- ==== Sys2Proof/Laws/Frame.lean ====
section
/-! SUPPORT. Laws/Frame.lean: the rules of the frame calculus: how a frame (`Keeps`) is built up along a meaning. -/

namespace Sys2Proof.Machine

theorem Keeps.refl (m : Nat) (s : State) : Keeps m s s := ⟨fun p _ => by cases p <;> simp [Part.same], fun _ _ => rfl⟩

theorem Part.same_trans {p : Part} {s t u : State} (a : p.same s t) (b : p.same t u) : p.same s u := by
  cases p <;> simp only [Part.same] at a b ⊢ <;>
    first
    | exact b.trans a
    | exact ⟨b.1.trans a.1, b.2.trans a.2⟩
    | exact ⟨b.1.trans a.1, b.2.1.trans a.2.1, b.2.2.1.trans a.2.2.1, b.2.2.2.1.trans a.2.2.2.1, b.2.2.2.2.trans a.2.2.2.2⟩
    | exact fun i hi => (b i hi).trans (a i hi)

theorem Keeps.trans {m : Nat} {s t u : State} (a : Keeps m s t) (b : Keeps m t u) : Keeps m s u :=
  ⟨fun p h => Part.same_trans (a.1 p h) (b.1 p h), fun k h => (b.2 k h).trans (a.2 k h)⟩

theorem Keeps.mono {c m : Nat} {s t : State} (a : Keeps c s t) (h : Nat.lor c m = m) : Keeps m s t := by
  have sub : ∀ i, c.testBit i = true → m.testBit i = true := by
    intro i hi; rw [← h]; show (c ||| m).testBit i = true; rw [Nat.testBit_or, hi]; rfl
  refine ⟨fun p hp => a.1 p ?_, fun k hk => a.2 k fun f hf => hk f (sub _ hf)⟩
  cases hc : c.testBit (Place.part p).num
  · rfl
  · rw [sub _ hc] at hp; cases hp

/-- A mask with `any` object: only its parts count. -/
theorem Keeps.of_any {c m : Nat} {s t : State} (a : Keeps c s t) (hany : m.testBit (Place.objects .any).num = true)
    (h : Nat.lor (c % 2 ^ 38) m = m) : Keeps m s t := by
  refine ⟨fun p hp => a.1 p ?_, fun k hk => absurd trivial (hk .any hany)⟩
  cases hc : c.testBit (Place.part p).num
  · rfl
  · have hl : (Place.part p).num < 38 := by cases p <;> decide
    have : m.testBit (Place.part p).num = true := by
      rw [← h]; show ((c % 2 ^ 38) ||| m).testBit _ = true
      rw [Nat.testBit_or, Nat.testBit_mod_two_pow, hc]; simp [hl]
    rw [this] at hp; cases hp

/-- One more step `y = f x` with the frame `c`. -/
theorem Keeps.step {c m : Nat} {s x y : State} (f : Keeps c x y) (h : Nat.lor c m = m) (a : Keeps m s x) : Keeps m s y :=
  a.trans (f.mono h)

theorem Keeps.eachDo {m : Nat} {β : Type} {l : List β} {f : β → State → State} {s x : State}
    (h : ∀ b y, Keeps m y (f b y)) (a : Keeps m s x) : Keeps m s (eachDo l f x) := by
  unfold Machine.eachDo
  induction l generalizing x with
  | nil => exact a
  | cons b l ih => exact ih (a.trans (h b x))

theorem Keeps.eachDo_mem {m : Nat} {β : Type} {l : List β} {f : β → State → State} {s x : State}
    (h : ∀ b, b ∈ l → ∀ y, Keeps m y (f b y)) (a : Keeps m s x) : Keeps m s (Machine.eachDo l f x) := by
  unfold Machine.eachDo
  induction l generalizing x with
  | nil => exact a
  | cons b l ih => exact ih (fun c hc => h c (List.mem_cons_of_mem _ hc)) (a.trans (h b List.mem_cons_self x))

theorem Keeps.whenDo {m : Nat} {b : Bool} {f : State → State} {s x : State} (h : ∀ y, Keeps m y (f y)) (a : Keeps m s x) :
    Keeps m s (whenDo b f x) := by
  unfold Machine.whenDo; split
  · exact a.trans (h x)
  · exact a

theorem Keeps.withDemotion {m h : Nat} {f : State → State} {s x : State} (hd : ∀ r b y, Keeps m y (demoteCheck r b y))
    (hf : ∀ y, Keeps m y (f y)) (a : Keeps m s x) : Keeps m s (withDemotion h f x) := by
  unfold Machine.withDemotion
  exact Keeps.eachDo (fun _ _ => hd _ _ _) (a.trans (hf x))

theorem Keeps.barAccess {m : Nat} {c : Instr} {f : State → State} {s x : State} (hd : ∀ y, Keeps m y (demandWake y))
    (hf : ∀ y, Keeps m y (f y)) (hp : m.testBit 32 = true) (hw : m.testBit 33 = true) (a : Keeps m s x) :
    Keeps m s (Machine.barAccess c f x) := by
  unfold Machine.barAccess
  dsimp only
  split
  · refine ⟨fun p h => Part.same_trans ((a.trans (hd x)).1 p h) ?_, (a.trans (hd x)).2⟩
    cases p <;> first
      | (have h2 : m.testBit 32 = false := h; rw [hp] at h2; cases h2)
      | (have h2 : m.testBit 33 = false := h; rw [hw] at h2; cases h2)
      | simp [Part.same]
  · exact (a.trans (hd x)).trans (hf _)

theorem Keeps.snd {m : Nat} {β : Type} {r : β × State} {a : β} {s y : State} (h : r = (a, y)) (k : Keeps m s r.2) :
    Keeps m s y := by rw [h] at k; exact k

theorem Keeps.setO {m k v : Nat} {s x : State} (f : Fam) (hf : m.testBit (Place.objects f).num = true) (hk : f.has k)
    (a : Keeps m s x) : Keeps m s (x.setO k v) :=
  ⟨fun p hp => Part.same_trans (a.1 p hp) (by cases p <;> simp [Part.same, State.setO]),
   fun j hj => by
    rw [← a.2 j hj]; apply State.o_setO_other; rintro rfl; exact hj f hf hk⟩

theorem Keeps.setI {m k : Nat} {v : Int} {s x : State} (f : Fam) (hf : m.testBit (Place.objects f).num = true)
    (hk : f.has k) (a : Keeps m s x) : Keeps m s (x.setI k v) := Keeps.setO f hf hk a

theorem Keeps.setB {m k : Nat} {v : Bool} {s x : State} (f : Fam) (hf : m.testBit (Place.objects f).num = true)
    (hk : f.has k) (a : Keeps m s x) : Keeps m s (x.setB k v) := Keeps.setO f hf hk a

theorem Keeps.bump {m k : Nat} {s x : State} (f : Fam) (hf : m.testBit (Place.objects f).num = true)
    (hk : f.has k) (a : Keeps m s x) : Keeps m s (x.bump k) := Keeps.setO f hf hk a

theorem Keeps.bumpN {m k n : Nat} {s x : State} (f : Fam) (hf : m.testBit (Place.objects f).num = true)
    (hk : f.has k) (a : Keeps m s x) : Keeps m s (x.bumpN k n) := Keeps.setO f hf hk a

theorem Keeps.upd_axes {m : Nat} {s x : State} {v0} (baxes : m.testBit 29 = true)
    (a : Keeps m s x) : Keeps m s { x with axes := v0 } := by
  refine ⟨fun p hp => ?_, a.2⟩
  cases p <;> first
    | exact a.1 _ hp
    | (have h2 : m.testBit 29 = false := hp; rw [baxes] at h2; cases h2)

theorem Keeps.upd_boot {m : Nat} {s x : State} {v0} (bboot : m.testBit 30 = true)
    (a : Keeps m s x) : Keeps m s { x with boot := v0 } := by
  refine ⟨fun p hp => ?_, a.2⟩
  cases p <;> first
    | exact a.1 _ hp
    | (have h2 : m.testBit 30 = false := hp; rw [bboot] at h2; cases h2)

theorem Keeps.upd_cams {m : Nat} {s x : State} {v0} (bcams : m.testBit 25 = true)
    (a : Keeps m s x) : Keeps m s { x with cams := v0 } := by
  refine ⟨fun p hp => ?_, a.2⟩
  cases p <;> first
    | exact a.1 _ hp
    | (have h2 : m.testBit 25 = false := hp; rw [bcams] at h2; cases h2)

theorem Keeps.upd_clk {m : Nat} {s x : State} {v0} (bclk : m.testBit 34 = true)
    (a : Keeps m s x) : Keeps m s { x with clk := v0 } := by
  refine ⟨fun p hp => ?_, a.2⟩
  cases p <;> first
    | exact a.1 _ hp
    | (have h2 : m.testBit 34 = false := hp; rw [bclk] at h2; cases h2)

theorem Keeps.upd_comp {m : Nat} {s x : State} {v0} (bcomp : m.testBit 19 = true)
    (a : Keeps m s x) : Keeps m s { x with comp := v0 } := by
  refine ⟨fun p hp => ?_, a.2⟩
  cases p <;> first
    | exact a.1 _ hp
    | (have h2 : m.testBit 19 = false := hp; rw [bcomp] at h2; cases h2)

theorem Keeps.upd_ddr {m : Nat} {s x : State} {v0} (bddr : m.testBit 27 = true) (bmem : m.testBit 28 = true)
    (a : Keeps m s x) : Keeps m s { x with ddr := v0 } := by
  refine ⟨fun p hp => ?_, a.2⟩
  cases p <;> first
    | exact a.1 _ hp
    | (have h2 : m.testBit 27 = false := hp; rw [bddr] at h2; cases h2)
    | (have h2 : m.testBit 28 = false := hp; rw [bmem] at h2; cases h2)

theorem Keeps.upd_dev {m : Nat} {s x : State} {v0} (bdev : m.testBit 7 = true) (blog : m.testBit 6 = true)
    (a : Keeps m s x) : Keeps m s { x with dev := v0 } := by
  refine ⟨fun p hp => ?_, a.2⟩
  cases p <;> first
    | exact a.1 _ hp
    | (have h2 : m.testBit 7 = false := hp; rw [bdev] at h2; cases h2)
    | (have h2 : m.testBit 6 = false := hp; rw [blog] at h2; cases h2)

theorem Keeps.upd_disp {m : Nat} {s x : State} {v0} (bdisp : m.testBit 36 = true)
    (a : Keeps m s x) : Keeps m s { x with disp := v0 } := by
  refine ⟨fun p hp => ?_, a.2⟩
  cases p <;> first
    | exact a.1 _ hp
    | (have h2 : m.testBit 36 = false := hp; rw [bdisp] at h2; cases h2)

theorem Keeps.upd_dom {m : Nat} {s x : State} {v0} (bdom : m.testBit 3 = true)
    (a : Keeps m s x) : Keeps m s { x with dom := v0 } := by
  refine ⟨fun p hp => ?_, a.2⟩
  cases p <;> first
    | exact a.1 _ hp
    | (have h2 : m.testBit 3 = false := hp; rw [bdom] at h2; cases h2)

theorem Keeps.upd_egress {m : Nat} {s x : State} {v0} (begress : m.testBit 15 = true) (blogRing : m.testBit 16 = true)
    (a : Keeps m s x) : Keeps m s { x with egress := v0 } := by
  refine ⟨fun p hp => ?_, a.2⟩
  cases p <;> first
    | exact a.1 _ hp
    | (have h2 : m.testBit 15 = false := hp; rw [begress] at h2; cases h2)
    | (have h2 : m.testBit 16 = false := hp; rw [blogRing] at h2; cases h2)

theorem Keeps.upd_formes {m : Nat} {s x : State} {v0} (bformes : m.testBit 18 = true)
    (a : Keeps m s x) : Keeps m s { x with formes := v0 } := by
  refine ⟨fun p hp => ?_, a.2⟩
  cases p <;> first
    | exact a.1 _ hp
    | (have h2 : m.testBit 18 = false := hp; rw [bformes] at h2; cases h2)

theorem Keeps.upd_comp_formes {m : Nat} {s x : State} {v0} {v1} (bcomp : m.testBit 19 = true) (bformes : m.testBit 18 = true)
    (a : Keeps m s x) : Keeps m s { x with comp := v0, formes := v1 } := by
  refine ⟨fun p hp => ?_, a.2⟩
  cases p <;> first
    | exact a.1 _ hp
    | (have h2 : m.testBit 19 = false := hp; rw [bcomp] at h2; cases h2)
    | (have h2 : m.testBit 18 = false := hp; rw [bformes] at h2; cases h2)

theorem Keeps.upd_freeCtr {m : Nat} {s x : State} {v0} (bfree : m.testBit 2 = true)
    (a : Keeps m s x) : Keeps m s { x with freeCtr := v0 } := by
  refine ⟨fun p hp => ?_, a.2⟩
  cases p <;> first
    | exact a.1 _ hp
    | (have h2 : m.testBit 2 = false := hp; rw [bfree] at h2; cases h2)

theorem Keeps.upd_ddr_freeCtr {m : Nat} {s x : State} {v0} {v1} (bddr : m.testBit 27 = true) (bfree : m.testBit 2 = true) (bmem : m.testBit 28 = true)
    (a : Keeps m s x) : Keeps m s { x with ddr := v0, freeCtr := v1 } := by
  refine ⟨fun p hp => ?_, a.2⟩
  cases p <;> first
    | exact a.1 _ hp
    | (have h2 : m.testBit 27 = false := hp; rw [bddr] at h2; cases h2)
    | (have h2 : m.testBit 2 = false := hp; rw [bfree] at h2; cases h2)
    | (have h2 : m.testBit 28 = false := hp; rw [bmem] at h2; cases h2)

theorem Keeps.upd_gal {m : Nat} {s x : State} {v0} (bgal : m.testBit 17 = true)
    (a : Keeps m s x) : Keeps m s { x with gal := v0 } := by
  refine ⟨fun p hp => ?_, a.2⟩
  cases p <;> first
    | exact a.1 _ hp
    | (have h2 : m.testBit 17 = false := hp; rw [bgal] at h2; cases h2)

theorem Keeps.upd_ledgers {m : Nat} {s x : State} {v0} (bledgers : m.testBit 8 = true)
    (a : Keeps m s x) : Keeps m s { x with ledgers := v0 } := by
  refine ⟨fun p hp => ?_, a.2⟩
  cases p <;> first
    | exact a.1 _ hp
    | (have h2 : m.testBit 8 = false := hp; rw [bledgers] at h2; cases h2)

theorem Keeps.upd_live {m : Nat} {s x : State} {v0} (blive : m.testBit 4 = true)
    (a : Keeps m s x) : Keeps m s { x with live := v0 } := by
  refine ⟨fun p hp => ?_, a.2⟩
  cases p <;> first
    | exact a.1 _ hp
    | (have h2 : m.testBit 4 = false := hp; rw [blive] at h2; cases h2)

theorem Keeps.upd_live_liveDom {m : Nat} {s x : State} {v0} {v1} (blive : m.testBit 4 = true) (bliveDom : m.testBit 5 = true)
    (a : Keeps m s x) : Keeps m s { x with live := v0, liveDom := v1 } := by
  refine ⟨fun p hp => ?_, a.2⟩
  cases p <;> first
    | exact a.1 _ hp
    | (have h2 : m.testBit 4 = false := hp; rw [blive] at h2; cases h2)
    | (have h2 : m.testBit 5 = false := hp; rw [bliveDom] at h2; cases h2)

theorem Keeps.upd_disp_live_liveDom_plat_sec {m : Nat} {s x : State} {v0} {v1} {v2} {v3} {v4} (bdisp : m.testBit 36 = true) (blive : m.testBit 4 = true) (bliveDom : m.testBit 5 = true) (bplat : m.testBit 20 = true) (bsec : m.testBit 35 = true)
    (a : Keeps m s x) : Keeps m s { x with disp := v0, live := v1, liveDom := v2, plat := v3, sec := v4 } := by
  refine ⟨fun p hp => ?_, a.2⟩
  cases p <;> first
    | exact a.1 _ hp
    | (have h2 : m.testBit 36 = false := hp; rw [bdisp] at h2; cases h2)
    | (have h2 : m.testBit 4 = false := hp; rw [blive] at h2; cases h2)
    | (have h2 : m.testBit 5 = false := hp; rw [bliveDom] at h2; cases h2)
    | (have h2 : m.testBit 20 = false := hp; rw [bplat] at h2; cases h2)
    | (have h2 : m.testBit 35 = false := hp; rw [bsec] at h2; cases h2)

theorem Keeps.upd_loc {m : Nat} {s x : State} {v0} (bloc : m.testBit 1 = true)
    (a : Keeps m s x) : Keeps m s { x with loc := v0 } := by
  refine ⟨fun p hp => ?_, a.2⟩
  cases p <;> first
    | exact a.1 _ hp
    | (have h2 : m.testBit 1 = false := hp; rw [bloc] at h2; cases h2)

theorem Keeps.upd_net {m : Nat} {s x : State} {v0} (bnet : m.testBit 10 = true)
    (a : Keeps m s x) : Keeps m s { x with net := v0 } := by
  refine ⟨fun p hp => ?_, a.2⟩
  cases p <;> first
    | exact a.1 _ hp
    | (have h2 : m.testBit 10 = false := hp; rw [bnet] at h2; cases h2)

theorem Keeps.upd_od {m : Nat} {s x : State} {v0} (bany : m.testBit 38 = true)
    (a : Keeps m s x) : Keeps m s { x with od := v0 } := by
  refine ⟨fun p hp => ?_, fun k hk => absurd trivial (hk .any bany)⟩
  cases p <;> first
    | exact a.1 _ hp

theorem Keeps.upd_dom_od {m : Nat} {s x : State} {v0} {v1} (bdom : m.testBit 3 = true) (bany : m.testBit 38 = true)
    (a : Keeps m s x) : Keeps m s { x with dom := v0, od := v1 } := by
  refine ⟨fun p hp => ?_, fun k hk => absurd trivial (hk .any bany)⟩
  cases p <;> first
    | exact a.1 _ hp
    | (have h2 : m.testBit 3 = false := hp; rw [bdom] at h2; cases h2)

theorem Keeps.upd_comp_dom_od {m : Nat} {s x : State} {v0} {v1} {v2} (bcomp : m.testBit 19 = true) (bdom : m.testBit 3 = true) (bany : m.testBit 38 = true)
    (a : Keeps m s x) : Keeps m s { x with comp := v0, dom := v1, od := v2 } := by
  refine ⟨fun p hp => ?_, fun k hk => absurd trivial (hk .any bany)⟩
  cases p <;> first
    | exact a.1 _ hp
    | (have h2 : m.testBit 19 = false := hp; rw [bcomp] at h2; cases h2)
    | (have h2 : m.testBit 3 = false := hp; rw [bdom] at h2; cases h2)

theorem Keeps.upd_pace {m : Nat} {s x : State} {v0} (bpace : m.testBit 24 = true)
    (a : Keeps m s x) : Keeps m s { x with pace := v0 } := by
  refine ⟨fun p hp => ?_, a.2⟩
  cases p <;> first
    | exact a.1 _ hp
    | (have h2 : m.testBit 24 = false := hp; rw [bpace] at h2; cases h2)

theorem Keeps.upd_pcie {m : Nat} {s x : State} {v0} (bhostWrites : m.testBit 13 = true) (bmsix : m.testBit 12 = true) (bpcie : m.testBit 11 = true)
    (a : Keeps m s x) : Keeps m s { x with pcie := v0 } := by
  refine ⟨fun p hp => ?_, a.2⟩
  cases p <;> first
    | exact a.1 _ hp
    | (have h2 : m.testBit 13 = false := hp; rw [bhostWrites] at h2; cases h2)
    | (have h2 : m.testBit 12 = false := hp; rw [bmsix] at h2; cases h2)
    | (have h2 : m.testBit 11 = false := hp; rw [bpcie] at h2; cases h2)

theorem Keeps.upd_pending {m : Nat} {s x : State} {v0} (bqueue : m.testBit 0 = true)
    (a : Keeps m s x) : Keeps m s { x with pending := v0 } := by
  refine ⟨fun p hp => ?_, a.2⟩
  cases p <;> first
    | exact a.1 _ hp
    | (have h2 : m.testBit 0 = false := hp; rw [bqueue] at h2; cases h2)

theorem Keeps.upd_pins {m : Nat} {s x : State} {v0} (bpins : m.testBit 37 = true)
    (a : Keeps m s x) : Keeps m s { x with pins := v0 } := by
  refine ⟨fun p hp => ?_, a.2⟩
  cases p <;> first
    | exact a.1 _ hp
    | (have h2 : m.testBit 37 = false := hp; rw [bpins] at h2; cases h2)

theorem Keeps.upd_plat {m : Nat} {s x : State} {v0} (bplat : m.testBit 20 = true)
    (a : Keeps m s x) : Keeps m s { x with plat := v0 } := by
  refine ⟨fun p hp => ?_, a.2⟩
  cases p <;> first
    | exact a.1 _ hp
    | (have h2 : m.testBit 20 = false := hp; rw [bplat] at h2; cases h2)

theorem Keeps.upd_pins_plat {m : Nat} {s x : State} {v0} {v1} (bpins : m.testBit 37 = true) (bplat : m.testBit 20 = true)
    (a : Keeps m s x) : Keeps m s { x with pins := v0, plat := v1 } := by
  refine ⟨fun p hp => ?_, a.2⟩
  cases p <;> first
    | exact a.1 _ hp
    | (have h2 : m.testBit 37 = false := hp; rw [bpins] at h2; cases h2)
    | (have h2 : m.testBit 20 = false := hp; rw [bplat] at h2; cases h2)

theorem Keeps.upd_plat_ports {m : Nat} {s x : State} {v0} {v1} (bplat : m.testBit 20 = true) (bports : m.testBit 21 = true)
    (a : Keeps m s x) : Keeps m s { x with plat := v0, ports := v1 } := by
  refine ⟨fun p hp => ?_, a.2⟩
  cases p <;> first
    | exact a.1 _ hp
    | (have h2 : m.testBit 20 = false := hp; rw [bplat] at h2; cases h2)
    | (have h2 : m.testBit 21 = false := hp; rw [bports] at h2; cases h2)

theorem Keeps.upd_pins_plat_ports_web {m : Nat} {s x : State} {v0} {v1} {v2} {v3} (bpins : m.testBit 37 = true) (bplat : m.testBit 20 = true) (bports : m.testBit 21 = true) (bweb : m.testBit 22 = true)
    (a : Keeps m s x) : Keeps m s { x with pins := v0, plat := v1, ports := v2, web := v3 } := by
  refine ⟨fun p hp => ?_, a.2⟩
  cases p <;> first
    | exact a.1 _ hp
    | (have h2 : m.testBit 37 = false := hp; rw [bpins] at h2; cases h2)
    | (have h2 : m.testBit 20 = false := hp; rw [bplat] at h2; cases h2)
    | (have h2 : m.testBit 21 = false := hp; rw [bports] at h2; cases h2)
    | (have h2 : m.testBit 22 = false := hp; rw [bweb] at h2; cases h2)

theorem Keeps.upd_plat_web {m : Nat} {s x : State} {v0} {v1} (bplat : m.testBit 20 = true) (bweb : m.testBit 22 = true)
    (a : Keeps m s x) : Keeps m s { x with plat := v0, web := v1 } := by
  refine ⟨fun p hp => ?_, a.2⟩
  cases p <;> first
    | exact a.1 _ hp
    | (have h2 : m.testBit 20 = false := hp; rw [bplat] at h2; cases h2)
    | (have h2 : m.testBit 22 = false := hp; rw [bweb] at h2; cases h2)

theorem Keeps.upd_pins_plat_web {m : Nat} {s x : State} {v0} {v1} {v2} (bpins : m.testBit 37 = true) (bplat : m.testBit 20 = true) (bweb : m.testBit 22 = true)
    (a : Keeps m s x) : Keeps m s { x with pins := v0, plat := v1, web := v2 } := by
  refine ⟨fun p hp => ?_, a.2⟩
  cases p <;> first
    | exact a.1 _ hp
    | (have h2 : m.testBit 37 = false := hp; rw [bpins] at h2; cases h2)
    | (have h2 : m.testBit 20 = false := hp; rw [bplat] at h2; cases h2)
    | (have h2 : m.testBit 22 = false := hp; rw [bweb] at h2; cases h2)

theorem Keeps.upd_ports {m : Nat} {s x : State} {v0} (bports : m.testBit 21 = true)
    (a : Keeps m s x) : Keeps m s { x with ports := v0 } := by
  refine ⟨fun p hp => ?_, a.2⟩
  cases p <;> first
    | exact a.1 _ hp
    | (have h2 : m.testBit 21 = false := hp; rw [bports] at h2; cases h2)

theorem Keeps.upd_ports_web {m : Nat} {s x : State} {v0} {v1} (bports : m.testBit 21 = true) (bweb : m.testBit 22 = true)
    (a : Keeps m s x) : Keeps m s { x with ports := v0, web := v1 } := by
  refine ⟨fun p hp => ?_, a.2⟩
  cases p <;> first
    | exact a.1 _ hp
    | (have h2 : m.testBit 21 = false := hp; rw [bports] at h2; cases h2)
    | (have h2 : m.testBit 22 = false := hp; rw [bweb] at h2; cases h2)

theorem Keeps.upd_prf {m : Nat} {s x : State} {v0} (bprf : m.testBit 26 = true)
    (a : Keeps m s x) : Keeps m s { x with prf := v0 } := by
  refine ⟨fun p hp => ?_, a.2⟩
  cases p <;> first
    | exact a.1 _ hp
    | (have h2 : m.testBit 26 = false := hp; rw [bprf] at h2; cases h2)

theorem Keeps.upd_pwr {m : Nat} {s x : State} {v0} (bpwr : m.testBit 32 = true) (bwake : m.testBit 33 = true)
    (a : Keeps m s x) : Keeps m s { x with pwr := v0 } := by
  refine ⟨fun p hp => ?_, a.2⟩
  cases p <;> first
    | exact a.1 _ hp
    | (have h2 : m.testBit 32 = false := hp; rw [bpwr] at h2; cases h2)
    | (have h2 : m.testBit 33 = false := hp; rw [bwake] at h2; cases h2)

theorem Keeps.upd_rings {m : Nat} {s x : State} {v0} (brings : m.testBit 14 = true)
    (a : Keeps m s x) : Keeps m s { x with rings := v0 } := by
  refine ⟨fun p hp => ?_, a.2⟩
  cases p <;> first
    | exact a.1 _ hp
    | (have h2 : m.testBit 14 = false := hp; rw [brings] at h2; cases h2)

theorem Keeps.upd_sec {m : Nat} {s x : State} {v0} (bsec : m.testBit 35 = true)
    (a : Keeps m s x) : Keeps m s { x with sec := v0 } := by
  refine ⟨fun p hp => ?_, a.2⟩
  cases p <;> first
    | exact a.1 _ hp
    | (have h2 : m.testBit 35 = false := hp; rw [bsec] at h2; cases h2)

theorem Keeps.upd_srv {m : Nat} {s x : State} {v0} (bsrv : m.testBit 9 = true)
    (a : Keeps m s x) : Keeps m s { x with srv := v0 } := by
  refine ⟨fun p hp => ?_, a.2⟩
  cases p <;> first
    | exact a.1 _ hp
    | (have h2 : m.testBit 9 = false := hp; rw [bsrv] at h2; cases h2)

theorem Keeps.upd_pcie_srv {m : Nat} {s x : State} {v0} {v1} (bhostWrites : m.testBit 13 = true) (bmsix : m.testBit 12 = true) (bpcie : m.testBit 11 = true) (bsrv : m.testBit 9 = true)
    (a : Keeps m s x) : Keeps m s { x with pcie := v0, srv := v1 } := by
  refine ⟨fun p hp => ?_, a.2⟩
  cases p <;> first
    | exact a.1 _ hp
    | (have h2 : m.testBit 13 = false := hp; rw [bhostWrites] at h2; cases h2)
    | (have h2 : m.testBit 12 = false := hp; rw [bmsix] at h2; cases h2)
    | (have h2 : m.testBit 11 = false := hp; rw [bpcie] at h2; cases h2)
    | (have h2 : m.testBit 9 = false := hp; rw [bsrv] at h2; cases h2)

theorem Keeps.upd_time {m : Nat} {s x : State} {v0} (btime : m.testBit 23 = true)
    (a : Keeps m s x) : Keeps m s { x with time := v0 } := by
  refine ⟨fun p hp => ?_, a.2⟩
  cases p <;> first
    | exact a.1 _ hp
    | (have h2 : m.testBit 23 = false := hp; rw [btime] at h2; cases h2)

theorem Keeps.upd_tymp {m : Nat} {s x : State} {v0} (btymp : m.testBit 31 = true)
    (a : Keeps m s x) : Keeps m s { x with tymp := v0 } := by
  refine ⟨fun p hp => ?_, a.2⟩
  cases p <;> first
    | exact a.1 _ hp
    | (have h2 : m.testBit 31 = false := hp; rw [btymp] at h2; cases h2)

theorem Keeps.upd_web {m : Nat} {s x : State} {v0} (bweb : m.testBit 22 = true)
    (a : Keeps m s x) : Keeps m s { x with web := v0 } := by
  refine ⟨fun p hp => ?_, a.2⟩
  cases p <;> first
    | exact a.1 _ hp
    | (have h2 : m.testBit 22 = false := hp; rw [bweb] at h2; cases h2)

theorem Keeps.upd_comp_gal {m : Nat} {s x : State} {v0} {v1} (bcomp : m.testBit 19 = true) (bgal : m.testBit 17 = true)
    (a : Keeps m s x) : Keeps m s { x with comp := v0, gal := v1 } := by
  refine ⟨fun p hp => ?_, a.2⟩
  cases p <;> first
    | exact a.1 _ hp
    | (have h2 : m.testBit 19 = false := hp; rw [bcomp] at h2; cases h2)
    | (have h2 : m.testBit 17 = false := hp; rw [bgal] at h2; cases h2)

theorem Keeps.upd_boot_pins_plat {m : Nat} {s x : State} {v0} {v1} {v2} (bboot : m.testBit 30 = true) (bpins : m.testBit 37 = true) (bplat : m.testBit 20 = true)
    (a : Keeps m s x) : Keeps m s { x with boot := v0, pins := v1, plat := v2 } := by
  refine ⟨fun p hp => ?_, a.2⟩
  cases p <;> first
    | exact a.1 _ hp
    | (have h2 : m.testBit 30 = false := hp; rw [bboot] at h2; cases h2)
    | (have h2 : m.testBit 37 = false := hp; rw [bpins] at h2; cases h2)
    | (have h2 : m.testBit 20 = false := hp; rw [bplat] at h2; cases h2)

theorem Keeps.upd_net_pace {m : Nat} {s x : State} {v0} {v1} (bnet : m.testBit 10 = true) (bpace : m.testBit 24 = true)
    (a : Keeps m s x) : Keeps m s { x with net := v0, pace := v1 } := by
  refine ⟨fun p hp => ?_, a.2⟩
  cases p <;> first
    | exact a.1 _ hp
    | (have h2 : m.testBit 10 = false := hp; rw [bnet] at h2; cases h2)
    | (have h2 : m.testBit 24 = false := hp; rw [bpace] at h2; cases h2)

theorem Keeps.upd_disp_live_liveDom_pins_plat_pwr_sec_time {m : Nat} {s x : State} {v0} {v1} {v2} {v3} {v4} {v5} {v6} {v7} (bdisp : m.testBit 36 = true) (blive : m.testBit 4 = true) (bliveDom : m.testBit 5 = true) (bpins : m.testBit 37 = true) (bplat : m.testBit 20 = true) (bpwr : m.testBit 32 = true) (bsec : m.testBit 35 = true) (btime : m.testBit 23 = true) (bwake : m.testBit 33 = true)
    (a : Keeps m s x) : Keeps m s { x with disp := v0, live := v1, liveDom := v2, pins := v3, plat := v4, pwr := v5, sec := v6, time := v7 } := by
  refine ⟨fun p hp => ?_, a.2⟩
  cases p <;> first
    | exact a.1 _ hp
    | (have h2 : m.testBit 36 = false := hp; rw [bdisp] at h2; cases h2)
    | (have h2 : m.testBit 4 = false := hp; rw [blive] at h2; cases h2)
    | (have h2 : m.testBit 5 = false := hp; rw [bliveDom] at h2; cases h2)
    | (have h2 : m.testBit 37 = false := hp; rw [bpins] at h2; cases h2)
    | (have h2 : m.testBit 20 = false := hp; rw [bplat] at h2; cases h2)
    | (have h2 : m.testBit 32 = false := hp; rw [bpwr] at h2; cases h2)
    | (have h2 : m.testBit 35 = false := hp; rw [bsec] at h2; cases h2)
    | (have h2 : m.testBit 23 = false := hp; rw [btime] at h2; cases h2)
    | (have h2 : m.testBit 33 = false := hp; rw [bwake] at h2; cases h2)

theorem Keeps.upd_clk_pcie {m : Nat} {s x : State} {v0} {v1} (bclk : m.testBit 34 = true) (bhostWrites : m.testBit 13 = true) (bmsix : m.testBit 12 = true) (bpcie : m.testBit 11 = true)
    (a : Keeps m s x) : Keeps m s { x with clk := v0, pcie := v1 } := by
  refine ⟨fun p hp => ?_, a.2⟩
  cases p <;> first
    | exact a.1 _ hp
    | (have h2 : m.testBit 34 = false := hp; rw [bclk] at h2; cases h2)
    | (have h2 : m.testBit 13 = false := hp; rw [bhostWrites] at h2; cases h2)
    | (have h2 : m.testBit 12 = false := hp; rw [bmsix] at h2; cases h2)
    | (have h2 : m.testBit 11 = false := hp; rw [bpcie] at h2; cases h2)

theorem Keeps.upd_comp_formes_gal {m : Nat} {s x : State} {v0} {v1} {v2} (bcomp : m.testBit 19 = true) (bformes : m.testBit 18 = true) (bgal : m.testBit 17 = true)
    (a : Keeps m s x) : Keeps m s { x with comp := v0, formes := v1, gal := v2 } := by
  refine ⟨fun p hp => ?_, a.2⟩
  cases p <;> first
    | exact a.1 _ hp
    | (have h2 : m.testBit 19 = false := hp; rw [bcomp] at h2; cases h2)
    | (have h2 : m.testBit 18 = false := hp; rw [bformes] at h2; cases h2)
    | (have h2 : m.testBit 17 = false := hp; rw [bgal] at h2; cases h2)

theorem Keeps.upd_pace_pins {m : Nat} {s x : State} {v0} {v1} (bpace : m.testBit 24 = true) (bpins : m.testBit 37 = true)
    (a : Keeps m s x) : Keeps m s { x with pace := v0, pins := v1 } := by
  refine ⟨fun p hp => ?_, a.2⟩
  cases p <;> first
    | exact a.1 _ hp
    | (have h2 : m.testBit 24 = false := hp; rw [bpace] at h2; cases h2)
    | (have h2 : m.testBit 37 = false := hp; rw [bpins] at h2; cases h2)

theorem Keeps.upd_pins_web {m : Nat} {s x : State} {v0} {v1} (bpins : m.testBit 37 = true) (bweb : m.testBit 22 = true)
    (a : Keeps m s x) : Keeps m s { x with pins := v0, web := v1 } := by
  refine ⟨fun p hp => ?_, a.2⟩
  cases p <;> first
    | exact a.1 _ hp
    | (have h2 : m.testBit 37 = false := hp; rw [bpins] at h2; cases h2)
    | (have h2 : m.testBit 22 = false := hp; rw [bweb] at h2; cases h2)

theorem Keeps.upd_plat_ports_web {m : Nat} {s x : State} {v0} {v1} {v2} (bplat : m.testBit 20 = true) (bports : m.testBit 21 = true) (bweb : m.testBit 22 = true)
    (a : Keeps m s x) : Keeps m s { x with plat := v0, ports := v1, web := v2 } := by
  refine ⟨fun p hp => ?_, a.2⟩
  cases p <;> first
    | exact a.1 _ hp
    | (have h2 : m.testBit 20 = false := hp; rw [bplat] at h2; cases h2)
    | (have h2 : m.testBit 21 = false := hp; rw [bports] at h2; cases h2)
    | (have h2 : m.testBit 22 = false := hp; rw [bweb] at h2; cases h2)

theorem Keeps.own_pcie {m : Nat} {s x : State} {v : Pcie} (h1 : v.msixPending = x.pcie.msixPending) (h2 : v.msixSent = x.pcie.msixSent) (h3 : v.hostAccess = x.pcie.hostAccess) (bpcie : m.testBit 11 = true)
    (a : Keeps m s x) : Keeps m s { x with pcie := v } := by
  refine ⟨fun p hp => ?_, a.2⟩
  cases p <;> first
    | exact a.1 _ hp
    | (have h2 : m.testBit 11 = false := hp; rw [bpcie] at h2; cases h2)
    | (refine Part.same_trans (a.1 _ hp) ?_; simp_all [Part.same])

theorem Keeps.own_msix {m : Nat} {s x : State} {v : Pcie} (h1 : { v with msixPending := [], msixSent := [], hostAccess := [] } = { x.pcie with msixPending := [], msixSent := [], hostAccess := [] }) (h3 : v.hostAccess = x.pcie.hostAccess) (bmsix : m.testBit 12 = true)
    (a : Keeps m s x) : Keeps m s { x with pcie := v } := by
  refine ⟨fun p hp => ?_, a.2⟩
  cases p <;> first
    | exact a.1 _ hp
    | (have h2 : m.testBit 12 = false := hp; rw [bmsix] at h2; cases h2)
    | (refine Part.same_trans (a.1 _ hp) ?_; simp_all [Part.same])

theorem Keeps.own_hostWrites {m : Nat} {s x : State} {v : Pcie} (h1 : { v with msixPending := [], msixSent := [], hostAccess := [] } = { x.pcie with msixPending := [], msixSent := [], hostAccess := [] }) (h2 : v.msixPending = x.pcie.msixPending) (h3 : v.msixSent = x.pcie.msixSent) (bhostWrites : m.testBit 13 = true)
    (a : Keeps m s x) : Keeps m s { x with pcie := v } := by
  refine ⟨fun p hp => ?_, a.2⟩
  cases p <;> first
    | exact a.1 _ hp
    | (have h2 : m.testBit 13 = false := hp; rw [bhostWrites] at h2; cases h2)
    | (refine Part.same_trans (a.1 _ hp) ?_; simp_all [Part.same])

theorem Keeps.own_ddr {m : Nat} {s x : State} {v : Ddr} (h1 : v.mem = x.ddr.mem) (bddr : m.testBit 27 = true)
    (a : Keeps m s x) : Keeps m s { x with ddr := v } := by
  refine ⟨fun p hp => ?_, a.2⟩
  cases p <;> first
    | exact a.1 _ hp
    | (have h2 : m.testBit 27 = false := hp; rw [bddr] at h2; cases h2)
    | (refine Part.same_trans (a.1 _ hp) ?_; simp_all [Part.same])

theorem Keeps.own_mem {m : Nat} {s x : State} {v : Ddr} (h1 : { v with mem := [] } = { x.ddr with mem := [] }) (bmem : m.testBit 28 = true)
    (a : Keeps m s x) : Keeps m s { x with ddr := v } := by
  refine ⟨fun p hp => ?_, a.2⟩
  cases p <;> first
    | exact a.1 _ hp
    | (have h2 : m.testBit 28 = false := hp; rw [bmem] at h2; cases h2)
    | (refine Part.same_trans (a.1 _ hp) ?_; simp_all [Part.same])

theorem Keeps.own_log {m : Nat} {s x : State} {v : Dev} (h1 : v.ledgerHalt = x.dev.ledgerHalt) (h2 : v.offFired = x.dev.offFired) (blog : m.testBit 6 = true)
    (a : Keeps m s x) : Keeps m s { x with dev := v } := by
  refine ⟨fun p hp => ?_, a.2⟩
  cases p <;> first
    | exact a.1 _ hp
    | (have h2 : m.testBit 6 = false := hp; rw [blog] at h2; cases h2)
    | (refine Part.same_trans (a.1 _ hp) ?_; simp_all [Part.same])

theorem Keeps.own_dev {m : Nat} {s x : State} {v : Dev} (h1 : v.evLog = x.dev.evLog) (h2 : v.evSeq = x.dev.evSeq) (h3 : v.dropsSince = x.dev.dropsSince) (h4 : v.errStamp = x.dev.errStamp) (h5 : v.pdoStamp = x.dev.pdoStamp) (bdev : m.testBit 7 = true)
    (a : Keeps m s x) : Keeps m s { x with dev := v } := by
  refine ⟨fun p hp => ?_, a.2⟩
  cases p <;> first
    | exact a.1 _ hp
    | (have h2 : m.testBit 7 = false := hp; rw [bdev] at h2; cases h2)
    | (refine Part.same_trans (a.1 _ hp) ?_; simp_all [Part.same])

theorem Keeps.own_wake {m : Nat} {s x : State} {v : Pwr} (h1 : { v with exiting := false, entering := none } = { x.pwr with exiting := false, entering := none }) (bwake : m.testBit 33 = true)
    (a : Keeps m s x) : Keeps m s { x with pwr := v } := by
  refine ⟨fun p hp => ?_, a.2⟩
  cases p <;> first
    | exact a.1 _ hp
    | (have h2 : m.testBit 33 = false := hp; rw [bwake] at h2; cases h2)
    | (refine Part.same_trans (a.1 _ hp) ?_; simp_all [Part.same])

theorem Keeps.own_pwr {m : Nat} {s x : State} {v : Pwr} (h1 : v.exiting = x.pwr.exiting) (h2 : v.entering = x.pwr.entering) (bpwr : m.testBit 32 = true)
    (a : Keeps m s x) : Keeps m s { x with pwr := v } := by
  refine ⟨fun p hp => ?_, a.2⟩
  cases p <;> first
    | exact a.1 _ hp
    | (have h2 : m.testBit 32 = false := hp; rw [bpwr] at h2; cases h2)
    | (refine Part.same_trans (a.1 _ hp) ?_; simp_all [Part.same])

theorem Keeps.own_logRing {m : Nat} {s x : State} {v : Vector Egress 10} (h1 : ∀ i : Fin 10, i ≠ 0 → v.get i = x.egress.get i) (blogRing : m.testBit 16 = true)
    (a : Keeps m s x) : Keeps m s { x with egress := v } := by
  refine ⟨fun p hp => ?_, a.2⟩
  cases p <;> first
    | exact a.1 _ hp
    | (have h2 : m.testBit 16 = false := hp; rw [blogRing] at h2; cases h2)
    | (refine Part.same_trans (a.1 _ hp) ?_; simp_all [Part.same])

theorem Keeps.own_egress {m : Nat} {s x : State} {v : Vector Egress 10} (h1 : v.get 0 = x.egress.get 0) (begress : m.testBit 15 = true)
    (a : Keeps m s x) : Keeps m s { x with egress := v } := by
  refine ⟨fun p hp => ?_, a.2⟩
  cases p <;> first
    | exact a.1 _ hp
    | (have h2 : m.testBit 15 = false := hp; rw [begress] at h2; cases h2)
    | (refine Part.same_trans (a.1 _ hp) ?_; simp_all [Part.same])

theorem Keeps.ite {m : Nat} {s a b : State} {c : Prop} [Decidable c] (h1 : Keeps m s a) (h2 : Keeps m s b) :
    Keeps m s (if c then a else b) := by split <;> assumption

theorem Keeps.ite_wr {m : Nat} {s : State} {c : Prop} [Decidable c] {a b : WriteResult} (h1 : Keeps m s a.state)
    (h2 : Keeps m s b.state) : Keeps m s (if c then a else b).state := by split <;> assumption

theorem Keeps.ite_sv {m : Nat} {s : State} {c : Prop} [Decidable c] {a b : Served} (h1 : Keeps m s a.state)
    (h2 : Keeps m s b.state) : Keeps m s (if c then a else b).state := by split <;> assumption

theorem Keeps.done {m : Nat} {s : State} {r : Nat × State} (h : Keeps m s r.2) : Keeps m s (doneNow r).state := h

theorem Keeps.refused {m c : Nat} {s x : State} (h : Keeps m s x) : Keeps m s (refusedWith c x).state := h

theorem Keeps.served {m : Nat} {s : State} {r : WriteResult} (h : Keeps m s r.state) : Keeps m s r.served.state := by
  unfold WriteResult.served; split
  · exact h
  · split <;> exact h

theorem Keeps.own_clk_pcie {m : Nat} {s x : State} {v : Pcie} {w : Clk} (h1 : v.msixPending = x.pcie.msixPending) (h2 : v.msixSent = x.pcie.msixSent) (h3 : v.hostAccess = x.pcie.hostAccess) (bpcie : m.testBit 11 = true) (bclk : m.testBit 34 = true)
    (a : Keeps m s x) : Keeps m s { x with pcie := v, clk := w } :=
  Keeps.upd_clk (x := { x with pcie := v }) bclk (Keeps.own_pcie h1 h2 h3 bpcie a)

theorem Keeps.trans' {m : Nat} {s t u : State} (b : Keeps m t u) (a : Keeps m s t) : Keeps m s u := a.trans b
theorem Fam.has_any (k : Nat) : Fam.has .any k := trivial

theorem Fam.has_rateClass (p : Nat) : Fam.has .rateClass (if p = 0 then OD.RATE_CLASS_A else OD.RATE_CLASS_B) := by
  split
  · exact .inl rfl
  · exact .inr rfl

theorem Fam.has_ACTIVE_SLOT : Fam.has .ACTIVE_SLOT (OD.ACTIVE_SLOT) := rfl

theorem Fam.has_BAD_LINES_TOTAL (n : Nat) : Fam.has .BAD_LINES_TOTAL (OD.BAD_LINES_TOTAL n) := ⟨n, rfl⟩

theorem Fam.has_BAND_SIGNATURE (n : Nat) : Fam.has .BAND_SIGNATURE (OD.BAND_SIGNATURE n) := ⟨n, rfl⟩

theorem Fam.has_BARE_CAUSE : Fam.has .BARE_CAUSE (OD.BARE_CAUSE) := rfl

theorem Fam.has_BARE_ENTRIES : Fam.has .BARE_ENTRIES (OD.BARE_ENTRIES) := rfl

theorem Fam.has_BROWNOUTS : Fam.has .BROWNOUTS (OD.BROWNOUTS) := rfl

theorem Fam.has_CAM_COMMIT_CAUSE (n : Nat) : Fam.has .CAM_COMMIT_CAUSE (OD.CAM_COMMIT_CAUSE n) := ⟨n, rfl⟩

theorem Fam.has_CAM_COMMIT_PENDING (n : Nat) : Fam.has .CAM_COMMIT_PENDING (OD.CAM_COMMIT_PENDING n) := ⟨n, rfl⟩

theorem Fam.has_CAM_RECORDS_LOST (n : Nat) : Fam.has .CAM_RECORDS_LOST (OD.CAM_RECORDS_LOST n) := ⟨n, rfl⟩

theorem Fam.has_CAP_LOC (n : Nat) : Fam.has .CAP_LOC (OD.CAP_LOC n) := ⟨n, rfl⟩

theorem Fam.has_CAP_NET (n : Nat) : Fam.has .CAP_NET (OD.CAP_NET n) := ⟨n, rfl⟩

theorem Fam.has_CAP_OVERRUNS (n : Nat) : Fam.has .CAP_OVERRUNS (OD.CAP_OVERRUNS n) := ⟨n, rfl⟩

theorem Fam.has_CAP_POSITION (n : Nat) : Fam.has .CAP_POSITION (OD.CAP_POSITION n) := ⟨n, rfl⟩

theorem Fam.has_CCI_DATA (n : Nat) : Fam.has .CCI_DATA (OD.CCI_DATA n) := ⟨n, rfl⟩

theorem Fam.has_CCI_STATUS (n : Nat) : Fam.has .CCI_STATUS (OD.CCI_STATUS n) := ⟨n, rfl⟩

theorem Fam.has_CHANGE_SEQ : Fam.has .CHANGE_SEQ (OD.CHANGE_SEQ) := rfl

theorem Fam.has_CLOCK_FAILURES : Fam.has .CLOCK_FAILURES (OD.CLOCK_FAILURES) := rfl

theorem Fam.has_CMP_ARM (n : Nat) : Fam.has .CMP_ARM (OD.CMP_ARM n) := ⟨n, rfl⟩

theorem Fam.has_CMP_FRACTION (n : Nat) : Fam.has .CMP_FRACTION (OD.CMP_FRACTION n) := ⟨n, rfl⟩

theorem Fam.has_CMP_MATCHES (n : Nat) : Fam.has .CMP_MATCHES (OD.CMP_MATCHES n) := ⟨n, rfl⟩

theorem Fam.has_CMP_TARGET (n : Nat) : Fam.has .CMP_TARGET (OD.CMP_TARGET n) := ⟨n, rfl⟩

theorem Fam.has_COMPACTIONS : Fam.has .COMPACTIONS (OD.COMPACTIONS) := rfl

theorem Fam.has_COOL_MODE (n : Nat) : Fam.has .COOL_MODE (OD.COOL_MODE n) := ⟨n, rfl⟩

theorem Fam.has_DCHK_ENABLE : Fam.has .DCHK_ENABLE (OD.DCHK_ENABLE) := rfl

theorem Fam.has_DCHK_OFF_FIRST_LINE : Fam.has .DCHK_OFF_FIRST_LINE (OD.DCHK_OFF_FIRST_LINE) := rfl

theorem Fam.has_DCHK_OFF_LAST_LINE : Fam.has .DCHK_OFF_LAST_LINE (OD.DCHK_OFF_LAST_LINE) := rfl

theorem Fam.has_DECODED_LINES (n i : Nat) : Fam.has .DECODED_LINES (OD.DECODED_LINES n i) := ⟨n, i, rfl⟩

theorem Fam.has_DEFERRED_SLOTS (n : Nat) : Fam.has .DEFERRED_SLOTS (OD.DEFERRED_SLOTS n) := ⟨n, rfl⟩

theorem Fam.has_DELIVERED_BYTES (n i : Nat) : Fam.has .DELIVERED_BYTES (OD.DELIVERED_BYTES n i) := ⟨n, i, rfl⟩

theorem Fam.has_DENSITY : Fam.has .DENSITY (OD.DENSITY) := rfl

theorem Fam.has_DISCARDED_SLOTS (n : Nat) : Fam.has .DISCARDED_SLOTS (OD.DISCARDED_SLOTS n) := ⟨n, rfl⟩

theorem Fam.has_ECC_CORRECTED : Fam.has .ECC_CORRECTED (OD.ECC_CORRECTED) := rfl

theorem Fam.has_ECC_ERRORS (n : Nat) : Fam.has .ECC_ERRORS (OD.ECC_ERRORS n) := ⟨n, rfl⟩

theorem Fam.has_ECC_LAST_ADDRESS : Fam.has .ECC_LAST_ADDRESS (OD.ECC_LAST_ADDRESS) := rfl

theorem Fam.has_ECC_UNCORRECTABLE : Fam.has .ECC_UNCORRECTABLE (OD.ECC_UNCORRECTABLE) := rfl

theorem Fam.has_EVENT_ACK (n : Nat) : Fam.has .EVENT_ACK (OD.EVENT_ACK n) := ⟨n, rfl⟩

theorem Fam.has_EVENT_BITS (n : Nat) : Fam.has .EVENT_BITS (OD.EVENT_BITS n) := ⟨n, rfl⟩

theorem Fam.has_EVENT_LOG_DROPPED : Fam.has .EVENT_LOG_DROPPED (OD.EVENT_LOG_DROPPED) := rfl

theorem Fam.has_FAILED_STARTS : Fam.has .FAILED_STARTS (OD.FAILED_STARTS) := rfl

theorem Fam.has_FAULT_CHECK : Fam.has .FAULT_CHECK (OD.FAULT_CHECK) := rfl

theorem Fam.has_FAULT_HELD (n : Nat) : Fam.has .FAULT_HELD (OD.FAULT_HELD n) := ⟨n, rfl⟩

theorem Fam.has_FAULT_LEDGER : Fam.has .FAULT_LEDGER (OD.FAULT_LEDGER) := rfl

theorem Fam.has_FAULT_LOC : Fam.has .FAULT_LOC (OD.FAULT_LOC) := rfl

theorem Fam.has_FAULT_SUM : Fam.has .FAULT_SUM (OD.FAULT_SUM) := rfl

theorem Fam.has_FINDINGS : Fam.has .FINDINGS (OD.FINDINGS) := rfl

theorem Fam.has_FORME_CAUSE (n : Nat) : Fam.has .FORME_CAUSE (OD.FORME_CAUSE n) := ⟨n, rfl⟩

theorem Fam.has_FORME_FIRST_LINE (n : Nat) : Fam.has .FORME_FIRST_LINE (OD.FORME_FIRST_LINE n) := ⟨n, rfl⟩

theorem Fam.has_FORME_LAST_LINE (n : Nat) : Fam.has .FORME_LAST_LINE (OD.FORME_LAST_LINE n) := ⟨n, rfl⟩

theorem Fam.has_FORME_SKIPPED (n : Nat) : Fam.has .FORME_SKIPPED (OD.FORME_SKIPPED n) := ⟨n, rfl⟩

theorem Fam.has_FRAMES_DROPPED (n : Nat) : Fam.has .FRAMES_DROPPED (OD.FRAMES_DROPPED n) := ⟨n, rfl⟩

theorem Fam.has_FRAMES_SKIPPED : Fam.has .FRAMES_SKIPPED (OD.FRAMES_SKIPPED) := rfl

theorem Fam.has_FSN (n : Nat) : Fam.has .FSN (OD.FSN n) := ⟨n, rfl⟩

theorem Fam.has_HEAD_FLAGS (n : Nat) : Fam.has .HEAD_FLAGS (OD.HEAD_FLAGS n) := ⟨n, rfl⟩

theorem Fam.has_HEAD_MODEL (n : Nat) : Fam.has .HEAD_MODEL (OD.HEAD_MODEL n) := ⟨n, rfl⟩

theorem Fam.has_HEAD_SERIAL (n : Nat) : Fam.has .HEAD_SERIAL (OD.HEAD_SERIAL n) := ⟨n, rfl⟩

theorem Fam.has_HELD_LINE : Fam.has .HELD_LINE (OD.HELD_LINE) := rfl

theorem Fam.has_HOLD_COUNT : Fam.has .HOLD_COUNT (OD.HOLD_COUNT) := rfl

theorem Fam.has_INDEX_ACTUAL : Fam.has .INDEX_ACTUAL (OD.INDEX_ACTUAL) := rfl

theorem Fam.has_INDEX_EXPECTED : Fam.has .INDEX_EXPECTED (OD.INDEX_EXPECTED) := rfl

theorem Fam.has_INDEX_MISMATCHES : Fam.has .INDEX_MISMATCHES (OD.INDEX_MISMATCHES) := rfl

theorem Fam.has_INSTALLED_SIZE : Fam.has .INSTALLED_SIZE (OD.INSTALLED_SIZE) := rfl

theorem Fam.has_JUNCTION_MAX : Fam.has .JUNCTION_MAX (OD.JUNCTION_MAX) := rfl

theorem Fam.has_JUNCTION_TEMP : Fam.has .JUNCTION_TEMP (OD.JUNCTION_TEMP) := rfl

theorem Fam.has_KNOWN_SERIAL (n : Nat) : Fam.has .KNOWN_SERIAL (OD.KNOWN_SERIAL n) := ⟨n, rfl⟩

theorem Fam.has_LAST_CAUSE : Fam.has .LAST_CAUSE (OD.LAST_CAUSE) := rfl

theorem Fam.has_LAST_STEP : Fam.has .LAST_STEP (OD.LAST_STEP) := rfl

theorem Fam.has_LAST_TAKEOVER_LINE : Fam.has .LAST_TAKEOVER_LINE (OD.LAST_TAKEOVER_LINE) := rfl

theorem Fam.has_LEDGER_FAULT_COUNT (n : Nat) : Fam.has .LEDGER_FAULT_COUNT (OD.LEDGER_FAULT_COUNT n) := ⟨n, rfl⟩

theorem Fam.has_LIVE_ID (n : Nat) : Fam.has .LIVE_ID (OD.LIVE_ID n) := ⟨n, rfl⟩

theorem Fam.has_LIVE_SEQ (n : Nat) : Fam.has .LIVE_SEQ (OD.LIVE_SEQ n) := ⟨n, rfl⟩

theorem Fam.has_LOOP_LATE : Fam.has .LOOP_LATE (OD.LOOP_LATE) := rfl

theorem Fam.has_MAX_LATE (n : Nat) : Fam.has .MAX_LATE (OD.MAX_LATE n) := ⟨n, rfl⟩

theorem Fam.has_MISSED_RECORDS : Fam.has .MISSED_RECORDS (OD.MISSED_RECORDS) := rfl

theorem Fam.has_MISSED_TRIGGERS (n : Nat) : Fam.has .MISSED_TRIGGERS (OD.MISSED_TRIGGERS n) := ⟨n, rfl⟩

theorem Fam.has_MOT_COMMIT_CAUSE (n : Nat) : Fam.has .MOT_COMMIT_CAUSE (OD.MOT_COMMIT_CAUSE n) := ⟨n, rfl⟩

theorem Fam.has_MOT_COMMIT_PENDING (n : Nat) : Fam.has .MOT_COMMIT_PENDING (OD.MOT_COMMIT_PENDING n) := ⟨n, rfl⟩

theorem Fam.has_MR_VENDOR : Fam.has .MR_VENDOR (OD.MR_VENDOR) := rfl

theorem Fam.has_NEGOTIATED_VERSION (n : Nat) : Fam.has .NEGOTIATED_VERSION (OD.NEGOTIATED_VERSION n) := ⟨n, rfl⟩

theorem Fam.has_NEXT_SOURCE : Fam.has .NEXT_SOURCE (OD.NEXT_SOURCE) := rfl

theorem Fam.has_NOZZLE_GRID (n : Nat) : Fam.has .NOZZLE_GRID (OD.NOZZLE_GRID n) := ⟨n, rfl⟩

theorem Fam.has_OHL_FAULT_CAUSE (n : Nat) : Fam.has .OHL_FAULT_CAUSE (OD.OHL_FAULT_CAUSE n) := ⟨n, rfl⟩

theorem Fam.has_OTHER_PACKETS (n : Nat) : Fam.has .OTHER_PACKETS (OD.OTHER_PACKETS n) := ⟨n, rfl⟩

theorem Fam.has_PACE_POSITION : Fam.has .PACE_POSITION (OD.PACE_POSITION) := rfl

theorem Fam.has_PAGES_COMMITTED : Fam.has .PAGES_COMMITTED (OD.PAGES_COMMITTED) := rfl

theorem Fam.has_PARTNER_READY : Fam.has .PARTNER_READY (OD.PARTNER_READY) := rfl

theorem Fam.has_PLAT_COMMIT_PENDING (n : Nat) : Fam.has .PLAT_COMMIT_PENDING (OD.PLAT_COMMIT_PENDING n) := ⟨n, rfl⟩

theorem Fam.has_PLAT_LAG : Fam.has .PLAT_LAG (OD.PLAT_LAG) := rfl

theorem Fam.has_PRESS_CONTROL : Fam.has .PRESS_CONTROL (OD.PRESS_CONTROL) := rfl

theorem Fam.has_PRF_RECORDS_LOST : Fam.has .PRF_RECORDS_LOST (OD.PRF_RECORDS_LOST) := rfl

theorem Fam.has_PROPOSAL_ID : Fam.has .PROPOSAL_ID (OD.PROPOSAL_ID) := rfl

theorem Fam.has_PUSH_COUNT : Fam.has .PUSH_COUNT (OD.PUSH_COUNT) := rfl

theorem Fam.has_PUSH_FIRST : Fam.has .PUSH_FIRST (OD.PUSH_FIRST) := rfl

theorem Fam.has_PUSH_SEQ : Fam.has .PUSH_SEQ (OD.PUSH_SEQ) := rfl

theorem Fam.has_QUAD_ERRORS : Fam.has .QUAD_ERRORS (OD.QUAD_ERRORS) := rfl

theorem Fam.has_RANKS : Fam.has .RANKS (OD.RANKS) := rfl

theorem Fam.has_REFRESH_FORCED : Fam.has .REFRESH_FORCED (OD.REFRESH_FORCED) := rfl

theorem Fam.has_REFRESH_RATE : Fam.has .REFRESH_RATE (OD.REFRESH_RATE) := rfl

theorem Fam.has_REFUSALS : Fam.has .REFUSALS (OD.REFUSALS) := rfl

theorem Fam.has_REFUSED_WRITES : Fam.has .REFUSED_WRITES (OD.REFUSED_WRITES) := rfl

theorem Fam.has_REQUESTS : Fam.has .REQUESTS (OD.REQUESTS) := rfl

theorem Fam.has_REQUESTS_REFUSED : Fam.has .REQUESTS_REFUSED (OD.REQUESTS_REFUSED) := rfl

theorem Fam.has_REQ_BAND_TAKEN : Fam.has .REQ_BAND_TAKEN (OD.REQ_BAND_TAKEN) := rfl

theorem Fam.has_REQ_CAUSE : Fam.has .REQ_CAUSE (OD.REQ_CAUSE) := rfl

theorem Fam.has_RESET_DETAIL : Fam.has .RESET_DETAIL (OD.RESET_DETAIL) := rfl

theorem Fam.has_RESET_KIND : Fam.has .RESET_KIND (OD.RESET_KIND) := rfl

theorem Fam.has_RETRAINS (n : Nat) : Fam.has .RETRAINS (OD.RETRAINS n) := ⟨n, rfl⟩

theorem Fam.has_RETRIES (n : Nat) : Fam.has .RETRIES (OD.RETRIES n) := ⟨n, rfl⟩

theorem Fam.has_RETURNS : Fam.has .RETURNS (OD.RETURNS) := rfl

theorem Fam.has_ROW_OFFSET (n i : Nat) : Fam.has .ROW_OFFSET (OD.ROW_OFFSET n i) := ⟨n, i, rfl⟩

theorem Fam.has_SELFTEST_FAILS (n : Nat) : Fam.has .SELFTEST_FAILS (OD.SELFTEST_FAILS n) := ⟨n, rfl⟩

theorem Fam.has_SETTINGS_LATE (n : Nat) : Fam.has .SETTINGS_LATE (OD.SETTINGS_LATE n) := ⟨n, rfl⟩

theorem Fam.has_SIGNATURE_BAND (n : Nat) : Fam.has .SIGNATURE_BAND (OD.SIGNATURE_BAND n) := ⟨n, rfl⟩

theorem Fam.has_SLACK : Fam.has .SLACK (OD.SLACK) := rfl

theorem Fam.has_SLIP_TICKS (n : Nat) : Fam.has .SLIP_TICKS (OD.SLIP_TICKS n) := ⟨n, rfl⟩

theorem Fam.has_START_CAUSE (n : Nat) : Fam.has .START_CAUSE (OD.START_CAUSE n) := ⟨n, rfl⟩

theorem Fam.has_START_TIME : Fam.has .START_TIME (OD.START_TIME) := rfl

theorem Fam.has_STEP_PENDING : Fam.has .STEP_PENDING (OD.STEP_PENDING) := rfl

theorem Fam.has_STREAM_ERRORS : Fam.has .STREAM_ERRORS (OD.STREAM_ERRORS) := rfl

theorem Fam.has_SUMMARIES_LOST : Fam.has .SUMMARIES_LOST (OD.SUMMARIES_LOST) := rfl

theorem Fam.has_SUPPLY_STATUS : Fam.has .SUPPLY_STATUS (OD.SUPPLY_STATUS) := rfl

theorem Fam.has_SYNC_SKEW_LAST : Fam.has .SYNC_SKEW_LAST (OD.SYNC_SKEW_LAST) := rfl

theorem Fam.has_TAKEOVERS : Fam.has .TAKEOVERS (OD.TAKEOVERS) := rfl

theorem Fam.has_TARGET_FSN (n : Nat) : Fam.has .TARGET_FSN (OD.TARGET_FSN n) := ⟨n, rfl⟩

theorem Fam.has_TEMPERATURE (n : Nat) : Fam.has .TEMPERATURE (OD.TEMPERATURE n) := ⟨n, rfl⟩

theorem Fam.has_TORN_LINES : Fam.has .TORN_LINES (OD.TORN_LINES) := rfl

theorem Fam.has_TORN_TAILS : Fam.has .TORN_TAILS (OD.TORN_TAILS) := rfl

theorem Fam.has_TRACE_DROPPED : Fam.has .TRACE_DROPPED (OD.TRACE_DROPPED) := rfl

theorem Fam.has_TRAINING_RESULT : Fam.has .TRAINING_RESULT (OD.TRAINING_RESULT) := rfl

theorem Fam.has_TRAINING_TIME : Fam.has .TRAINING_TIME (OD.TRAINING_TIME) := rfl

theorem Fam.has_TRIAL : Fam.has .TRIAL (OD.TRIAL) := rfl

theorem Fam.has_TRIALS : Fam.has .TRIALS (OD.TRIALS) := rfl

theorem Fam.has_UNCOVERED_DOTS (n : Nat) : Fam.has .UNCOVERED_DOTS (OD.UNCOVERED_DOTS n) := ⟨n, rfl⟩

theorem Fam.has_UNRESOLVED : Fam.has .UNRESOLVED (OD.UNRESOLVED) := rfl

theorem Fam.has_UPDATE_SLOT : Fam.has .UPDATE_SLOT (OD.UPDATE_SLOT) := rfl

theorem Fam.has_VHEAD (n : Nat) : Fam.has .VHEAD (OD.VHEAD n) := ⟨n, rfl⟩

theorem Fam.has_VLOGIC (n : Nat) : Fam.has .VLOGIC (OD.VLOGIC n) := ⟨n, rfl⟩

theorem Fam.has_WAKE_LATE : Fam.has .WAKE_LATE (OD.WAKE_LATE) := rfl

theorem Fam.has_WEB_LINE_AT_SYNC : Fam.has .WEB_LINE_AT_SYNC (OD.WEB_LINE_AT_SYNC) := rfl

theorem Fam.has_WEB_SPEED : Fam.has .WEB_SPEED (OD.WEB_SPEED) := rfl

theorem Fam.has_WINDOWS_INSPECTED : Fam.has .WINDOWS_INSPECTED (OD.WINDOWS_INSPECTED) := rfl
theorem Fam.has_RESUME_LINE (n : Nat) : Fam.has .RESUME_LINE (OD.RESUME_LINE n) := ⟨n, rfl⟩

end Sys2Proof.Machine
end

