-- ==== Sys2Proof/Laws/FrameUnits.lean ====
section
/-! SUPPORT. Laws/FrameUnits.lean: the frame of every operation of the units: one lemma per operation, whose mask
(Safety.lean) names every place that the operation may change. -/

namespace Sys2Proof.Machine
open Sys2Proof

/-! ### Machine/Store.lean -/

theorem State.setL_fr : ∀ a0 a1 a2, Keeps 0x10 a2 (State.setL a0 a1 a2) := by
  intros; unfold State.setL
  (try dsimp only)
  repeat' first
    | with_reducible exact Keeps.refl _ _
    | split
    | intro _
    | dsimp only
    | (with_reducible apply Keeps.upd_live; decide)

theorem State.setDom_fr : ∀ k o bs s, Keeps 0x8 s (State.setDom k o bs s) := by
  intro k o bs; induction bs generalizing o with
  | nil => intros; exact Keeps.refl _ _
  | cons b bs ih =>
    intro s; rw [State.setDom]
    exact Keeps.trans (Keeps.upd_dom rfl (Keeps.refl _ _)) (ih _ _)

theorem State.handOver_fr : ∀ a0 a1, Keeps 0x30 a1 (State.handOver a0 a1) := by
  intros; unfold State.handOver
  (try dsimp only)
  repeat' first
    | with_reducible exact Keeps.refl _ _
    | split
    | intro _
    | dsimp only
    | (with_reducible apply Keeps.upd_live_liveDom; decide; decide)

/-! ### Machine/Ops.lean -/

theorem freeDrawn_fr : ∀ a0, Keeps 0x4 a0 (freeDrawn a0) := by
  intros; unfold freeDrawn
  (try dsimp only)
  repeat' first
    | with_reducible exact Keeps.refl _ _
    | split
    | intro _
    | dsimp only
    | (with_reducible apply Keeps.upd_freeCtr; decide)

theorem demandWake_fr : ∀ a0, Keeps 0x200000000 a0 (demandWake a0) := by
  intros; unfold demandWake
  (try dsimp only)
  repeat' first
    | with_reducible exact Keeps.refl _ _
    | split
    | intro _
    | dsimp only
    | (with_reducible apply Keeps.own_wake; rfl; decide)
    | (with_reducible apply Keeps.own_pwr; rfl; rfl; decide)
    | (with_reducible apply Keeps.upd_pwr; decide; decide)

theorem driveHold_fr : ∀ a0, Keeps 0x2000000000 a0 (driveHold a0) := by
  intros; unfold driveHold
  (try dsimp only)
  repeat' first
    | with_reducible exact Keeps.refl _ _
    | split
    | intro _
    | dsimp only
    | (with_reducible apply Keeps.upd_pins; decide)

theorem answerTo_fr : ∀ a0 a1 a2, Keeps 0xc00 a2 (answerTo a0 a1 a2) := by
  intros; unfold answerTo
  (try dsimp only)
  repeat' first
    | with_reducible exact Keeps.refl _ _
    | split
    | intro _
    | dsimp only
    | (with_reducible apply Keeps.upd_net; decide)
    | (with_reducible apply Keeps.own_pcie; rfl; rfl; rfl; decide)
    | (with_reducible apply Keeps.own_msix; rfl; rfl; decide)
    | (with_reducible apply Keeps.own_hostWrites; rfl; rfl; rfl; decide)
    | (with_reducible apply Keeps.upd_pcie; decide; decide; decide)

theorem openRecord_fr : ∀ a0 a1 a2, Keeps 0x80000000 a2 (openRecord a0 a1 a2) := by
  intros; unfold openRecord
  (try dsimp only)
  repeat' first
    | with_reducible exact Keeps.refl _ _
    | split
    | intro _
    | dsimp only
    | (with_reducible apply Keeps.upd_tymp; decide)

theorem journalEvent_fr : ∀ a0 a1 a2, Keeps 0x80000040 a2 (journalEvent a0 a1 a2) := by
  intros; unfold journalEvent
  (try dsimp only)
  repeat' first
    | with_reducible exact Keeps.refl _ _
    | (with_reducible apply Keeps.step (openRecord_fr ..); decide)
    | split
    | intro _
    | dsimp only
    | (with_reducible apply Keeps.own_log; rfl; rfl; decide)
    | (with_reducible apply Keeps.own_dev; rfl; rfl; rfl; rfl; rfl; decide)
    | (with_reducible apply Keeps.upd_dev; decide; decide)
    | (with_reducible apply Keeps.own_dev; rfl; rfl; rfl; rfl; decide)

theorem sendMsix_fr : ∀ a0 a1, Keeps 0x200001000 a1 (sendMsix a0 a1) := by
  intros; unfold sendMsix
  (try dsimp only)
  repeat' first
    | with_reducible exact Keeps.refl _ _
    | (with_reducible apply Keeps.step (demandWake_fr ..); decide)
    | split
    | intro _
    | dsimp only
    | (with_reducible apply Keeps.own_pcie; rfl; rfl; rfl; decide)
    | (with_reducible apply Keeps.own_msix; rfl; rfl; decide)
    | (with_reducible apply Keeps.own_hostWrites; rfl; rfl; rfl; decide)
    | (with_reducible apply Keeps.upd_pcie; decide; decide; decide)

theorem setPdoBit_fr : ∀ a0 a1, Keeps 0x40000000000000000040 a1 (setPdoBit a0 a1) := by
  intros; unfold setPdoBit
  (try dsimp only)
  have kEVENT_BITS := Fam.has_EVENT_BITS
  generalize OD.EVENT_BITS = fEVENT_BITS at kEVENT_BITS ⊢
  repeat' first
    | with_reducible exact Keeps.refl _ _
    | (with_reducible apply Keeps.setO .EVENT_BITS ?_ (kEVENT_BITS ..) ?_; decide)
    | split
    | intro _
    | dsimp only
    | (with_reducible apply Keeps.own_log; rfl; rfl; decide)
    | (with_reducible apply Keeps.own_dev; rfl; rfl; rfl; rfl; rfl; decide)
    | (with_reducible apply Keeps.upd_dev; decide; decide)

theorem routeSignals_fr : ∀ a0 a1 a2, Keeps 0x40000000000200001040 a2 (routeSignals a0 a1 a2) := by
  intros; unfold routeSignals
  (try dsimp only)
  repeat' first
    | with_reducible exact Keeps.refl _ _
    | (with_reducible apply Keeps.step (sendMsix_fr ..); decide)
    | (with_reducible apply Keeps.step (setPdoBit_fr ..); decide)
    | with_reducible apply Keeps.whenDo
    | split
    | intro _
    | dsimp only

theorem writeLog_fr : ∀ a0 a1 a2 a3 a4 a5, Keeps 0x40 a5 (writeLog a0 a1 a2 a3 a4 a5) := by
  intros; unfold writeLog
  (try dsimp only)
  repeat' first
    | with_reducible exact Keeps.refl _ _
    | split
    | intro _
    | dsimp only
    | (with_reducible apply Keeps.own_log; rfl; rfl; decide)
    | (with_reducible apply Keeps.own_dev; rfl; rfl; rfl; rfl; rfl; decide)
    | (with_reducible apply Keeps.upd_dev; decide; decide)
    | (with_reducible apply Keeps.own_dev; rfl; rfl; rfl; rfl; decide)

theorem overflowRecord_fr : ∀ a0, Keeps 0x40000000000200001040 a0 (overflowRecord a0) := by
  intros; unfold overflowRecord
  (try dsimp only)
  repeat' first
    | with_reducible exact Keeps.refl _ _
    | (with_reducible apply Keeps.step (routeSignals_fr ..); decide)
    | (with_reducible apply Keeps.step (writeLog_fr ..); decide)
    | split
    | intro _
    | dsimp only
    | (with_reducible apply Keeps.own_log; rfl; rfl; decide)
    | (with_reducible apply Keeps.own_dev; rfl; rfl; rfl; rfl; rfl; decide)
    | (with_reducible apply Keeps.upd_dev; decide; decide)
    | (with_reducible apply Keeps.own_dev; rfl; rfl; rfl; rfl; decide)

theorem logEvent_fr : ∀ a0 a1 a2 a3 a4 a5, Keeps 0x10000000000000000000000c0000000000200001040 a5 (logEvent a0 a1 a2 a3 a4 a5) := by
  intros; unfold logEvent
  (try dsimp only)
  have kEVENT_LOG_DROPPED := Fam.has_EVENT_LOG_DROPPED
  generalize OD.EVENT_LOG_DROPPED = fEVENT_LOG_DROPPED at kEVENT_LOG_DROPPED ⊢
  have kTRACE_DROPPED := Fam.has_TRACE_DROPPED
  generalize OD.TRACE_DROPPED = fTRACE_DROPPED at kTRACE_DROPPED ⊢
  repeat' first
    | with_reducible exact Keeps.refl _ _
    | (with_reducible apply Keeps.step (overflowRecord_fr ..); decide)
    | (with_reducible apply Keeps.step (writeLog_fr ..); decide)
    | (with_reducible apply Keeps.bump .EVENT_LOG_DROPPED ?_ (kEVENT_LOG_DROPPED ..) ?_; decide)
    | (with_reducible apply Keeps.bump .TRACE_DROPPED ?_ (kTRACE_DROPPED ..) ?_; decide)
    | split
    | intro _
    | dsimp only
    | (with_reducible apply Keeps.own_log; rfl; rfl; decide)
    | (with_reducible apply Keeps.own_dev; rfl; rfl; rfl; rfl; rfl; decide)
    | (with_reducible apply Keeps.upd_dev; decide; decide)
    | (with_reducible apply Keeps.own_dev; rfl; rfl; rfl; rfl; decide)

theorem routeEvent_fr : ∀ a0 a1 a2 a3 a4 a5 a6 a7, Keeps 0x10000000000000000000000c0000000000200001040 a7 (routeEvent a0 a1 a2 a3 a4 a5 a6 a7) := by
  intros; unfold routeEvent
  (try dsimp only)
  repeat' first
    | with_reducible exact Keeps.refl _ _
    | (with_reducible apply Keeps.step (logEvent_fr ..); decide)
    | (with_reducible apply Keeps.step (routeSignals_fr ..); decide)
    | with_reducible apply Keeps.whenDo
    | split
    | intro _
    | dsimp only

theorem stallOf_fr : ∀ a0 a1 a2, Keeps 0x10000000000000000000000c0000000000200019040 a2 (stallOf a0 a1 a2) := by
  intros; unfold stallOf
  (try dsimp only)
  repeat' first
    | with_reducible exact Keeps.refl _ _
    | (with_reducible apply Keeps.step (routeEvent_fr ..); decide)
    | split
    | intro _
    | dsimp only
    | (with_reducible apply Keeps.upd_egress; decide; decide)

theorem stallCheck_fr : ∀ a0 a1 a2, Keeps 0x10000000000000000000000c0000000000200019040 a2 (stallCheck a0 a1 a2) := by
  intros; unfold stallCheck; dsimp only
  exact Keeps.step (stallOf_fr ..) (by decide) (Keeps.step (stallOf_fr ..) (by decide) (Keeps.refl _ _))

theorem stallCheck_log_fr : ∀ a1 a2, Keeps 0x10000000000000000000000c0000000000280011040 a2 (stallCheck 96 a1 a2) := by
  have own : ∀ (a : Bool) (s : State), Keeps 0x10000000000000000000000c0000000000280011040 s (stallOf 96 a s) := by
    intros; unfold stallOf; dsimp only; split
    · refine Keeps.step (routeEvent_fr ..) (by decide) ?_
      refine Keeps.own_logRing ?_ (by decide) (Keeps.refl _ _)
      intro i hi
      simp only [vmodN, Nat.sub_self, Nat.zero_lt_succ, ↓reduceDIte]
      obtain ⟨n, hn⟩ := i
      exact Vector.getElem_set_ne (by decide) hn (fun h => hi (Fin.ext h.symm))
    · exact Keeps.refl _ _
  intros; unfold stallCheck; dsimp only
  exact (own _ _).trans (own _ _)

theorem raiseX_fr : ∀ a0 a1 a2 a3 a4 a5, Keeps 0x10000000000000000000000c0000000000280011040 a5 (raiseX a0 a1 a2 a3 a4 a5) := by
  intros; unfold raiseX; dsimp only
  refine Keeps.step (stallCheck_log_fr ..) (by decide) ?_
  refine Keeps.step (journalEvent_fr ..) (by decide) ?_
  exact Keeps.step (routeEvent_fr ..) (by decide) (Keeps.refl _ _)

theorem raise_fr : ∀ a0 a1 a2, Keeps 0x10000000000000000000000c0000000000280011040 a2 (raise a0 a1 a2) := by
  intros; unfold raise
  (try dsimp only)
  repeat' first
    | with_reducible exact Keeps.refl _ _
    | (with_reducible apply Keeps.step (raiseX_fr ..); decide)
    | split
    | intro _
    | dsimp only

theorem moveLedger_fr : ∀ a0 a1 a2 a3 a4, Keeps 0x100 a4 (moveLedger a0 a1 a2 a3 a4) := by
  intros; unfold moveLedger
  (try dsimp only)
  repeat' first
    | with_reducible exact Keeps.refl _ _
    | split
    | intro _
    | dsimp only
    | (with_reducible apply Keeps.upd_ledgers; decide)

theorem startLedger_fr : ∀ a0 a1 a2, Keeps 0x100 a2 (startLedger a0 a1 a2) := by
  intros; unfold startLedger
  (try dsimp only)
  repeat' first
    | with_reducible exact Keeps.refl _ _
    | split
    | intro _
    | dsimp only
    | (with_reducible apply Keeps.upd_ledgers; decide)

theorem freeHolder_fr : ∀ a0 a1 a2, Keeps 0x100 a2 (freeHolder a0 a1 a2) := by
  intros; unfold freeHolder
  (try dsimp only)
  repeat' first
    | with_reducible exact Keeps.refl _ _
    | (with_reducible apply Keeps.step (moveLedger_fr ..); decide)
    | split
    | intro _
    | dsimp only

theorem latchFault_fr : ∀ a0 a1 a2, Keeps 0x3e00000000000000000000 a2 (latchFault a0 a1 a2) := by
  intros; unfold latchFault
  (try dsimp only)
  have kFAULT_CHECK := Fam.has_FAULT_CHECK
  generalize OD.FAULT_CHECK = fFAULT_CHECK at kFAULT_CHECK ⊢
  have kFAULT_HELD := Fam.has_FAULT_HELD
  generalize OD.FAULT_HELD = fFAULT_HELD at kFAULT_HELD ⊢
  have kFAULT_LEDGER := Fam.has_FAULT_LEDGER
  generalize OD.FAULT_LEDGER = fFAULT_LEDGER at kFAULT_LEDGER ⊢
  have kFAULT_LOC := Fam.has_FAULT_LOC
  generalize OD.FAULT_LOC = fFAULT_LOC at kFAULT_LOC ⊢
  have kFAULT_SUM := Fam.has_FAULT_SUM
  generalize OD.FAULT_SUM = fFAULT_SUM at kFAULT_SUM ⊢
  repeat' first
    | with_reducible exact Keeps.refl _ _
    | with_reducible apply Keeps.eachDo
    | (with_reducible apply Keeps.setO .FAULT_CHECK ?_ (kFAULT_CHECK ..) ?_; decide)
    | (with_reducible apply Keeps.setO .FAULT_HELD ?_ (kFAULT_HELD ..) ?_; decide)
    | (with_reducible apply Keeps.setO .FAULT_LEDGER ?_ (kFAULT_LEDGER ..) ?_; decide)
    | (with_reducible apply Keeps.setO .FAULT_LOC ?_ (kFAULT_LOC ..) ?_; decide)
    | (with_reducible apply Keeps.setO .FAULT_SUM ?_ (kFAULT_SUM ..) ?_; decide)
    | split
    | intro _
    | dsimp only

theorem checkLedgers_fr : ∀ a0 a1 a2, Keeps 0x1000000000000002000003ec00000000002800110c0 a2 (checkLedgers a0 a1 a2) := by
  intros; unfold checkLedgers
  (try dsimp only)
  have kLEDGER_FAULT_COUNT := Fam.has_LEDGER_FAULT_COUNT
  generalize OD.LEDGER_FAULT_COUNT = fLEDGER_FAULT_COUNT at kLEDGER_FAULT_COUNT ⊢
  repeat' first
    | with_reducible exact Keeps.refl _ _
    | (with_reducible apply Keeps.step (latchFault_fr ..); decide)
    | (with_reducible apply Keeps.step (raiseX_fr ..); decide)
    | with_reducible apply Keeps.eachDo
    | (with_reducible apply Keeps.bump .LEDGER_FAULT_COUNT ?_ (kLEDGER_FAULT_COUNT ..) ?_; decide)
    | split
    | intro _
    | dsimp only
    | (with_reducible apply Keeps.own_log; rfl; rfl; decide)
    | (with_reducible apply Keeps.own_dev; rfl; rfl; rfl; rfl; rfl; decide)
    | (with_reducible apply Keeps.upd_dev; decide; decide)
    | (with_reducible apply Keeps.own_dev; rfl; rfl; rfl; rfl; decide)

theorem reserveSlots_fr : ∀ a0 a1 a2, Keeps 0x18100 a2 (reserveSlots a0 a1 a2) := by
  intros; unfold reserveSlots
  (try dsimp only)
  repeat' first
    | with_reducible exact Keeps.refl _ _
    | (with_reducible apply Keeps.step (moveLedger_fr ..); decide)
    | split
    | intro _
    | dsimp only
    | (with_reducible apply Keeps.upd_egress; decide; decide)

theorem unreserveSlots_fr : ∀ a0 a1 a2, Keeps 0x18100 a2 (unreserveSlots a0 a1 a2) := by
  intros; unfold unreserveSlots
  (try dsimp only)
  repeat' first
    | with_reducible exact Keeps.refl _ _
    | (with_reducible apply Keeps.step (moveLedger_fr ..); decide)
    | split
    | intro _
    | dsimp only
    | (with_reducible apply Keeps.upd_egress; decide; decide)

theorem modChannel_fr : ∀ a0 a1 a2, Keeps 0x8000000 a2 (modChannel a0 a1 a2) := by
  intros; unfold modChannel
  (try dsimp only)
  repeat' first
    | with_reducible exact Keeps.refl _ _
    | split
    | intro _
    | dsimp only
    | (with_reducible apply Keeps.own_ddr; rfl; decide)
    | (with_reducible apply Keeps.own_mem; rfl; decide)
    | (with_reducible apply Keeps.upd_ddr; decide; decide)

theorem renewCheck_fr : ∀ a0 a1, Keeps 0x8000000 a1 (renewCheck a0 a1) := by
  intros; unfold renewCheck
  (try dsimp only)
  repeat' first
    | with_reducible exact Keeps.refl _ _
    | (with_reducible apply Keeps.step (modChannel_fr ..); decide)
    | split
    | intro _
    | dsimp only

theorem renewChecks_fr : ∀ a0 a1 a2, Keeps 0x8000000 a2 (renewChecks a0 a1 a2) := by
  intros; unfold renewChecks
  (try dsimp only)
  repeat' first
    | with_reducible exact Keeps.refl _ _
    | (with_reducible apply Keeps.step (renewCheck_fr ..); decide)
    | with_reducible apply Keeps.eachDo
    | split
    | intro _
    | dsimp only

theorem dramWrite_fr : ∀ a0 a1 a2, Keeps 0x18000000 a2 (dramWrite a0 a1 a2) := by
  intros; unfold dramWrite
  (try dsimp only)
  repeat' first
    | with_reducible exact Keeps.refl _ _
    | (with_reducible apply Keeps.step (renewChecks_fr ..); decide)
    | split
    | intro _
    | dsimp only
    | (with_reducible apply Keeps.own_ddr; rfl; decide)
    | (with_reducible apply Keeps.own_mem; rfl; decide)
    | (with_reducible apply Keeps.upd_ddr; decide; decide)

theorem putRecord_fr : ∀ a0 a1 a2, Keeps 0x10000000000000000000000c0000000000218019140 a2 (putRecord a0 a1 a2) := by
  intros; unfold putRecord
  (try dsimp only)
  repeat' first
    | with_reducible exact Keeps.refl _ _
    | (with_reducible apply Keeps.step (dramWrite_fr ..); decide)
    | (with_reducible apply Keeps.step (moveLedger_fr ..); decide)
    | (with_reducible apply Keeps.step (stallCheck_fr ..); decide)
    | split
    | intro _
    | dsimp only
    | (with_reducible apply Keeps.upd_egress; decide; decide)

theorem tryRecord_fr {m : Nat} {r : Nat} {bs : List Byte} {lost : State → State} {s x : State}
    (hl : ∀ y, Keeps m y (lost y)) (h : Nat.lor 0x10000000000000000000000c0000000000218019140 m = m) (a : Keeps m s x) : Keeps m s (tryRecord r bs lost x) := by
  unfold tryRecord; split
  · exact Keeps.step (putRecord_fr ..) h a
  · exact a.trans (hl x)

theorem setNegotiated_fr : ∀ a0 a1 a2 a3, Keeps 0x800000000000000000000000000000 a3 (setNegotiated a0 a1 a2 a3) := by
  intros; unfold setNegotiated
  (try dsimp only)
  have kNEGOTIATED_VERSION := Fam.has_NEGOTIATED_VERSION
  generalize OD.NEGOTIATED_VERSION = fNEGOTIATED_VERSION at kNEGOTIATED_VERSION ⊢
  repeat' first
    | with_reducible exact Keeps.refl _ _
    | (with_reducible apply Keeps.setO .NEGOTIATED_VERSION ?_ (kNEGOTIATED_VERSION ..) ?_; decide)
    | split
    | intro _
    | dsimp only

/-! ### Machine/Operands.lean -/

theorem setFolded_fr : ∀ a0 a1 a2, Keeps 0x80000 a2 (setFolded a0 a1 a2) := by
  intros; unfold setFolded
  (try dsimp only)
  repeat' first
    | with_reducible exact Keeps.refl _ _
    | split
    | intro _
    | dsimp only
    | (with_reducible apply Keeps.upd_comp; decide)

/-! ### Machine/Formes.lean -/

theorem modForme_fr : ∀ a0 a1 a2, Keeps 0x40000 a2 (modForme a0 a1 a2) := by
  intros; unfold modForme
  (try dsimp only)
  repeat' first
    | with_reducible exact Keeps.refl _ _
    | split
    | intro _
    | dsimp only
    | (with_reducible apply Keeps.upd_formes; decide)

theorem setForme_fr : ∀ a0 a1 a2, Keeps 0x40100 a2 (setForme a0 a1 a2) := by
  intros; unfold setForme
  (try dsimp only)
  repeat' first
    | with_reducible exact Keeps.refl _ _
    | (with_reducible apply Keeps.step (modForme_fr ..); decide)
    | (with_reducible apply Keeps.step (moveLedger_fr ..); decide)
    | split
    | intro _
    | dsimp only

theorem formeNotice_fr : ∀ a0 a1 a2 a3, Keeps 0x10000000000000000000000c0000000000280011040 a3 (formeNotice a0 a1 a2 a3) := by
  intros; unfold formeNotice
  (try dsimp only)
  repeat' first
    | with_reducible exact Keeps.refl _ _
    | (with_reducible apply Keeps.step (raiseX_fr ..); decide)
    | split
    | intro _
    | dsimp only

theorem formeEvent_fr : ∀ a0 a1 a2 a3, Keeps 0x10000000000000000000000c0000000000280011040 a3 (formeEvent a0 a1 a2 a3) := by
  intros; unfold formeEvent
  (try dsimp only)
  repeat' first
    | with_reducible exact Keeps.refl _ _
    | (with_reducible apply Keeps.step (raiseX_fr ..); decide)
    | split
    | intro _
    | dsimp only

theorem modStream_fr : ∀ a0 a1 a2 a3, Keeps 0x20000 a3 (modStream a0 a1 a2 a3) := by
  intros; unfold modStream
  (try dsimp only)
  repeat' first
    | with_reducible exact Keeps.refl _ _
    | split
    | intro _
    | dsimp only
    | (with_reducible apply Keeps.upd_gal; decide)

theorem modRing_fr : ∀ a0 a1 a2, Keeps 0x4000 a2 (modRing a0 a1 a2) := by
  intros; unfold modRing
  (try dsimp only)
  repeat' first
    | with_reducible exact Keeps.refl _ _
    | split
    | intro _
    | dsimp only
    | (with_reducible apply Keeps.upd_rings; decide)

theorem demoteCheck_fr : ∀ a0 a1 a2, Keeps 0x4000 a2 (demoteCheck a0 a1 a2) := by
  intros; unfold demoteCheck
  (try dsimp only)
  repeat' first
    | with_reducible exact Keeps.refl _ _
    | (with_reducible apply Keeps.step (modRing_fr ..); decide)
    | split
    | intro _
    | dsimp only

theorem reserveBlocks_fr : ∀ a0 a1 a2 a3, Keeps 0x20100 a3 (reserveBlocks a0 a1 a2 a3) := by
  intros; unfold reserveBlocks
  (try dsimp only)
  repeat' first
    | with_reducible exact Keeps.refl _ _
    | (with_reducible apply Keeps.step (modStream_fr ..); decide)
    | (with_reducible apply Keeps.step (moveLedger_fr ..); decide)
    | split
    | intro _
    | dsimp only

theorem moveBlocks_fr : ∀ a0 a1 a2 a3 a4, Keeps 0x20100 a4 (moveBlocks a0 a1 a2 a3 a4) := by
  intros; unfold moveBlocks
  (try dsimp only)
  repeat' first
    | with_reducible exact Keeps.refl _ _
    | (with_reducible apply Keeps.step (modStream_fr ..); decide)
    | (with_reducible apply Keeps.step (moveLedger_fr ..); decide)
    | with_reducible apply Keeps.eachDo
    | split
    | intro _
    | dsimp only

theorem freeBlocksOf_fr : ∀ a0 a1 a2, Keeps 0x20100 a2 (freeBlocksOf a0 a1 a2) := by
  intros; unfold freeBlocksOf
  (try dsimp only)
  repeat' first
    | with_reducible exact Keeps.refl _ _
    | (with_reducible apply Keeps.step (moveLedger_fr ..); decide)
    | with_reducible apply Keeps.eachDo
    | split
    | intro _
    | dsimp only
    | (with_reducible apply Keeps.upd_gal; decide)

theorem releaseBlocks_fr : ∀ a0 a1, Keeps 0x20100 a1 (releaseBlocks a0 a1) := by
  intros; unfold releaseBlocks
  (try dsimp only)
  repeat' first
    | with_reducible exact Keeps.refl _ _
    | (with_reducible apply Keeps.step (freeBlocksOf_fr ..); decide)
    | split
    | intro _
    | dsimp only

/-! ### Machine/Galley.lean -/

theorem setStaging_fr : ∀ a0 a1 a2, Keeps 0x4100 a2 (setStaging a0 a1 a2) := by
  intros; unfold setStaging
  (try dsimp only)
  repeat' first
    | with_reducible exact Keeps.refl _ _
    | (with_reducible apply Keeps.step (modRing_fr ..); decide)
    | (with_reducible apply Keeps.step (moveLedger_fr ..); decide)
    | split
    | intro _
    | dsimp only

theorem retainStaging_fr : ∀ a0 a1, Keeps 0x4100 a1 (retainStaging a0 a1) := by
  intros; unfold retainStaging
  (try dsimp only)
  repeat' first
    | with_reducible exact Keeps.refl _ _
    | (with_reducible apply Keeps.step (modRing_fr ..); decide)
    | (with_reducible apply Keeps.step (setStaging_fr ..); decide)
    | split
    | intro _
    | dsimp only

theorem preempt_fr : ∀ a0, Keeps 0x4100 a0 (preempt a0) := by
  intros; unfold preempt
  (try dsimp only)
  repeat' first
    | with_reducible exact Keeps.refl _ _
    | (with_reducible apply Keeps.step (retainStaging_fr ..); decide)
    | with_reducible apply Keeps.eachDo
    | split
    | intro _
    | dsimp only

theorem promoteRing_fr : ∀ a0 a1, Keeps 0x10000000000000000000000c0000000000280015140 a1 (promoteRing a0 a1) := by
  intros; unfold promoteRing
  (try dsimp only)
  repeat' first
    | with_reducible exact Keeps.refl _ _
    | (with_reducible apply Keeps.step (modRing_fr ..); decide)
    | (with_reducible apply Keeps.step (preempt_fr ..); decide)
    | (with_reducible apply Keeps.step (raise_fr ..); decide)
    | split
    | intro _
    | dsimp only

theorem setRisk_fr : ∀ a0 a1 a2, Keeps 0x20000 a2 (setRisk a0 a1 a2) := by
  intros; unfold setRisk
  (try dsimp only)
  repeat' first
    | with_reducible exact Keeps.refl _ _
    | split
    | intro _
    | dsimp only
    | (with_reducible apply Keeps.upd_gal; decide)

theorem underrunCheck_fr : ∀ a0 a1, Keeps 0x10000000000000000000000c0000000000280035140 a1 (underrunCheck a0 a1) := by
  intros; unfold underrunCheck
  (try dsimp only)
  repeat' first
    | with_reducible exact Keeps.refl _ _
    | (with_reducible apply Keeps.step (promoteRing_fr ..); decide)
    | (with_reducible apply Keeps.step (raise_fr ..); decide)
    | (with_reducible apply Keeps.step (setRisk_fr ..); decide)
    | split
    | intro _
    | dsimp only

theorem promoteBound_fr : ∀ a0 a1, Keeps 0x10000000000000000000000c0000000000280015140 a1 (promoteBound a0 a1) := by
  intros; unfold promoteBound
  (try dsimp only)
  repeat' first
    | with_reducible exact Keeps.refl _ _
    | (with_reducible apply Keeps.step (promoteRing_fr ..); decide)
    | split
    | intro _
    | dsimp only

theorem faultForme_fr : ∀ a0 a1 a2, Keeps 0x10000000000000000000080c0000000000280051140 a2 (faultForme a0 a1 a2) := by
  intros; unfold faultForme
  (try dsimp only)
  have kFORME_CAUSE := Fam.has_FORME_CAUSE
  generalize OD.FORME_CAUSE = fFORME_CAUSE at kFORME_CAUSE ⊢
  repeat' first
    | with_reducible exact Keeps.refl _ _
    | (with_reducible apply Keeps.step (formeEvent_fr ..); decide)
    | (with_reducible apply Keeps.step (modForme_fr ..); decide)
    | (with_reducible apply Keeps.step (setForme_fr ..); decide)
    | (with_reducible apply Keeps.setO .FORME_CAUSE ?_ (kFORME_CAUSE ..) ?_; decide)
    | split
    | intro _
    | dsimp only

theorem modSame_fr : ∀ a0 a1 a2, Keeps 0x20000 a2 (modSame a0 a1 a2) := by
  intros; unfold modSame
  (try dsimp only)
  repeat' first
    | with_reducible exact Keeps.refl _ _
    | split
    | intro _
    | dsimp only
    | (with_reducible apply Keeps.upd_gal; decide)

theorem currentCheck_fr : ∀ a0 a1, Keeps 0x10000000000008000000000c0000000000280031040 a1 (currentCheck a0 a1) := by
  intros; unfold currentCheck
  (try dsimp only)
  repeat' first
    | with_reducible exact Keeps.refl _ _
    | (with_reducible apply Keeps.step (modStream_fr ..); decide)
    | (with_reducible apply Keeps.step (raise_fr ..); decide)
    | (with_reducible apply Keeps.step (setNegotiated_fr ..); decide)
    | with_reducible apply Keeps.eachDo
    | split
    | intro _
    | dsimp only

theorem headChecks_fr : ∀ a0, Keeps 0x10000000000008000000000c0000000000280035140 a0 (headChecks a0) := by
  intros; unfold headChecks
  (try dsimp only)
  repeat' first
    | with_reducible exact Keeps.refl _ _
    | (with_reducible apply Keeps.step (currentCheck_fr ..); decide)
    | (with_reducible apply Keeps.step (underrunCheck_fr ..); decide)
    | with_reducible apply Keeps.eachDo
    | split
    | intro _
    | dsimp only

theorem streamError_fr : ∀ a0 a1 a2 a3, Keeps 0x10080000000008000000080c0000000000280075140 a3 (streamError a0 a1 a2 a3) := by
  intros; unfold streamError
  (try dsimp only)
  have kSTREAM_ERRORS := Fam.has_STREAM_ERRORS
  generalize OD.STREAM_ERRORS = fSTREAM_ERRORS at kSTREAM_ERRORS ⊢
  repeat' first
    | with_reducible exact Keeps.refl _ _
    | (with_reducible apply Keeps.step (faultForme_fr ..); decide)
    | (with_reducible apply Keeps.step (headChecks_fr ..); decide)
    | (with_reducible apply Keeps.step (modSame_fr ..); decide)
    | (with_reducible apply Keeps.step (raise_fr ..); decide)
    | (with_reducible apply Keeps.bump .STREAM_ERRORS ?_ (kSTREAM_ERRORS ..) ?_; decide)
    | split
    | intro _
    | dsimp only

theorem checkHeader_fr : ∀ a0 a1 a2, Keeps 0x10080000000008000000080c0000000000280075140 a2 (checkHeader a0 a1 a2) := by
  intros; unfold checkHeader
  (try dsimp only)
  repeat' first
    | with_reducible exact Keeps.refl _ _
    | (with_reducible apply Keeps.step (modStream_fr ..); decide)
    | (with_reducible apply Keeps.step (streamError_fr ..); decide)
    | split
    | intro _
    | dsimp only

theorem checkEnd_fr : ∀ a0 a1 a2, Keeps 0x10080000000008000000080c0000000000280075140 a2 (checkEnd a0 a1 a2) := by
  intros; unfold checkEnd
  (try dsimp only)
  repeat' first
    | with_reducible exact Keeps.refl _ _
    | (with_reducible apply Keeps.step (streamError_fr ..); decide)
    | split
    | intro _
    | dsimp only

theorem checkTrailing_fr : ∀ a0 a1 a2, Keeps 0x10080000000008000000080c0000000000280075140 a2 (checkTrailing a0 a1 a2) := by
  intros; unfold checkTrailing
  (try dsimp only)
  repeat' first
    | with_reducible exact Keeps.refl _ _
    | (with_reducible apply Keeps.step (streamError_fr ..); decide)
    | split
    | intro _
    | dsimp only

theorem putStream_fr : ∀ a0 a1 a2, Keeps 0x20000 a2 (putStream a0 a1 a2) := by
  intros; unfold putStream
  (try dsimp only)
  repeat' first
    | with_reducible exact Keeps.refl _ _
    | (with_reducible apply Keeps.step (modSame_fr ..); decide)
    | split
    | intro _
    | dsimp only
    | (with_reducible apply Keeps.upd_gal; decide)

theorem passBlocks_fr : ∀ a0 a1, Keeps 0x20100 a1 (passBlocks a0 a1) := by
  intros; unfold passBlocks
  (try dsimp only)
  repeat' first
    | with_reducible exact Keeps.refl _ _
    | (with_reducible apply Keeps.step (modSame_fr ..); decide)
    | (with_reducible apply Keeps.step (moveLedger_fr ..); decide)
    | with_reducible apply Keeps.eachDo
    | split
    | intro _
    | dsimp only
    | (with_reducible apply Keeps.upd_gal; decide)

theorem engineDone_fr : ∀ a0 a1 a2, Keeps 0x20000 a2 (engineDone a0 a1 a2) := by
  intros; unfold engineDone
  (try dsimp only)
  repeat' first
    | with_reducible exact Keeps.refl _ _
    | split
    | intro _
    | dsimp only
    | (with_reducible apply Keeps.upd_gal; decide)

theorem outputLine_fr : ∀ a0 a1 a2, Keeps 0x80100 a2 (outputLine a0 a1 a2) := by
  intros; unfold outputLine
  (try dsimp only)
  repeat' first
    | with_reducible exact Keeps.refl _ _
    | (with_reducible apply Keeps.step (moveLedger_fr ..); decide)
    | split
    | intro _
    | dsimp only
    | (with_reducible apply Keeps.upd_comp; decide)

theorem decodeHead_fr : ∀ a0 a1 a2, Keeps 0x10080000000008000000080c01000000002800f5140 a2 (decodeHead a0 a1 a2) := by
  intros; unfold decodeHead
  (try dsimp only)
  have kDECODED_LINES := Fam.has_DECODED_LINES
  generalize OD.DECODED_LINES = fDECODED_LINES at kDECODED_LINES ⊢
  repeat' first
    | with_reducible exact Keeps.refl _ _
    | (with_reducible apply Keeps.step (checkTrailing_fr ..); decide)
    | (with_reducible apply Keeps.step (currentCheck_fr ..); decide)
    | (with_reducible apply Keeps.step (engineDone_fr ..); decide)
    | (with_reducible apply Keeps.step (outputLine_fr ..); decide)
    | (with_reducible apply Keeps.step (passBlocks_fr ..); decide)
    | (with_reducible apply Keeps.step (putStream_fr ..); decide)
    | (with_reducible apply Keeps.step (releaseBlocks_fr ..); decide)
    | (with_reducible apply Keeps.step (streamError_fr ..); decide)
    | (with_reducible apply Keeps.step (underrunCheck_fr ..); decide)
    | (with_reducible apply Keeps.withDemotion (fun _ _ _ => Keeps.mono (demoteCheck_fr ..) (by decide)); intro _)
    | (with_reducible apply Keeps.setO .DECODED_LINES ?_ (kDECODED_LINES ..) ?_; decide)
    | split
    | intro _
    | dsimp only

theorem execLineDecode_fr : ∀ a0 a1 t, (execLineDecode a0 a1) = .next t → Keeps 0x10080000000008000000080c01000000002800f5140 a1 t := by
  intros; rename_i h; unfold execLineDecode at h; replace h := Host.Outcome.next.inj h; subst h
  (try dsimp only)
  repeat' first
    | with_reducible exact Keeps.refl _ _
    | (with_reducible apply Keeps.step (decodeHead_fr ..); decide)
    | with_reducible apply Keeps.whenDo
    | split
    | intro _
    | dsimp only

theorem galRestart_fr : ∀ a0 a1 a2, Keeps 0x10000000000000000000000c00000000002800b5140 a2 (galRestart a0 a1 a2) := by
  intros; unfold galRestart
  (try dsimp only)
  repeat' first
    | with_reducible exact Keeps.refl _ _
    | (with_reducible apply Keeps.step (moveLedger_fr ..); decide)
    | (with_reducible apply Keeps.step (raise_fr ..); decide)
    | (with_reducible apply Keeps.step (underrunCheck_fr ..); decide)
    | split
    | intro _
    | dsimp only
    | (with_reducible apply Keeps.upd_comp; decide)
    | (with_reducible apply Keeps.upd_gal; decide)
    | (with_reducible apply Keeps.upd_comp_gal; decide; decide)

/-! ### Machine/Imposition.lean -/

theorem takeFrom_fr : ∀ a0 a1 a2 a3, Keeps 0x100000 a3 (takeFrom a0 a1 a2 a3) := by
  intros; unfold takeFrom
  (try dsimp only)
  repeat' first
    | with_reducible exact Keeps.refl _ _
    | split
    | intro _
    | dsimp only
    | (with_reducible apply Keeps.upd_plat; decide)

theorem takeCause_fr : ∀ a0 a1 a2, Keeps 0x100000 a2 (takeCause a0 a1 a2) := by
  intros; unfold takeCause
  (try dsimp only)
  repeat' first
    | with_reducible exact Keeps.refl _ _
    | (with_reducible apply Keeps.step (takeFrom_fr ..); decide)
    | split
    | intro _
    | dsimp only

theorem modPort_fr : ∀ a0 a1 a2, Keeps 0x200000 a2 (modPort a0 a1 a2) := by
  intros; unfold modPort
  (try dsimp only)
  repeat' first
    | with_reducible exact Keeps.refl _ _
    | split
    | intro _
    | dsimp only
    | (with_reducible apply Keeps.upd_ports; decide)

theorem linkCheck_fr : ∀ a0 a1, Keeps 0x300000 a1 (linkCheck a0 a1) := by
  intros; unfold linkCheck
  (try dsimp only)
  repeat' first
    | with_reducible exact Keeps.refl _ _
    | (with_reducible apply Keeps.step (modPort_fr ..); decide)
    | (with_reducible apply Keeps.step (takeCause_fr ..); decide)
    | split
    | intro _
    | dsimp only

theorem linkChecks_fr : ∀ a0, Keeps 0x300000 a0 (linkChecks a0) := by
  intros; unfold linkChecks
  (try dsimp only)
  repeat' first
    | with_reducible exact Keeps.refl _ _
    | (with_reducible apply Keeps.step (linkCheck_fr ..); decide)
    | with_reducible apply Keeps.eachDo
    | split
    | intro _
    | dsimp only

theorem armForme_fr : ∀ a0 a1, Keeps 0x10000000000008000000000c0000000000280375140 a1 (armForme a0 a1) := by
  intros; unfold armForme
  (try dsimp only)
  repeat' first
    | with_reducible exact Keeps.refl _ _
    | (with_reducible apply Keeps.step (formeEvent_fr ..); decide)
    | (with_reducible apply Keeps.step (headChecks_fr ..); decide)
    | (with_reducible apply Keeps.step (linkChecks_fr ..); decide)
    | (with_reducible apply Keeps.step (setForme_fr ..); decide)
    | split
    | intro _
    | dsimp only

theorem readyCheck_fr : ∀ a0 a1, Keeps 0x10000000000008000000000c0000000000280375140 a1 (readyCheck a0 a1) := by
  intros; unfold readyCheck
  (try dsimp only)
  repeat' first
    | with_reducible exact Keeps.refl _ _
    | (with_reducible apply Keeps.step (armForme_fr ..); decide)
    | (with_reducible apply Keeps.step (formeEvent_fr ..); decide)
    | (with_reducible apply Keeps.step (setForme_fr ..); decide)
    | split
    | intro _
    | dsimp only

theorem printedCheck_fr : ∀ a0 a1, Keeps 0x10000000000008000000000c0000000000280075140 a1 (printedCheck a0 a1) := by
  intros; unfold printedCheck
  (try dsimp only)
  repeat' first
    | with_reducible exact Keeps.refl _ _
    | (with_reducible apply Keeps.step (formeEvent_fr ..); decide)
    | (with_reducible apply Keeps.step (headChecks_fr ..); decide)
    | (with_reducible apply Keeps.step (setForme_fr ..); decide)
    | split
    | intro _
    | dsimp only

theorem retireStream_fr : ∀ a0 a1 a2 a3, Keeps 0xa0100 a3 (retireStream a0 a1 a2 a3) := by
  intros; unfold retireStream
  (try dsimp only)
  repeat' first
    | with_reducible exact Keeps.refl _ _
    | (with_reducible apply Keeps.step (moveLedger_fr ..); decide)
    | with_reducible apply Keeps.eachDo
    | split
    | intro _
    | dsimp only
    | (with_reducible apply Keeps.upd_comp; decide)
    | (with_reducible apply Keeps.upd_gal; decide)

theorem orphanRings_fr : ∀ a0 a1, Keeps 0x4000 a1 (orphanRings a0 a1) := by
  intros; unfold orphanRings
  (try dsimp only)
  repeat' first
    | with_reducible exact Keeps.refl _ _
    | split
    | intro _
    | dsimp only
    | (with_reducible apply Keeps.upd_rings; decide)

theorem retireForme_fr : ∀ a0 a1 a2 a3, Keeps 0x10000000000008000000000c00000000002800f5140 a3 (retireForme a0 a1 a2 a3) := by
  intros; unfold retireForme
  (try dsimp only)
  repeat' first
    | with_reducible exact Keeps.refl _ _
    | (with_reducible apply Keeps.step (formeEvent_fr ..); decide)
    | (with_reducible apply Keeps.step (headChecks_fr ..); decide)
    | (with_reducible apply Keeps.step (modForme_fr ..); decide)
    | (with_reducible apply Keeps.step (orphanRings_fr ..); decide)
    | (with_reducible apply Keeps.step (retireStream_fr ..); decide)
    | (with_reducible apply Keeps.step (setForme_fr ..); decide)
    | with_reducible apply Keeps.eachDo
    | split
    | intro _
    | dsimp only

theorem retiredCheck_fr : ∀ a0 a1, Keeps 0x10000000000008000000000c00000000002800f5140 a1 (retiredCheck a0 a1) := by
  intros; unfold retiredCheck
  (try dsimp only)
  repeat' first
    | with_reducible exact Keeps.refl _ _
    | (with_reducible apply Keeps.step (retireForme_fr ..); decide)
    | split
    | intro _
    | dsimp only

theorem formeChecks_fr : ∀ a0 a1, Keeps 0x10000000000008000000000c00000000002803f5140 a1 (formeChecks a0 a1) := by
  intros; unfold formeChecks
  (try dsimp only)
  repeat' first
    | with_reducible exact Keeps.refl _ _
    | (with_reducible apply Keeps.step (printedCheck_fr ..); decide)
    | (with_reducible apply Keeps.step (readyCheck_fr ..); decide)
    | (with_reducible apply Keeps.step (retiredCheck_fr ..); decide)
    | split
    | intro _
    | dsimp only

theorem allFormeChecks_fr : ∀ a0, Keeps 0x10000000000008000000000c00000000002803f5140 a0 (allFormeChecks a0) := by
  intros; unfold allFormeChecks
  (try dsimp only)
  repeat' first
    | with_reducible exact Keeps.refl _ _
    | (with_reducible apply Keeps.step (formeChecks_fr ..); decide)
    | with_reducible apply Keeps.eachDo
    | split
    | intro _
    | dsimp only

theorem lateNotices_fr : ∀ a0, Keeps 0x10000000000000000000000c0000000000280051040 a0 (lateNotices a0) := by
  intros; unfold lateNotices
  (try dsimp only)
  repeat' first
    | with_reducible exact Keeps.refl _ _
    | (with_reducible apply Keeps.step (formeNotice_fr ..); decide)
    | (with_reducible apply Keeps.step (modForme_fr ..); decide)
    | with_reducible apply Keeps.eachDo
    | split
    | intro _
    | dsimp only

theorem impBoundary_fr : ∀ a0, Keeps 0x10000000000008000000000c00000000002803f5140 a0 (impBoundary a0) := by
  intros; unfold impBoundary
  (try dsimp only)
  repeat' first
    | with_reducible exact Keeps.refl _ _
    | (with_reducible apply Keeps.step (armForme_fr ..); decide)
    | (with_reducible apply Keeps.step (modForme_fr ..); decide)
    | (with_reducible apply Keeps.step (printedCheck_fr ..); decide)
    | (with_reducible apply Keeps.step (retiredCheck_fr ..); decide)
    | with_reducible apply Keeps.eachDo
    | split
    | intro _
    | dsimp only

theorem clearForme_fr : ∀ a0 a1, Keeps 0x4000000000 a1 (clearForme a0 a1) := by
  intros; unfold clearForme
  (try dsimp only)
  repeat' first
    | with_reducible exact Keeps.refl _ _
    | split
    | intro _
    | dsimp only
    | (with_reducible apply Keeps.upd_od; decide)

theorem submitForme_fr : ∀ a0 a1, Keeps 0x10000000000000000000080c0000000004280071140 a1 (submitForme a0 a1).2 := by
  intros; unfold submitForme
  (try dsimp only)
  have kFORME_CAUSE := Fam.has_FORME_CAUSE
  generalize OD.FORME_CAUSE = fFORME_CAUSE at kFORME_CAUSE ⊢
  repeat' first
    | with_reducible exact Keeps.refl _ _
    | (with_reducible apply Keeps.step (clearForme_fr ..); decide)
    | (with_reducible apply Keeps.step (formeEvent_fr ..); decide)
    | (with_reducible apply Keeps.step (formeNotice_fr ..); decide)
    | (with_reducible apply Keeps.step (modForme_fr ..); decide)
    | (with_reducible apply Keeps.step (setForme_fr ..); decide)
    | (with_reducible apply Keeps.setO .FORME_CAUSE ?_ (kFORME_CAUSE ..) ?_; decide)
    | split
    | intro _
    | dsimp only
    | (with_reducible apply Keeps.upd_gal; decide)

theorem abortCause_fr : ∀ a0 a1, Keeps 0x8000000000000000000000 a1 (abortCause a0 a1) := by
  intros; unfold abortCause
  (try dsimp only)
  have kFORME_CAUSE := Fam.has_FORME_CAUSE
  generalize OD.FORME_CAUSE = fFORME_CAUSE at kFORME_CAUSE ⊢
  repeat' first
    | with_reducible exact Keeps.refl _ _
    | (with_reducible apply Keeps.setO .FORME_CAUSE ?_ (kFORME_CAUSE ..) ?_; decide)
    | split
    | intro _
    | dsimp only

theorem abortAt_fr : ∀ a0 a1 a2, Keeps 0x100000000000080200002bec00000000002800f51c0 a2 (abortAt a0 a1 a2) := by
  intros; unfold abortAt
  (try dsimp only)
  have kFORME_LAST_LINE := Fam.has_FORME_LAST_LINE
  generalize OD.FORME_LAST_LINE = fFORME_LAST_LINE at kFORME_LAST_LINE ⊢
  repeat' first
    | with_reducible exact Keeps.refl _ _
    | (with_reducible apply Keeps.step (abortCause_fr ..); decide)
    | (with_reducible apply Keeps.step (checkLedgers_fr ..); decide)
    | (with_reducible apply Keeps.step (retireForme_fr ..); decide)
    | (with_reducible apply Keeps.setO .FORME_LAST_LINE ?_ (kFORME_LAST_LINE ..) ?_; decide)
    | split
    | intro _
    | dsimp only

theorem abortForme_fr : ∀ a0 a1, Keeps 0x100000000000080200002bec00000000002800f51c0 a1 (abortForme a0 a1).2 := by
  intros; unfold abortForme
  (try dsimp only)
  repeat' first
    | with_reducible exact Keeps.refl _ _
    | (with_reducible apply Keeps.step (abortAt_fr ..); decide)
    | (with_reducible apply Keeps.step (abortCause_fr ..); decide)
    | (with_reducible apply Keeps.step (checkLedgers_fr ..); decide)
    | (with_reducible apply Keeps.step (modForme_fr ..); decide)
    | (with_reducible apply Keeps.step (retireForme_fr ..); decide)
    | split
    | intro _
    | dsimp only

theorem skipLines_fr : ∀ a0 a1 a2, Keeps 0x40000000000000000000000 a2 (skipLines a0 a1 a2) := by
  intros; unfold skipLines
  (try dsimp only)
  have kFORME_SKIPPED := Fam.has_FORME_SKIPPED
  generalize OD.FORME_SKIPPED = fFORME_SKIPPED at kFORME_SKIPPED ⊢
  repeat' first
    | with_reducible exact Keeps.refl _ _
    | with_reducible apply Keeps.eachDo
    | (with_reducible apply Keeps.bumpN .FORME_SKIPPED ?_ (kFORME_SKIPPED ..) ?_; decide)
    | split
    | intro _
    | dsimp only

/-! ### Machine/Journal.lean -/

theorem modTymp_fr : ∀ a0 a1, Keeps 0x80000000 a1 (modTymp a0 a1) := by
  intros; unfold modTymp
  (try dsimp only)
  repeat' first
    | with_reducible exact Keeps.refl _ _
    | split
    | intro _
    | dsimp only
    | (with_reducible apply Keeps.upd_tymp; decide)

theorem startCompaction_fr : ∀ a0, Keeps 0x10000000000000000000000c0000000000280011040 a0 (startCompaction a0) := by
  intros; unfold startCompaction
  (try dsimp only)
  repeat' first
    | with_reducible exact Keeps.refl _ _
    | (with_reducible apply Keeps.step (modTymp_fr ..); decide)
    | (with_reducible apply Keeps.step (raise_fr ..); decide)
    | split
    | intro _
    | dsimp only

theorem compactionCheck_fr : ∀ a0, Keeps 0x10000000000000000000000c0000000000280011040 a0 (compactionCheck a0) := by
  intros; unfold compactionCheck
  (try dsimp only)
  repeat' first
    | with_reducible exact Keeps.refl _ _
    | (with_reducible apply Keeps.step (startCompaction_fr ..); decide)
    | split
    | intro _
    | dsimp only

theorem completeOpen_fr : ∀ a0, Keeps 0x80000000 a0 (completeOpen a0) := by
  intros; unfold completeOpen
  (try dsimp only)
  repeat' first
    | with_reducible exact Keeps.refl _ _
    | (with_reducible apply Keeps.step (modTymp_fr ..); decide)
    | split
    | intro _
    | dsimp only

theorem journalNow_fr : ∀ a0 a1, Keeps 0x10000000000000000000000c0000000000280011040 a1 (journalNow a0 a1) := by
  intros; unfold journalNow
  (try dsimp only)
  repeat' first
    | with_reducible exact Keeps.refl _ _
    | (with_reducible apply Keeps.step (compactionCheck_fr ..); decide)
    | (with_reducible apply Keeps.step (completeOpen_fr ..); decide)
    | (with_reducible apply Keeps.step (modTymp_fr ..); decide)
    | (with_reducible apply Keeps.step (openRecord_fr ..); decide)
    | split
    | intro _
    | dsimp only

theorem journalRefused_fr : ∀ a0, Keeps 0x10000001000000000000000c0000000000280011040 a0 (journalRefused a0) := by
  intros; unfold journalRefused
  (try dsimp only)
  have kREFUSED_WRITES := Fam.has_REFUSED_WRITES
  generalize OD.REFUSED_WRITES = fREFUSED_WRITES at kREFUSED_WRITES ⊢
  repeat' first
    | with_reducible exact Keeps.refl _ _
    | (with_reducible apply Keeps.step (modTymp_fr ..); decide)
    | (with_reducible apply Keeps.step (raise_fr ..); decide)
    | (with_reducible apply Keeps.bump .REFUSED_WRITES ?_ (kREFUSED_WRITES ..) ?_; decide)
    | split
    | intro _
    | dsimp only

theorem replay_fr : ∀ a0, Keeps 0x4000080008 a0 (replay a0) := by
  intros; unfold replay
  (try dsimp only)
  repeat' first
    | with_reducible exact Keeps.refl _ _
    | split
    | intro _
    | dsimp only
    | (with_reducible apply Keeps.upd_comp_dom_od; decide; decide; decide)

theorem switchPair_fr : ∀ a0, Keeps 0x8000000080000000 a0 (switchPair a0) := by
  intros; unfold switchPair
  (try dsimp only)
  have kCOMPACTIONS := Fam.has_COMPACTIONS
  generalize OD.COMPACTIONS = fCOMPACTIONS at kCOMPACTIONS ⊢
  repeat' first
    | with_reducible exact Keeps.refl _ _
    | (with_reducible apply Keeps.step (modTymp_fr ..); decide)
    | (with_reducible apply Keeps.bump .COMPACTIONS ?_ (kCOMPACTIONS ..) ?_; decide)
    | split
    | intro _
    | dsimp only

theorem compactionDone_fr : ∀ a0, Keeps 0x10000000000000000000000c0008000000280011040 a0 (compactionDone a0) := by
  intros; unfold compactionDone
  (try dsimp only)
  repeat' first
    | with_reducible exact Keeps.refl _ _
    | (with_reducible apply Keeps.step (compactionCheck_fr ..); decide)
    | (with_reducible apply Keeps.step (openRecord_fr ..); decide)
    | (with_reducible apply Keeps.step (raise_fr ..); decide)
    | (with_reducible apply Keeps.step (switchPair_fr ..); decide)
    | with_reducible apply Keeps.eachDo
    | split
    | intro _
    | dsimp only

theorem tornTail_fr : ∀ a0, Keeps 0x18000000000000000000000c0000000000280011040 a0 (tornTail a0) := by
  intros; unfold tornTail
  (try dsimp only)
  have kTORN_TAILS := Fam.has_TORN_TAILS
  generalize OD.TORN_TAILS = fTORN_TAILS at kTORN_TAILS ⊢
  repeat' first
    | with_reducible exact Keeps.refl _ _
    | (with_reducible apply Keeps.step (modTymp_fr ..); decide)
    | (with_reducible apply Keeps.step (raise_fr ..); decide)
    | (with_reducible apply Keeps.step (startCompaction_fr ..); decide)
    | (with_reducible apply Keeps.bump .TORN_TAILS ?_ (kTORN_TAILS ..) ?_; decide)
    | split
    | intro _
    | dsimp only

theorem formatJournal_fr : ∀ a0, Keeps 0x10000000000000000000000c0000000000280011040 a0 (formatJournal a0) := by
  intros; unfold formatJournal
  (try dsimp only)
  repeat' first
    | with_reducible exact Keeps.refl _ _
    | (with_reducible apply Keeps.step (raise_fr ..); decide)
    | split
    | intro _
    | dsimp only
    | (with_reducible apply Keeps.upd_tymp; decide)

/-! ### Machine/Compositor.lean -/

theorem modLane_fr : ∀ a0 a1 a2, Keeps 0x80000 a2 (modLane a0 a1 a2) := by
  intros; unfold modLane
  (try dsimp only)
  repeat' first
    | with_reducible exact Keeps.refl _ _
    | split
    | intro _
    | dsimp only
    | (with_reducible apply Keeps.upd_comp; decide)

theorem issueTrim_fr : ∀ a0 a1 a2 a3 a4, Keeps 0x300000 a4 (issueTrim a0 a1 a2 a3 a4) := by
  intros; unfold issueTrim
  (try dsimp only)
  repeat' first
    | with_reducible exact Keeps.refl _ _
    | split
    | intro _
    | dsimp only
    | (with_reducible apply Keeps.upd_plat_ports; decide; decide)

theorem issueTrims_fr : ∀ a0 a1 a2 a3, Keeps 0x300000 a3 (issueTrims a0 a1 a2 a3) := by
  intros; unfold issueTrims
  (try dsimp only)
  repeat' first
    | with_reducible exact Keeps.refl _ _
    | (with_reducible apply Keeps.step (issueTrim_fr ..); decide)
    | with_reducible apply Keeps.eachDo
    | split
    | intro _
    | dsimp only

theorem hostOverride_fr : ∀ a0 a1, Keeps 0x4080000 a1 (hostOverride a0 a1) := by
  intros; unfold hostOverride
  (try dsimp only)
  repeat' first
    | with_reducible exact Keeps.refl _ _
    | (with_reducible apply Keeps.step (setFolded_fr ..); decide)
    | split
    | intro _
    | dsimp only
    | (with_reducible apply Keeps.upd_prf; decide)

theorem takeEffect_fr : ∀ a0 a1 a2, Keeps 0x4380000 a2 (takeEffect a0 a1 a2) := by
  intros; unfold takeEffect
  (try dsimp only)
  repeat' first
    | with_reducible exact Keeps.refl _ _
    | (with_reducible apply Keeps.step (hostOverride_fr ..); decide)
    | (with_reducible apply Keeps.step (issueTrims_fr ..); decide)
    | split
    | intro _
    | dsimp only
    | (with_reducible apply Keeps.upd_comp; decide)

theorem appliedEvent_fr : ∀ a0 a1 a2, Keeps 0x10000000000000000000000c0000000000280011040 a2 (appliedEvent a0 a1 a2) := by
  intros; unfold appliedEvent
  (try dsimp only)
  repeat' first
    | with_reducible exact Keeps.refl _ _
    | (with_reducible apply Keeps.step (raise_fr ..); decide)
    | split
    | intro _
    | dsimp only

theorem applyItems_fr : ∀ a0 a1 a2, Keeps 0x10000000000000000000000c0000000000284391040 a2 (applyItems a0 a1 a2) := by
  intros; unfold applyItems
  (try dsimp only)
  repeat' first
    | with_reducible exact Keeps.refl _ _
    | (with_reducible apply Keeps.step (appliedEvent_fr ..); decide)
    | (with_reducible apply Keeps.step (takeEffect_fr ..); decide)
    | with_reducible apply Keeps.eachDo
    | split
    | intro _
    | dsimp only
    | (with_reducible apply Keeps.upd_comp; decide)

theorem noteComposed_fr : ∀ a0 a1 a2, Keeps 0x20000 a2 (noteComposed a0 a1 a2) := by
  intros; unfold noteComposed
  (try dsimp only)
  repeat' first
    | with_reducible exact Keeps.refl _ _
    | (with_reducible apply Keeps.step (modSame_fr ..); decide)
    | split
    | intro _
    | dsimp only

theorem countUncovered_fr : ∀ a0 a1 a2 a3 a4, Keeps 0x210000000000000000000000c00000000002800b1040 a4 (countUncovered a0 a1 a2 a3 a4) := by
  intros; unfold countUncovered
  (try dsimp only)
  have kUNCOVERED_DOTS := Fam.has_UNCOVERED_DOTS
  generalize OD.UNCOVERED_DOTS = fUNCOVERED_DOTS at kUNCOVERED_DOTS ⊢
  repeat' first
    | with_reducible exact Keeps.refl _ _
    | (with_reducible apply Keeps.step (modLane_fr ..); decide)
    | (with_reducible apply Keeps.step (noteComposed_fr ..); decide)
    | (with_reducible apply Keeps.step (raise_fr ..); decide)
    | (with_reducible apply Keeps.bumpN .UNCOVERED_DOTS ?_ (kUNCOVERED_DOTS ..) ?_; decide)
    | split
    | intro _
    | dsimp only

theorem enterLine_fr : ∀ a0 a1 a2 a3, Keeps 0x80100 a3 (enterLine a0 a1 a2 a3) := by
  intros; unfold enterLine
  (try dsimp only)
  repeat' first
    | with_reducible exact Keeps.refl _ _
    | (with_reducible apply Keeps.step (modLane_fr ..); decide)
    | (with_reducible apply Keeps.step (moveLedger_fr ..); decide)
    | split
    | intro _
    | dsimp only

theorem discardPassed_fr : ∀ a0 a1, Keeps 0x80100 a1 (discardPassed a0 a1) := by
  intros; unfold discardPassed
  (try dsimp only)
  repeat' first
    | with_reducible exact Keeps.refl _ _
    | (with_reducible apply Keeps.step (modLane_fr ..); decide)
    | (with_reducible apply Keeps.step (moveLedger_fr ..); decide)
    | split
    | intro _
    | dsimp only

theorem composeLine_fr : ∀ a0 a1, Keeps 0x210000000000000000000000c00000000002843b1140 a1 (composeLine a0 a1) := by
  intros; unfold composeLine
  (try dsimp only)
  repeat' first
    | with_reducible exact Keeps.refl _ _
    | (with_reducible apply Keeps.step (applyItems_fr ..); decide)
    | (with_reducible apply Keeps.step (countUncovered_fr ..); decide)
    | (with_reducible apply Keeps.step (discardPassed_fr ..); decide)
    | (with_reducible apply Keeps.step (enterLine_fr ..); decide)
    | split
    | intro _
    | dsimp only

theorem foldEffect_fr : ∀ a0 a1 a2 a3, Keeps 0x4380000 a3 (foldEffect a0 a1 a2 a3) := by
  intros; unfold foldEffect
  (try dsimp only)
  repeat' first
    | with_reducible exact Keeps.refl _ _
    | (with_reducible apply Keeps.step (hostOverride_fr ..); decide)
    | (with_reducible apply Keeps.step (issueTrims_fr ..); decide)
    | split
    | intro _
    | dsimp only

theorem rateFolded_fr : ∀ a0 a1, Keeps 0x80000 a1 (rateFolded a0 a1) := by
  intros; unfold rateFolded
  (try dsimp only)
  repeat' first
    | with_reducible exact Keeps.refl _ _
    | split
    | intro _
    | dsimp only
    | (with_reducible apply Keeps.upd_comp; decide)

theorem foldItem_fr : ∀ a0 a1, Keeps 0x10000001000000000000000c0000000000284391c40 a1 (foldItem a0 a1) := by
  intros; unfold foldItem
  (try dsimp only)
  repeat' first
    | with_reducible exact Keeps.refl _ _
    | (with_reducible apply Keeps.step (answerTo_fr ..); decide)
    | (with_reducible apply Keeps.step (foldEffect_fr ..); decide)
    | (with_reducible apply Keeps.step (journalRefused_fr ..); decide)
    | (with_reducible apply Keeps.step (openRecord_fr ..); decide)
    | (with_reducible apply Keeps.step (raise_fr ..); decide)
    | (with_reducible apply Keeps.step (rateFolded_fr ..); decide)
    | (with_reducible apply Keeps.step (setFolded_fr ..); decide)
    | with_reducible apply Keeps.eachDo
    | split
    | intro _
    | dsimp only
    | (with_reducible apply Keeps.upd_comp; decide)

theorem foldFirst_fr : ∀ a b s, Keeps 0x10000001000000000000000c0000000000284391c40 s (foldFirst a b s) := by
  intro a b; induction b generalizing a with
  | nil => intros; exact Keeps.refl _ _
  | cons p r ih =>
    intro s; unfold foldFirst; split
    · refine Keeps.step (foldItem_fr ..) (by decide) ?_
      exact Keeps.upd_comp (by decide) (Keeps.refl _ _)
    · exact ih _ _

theorem recordAt_fr : ∀ a0 a1 a2 a3 a4, Keeps 0x10000000000000000000000c0000200000218099140 a4 (recordAt a0 a1 a2 a3 a4) := by
  intros; unfold recordAt
  (try dsimp only)
  have kCHANGE_SEQ := Fam.has_CHANGE_SEQ
  generalize OD.CHANGE_SEQ = fCHANGE_SEQ at kCHANGE_SEQ ⊢
  repeat' first
    | with_reducible exact Keeps.refl _ _
    | (with_reducible apply Keeps.step (putRecord_fr ..); decide)
    | (with_reducible apply Keeps.setO .CHANGE_SEQ ?_ (kCHANGE_SEQ ..) ?_; decide)
    | split
    | intro _
    | dsimp only
    | (with_reducible apply Keeps.upd_comp; decide)

theorem changeRecord_fr : ∀ a0 a1 a2 a3, Keeps 0x10000000000000000000000c0000200000218099140 a3 (changeRecord a0 a1 a2 a3) := by
  intros; unfold changeRecord
  (try dsimp only)
  repeat' first
    | with_reducible exact Keeps.refl _ _
    | (with_reducible apply Keeps.step (recordAt_fr ..); decide)
    | split
    | intro _
    | dsimp only
    | (with_reducible apply Keeps.upd_comp; decide)

theorem itemRecords_fr : ∀ a0 a1 a2 a3 a4 a5 a6 a7, Keeps 0x10000000000000000000000c0000200000218099140 a7 (itemRecords a0 a1 a2 a3 a4 a5 a6 a7) := by
  intros; unfold itemRecords
  (try dsimp only)
  repeat' first
    | with_reducible exact Keeps.refl _ _
    | (with_reducible apply Keeps.step (changeRecord_fr ..); decide)
    | with_reducible apply Keeps.eachDo
    | split
    | intro _
    | dsimp only

theorem acceptItem_fr : ∀ a0 a1 a2 a3 a4 a5 a6, Keeps 0x10000000000000000000000c0000200000218099140 a6 (acceptItem a0 a1 a2 a3 a4 a5 a6) := by
  intros; unfold acceptItem
  (try dsimp only)
  repeat' first
    | with_reducible exact Keeps.refl _ _
    | (with_reducible apply Keeps.step (itemRecords_fr ..); decide)
    | split
    | intro _
    | dsimp only
    | (with_reducible apply Keeps.upd_comp; decide)

theorem requestChange_fr : ∀ a0 a1 a2 a3 a4 a5 a6, Keeps 0x10000008000000000000000c0000200000298099140 a6 (requestChange a0 a1 a2 a3 a4 a5 a6).2 := by
  intros; unfold requestChange
  (try dsimp only)
  have kREQ_BAND_TAKEN := Fam.has_REQ_BAND_TAKEN
  generalize OD.REQ_BAND_TAKEN = fREQ_BAND_TAKEN at kREQ_BAND_TAKEN ⊢
  repeat' first
    | with_reducible exact Keeps.refl _ _
    | (with_reducible apply Keeps.step (acceptItem_fr ..); decide)
    | (with_reducible apply Keeps.step (raise_fr ..); decide)
    | (with_reducible apply Keeps.step (setFolded_fr ..); decide)
    | (with_reducible apply Keeps.setO .REQ_BAND_TAKEN ?_ (kREQ_BAND_TAKEN ..) ?_; decide)
    | split
    | intro _
    | dsimp only

theorem submitRequest_fr : ∀ a0 a1, Keeps 0x10000018000000000000000c0000200000298099140 a1 (submitRequest a0 a1).2 := by
  intros; unfold submitRequest
  (try dsimp only)
  have kREQ_CAUSE := Fam.has_REQ_CAUSE
  generalize OD.REQ_CAUSE = fREQ_CAUSE at kREQ_CAUSE ⊢
  repeat' first
    | with_reducible exact Keeps.refl _ _
    | (with_reducible apply Keeps.step (requestChange_fr ..); decide)
    | (with_reducible apply Keeps.step (Keeps.snd (by assumption) (requestChange_fr ..)); decide)
    | (with_reducible apply Keeps.setO .REQ_CAUSE ?_ (kREQ_CAUSE ..) ?_; decide)
    | split
    | intro _
    | dsimp only

theorem requestRate_fr : ∀ a0 a1 a2 s, Keeps 0x10000018000000000000000c0000200020298099140 s (requestRate a0 a1 a2 s).2 := by
  intros; unfold requestRate
  (try dsimp only)
  have kREQ_BAND_TAKEN := Fam.has_REQ_BAND_TAKEN
  generalize OD.REQ_BAND_TAKEN = fREQ_BAND_TAKEN at kREQ_BAND_TAKEN ⊢
  have kREQ_CAUSE := Fam.has_REQ_CAUSE
  generalize OD.REQ_CAUSE = fREQ_CAUSE at kREQ_CAUSE ⊢
  repeat' first
    | with_reducible exact Keeps.refl _ _
    | (with_reducible apply Keeps.step (raise_fr ..); decide)
    | (with_reducible apply Keeps.step (acceptItem_fr ..); decide)
    | (with_reducible apply Keeps.setO .REQ_BAND_TAKEN ?_ (kREQ_BAND_TAKEN ..) ?_; decide)
    | (with_reducible apply Keeps.setO .REQ_CAUSE ?_ (kREQ_CAUSE ..) ?_; decide)
    | (with_reducible apply Keeps.setO .rateClass ?_ (Fam.has_rateClass ..) ?_; decide)
    | split
    | dsimp only

theorem loadTable_fr : ∀ a0 a1 a2 a3 a4 a5 a6 a7, Keeps 0x80000 a7 (loadTable a0 a1 a2 a3 a4 a5 a6 a7) := by
  intros; unfold loadTable
  (try dsimp only)
  repeat' first
    | with_reducible exact Keeps.refl _ _
    | split
    | intro _
    | dsimp only
    | (with_reducible apply Keeps.upd_comp; decide)

theorem acceptPage_fr : ∀ a0, Keeps 0x10000000000200000000000c0000200000298099d40 a0 (acceptPage a0) := by
  intros; unfold acceptPage
  (try dsimp only)
  have kPAGES_COMMITTED := Fam.has_PAGES_COMMITTED
  generalize OD.PAGES_COMMITTED = fPAGES_COMMITTED at kPAGES_COMMITTED ⊢
  repeat' first
    | with_reducible exact Keeps.refl _ _
    | (with_reducible apply Keeps.step (acceptItem_fr ..); decide)
    | (with_reducible apply Keeps.step (answerTo_fr ..); decide)
    | (with_reducible apply Keeps.step (raise_fr ..); decide)
    | (with_reducible apply Keeps.bump .PAGES_COMMITTED ?_ (kPAGES_COMMITTED ..) ?_; decide)
    | split
    | intro _
    | dsimp only
    | (with_reducible apply Keeps.upd_comp; decide)

theorem laneRestart_fr : ∀ a0 a1 a2 a3, Keeps 0x10000000000000000000000c0000000000280091140 a3 (laneRestart a0 a1 a2 a3) := by
  intros; unfold laneRestart
  (try dsimp only)
  repeat' first
    | with_reducible exact Keeps.refl _ _
    | (with_reducible apply Keeps.step (modLane_fr ..); decide)
    | (with_reducible apply Keeps.step (moveLedger_fr ..); decide)
    | (with_reducible apply Keeps.step (raise_fr ..); decide)
    | split
    | intro _
    | dsimp only

theorem stepLanes_fr : ∀ a0 a1 a2, Keeps 0x180100 a2 (stepLanes a0 a1 a2) := by
  intros; unfold stepLanes
  (try dsimp only)
  repeat' first
    | with_reducible exact Keeps.refl _ _
    | (with_reducible apply Keeps.step (modLane_fr ..); decide)
    | (with_reducible apply Keeps.step (moveLedger_fr ..); decide)
    | with_reducible apply Keeps.eachDo
    | split
    | intro _
    | dsimp only
    | (with_reducible apply Keeps.upd_plat; decide)
    | (with_reducible apply Keeps.upd_comp; decide)

theorem blankHead_fr : ∀ a0 a1 a2 a3, Keeps 0x80100 a3 (blankHead a0 a1 a2 a3) := by
  intros; unfold blankHead
  (try dsimp only)
  repeat' first
    | with_reducible exact Keeps.refl _ _
    | (with_reducible apply Keeps.step (modLane_fr ..); decide)
    | (with_reducible apply Keeps.step (moveLedger_fr ..); decide)
    | split
    | intro _
    | dsimp only

theorem blankForme_fr : ∀ a0 a1 a2, Keeps 0x80100 a2 (blankForme a0 a1 a2) := by
  intros; unfold blankForme
  (try dsimp only)
  repeat' first
    | with_reducible exact Keeps.refl _ _
    | (with_reducible apply Keeps.step (blankHead_fr ..); decide)
    | with_reducible apply Keeps.eachDo
    | split
    | intro _
    | dsimp only

theorem execLineCompose_fr : ∀ a0 a1 t, (execLineCompose a0 a1) = .next t → Keeps 0x210000000000000000000000c00000000002843b1140 a1 t := by
  intros; rename_i h; unfold execLineCompose at h; replace h := Host.Outcome.next.inj h; subst h
  (try dsimp only)
  repeat' first
    | with_reducible exact Keeps.refl _ _
    | (with_reducible apply Keeps.step (composeLine_fr ..); decide)
    | with_reducible apply Keeps.whenDo
    | split
    | intro _
    | dsimp only

/-! ### Machine/OhlQueue.lean -/

theorem modSeqr_fr : ∀ a0 a1 a2, Keeps 0x100000 a2 (modSeqr a0 a1 a2) := by
  intros; unfold modSeqr
  (try dsimp only)
  repeat' first
    | with_reducible exact Keeps.refl _ _
    | split
    | intro _
    | dsimp only
    | (with_reducible apply Keeps.upd_plat; decide)

theorem modHeld_fr : ∀ a0 a1 a2 a3, Keeps 0x200000 a3 (modHeld a0 a1 a2 a3) := by
  intros; unfold modHeld
  (try dsimp only)
  repeat' first
    | with_reducible exact Keeps.refl _ _
    | (with_reducible apply Keeps.step (modPort_fr ..); decide)
    | split
    | intro _
    | dsimp only

theorem releaseHeld_fr : ∀ a0 a1, Keeps 0x100 a1 (releaseHeld a0 a1) := by
  intros; unfold releaseHeld
  (try dsimp only)
  repeat' first
    | with_reducible exact Keeps.refl _ _
    | (with_reducible apply Keeps.step (moveLedger_fr ..); decide)
    | split
    | intro _
    | dsimp only

theorem dropHeld_fr : ∀ a0 a1 a2, Keeps 0x200100 a2 (dropHeld a0 a1 a2) := by
  intros; unfold dropHeld
  (try dsimp only)
  repeat' first
    | with_reducible exact Keeps.refl _ _
    | (with_reducible apply Keeps.step (modPort_fr ..); decide)
    | (with_reducible apply Keeps.step (releaseHeld_fr ..); decide)
    | with_reducible apply Keeps.eachDo
    | split
    | intro _
    | dsimp only

theorem slotDiscarded_fr : ∀ a0 a1 a2, Keeps 0x10000000000000000000000c1000000000280211040 a2 (slotDiscarded a0 a1 a2) := by
  intros; unfold slotDiscarded
  (try dsimp only)
  have kDISCARDED_SLOTS := Fam.has_DISCARDED_SLOTS
  generalize OD.DISCARDED_SLOTS = fDISCARDED_SLOTS at kDISCARDED_SLOTS ⊢
  repeat' first
    | with_reducible exact Keeps.refl _ _
    | (with_reducible apply Keeps.step (modPort_fr ..); decide)
    | (with_reducible apply Keeps.step (raise_fr ..); decide)
    | (with_reducible apply Keeps.bump .DISCARDED_SLOTS ?_ (kDISCARDED_SLOTS ..) ?_; decide)
    | split
    | intro _
    | dsimp only

theorem dropPassed_fr : ∀ a0 a1 a2, Keeps 0x200100 a2 (dropPassed a0 a1 a2) := by
  intros; unfold dropPassed
  (try dsimp only)
  repeat' first
    | with_reducible exact Keeps.refl _ _
    | (with_reducible apply Keeps.step (dropHeld_fr ..); decide)
    | split
    | intro _
    | dsimp only

theorem holdSlot_fr : ∀ a0 a1 a2 a3 a4, Keeps 0x200100 a4 (holdSlot a0 a1 a2 a3 a4) := by
  intros; unfold holdSlot
  (try dsimp only)
  repeat' first
    | with_reducible exact Keeps.refl _ _
    | (with_reducible apply Keeps.step (modHeld_fr ..); decide)
    | (with_reducible apply Keeps.step (modPort_fr ..); decide)
    | (with_reducible apply Keeps.step (moveLedger_fr ..); decide)
    | split
    | intro _
    | dsimp only

theorem lateTrims_fr : ∀ a0 a1 a2, Keeps 0x200000 a2 (lateTrims a0 a1 a2) := by
  intros; unfold lateTrims
  (try dsimp only)
  repeat' first
    | with_reducible exact Keeps.refl _ _
    | (with_reducible apply Keeps.step (modPort_fr ..); decide)
    | split
    | intro _
    | dsimp only

theorem ohlAccept_fr : ∀ a0 a1 a2 a3 a4 a5, Keeps 0x10000000000000000000000c1000000000280311140 a5 (ohlAccept a0 a1 a2 a3 a4 a5) := by
  intros; unfold ohlAccept
  (try dsimp only)
  repeat' first
    | with_reducible exact Keeps.refl _ _
    | (with_reducible apply Keeps.step (dropPassed_fr ..); decide)
    | (with_reducible apply Keeps.step (holdSlot_fr ..); decide)
    | (with_reducible apply Keeps.step (lateTrims_fr ..); decide)
    | (with_reducible apply Keeps.step (modPort_fr ..); decide)
    | (with_reducible apply Keeps.step (modSeqr_fr ..); decide)
    | (with_reducible apply Keeps.step (moveLedger_fr ..); decide)
    | (with_reducible apply Keeps.step (slotDiscarded_fr ..); decide)
    | split
    | intro _
    | dsimp only

/-! ### Machine/Platen.lean -/

theorem commitPlaten_fr : ∀ a0 a1 a2, Keeps 0x10000000000800000000000c0000000000280119140 a2 (commitPlaten a0 a1 a2).2 := by
  intros; unfold commitPlaten
  (try dsimp only)
  have kPLAT_COMMIT_PENDING := Fam.has_PLAT_COMMIT_PENDING
  generalize OD.PLAT_COMMIT_PENDING = fPLAT_COMMIT_PENDING at kPLAT_COMMIT_PENDING ⊢
  repeat' first
    | with_reducible exact Keeps.refl _ _
    | (with_reducible apply Keeps.step (modSeqr_fr ..); decide)
    | (with_reducible apply Keeps.step (raise_fr ..); decide)
    | (with_reducible apply Keeps.step (reserveSlots_fr ..); decide)
    | (with_reducible apply Keeps.setB .PLAT_COMMIT_PENDING ?_ (kPLAT_COMMIT_PENDING ..) ?_; decide)
    | split
    | intro _
    | dsimp only

theorem setRecords_fr : ∀ a0 a1 a2 a3, Keeps 0x10000000000000000000000c0000200000218099140 a3 (setRecords a0 a1 a2 a3) := by
  intros; unfold setRecords
  (try dsimp only)
  repeat' first
    | with_reducible exact Keeps.refl _ _
    | (with_reducible apply Keeps.step (changeRecord_fr ..); decide)
    | (with_reducible apply Keeps.step (unreserveSlots_fr ..); decide)
    | with_reducible apply Keeps.eachDo
    | split
    | intro _
    | dsimp only

theorem takeShadow_fr : ∀ a0 a1 a2, Keeps 0x10000000000800080000000c0000200000298199170 a2 (takeShadow a0 a1 a2) := by
  intros; unfold takeShadow
  (try dsimp only)
  have kLIVE_SEQ := Fam.has_LIVE_SEQ
  generalize OD.LIVE_SEQ = fLIVE_SEQ at kLIVE_SEQ ⊢
  have kPLAT_COMMIT_PENDING := Fam.has_PLAT_COMMIT_PENDING
  generalize OD.PLAT_COMMIT_PENDING = fPLAT_COMMIT_PENDING at kPLAT_COMMIT_PENDING ⊢
  repeat' first
    | with_reducible exact Keeps.refl _ _
    | (with_reducible apply Keeps.step (State.handOver_fr ..); decide)
    | (with_reducible apply Keeps.step (modSeqr_fr ..); decide)
    | (with_reducible apply Keeps.step (raise_fr ..); decide)
    | (with_reducible apply Keeps.step (setRecords_fr ..); decide)
    | (with_reducible apply Keeps.bump .LIVE_SEQ ?_ (kLIVE_SEQ ..) ?_; decide)
    | (with_reducible apply Keeps.setB .PLAT_COMMIT_PENDING ?_ (kPLAT_COMMIT_PENDING ..) ?_; decide)
    | split
    | intro _
    | dsimp only

theorem signBody_fr : ∀ a0 a1 a2, Keeps 0x200000000000000000000000000100000100000 a2 (signBody a0 a1 a2) := by
  intros; unfold signBody
  (try dsimp only)
  have kBAND_SIGNATURE := Fam.has_BAND_SIGNATURE
  generalize OD.BAND_SIGNATURE = fBAND_SIGNATURE at kBAND_SIGNATURE ⊢
  have kSIGNATURE_BAND := Fam.has_SIGNATURE_BAND
  generalize OD.SIGNATURE_BAND = fSIGNATURE_BAND at kSIGNATURE_BAND ⊢
  repeat' first
    | with_reducible exact Keeps.refl _ _
    | (with_reducible apply Keeps.step (modSeqr_fr ..); decide)
    | (with_reducible apply Keeps.setO .BAND_SIGNATURE ?_ (kBAND_SIGNATURE ..) ?_; decide)
    | (with_reducible apply Keeps.setO .SIGNATURE_BAND ?_ (kSIGNATURE_BAND ..) ?_; decide)
    | split
    | intro _
    | dsimp only

theorem buildBody_fr : ∀ a0 a1 a2, Keeps 0x1000a000000000000000000c0000000100280111040 a2 (buildBody a0 a1 a2).2 := by
  intros; unfold buildBody
  (try dsimp only)
  have kSLIP_TICKS := Fam.has_SLIP_TICKS
  generalize OD.SLIP_TICKS = fSLIP_TICKS at kSLIP_TICKS ⊢
  repeat' first
    | with_reducible exact Keeps.refl _ _
    | (with_reducible apply Keeps.step (modSeqr_fr ..); decide)
    | (with_reducible apply Keeps.step (raise_fr ..); decide)
    | (with_reducible apply Keeps.step (signBody_fr ..); decide)
    | (with_reducible apply Keeps.bumpN .SLIP_TICKS ?_ (kSLIP_TICKS ..) ?_; decide)
    | split
    | intro _
    | dsimp only

theorem noteLine_fr : ∀ a0 a1 a2, Keeps 0x10000000000000000000300c0000000000280051140 a2 (noteLine a0 a1 a2) := by
  intros; unfold noteLine
  (try dsimp only)
  have kFORME_FIRST_LINE := Fam.has_FORME_FIRST_LINE
  generalize OD.FORME_FIRST_LINE = fFORME_FIRST_LINE at kFORME_FIRST_LINE ⊢
  have kFORME_LAST_LINE := Fam.has_FORME_LAST_LINE
  generalize OD.FORME_LAST_LINE = fFORME_LAST_LINE at kFORME_LAST_LINE ⊢
  repeat' first
    | with_reducible exact Keeps.refl _ _
    | (with_reducible apply Keeps.step (formeEvent_fr ..); decide)
    | (with_reducible apply Keeps.step (modForme_fr ..); decide)
    | (with_reducible apply Keeps.step (setForme_fr ..); decide)
    | (with_reducible apply Keeps.setO .FORME_FIRST_LINE ?_ (kFORME_FIRST_LINE ..) ?_; decide)
    | (with_reducible apply Keeps.setO .FORME_LAST_LINE ?_ (kFORME_LAST_LINE ..) ?_; decide)
    | split
    | intro _
    | dsimp only

theorem moveLine_fr : ∀ a0 a1 a2, Keeps 0x80100 a2 (moveLine a0 a1 a2) := by
  intros; unfold moveLine
  (try dsimp only)
  repeat' first
    | with_reducible exact Keeps.refl _ _
    | (with_reducible apply Keeps.step (modLane_fr ..); decide)
    | (with_reducible apply Keeps.step (moveLedger_fr ..); decide)
    | split
    | intro _
    | dsimp only

theorem noteFired_fr : ∀ a0 a1, Keeps 0xc0000000000000080 a1 (noteFired a0 a1) := by
  intros; unfold noteFired
  (try dsimp only)
  have kDCHK_OFF_FIRST_LINE := Fam.has_DCHK_OFF_FIRST_LINE
  generalize OD.DCHK_OFF_FIRST_LINE = fDCHK_OFF_FIRST_LINE at kDCHK_OFF_FIRST_LINE ⊢
  have kDCHK_OFF_LAST_LINE := Fam.has_DCHK_OFF_LAST_LINE
  generalize OD.DCHK_OFF_LAST_LINE = fDCHK_OFF_LAST_LINE at kDCHK_OFF_LAST_LINE ⊢
  repeat' first
    | with_reducible exact Keeps.refl _ _
    | (with_reducible apply Keeps.setO .DCHK_OFF_FIRST_LINE ?_ (kDCHK_OFF_FIRST_LINE ..) ?_; decide)
    | (with_reducible apply Keeps.setO .DCHK_OFF_LAST_LINE ?_ (kDCHK_OFF_LAST_LINE ..) ?_; decide)
    | split
    | intro _
    | dsimp only
    | (with_reducible apply Keeps.own_log; rfl; rfl; decide)
    | (with_reducible apply Keeps.own_dev; rfl; rfl; rfl; rfl; rfl; decide)
    | (with_reducible apply Keeps.upd_dev; decide; decide)
    | (with_reducible apply Keeps.own_dev; rfl; rfl; rfl; rfl; decide)

theorem commitHead_fr : ∀ a0 a1 a2 a3 a4, Keeps 0x1000a000000800080000300c10c02001002983d91f0 a4 (commitHead a0 a1 a2 a3 a4) := by
  intros; unfold commitHead
  (try dsimp only)
  repeat' first
    | with_reducible exact Keeps.refl _ _
    | (with_reducible apply Keeps.step (buildBody_fr ..); decide)
    | (with_reducible apply Keeps.step (Keeps.snd (by assumption) (buildBody_fr ..)); decide)
    | (with_reducible apply Keeps.step (modSeqr_fr ..); decide)
    | (with_reducible apply Keeps.step (moveLine_fr ..); decide)
    | (with_reducible apply Keeps.step (noteFired_fr ..); decide)
    | (with_reducible apply Keeps.step (noteLine_fr ..); decide)
    | (with_reducible apply Keeps.step (ohlAccept_fr ..); decide)
    | (with_reducible apply Keeps.step (takeShadow_fr ..); decide)
    | split
    | intro _
    | dsimp only

theorem commitSlot_fr : ∀ a0 a1 a2, Keeps 0x1000a000000800080000300c10c02001002983d91f0 a2 (commitSlot a0 a1 a2) := by
  intros; unfold commitSlot
  (try dsimp only)
  repeat' first
    | with_reducible exact Keeps.refl _ _
    | (with_reducible apply Keeps.step (commitHead_fr ..); decide)
    | (with_reducible apply Keeps.step (modSeqr_fr ..); decide)
    | with_reducible apply Keeps.eachDo
    | split
    | intro _
    | dsimp only

theorem restartHead_fr : ∀ a0 a1, Keeps 0x10000000000000000000000c00000000002800b5140 a1 (restartHead a0 a1) := by
  intros; unfold restartHead
  (try dsimp only)
  repeat' first
    | with_reducible exact Keeps.refl _ _
    | (with_reducible apply Keeps.step (galRestart_fr ..); decide)
    | (with_reducible apply Keeps.step (laneRestart_fr ..); decide)
    | split
    | intro _
    | dsimp only

theorem countHold_fr : ∀ a0, Keeps 0x10000000000000000000000c0000000000280111040 a0 (countHold a0) := by
  intros; unfold countHold
  (try dsimp only)
  repeat' first
    | with_reducible exact Keeps.refl _ _
    | (with_reducible apply Keeps.step (raise_fr ..); decide)
    | split
    | intro _
    | dsimp only
    | (with_reducible apply Keeps.upd_plat; decide)

theorem finishAborts_fr : ∀ a0 a1, Keeps 0x100000000000080200002bec00000000002800f51c0 a1 (finishAborts a0 a1) := by
  intros; unfold finishAborts
  (try dsimp only)
  repeat' first
    | with_reducible exact Keeps.refl _ _
    | (with_reducible apply Keeps.step (abortAt_fr ..); decide)
    | (with_reducible apply Keeps.step (blankForme_fr ..); decide)
    | with_reducible apply Keeps.eachDo
    | split
    | intro _
    | dsimp only

theorem freezeAt_fr : ∀ a0 a1, Keeps 0x400000 a1 (freezeAt a0 a1) := by
  intros; unfold freezeAt
  (try dsimp only)
  repeat' first
    | with_reducible exact Keeps.refl _ _
    | split
    | intro _
    | dsimp only
    | (with_reducible apply Keeps.upd_web; decide)

theorem noteResume_fr : ∀ a0 a1, Keeps 0x4000000000000000000000000000000000000000000000 a1 (noteResume a0 a1) := by
  intros; unfold noteResume
  (try dsimp only)
  have kRESUME_LINE := Fam.has_RESUME_LINE
  generalize OD.RESUME_LINE = fRESUME_LINE at kRESUME_LINE ⊢
  repeat' first
    | with_reducible exact Keeps.refl _ _
    | (with_reducible apply Keeps.setO .RESUME_LINE ?_ (kRESUME_LINE ..) ?_; decide)
    | split
    | intro _
    | dsimp only

theorem holdAt_fr : ∀ a0 a1 a2 a3, Keeps 0x400100000000000080200602bec00000000022805f51c0 a3 (holdAt a0 a1 a2 a3) := by
  intros; unfold holdAt
  (try dsimp only)
  have kHELD_LINE := Fam.has_HELD_LINE
  generalize OD.HELD_LINE = fHELD_LINE at kHELD_LINE ⊢
  have kHOLD_COUNT := Fam.has_HOLD_COUNT
  generalize OD.HOLD_COUNT = fHOLD_COUNT at kHOLD_COUNT ⊢
  repeat' first
    | with_reducible exact Keeps.refl _ _
    | (with_reducible apply Keeps.step (countHold_fr ..); decide)
    | (with_reducible apply Keeps.step (finishAborts_fr ..); decide)
    | (with_reducible apply Keeps.step (freezeAt_fr ..); decide)
    | (with_reducible apply Keeps.step (noteResume_fr ..); decide)
    | (with_reducible apply Keeps.step (raiseX_fr ..); decide)
    | (with_reducible apply Keeps.step (restartHead_fr ..); decide)
    | with_reducible apply Keeps.eachDo
    | (with_reducible apply Keeps.setO .HELD_LINE ?_ (kHELD_LINE ..) ?_; decide)
    | (with_reducible apply Keeps.bump .HOLD_COUNT ?_ (kHOLD_COUNT ..) ?_; decide)
    | split
    | intro _
    | dsimp only
    | (with_reducible apply Keeps.upd_pins_plat; decide; decide)

theorem coolPay_fr : ∀ a0, Keeps 0x10000000000000000000000c0000200000218199140 a0 (coolPay a0) := by
  intros; unfold coolPay
  (try dsimp only)
  repeat' first
    | with_reducible exact Keeps.refl _ _
    | (with_reducible apply Keeps.step (recordAt_fr ..); decide)
    | split
    | intro _
    | dsimp only
    | (with_reducible apply Keeps.upd_plat; decide)

theorem coolKeep_fr : ∀ a0 a1, Keeps 0x100000 a1 (coolKeep a0 a1) := by
  intros; unfold coolKeep
  (try dsimp only)
  repeat' first
    | with_reducible exact Keeps.refl _ _
    | (with_reducible apply Keeps.step (modSeqr_fr ..); decide)
    | split
    | intro _
    | dsimp only

theorem coolRefill_fr : ∀ a0, Keeps 0x10000000000000000000000c0000200000218199140 a0 (coolRefill a0) := by
  intros; unfold coolRefill
  (try dsimp only)
  repeat' first
    | with_reducible exact Keeps.refl _ _
    | (with_reducible apply Keeps.step (coolKeep_fr ..); decide)
    | (with_reducible apply Keeps.step (coolPay_fr ..); decide)
    | with_reducible apply Keeps.eachDo
    | split
    | intro _
    | dsimp only

theorem coolRecord_fr : ∀ a0 a1 a2 a3 a4, Keeps 0x10000000000000000000000c0000200000218199140 a4 (coolRecord a0 a1 a2 a3 a4) := by
  intros; unfold coolRecord
  (try dsimp only)
  repeat' first
    | with_reducible exact Keeps.refl _ _
    | (with_reducible apply Keeps.step (changeRecord_fr ..); decide)
    | (with_reducible apply Keeps.step (coolRefill_fr ..); decide)
    | (with_reducible apply Keeps.step (modSeqr_fr ..); decide)
    | split
    | intro _
    | dsimp only
    | (with_reducible apply Keeps.upd_plat; decide)

theorem setCool_fr : ∀ a0 a1 a2 a3 a4, Keeps 0x10000000000000000000000c0010200000298199140 a4 (setCool a0 a1 a2 a3 a4) := by
  intros; unfold setCool
  (try dsimp only)
  have kCOOL_MODE := Fam.has_COOL_MODE
  generalize OD.COOL_MODE = fCOOL_MODE at kCOOL_MODE ⊢
  repeat' first
    | with_reducible exact Keeps.refl _ _
    | (with_reducible apply Keeps.step (coolRecord_fr ..); decide)
    | (with_reducible apply Keeps.step (modSeqr_fr ..); decide)
    | (with_reducible apply Keeps.step (raise_fr ..); decide)
    | (with_reducible apply Keeps.setB .COOL_MODE ?_ (kCOOL_MODE ..) ?_; decide)
    | split
    | intro _
    | dsimp only

theorem evalReading_fr : ∀ a0 a1 a2 a3, Keeps 0x10000000000000000000000c0010200000298199140 a3 (evalReading a0 a1 a2 a3) := by
  intros; unfold evalReading
  (try dsimp only)
  repeat' first
    | with_reducible exact Keeps.refl _ _
    | (with_reducible apply Keeps.step (modSeqr_fr ..); decide)
    | (with_reducible apply Keeps.step (raise_fr ..); decide)
    | (with_reducible apply Keeps.step (setCool_fr ..); decide)
    | (with_reducible apply Keeps.step (takeFrom_fr ..); decide)
    | split
    | intro _
    | dsimp only

theorem evalTemp_fr : ∀ a0 a1 a2, Keeps 0x10000000000000000000000c0010200000298199140 a2 (evalTemp a0 a1 a2) := by
  intros; unfold evalTemp
  (try dsimp only)
  repeat' first
    | with_reducible exact Keeps.refl _ _
    | (with_reducible apply Keeps.step (evalReading_fr ..); decide)
    | (with_reducible apply Keeps.step (modSeqr_fr ..); decide)
    | with_reducible apply Keeps.eachDo
    | split
    | intro _
    | dsimp only

theorem tempReading_fr : ∀ a0 a1 a2, Keeps 0x100000 a2 (tempReading a0 a1 a2) := by
  intros; unfold tempReading
  (try dsimp only)
  repeat' first
    | with_reducible exact Keeps.refl _ _
    | (with_reducible apply Keeps.step (modSeqr_fr ..); decide)
    | split
    | intro _
    | dsimp only

theorem rateCheck_fr : ∀ a0 a1 a2, Keeps 0x10000000000000000000000c0000000000280111040 a2 (rateCheck a0 a1 a2) := by
  intros; unfold rateCheck
  (try dsimp only)
  repeat' first
    | with_reducible exact Keeps.refl _ _
    | (with_reducible apply Keeps.step (raise_fr ..); decide)
    | split
    | intro _
    | dsimp only
    | (with_reducible apply Keeps.upd_plat; decide)

theorem noteDemand_fr : ∀ a0 a1, Keeps 0x100000 a1 (noteDemand a0 a1) := by
  intros; unfold noteDemand
  (try dsimp only)
  repeat' first
    | with_reducible exact Keeps.refl _ _
    | split
    | intro _
    | dsimp only
    | (with_reducible apply Keeps.upd_plat; decide)

theorem platBoundary_fr : ∀ a0 a1, Keeps 0x4001000a0000018080a00603bec10d02001022987fd1f0 a1 (platBoundary a0 a1) := by
  intros; unfold platBoundary
  (try dsimp only)
  have kPLAT_LAG := Fam.has_PLAT_LAG
  generalize OD.PLAT_LAG = fPLAT_LAG at kPLAT_LAG ⊢
  repeat' first
    | with_reducible exact Keeps.refl _ _
    | (with_reducible apply Keeps.step (commitSlot_fr ..); decide)
    | (with_reducible apply Keeps.step (evalTemp_fr ..); decide)
    | (with_reducible apply Keeps.step (holdAt_fr ..); decide)
    | (with_reducible apply Keeps.step (linkChecks_fr ..); decide)
    | (with_reducible apply Keeps.step (noteDemand_fr ..); decide)
    | (with_reducible apply Keeps.step (rateCheck_fr ..); decide)
    | with_reducible apply Keeps.eachDo
    | (with_reducible apply Keeps.setO .PLAT_LAG ?_ (kPLAT_LAG ..) ?_; decide)
    | split
    | intro _
    | dsimp only
    | (with_reducible apply Keeps.upd_plat; decide)

theorem endFreeze_fr : ∀ a0, Keeps 0x10000000000000000000000c0000000002280511040 a0 (endFreeze a0) := by
  intros; unfold endFreeze
  (try dsimp only)
  repeat' first
    | with_reducible exact Keeps.refl _ _
    | (with_reducible apply Keeps.step (driveHold_fr ..); decide)
    | (with_reducible apply Keeps.step (raiseX_fr ..); decide)
    | split
    | intro _
    | dsimp only
    | (with_reducible apply Keeps.upd_plat_web; decide; decide)
    | (with_reducible apply Keeps.upd_pins_plat_web; decide; decide; decide)

theorem platStopped_fr : ∀ a0, Keeps 0x10000000000000000000000c0000000000280111040 a0 (platStopped a0) := by
  intros; unfold platStopped
  (try dsimp only)
  repeat' first
    | with_reducible exact Keeps.refl _ _
    | (with_reducible apply Keeps.step (raise_fr ..); decide)
    | split
    | intro _
    | dsimp only
    | (with_reducible apply Keeps.upd_plat; decide)

theorem platMoved_fr : ∀ a0 a1, Keeps 0x10000000000000000000000c0000000000280111040 a1 (platMoved a0 a1) := by
  intros; unfold platMoved
  (try dsimp only)
  repeat' first
    | with_reducible exact Keeps.refl _ _
    | (with_reducible apply Keeps.step (raise_fr ..); decide)
    | split
    | intro _
    | dsimp only
    | (with_reducible apply Keeps.upd_plat; decide)

theorem tornWindows_fr : ∀ a0 a1 a2, Keeps 0x4000000 a2 (tornWindows a0 a1 a2) := by
  intros; unfold tornWindows
  (try dsimp only)
  repeat' first
    | with_reducible exact Keeps.refl _ _
    | split
    | intro _
    | dsimp only
    | (with_reducible apply Keeps.upd_prf; decide)

theorem tornReport_fr : ∀ a0 a1 a2 a3, Keeps 0x40014000000000000000020000c00000000002845b5140 a3 (tornReport a0 a1 a2 a3) := by
  intros; unfold tornReport
  (try dsimp only)
  have kHELD_LINE := Fam.has_HELD_LINE
  generalize OD.HELD_LINE = fHELD_LINE at kHELD_LINE ⊢
  have kTORN_LINES := Fam.has_TORN_LINES
  generalize OD.TORN_LINES = fTORN_LINES at kTORN_LINES ⊢
  repeat' first
    | with_reducible exact Keeps.refl _ _
    | (with_reducible apply Keeps.step (freezeAt_fr ..); decide)
    | (with_reducible apply Keeps.step (modSeqr_fr ..); decide)
    | (with_reducible apply Keeps.step (noteResume_fr ..); decide)
    | (with_reducible apply Keeps.step (raiseX_fr ..); decide)
    | (with_reducible apply Keeps.step (restartHead_fr ..); decide)
    | (with_reducible apply Keeps.step (takeFrom_fr ..); decide)
    | (with_reducible apply Keeps.step (tornWindows_fr ..); decide)
    | (with_reducible apply Keeps.setO .HELD_LINE ?_ (kHELD_LINE ..) ?_; decide)
    | (with_reducible apply Keeps.bump .TORN_LINES ?_ (kTORN_LINES ..) ?_; decide)
    | split
    | intro _
    | dsimp only
    | (with_reducible apply Keeps.upd_prf; decide)

theorem abortCommand_fr : ∀ a0 a1, Keeps 0x100000000000080200002bec00000000002801f51c0 a1 (abortCommand a0 a1).2 := by
  intros; unfold abortCommand
  (try dsimp only)
  repeat' first
    | with_reducible exact Keeps.refl _ _
    | (with_reducible apply Keeps.step (abortForme_fr ..); decide)
    | (with_reducible apply Keeps.step (Keeps.snd (by assumption) (abortForme_fr ..)); decide)
    | (with_reducible apply Keeps.step (blankForme_fr ..); decide)
    | (with_reducible apply Keeps.step (takeCause_fr ..); decide)
    | split
    | intro _
    | dsimp only

theorem platDisable_fr : ∀ a0, Keeps 0x100000 a0 (platDisable a0) := by
  intros; unfold platDisable
  (try dsimp only)
  repeat' first
    | with_reducible exact Keeps.refl _ _
    | (with_reducible apply Keeps.step (takeCause_fr ..); decide)
    | split
    | intro _
    | dsimp only

theorem execHoldNFall_fr : ∀ a0 t, (execHoldNFall a0) = .next t → Keeps 0x2000100000 a0 t := by
  intros; rename_i h; unfold execHoldNFall at h; replace h := Host.Outcome.next.inj h; subst h
  (try dsimp only)
  repeat' first
    | with_reducible exact Keeps.refl _ _
    | (with_reducible apply Keeps.step (takeCause_fr ..); decide)
    | with_reducible apply Keeps.whenDo
    | split
    | intro _
    | dsimp only
    | (with_reducible apply Keeps.upd_pins; decide)

theorem clearCycling_fr : ∀ a0, Keeps 0x100000 a0 (clearCycling a0) := by
  intros; unfold clearCycling
  (try dsimp only)
  repeat' first
    | with_reducible exact Keeps.refl _ _
    | split
    | intro _
    | dsimp only
    | (with_reducible apply Keeps.upd_plat; decide)

theorem execHoldCyclingClear_fr : ∀ a0 t, (execHoldCyclingClear a0) = .next t → Keeps 0x100000 a0 t := by
  intros; rename_i h; unfold execHoldCyclingClear at h; replace h := Host.Outcome.next.inj h; subst h
  (try dsimp only)
  repeat' first
    | with_reducible exact Keeps.refl _ _
    | (with_reducible apply Keeps.step (clearCycling_fr ..); decide)
    | split
    | intro _
    | dsimp only

/-! ### Machine/Image.lean -/

theorem modSlot_fr : ∀ a0 a1 a2, Keeps 0x40000000 a2 (modSlot a0 a1 a2) := by
  intros; unfold modSlot
  (try dsimp only)
  repeat' first
    | with_reducible exact Keeps.refl _ _
    | split
    | intro _
    | dsimp only
    | (with_reducible apply Keeps.upd_boot; decide)

theorem imageStore_fr : ∀ a0 a1 a2, Keeps 0x40000000 a2 (imageStore a0 a1 a2) := by
  intros; unfold imageStore
  (try dsimp only)
  repeat' first
    | with_reducible exact Keeps.refl _ _
    | (with_reducible apply Keeps.step (modSlot_fr ..); decide)
    | split
    | intro _
    | dsimp only

theorem imageEnd_fr : ∀ a0, Keeps 0x10000000000000000000000c00000000002c0011040 a0 (imageEnd a0).2 := by
  intros; unfold imageEnd
  (try dsimp only)
  repeat' first
    | with_reducible exact Keeps.refl _ _
    | (with_reducible apply Keeps.step (modSlot_fr ..); decide)
    | (with_reducible apply Keeps.step (raise_fr ..); decide)
    | split
    | intro _
    | dsimp only

theorem imageReached_fr : ∀ a0 a1, Keeps 0x10000000000000000000000c00000000002c0011040 a1 (imageReached a0 a1).2 := by
  intros; unfold imageReached
  (try dsimp only)
  repeat' first
    | with_reducible exact Keeps.refl _ _
    | (with_reducible apply Keeps.step (imageEnd_fr ..); decide)
    | (with_reducible apply Keeps.step (Keeps.snd (by assumption) (imageEnd_fr ..)); decide)
    | split
    | intro _
    | dsimp only

/-! ### Machine/Clocks.lean -/

theorem driftCheck_fr : ∀ a0, Keeps 0x10000000000000000000000c0000000000380011040 a0 (driftCheck a0) := by
  intros; unfold driftCheck
  (try dsimp only)
  repeat' first
    | with_reducible exact Keeps.refl _ _
    | (with_reducible apply Keeps.step (raise_fr ..); decide)
    | split
    | intro _
    | dsimp only
    | (with_reducible apply Keeps.own_wake; rfl; decide)
    | (with_reducible apply Keeps.own_pwr; rfl; rfl; decide)
    | (with_reducible apply Keeps.upd_pwr; decide; decide)

theorem setNetLock_fr : ∀ a0 a1, Keeps 0x10000000000000000000000c0000000000280811040 a1 (setNetLock a0 a1) := by
  intros; unfold setNetLock
  (try dsimp only)
  repeat' first
    | with_reducible exact Keeps.refl _ _
    | (with_reducible apply Keeps.step (raise_fr ..); decide)
    | split
    | intro _
    | dsimp only
    | (with_reducible apply Keeps.upd_time; decide)

theorem takePair_fr : ∀ a0 a1, Keeps 0x10000000000000000000000c0000000000380811040 a1 (takePair a0 a1) := by
  intros; unfold takePair
  (try dsimp only)
  repeat' first
    | with_reducible exact Keeps.refl _ _
    | (with_reducible apply Keeps.step (driftCheck_fr ..); decide)
    | (with_reducible apply Keeps.step (raise_fr ..); decide)
    | (with_reducible apply Keeps.step (setNetLock_fr ..); decide)
    | split
    | intro _
    | dsimp only
    | (with_reducible apply Keeps.upd_time; decide)

theorem execNetPairSample_fr : ∀ a0 a1 t, (execNetPairSample a0 a1) = .next t → Keeps 0x10000000000000000000000c0000000000380811440 a1 t := by
  intros; rename_i h; unfold execNetPairSample at h; replace h := Host.Outcome.next.inj h; subst h
  (try dsimp only)
  repeat' first
    | with_reducible exact Keeps.refl _ _
    | (with_reducible apply Keeps.step (takePair_fr ..); decide)
    | split
    | intro _
    | dsimp only
    | (with_reducible apply Keeps.upd_net; decide)

/-! ### Machine/Web.lean -/

theorem latchSlot_fr : ∀ a0 a1, Keeps 0x1800000000000000000000000000000000000000400000 a1 (latchSlot a0 a1) := by
  intros; unfold latchSlot
  (try dsimp only)
  have kWEB_LINE_AT_SYNC := Fam.has_WEB_LINE_AT_SYNC
  generalize OD.WEB_LINE_AT_SYNC = fWEB_LINE_AT_SYNC at kWEB_LINE_AT_SYNC ⊢
  have kWEB_SPEED := Fam.has_WEB_SPEED
  generalize OD.WEB_SPEED = fWEB_SPEED at kWEB_SPEED ⊢
  repeat' first
    | with_reducible exact Keeps.refl _ _
    | (with_reducible apply Keeps.setO .WEB_LINE_AT_SYNC ?_ (kWEB_LINE_AT_SYNC ..) ?_; decide)
    | (with_reducible apply Keeps.setO .WEB_SPEED ?_ (kWEB_SPEED ..) ?_; decide)
    | split
    | intro _
    | dsimp only
    | (with_reducible apply Keeps.upd_web; decide)

theorem relatch_fr : ∀ a0, Keeps 0x800000000000000000000000000000000000000400000 a0 (relatch a0) := by
  intros; unfold relatch
  (try dsimp only)
  have kWEB_LINE_AT_SYNC := Fam.has_WEB_LINE_AT_SYNC
  generalize OD.WEB_LINE_AT_SYNC = fWEB_LINE_AT_SYNC at kWEB_LINE_AT_SYNC ⊢
  repeat' first
    | with_reducible exact Keeps.refl _ _
    | (with_reducible apply Keeps.setO .WEB_LINE_AT_SYNC ?_ (kWEB_LINE_AT_SYNC ..) ?_; decide)
    | split
    | intro _
    | dsimp only
    | (with_reducible apply Keeps.upd_web; decide)

theorem emulate_fr : ∀ a0 a1, Keeps 0x10000000000000000000000c0000000000280411040 a1 (emulate a0 a1) := by
  intros; unfold emulate
  (try dsimp only)
  repeat' first
    | with_reducible exact Keeps.refl _ _
    | (with_reducible apply Keeps.step (raise_fr ..); decide)
    | split
    | intro _
    | dsimp only
    | (with_reducible apply Keeps.upd_web; decide)

theorem emulateIndex_fr : ∀ a0 a1, Keeps 0x400000 a1 (emulateIndex a0 a1) := by
  intros; unfold emulateIndex
  (try dsimp only)
  repeat' first
    | with_reducible exact Keeps.refl _ _
    | split
    | intro _
    | dsimp only
    | (with_reducible apply Keeps.upd_web; decide)

theorem execEmulatorCatchUp_fr : ∀ a0 t, (execEmulatorCatchUp a0) = .next t → Keeps 0x400000 a0 t := by
  intros; rename_i h; unfold execEmulatorCatchUp at h; replace h := Host.Outcome.next.inj h; subst h
  (try dsimp only)
  repeat' first
    | with_reducible exact Keeps.refl _ _
    | with_reducible apply Keeps.whenDo
    | split
    | intro _
    | dsimp only
    | (with_reducible apply Keeps.upd_web; decide)

theorem originUnderrun_fr : ∀ a0, Keeps 0x10000000000000000000000c0000000000280411040 a0 (originUnderrun a0) := by
  intros; unfold originUnderrun
  (try dsimp only)
  repeat' first
    | with_reducible exact Keeps.refl _ _
    | (with_reducible apply Keeps.step (raise_fr ..); decide)
    | split
    | intro _
    | dsimp only
    | (with_reducible apply Keeps.upd_web; decide)

theorem movePhase_fr : ∀ a0 a1, Keeps 0x10000000000000000000000c0000000000280411040 a1 (movePhase a0 a1) := by
  intros; unfold movePhase
  (try dsimp only)
  repeat' first
    | with_reducible exact Keeps.refl _ _
    | (with_reducible apply Keeps.step (raise_fr ..); decide)
    | split
    | intro _
    | dsimp only
    | (with_reducible apply Keeps.upd_web; decide)

theorem noteEdge_fr : ∀ a0 a1, Keeps 0x10000000000000000000000c0000000000280411040 a1 (noteEdge a0 a1) := by
  intros; unfold noteEdge
  (try dsimp only)
  repeat' first
    | with_reducible exact Keeps.refl _ _
    | (with_reducible apply Keeps.step (raise_fr ..); decide)
    | split
    | intro _
    | dsimp only
    | (with_reducible apply Keeps.upd_web; decide)

theorem moveMarks_fr : ∀ a0, Keeps 0x10000000000000000000000c0000000000280511040 a0 (moveMarks a0) := by
  intros; unfold moveMarks
  (try dsimp only)
  repeat' first
    | with_reducible exact Keeps.refl _ _
    | (with_reducible apply Keeps.step (raise_fr ..); decide)
    | (with_reducible apply Keeps.step (raiseX_fr ..); decide)
    | split
    | intro _
    | dsimp only
    | (with_reducible apply Keeps.upd_plat_web; decide; decide)
    | (with_reducible apply Keeps.upd_web; decide)

theorem regainCheck_fr : ∀ a0 a1, Keeps 0x10000000000000000000000c0000000000280411040 a1 (regainCheck a0 a1) := by
  intros; unfold regainCheck
  (try dsimp only)
  repeat' first
    | with_reducible exact Keeps.refl _ _
    | (with_reducible apply Keeps.step (raise_fr ..); decide)
    | split
    | intro _
    | dsimp only
    | (with_reducible apply Keeps.upd_web; decide)

theorem noteCrossing_fr : ∀ a0 a1, Keeps 0x400000 a1 (noteCrossing a0 a1) := by
  intros; unfold noteCrossing
  (try dsimp only)
  repeat' first
    | with_reducible exact Keeps.refl _ _
    | split
    | intro _
    | dsimp only
    | (with_reducible apply Keeps.upd_web; decide)

theorem applyCount_fr : ∀ a0 a1, Keeps 0x8010000000000000000000000c0000000000280511040 a1 (applyCount a0 a1) := by
  intros; unfold applyCount
  (try dsimp only)
  repeat' first
    | with_reducible exact Keeps.refl _ _
    | (with_reducible apply Keeps.step (demandWake_fr ..); decide)
    | (with_reducible apply Keeps.step (emulate_fr ..); decide)
    | (with_reducible apply Keeps.step (emulateIndex_fr ..); decide)
    | (with_reducible apply Keeps.step (moveMarks_fr ..); decide)
    | (with_reducible apply Keeps.step (movePhase_fr ..); decide)
    | (with_reducible apply Keeps.step (noteCrossing_fr ..); decide)
    | (with_reducible apply Keeps.step (noteEdge_fr ..); decide)
    | (with_reducible apply Keeps.step (originUnderrun_fr ..); decide)
    | (with_reducible apply Keeps.step (platMoved_fr ..); decide)
    | (with_reducible apply Keeps.step (regainCheck_fr ..); decide)
    | (with_reducible apply Keeps.step (relatch_fr ..); decide)
    | with_reducible apply Keeps.whenDo
    | split
    | intro _
    | dsimp only
    | (with_reducible apply Keeps.upd_web; decide)

theorem decodeState_fr : ∀ a0 a1 a2, Keeps 0x8010000000080000000000000c0000000000280511040 a2 (decodeState a0 a1 a2) := by
  intros; unfold decodeState
  (try dsimp only)
  have kQUAD_ERRORS := Fam.has_QUAD_ERRORS
  generalize OD.QUAD_ERRORS = fQUAD_ERRORS at kQUAD_ERRORS ⊢
  repeat' first
    | with_reducible exact Keeps.refl _ _
    | (with_reducible apply Keeps.step (applyCount_fr ..); decide)
    | (with_reducible apply Keeps.step (raise_fr ..); decide)
    | (with_reducible apply Keeps.bump .QUAD_ERRORS ?_ (kQUAD_ERRORS ..) ?_; decide)
    | split
    | intro _
    | dsimp only
    | (with_reducible apply Keeps.upd_web; decide)

theorem execQuadratureCount_fr : ∀ a0 a1 a2 a3 t, (execQuadratureCount a0 a1 a2 a3) = .next t → Keeps 0x8010000000080000000000000c0000000000280511040 a3 t := by
  intros; rename_i h; unfold execQuadratureCount at h; replace h := Host.Outcome.next.inj h; subst h
  (try dsimp only)
  repeat' first
    | with_reducible exact Keeps.refl _ _
    | (with_reducible apply Keeps.step (decodeState_fr ..); decide)
    | split
    | intro _
    | dsimp only
    | (with_reducible apply Keeps.upd_web; decide)

theorem applyStep_fr : ∀ a0 a1, Keeps 0x8010000000000000008000400c0000000000280591140 a1 (applyStep a0 a1) := by
  intros; unfold applyStep
  (try dsimp only)
  have kLAST_STEP := Fam.has_LAST_STEP
  generalize OD.LAST_STEP = fLAST_STEP at kLAST_STEP ⊢
  repeat' first
    | with_reducible exact Keeps.refl _ _
    | (with_reducible apply Keeps.step (originUnderrun_fr ..); decide)
    | (with_reducible apply Keeps.step (platMoved_fr ..); decide)
    | (with_reducible apply Keeps.step (raiseX_fr ..); decide)
    | (with_reducible apply Keeps.step (relatch_fr ..); decide)
    | (with_reducible apply Keeps.step (skipLines_fr ..); decide)
    | (with_reducible apply Keeps.step (stepLanes_fr ..); decide)
    | (with_reducible apply Keeps.setI .LAST_STEP ?_ (kLAST_STEP ..) ?_; decide)
    | split
    | intro _
    | dsimp only
    | (with_reducible apply Keeps.upd_web; decide)

theorem rateLogAnew_fr : ∀ a0, Keeps 0x80000 a0 (rateLogAnew a0) := by
  intros; unfold rateLogAnew
  (try dsimp only)
  repeat' first
    | with_reducible exact Keeps.refl _ _
    | split
    | intro _
    | dsimp only
    | (with_reducible apply Keeps.upd_comp; decide)

theorem preset_fr : ∀ a0, Keeps 0x8010000000000000000000000c0000000000280591140 a0 (preset a0) := by
  intros; unfold preset
  (try dsimp only)
  repeat' first
    | with_reducible exact Keeps.refl _ _
    | (with_reducible apply Keeps.step (modLane_fr ..); decide)
    | (with_reducible apply Keeps.step (modSeqr_fr ..); decide)
    | (with_reducible apply Keeps.step (moveLedger_fr ..); decide)
    | (with_reducible apply Keeps.step (raise_fr ..); decide)
    | (with_reducible apply Keeps.step (rateLogAnew_fr ..); decide)
    | (with_reducible apply Keeps.step (relatch_fr ..); decide)
    | with_reducible apply Keeps.eachDo
    | split
    | intro _
    | dsimp only
    | (with_reducible apply Keeps.upd_web; decide)

theorem unlockPhase_fr : ∀ a0, Keeps 0x400000 a0 (unlockPhase a0) := by
  intros; unfold unlockPhase
  (try dsimp only)
  repeat' first
    | with_reducible exact Keeps.refl _ _
    | split
    | intro _
    | dsimp only
    | (with_reducible apply Keeps.upd_web; decide)

theorem revolutionChanged_fr : ∀ a0, Keeps 0x400000 a0 (revolutionChanged a0) := by
  intros; unfold revolutionChanged
  (try dsimp only)
  repeat' first
    | with_reducible exact Keeps.refl _ _
    | (with_reducible apply Keeps.step (unlockPhase_fr ..); decide)
    | split
    | intro _
    | dsimp only
    | (with_reducible apply Keeps.upd_web; decide)

theorem webCommand_fr : ∀ a0 a1, Keeps 0x18010000000080000000200000c0000000000280591140 a1 (webCommand a0 a1).2 := by
  intros; unfold webCommand
  (try dsimp only)
  have kINDEX_MISMATCHES := Fam.has_INDEX_MISMATCHES
  generalize OD.INDEX_MISMATCHES = fINDEX_MISMATCHES at kINDEX_MISMATCHES ⊢
  have kQUAD_ERRORS := Fam.has_QUAD_ERRORS
  generalize OD.QUAD_ERRORS = fQUAD_ERRORS at kQUAD_ERRORS ⊢
  repeat' first
    | with_reducible exact Keeps.refl _ _
    | (with_reducible apply Keeps.step (latchSlot_fr ..); decide)
    | (with_reducible apply Keeps.step (preset_fr ..); decide)
    | (with_reducible apply Keeps.step (unlockPhase_fr ..); decide)
    | (with_reducible apply Keeps.setO .INDEX_MISMATCHES ?_ (kINDEX_MISMATCHES ..) ?_; decide)
    | (with_reducible apply Keeps.setO .QUAD_ERRORS ?_ (kQUAD_ERRORS ..) ?_; decide)
    | split
    | intro _
    | dsimp only
    | (with_reducible apply Keeps.upd_web; decide)

theorem execStrobe_fr : ∀ a0 t, (execStrobe a0) = .next t → Keeps 0x1800000000000000000000000000000000000000400000 a0 t := by
  intros; rename_i h; unfold execStrobe at h; replace h := Host.Outcome.next.inj h; subst h
  (try dsimp only)
  repeat' first
    | with_reducible exact Keeps.refl _ _
    | (with_reducible apply Keeps.step (latchSlot_fr ..); decide)
    | with_reducible apply Keeps.whenDo
    | split
    | intro _
    | dsimp only

theorem indexPolicy_fr : ∀ a0 a1, Keeps 0x8010040000000000008000400c0000000000280591140 a1 (indexPolicy a0 a1) := by
  intros; unfold indexPolicy
  (try dsimp only)
  have kSTEP_PENDING := Fam.has_STEP_PENDING
  generalize OD.STEP_PENDING = fSTEP_PENDING at kSTEP_PENDING ⊢
  repeat' first
    | with_reducible exact Keeps.refl _ _
    | (with_reducible apply Keeps.step (applyStep_fr ..); decide)
    | (with_reducible apply Keeps.setI .STEP_PENDING ?_ (kSTEP_PENDING ..) ?_; decide)
    | split
    | intro _
    | dsimp only
    | (with_reducible apply Keeps.upd_web; decide)

theorem lockPhase_fr : ∀ a0, Keeps 0x10000000000000000000000c0000000000280411040 a0 (lockPhase a0) := by
  intros; unfold lockPhase
  (try dsimp only)
  repeat' first
    | with_reducible exact Keeps.refl _ _
    | (with_reducible apply Keeps.step (raise_fr ..); decide)
    | split
    | intro _
    | dsimp only
    | (with_reducible apply Keeps.upd_web; decide)

theorem evaluateIndex_fr : ∀ a0, Keeps 0x8010040000000000008380400c0000000000280591140 a0 (evaluateIndex a0) := by
  intros; unfold evaluateIndex
  (try dsimp only)
  have kINDEX_ACTUAL := Fam.has_INDEX_ACTUAL
  generalize OD.INDEX_ACTUAL = fINDEX_ACTUAL at kINDEX_ACTUAL ⊢
  have kINDEX_EXPECTED := Fam.has_INDEX_EXPECTED
  generalize OD.INDEX_EXPECTED = fINDEX_EXPECTED at kINDEX_EXPECTED ⊢
  have kINDEX_MISMATCHES := Fam.has_INDEX_MISMATCHES
  generalize OD.INDEX_MISMATCHES = fINDEX_MISMATCHES at kINDEX_MISMATCHES ⊢
  repeat' first
    | with_reducible exact Keeps.refl _ _
    | (with_reducible apply Keeps.step (indexPolicy_fr ..); decide)
    | (with_reducible apply Keeps.step (lockPhase_fr ..); decide)
    | (with_reducible apply Keeps.step (preset_fr ..); decide)
    | (with_reducible apply Keeps.step (raise_fr ..); decide)
    | (with_reducible apply Keeps.setO .INDEX_ACTUAL ?_ (kINDEX_ACTUAL ..) ?_; decide)
    | (with_reducible apply Keeps.setO .INDEX_EXPECTED ?_ (kINDEX_EXPECTED ..) ?_; decide)
    | (with_reducible apply Keeps.bump .INDEX_MISMATCHES ?_ (kINDEX_MISMATCHES ..) ?_; decide)
    | split
    | intro _
    | dsimp only
    | (with_reducible apply Keeps.upd_web; decide)

theorem indexEdge_fr : ∀ a0 a1, Keeps 0x18010040000000000008380400c0000000000280591140 a1 (indexEdge a0 a1) := by
  intros; unfold indexEdge
  (try dsimp only)
  repeat' first
    | with_reducible exact Keeps.refl _ _
    | (with_reducible apply Keeps.step (evaluateIndex_fr ..); decide)
    | (with_reducible apply Keeps.step (latchSlot_fr ..); decide)
    | split
    | intro _
    | dsimp only
    | (with_reducible apply Keeps.upd_web; decide)

theorem execIndexEdge_fr : ∀ a0 a1 t, (execIndexEdge a0 a1) = .next t → Keeps 0x18010040000000000008380400c0000000000280591140 a1 t := by
  intros; rename_i h; unfold execIndexEdge at h; replace h := Host.Outcome.next.inj h; subst h
  (try dsimp only)
  repeat' first
    | with_reducible exact Keeps.refl _ _
    | (with_reducible apply Keeps.step (indexEdge_fr ..); decide)
    | with_reducible apply Keeps.whenDo
    | split
    | intro _
    | dsimp only

theorem indexFirst_fr : ∀ a0, Keeps 0x18010040000000000008380400c0000000000280591140 a0 (indexFirst a0) := by
  intros; unfold indexFirst
  (try dsimp only)
  repeat' first
    | with_reducible exact Keeps.refl _ _
    | (with_reducible apply Keeps.step (indexEdge_fr ..); decide)
    | with_reducible apply Keeps.eachDo
    | with_reducible apply Keeps.whenDo
    | split
    | intro _
    | dsimp only

theorem correctPhase_fr : ∀ a0 a1, Keeps 0x400000 a1 (correctPhase a0 a1) := by
  intros; unfold correctPhase
  (try dsimp only)
  repeat' first
    | with_reducible exact Keeps.refl _ _
    | split
    | intro _
    | dsimp only
    | (with_reducible apply Keeps.upd_web; decide)

theorem execStepPendingApply_fr : ∀ a0 t, (execStepPendingApply a0) = .next t → Keeps 0x18010040000000000008380400c0000000000280591140 a0 t := by
  intros; rename_i h; unfold execStepPendingApply at h; replace h := Host.Outcome.next.inj h; subst h
  (try dsimp only)
  have kSTEP_PENDING := Fam.has_STEP_PENDING
  generalize OD.STEP_PENDING = fSTEP_PENDING at kSTEP_PENDING ⊢
  repeat' first
    | with_reducible exact Keeps.refl _ _
    | (with_reducible apply Keeps.step (applyStep_fr ..); decide)
    | (with_reducible apply Keeps.step (correctPhase_fr ..); decide)
    | (with_reducible apply Keeps.step (indexFirst_fr ..); decide)
    | with_reducible apply Keeps.whenDo
    | (with_reducible apply Keeps.setO .STEP_PENDING ?_ (kSTEP_PENDING ..) ?_; decide)
    | split
    | intro _
    | dsimp only
    | (with_reducible apply Keeps.upd_web; decide)

theorem rateOver_fr : ∀ a0 a1 a2, Keeps 0x4 a2 (rateOver a0 a1 a2).2 := by
  intros; unfold rateOver
  (try dsimp only)
  repeat' first
    | with_reducible exact Keeps.refl _ _
    | (with_reducible apply Keeps.step (freeDrawn_fr ..); decide)
    | split
    | intro _
    | dsimp only

theorem windowSpeed.slow_fr : ∀ a0 a1, Keeps 0x4 a1 (windowSpeed.slow a0 a1).2 := by
  intros; unfold windowSpeed.slow
  (try dsimp only)
  repeat' first
    | with_reducible exact Keeps.refl _ _
    | (with_reducible apply Keeps.step (rateOver_fr ..); decide)
    | (with_reducible apply Keeps.step (Keeps.snd (by assumption) (rateOver_fr ..)); decide)
    | split
    | intro _
    | dsimp only

theorem windowSpeed_fr : ∀ a0 a1, Keeps 0x4 a1 (windowSpeed a0 a1).2 := by
  intros; unfold windowSpeed
  (try dsimp only)
  repeat' first
    | with_reducible exact Keeps.refl _ _
    | (with_reducible apply Keeps.step (rateOver_fr ..); decide)
    | (with_reducible apply Keeps.step (Keeps.snd (by assumption) (rateOver_fr ..)); decide)
    | (with_reducible apply Keeps.step (windowSpeed.slow_fr ..); decide)
    | (with_reducible apply Keeps.step (Keeps.snd (by assumption) (windowSpeed.slow_fr ..)); decide)
    | split
    | intro _
    | dsimp only

theorem execSpeedWindowClose_fr : ∀ a0 t, (execSpeedWindowClose a0) = .next t → Keeps 0x400004 a0 t := by
  intros; rename_i h; unfold execSpeedWindowClose at h; replace h := Host.Outcome.next.inj h; subst h
  (try dsimp only)
  repeat' first
    | with_reducible exact Keeps.refl _ _
    | (with_reducible apply Keeps.step (windowSpeed_fr ..); decide)
    | (with_reducible apply Keeps.step (Keeps.snd (by assumption) (windowSpeed_fr ..)); decide)
    | with_reducible apply Keeps.whenDo
    | split
    | intro _
    | dsimp only
    | (with_reducible apply Keeps.upd_web; decide)

theorem execWebStopped_fr : ∀ a0 t, (execWebStopped a0) = .next t → Keeps 0x10000000000000000000000c0000000000280511040 a0 t := by
  intros; rename_i h; unfold execWebStopped at h; replace h := Host.Outcome.next.inj h; subst h
  (try dsimp only)
  repeat' first
    | with_reducible exact Keeps.refl _ _
    | (with_reducible apply Keeps.step (platStopped_fr ..); decide)
    | (with_reducible apply Keeps.step (raise_fr ..); decide)
    | with_reducible apply Keeps.whenDo
    | split
    | intro _
    | dsimp only
    | (with_reducible apply Keeps.upd_web; decide)

theorem switchSource_fr : ∀ a0, Keeps 0x10000000000000000000000c0000000000280411040 a0 (switchSource a0) := by
  intros; unfold switchSource
  (try dsimp only)
  repeat' first
    | with_reducible exact Keeps.refl _ _
    | (with_reducible apply Keeps.step (raise_fr ..); decide)
    | split
    | intro _
    | dsimp only
    | (with_reducible apply Keeps.upd_web; decide)

theorem webSleep_fr : ∀ a0, Keeps 0x400000 a0 (webSleep a0) := by
  intros; unfold webSleep
  (try dsimp only)
  repeat' first
    | with_reducible exact Keeps.refl _ _
    | split
    | intro _
    | dsimp only
    | (with_reducible apply Keeps.upd_web; decide)

/-! ### Machine/Motion.lean -/

theorem modAxis_fr : ∀ a0 a1 a2, Keeps 0x20000000 a2 (modAxis a0 a1 a2) := by
  intros; unfold modAxis
  (try dsimp only)
  repeat' first
    | with_reducible exact Keeps.refl _ _
    | split
    | intro _
    | dsimp only
    | (with_reducible apply Keeps.upd_axes; decide)

theorem axisEvent_fr : ∀ a0 a1 a2 a3, Keeps 0x10000000000000000000000c0000000000280011040 a3 (axisEvent a0 a1 a2 a3) := by
  intros; unfold axisEvent
  (try dsimp only)
  repeat' first
    | with_reducible exact Keeps.refl _ _
    | (with_reducible apply Keeps.step (raise_fr ..); decide)
    | split
    | intro _
    | dsimp only

theorem refreshLegs_fr : ∀ a0 a1, Keeps 0x20000000 a1 (refreshLegs a0 a1) := by
  intros; unfold refreshLegs
  (try dsimp only)
  repeat' first
    | with_reducible exact Keeps.refl _ _
    | (with_reducible apply Keeps.step (modAxis_fr ..); decide)
    | split
    | intro _
    | dsimp only

theorem goHold_fr : ∀ a0 a1, Keeps 0x10000000000000000000000c00000000002a0011040 a1 (goHold a0 a1) := by
  intros; unfold goHold
  (try dsimp only)
  repeat' first
    | with_reducible exact Keeps.refl _ _
    | (with_reducible apply Keeps.step (axisEvent_fr ..); decide)
    | (with_reducible apply Keeps.step (modAxis_fr ..); decide)
    | split
    | intro _
    | dsimp only

theorem atRest_fr : ∀ a0 a1, Keeps 0x10000000000000000000000c00000000002a0011040 a1 (atRest a0 a1) := by
  intros; unfold atRest
  (try dsimp only)
  repeat' first
    | with_reducible exact Keeps.refl _ _
    | (with_reducible apply Keeps.step (goHold_fr ..); decide)
    | (with_reducible apply Keeps.step (modAxis_fr ..); decide)
    | split
    | intro _
    | dsimp only

theorem faultAxis_fr : ∀ a0 a1 a2, Keeps 0x10000000000000000000000c00000000002a0011040 a2 (faultAxis a0 a1 a2) := by
  intros; unfold faultAxis
  (try dsimp only)
  repeat' first
    | with_reducible exact Keeps.refl _ _
    | (with_reducible apply Keeps.step (axisEvent_fr ..); decide)
    | (with_reducible apply Keeps.step (goHold_fr ..); decide)
    | (with_reducible apply Keeps.step (modAxis_fr ..); decide)
    | (with_reducible apply Keeps.step (refreshLegs_fr ..); decide)
    | split
    | intro _
    | dsimp only

theorem commitMotion_fr : ∀ a0 a1, Keeps 0x10000000000003000000000c00000000002a0011040 a1 (commitMotion a0 a1).2 := by
  intros; unfold commitMotion
  (try dsimp only)
  have kMOT_COMMIT_CAUSE := Fam.has_MOT_COMMIT_CAUSE
  generalize OD.MOT_COMMIT_CAUSE = fMOT_COMMIT_CAUSE at kMOT_COMMIT_CAUSE ⊢
  have kMOT_COMMIT_PENDING := Fam.has_MOT_COMMIT_PENDING
  generalize OD.MOT_COMMIT_PENDING = fMOT_COMMIT_PENDING at kMOT_COMMIT_PENDING ⊢
  repeat' first
    | with_reducible exact Keeps.refl _ _
    | (with_reducible apply Keeps.step (axisEvent_fr ..); decide)
    | (with_reducible apply Keeps.step (modAxis_fr ..); decide)
    | (with_reducible apply Keeps.setO .MOT_COMMIT_CAUSE ?_ (kMOT_COMMIT_CAUSE ..) ?_; decide)
    | (with_reducible apply Keeps.setB .MOT_COMMIT_PENDING ?_ (kMOT_COMMIT_PENDING ..) ?_; decide)
    | split
    | intro _
    | dsimp only

theorem takeAxisShadow_fr : ∀ a0 a1, Keeps 0x10000000000002000000000c00000000002a0011070 a1 (takeAxisShadow a0 a1) := by
  intros; unfold takeAxisShadow
  (try dsimp only)
  have kMOT_COMMIT_PENDING := Fam.has_MOT_COMMIT_PENDING
  generalize OD.MOT_COMMIT_PENDING = fMOT_COMMIT_PENDING at kMOT_COMMIT_PENDING ⊢
  repeat' first
    | with_reducible exact Keeps.refl _ _
    | (with_reducible apply Keeps.step (State.handOver_fr ..); decide)
    | (with_reducible apply Keeps.step (axisEvent_fr ..); decide)
    | (with_reducible apply Keeps.step (modAxis_fr ..); decide)
    | (with_reducible apply Keeps.step (refreshLegs_fr ..); decide)
    | (with_reducible apply Keeps.setB .MOT_COMMIT_PENDING ?_ (kMOT_COMMIT_PENDING ..) ?_; decide)
    | split
    | intro _
    | dsimp only

theorem moveTo_fr : ∀ a0 a1 a2 a3, Keeps 0x10000000000000000000000c00000000002a0011040 a3 (moveTo a0 a1 a2 a3) := by
  intros; unfold moveTo
  (try dsimp only)
  repeat' first
    | with_reducible exact Keeps.refl _ _
    | (with_reducible apply Keeps.step (axisEvent_fr ..); decide)
    | (with_reducible apply Keeps.step (modAxis_fr ..); decide)
    | (with_reducible apply Keeps.step (refreshLegs_fr ..); decide)
    | split
    | intro _
    | dsimp only

theorem tickMove_fr : ∀ a0 a1, Keeps 0x10000000000002000000000c00000000002a0011070 a1 (tickMove a0 a1) := by
  intros; unfold tickMove
  (try dsimp only)
  repeat' first
    | with_reducible exact Keeps.refl _ _
    | (with_reducible apply Keeps.step (atRest_fr ..); decide)
    | (with_reducible apply Keeps.step (axisEvent_fr ..); decide)
    | (with_reducible apply Keeps.step (modAxis_fr ..); decide)
    | (with_reducible apply Keeps.step (moveTo_fr ..); decide)
    | (with_reducible apply Keeps.step (refreshLegs_fr ..); decide)
    | (with_reducible apply Keeps.step (takeAxisShadow_fr ..); decide)
    | split
    | intro _
    | dsimp only

theorem tickHome_fr : ∀ a0 a1, Keeps 0x10000000000000000000000c00000000002a0011040 a1 (tickHome a0 a1) := by
  intros; unfold tickHome
  (try dsimp only)
  repeat' first
    | with_reducible exact Keeps.refl _ _
    | (with_reducible apply Keeps.step (atRest_fr ..); decide)
    | (with_reducible apply Keeps.step (axisEvent_fr ..); decide)
    | (with_reducible apply Keeps.step (faultAxis_fr ..); decide)
    | (with_reducible apply Keeps.step (modAxis_fr ..); decide)
    | (with_reducible apply Keeps.step (moveTo_fr ..); decide)
    | (with_reducible apply Keeps.step (refreshLegs_fr ..); decide)
    | split
    | intro _
    | dsimp only

theorem endChain_fr : ∀ a0 a1 a2, Keeps 0x10000000000000000000000c00000000002a0011040 a2 (endChain a0 a1 a2) := by
  intros; unfold endChain
  (try dsimp only)
  repeat' first
    | with_reducible exact Keeps.refl _ _
    | (with_reducible apply Keeps.step (atRest_fr ..); decide)
    | (with_reducible apply Keeps.step (axisEvent_fr ..); decide)
    | (with_reducible apply Keeps.step (faultAxis_fr ..); decide)
    | (with_reducible apply Keeps.step (refreshLegs_fr ..); decide)
    | split
    | intro _
    | dsimp only

theorem enterSegment_fr : ∀ a n e v p s, Keeps 0x10000000000000000000000c00000000002a0011040 s (enterSegment a n e v p s) := by
  intro a n; induction n with
  | zero => intros; unfold enterSegment; exact Keeps.mono (modAxis_fr ..) (by decide)
  | succ n ih =>
    intros; unfold enterSegment; dsimp only
    repeat' first
      | with_reducible exact Keeps.refl _ _
      | (with_reducible apply Keeps.step (endChain_fr ..); decide)
      | (with_reducible apply Keeps.step (faultAxis_fr ..); decide)
      | (with_reducible apply Keeps.step (axisEvent_fr ..); decide)
      | (with_reducible apply Keeps.step (modAxis_fr ..); decide)
      | (with_reducible apply Keeps.step (goHold_fr ..); decide)
      | (with_reducible apply Keeps.step (refreshLegs_fr ..); decide)
      | with_reducible apply (ih _ _ _ _).trans'
      | split

theorem endSegment_fr : ∀ a0 a1 a2, Keeps 0x10000000000002000000000c00000000002a0011070 a2 (endSegment a0 a1 a2) := by
  intros; unfold endSegment
  (try dsimp only)
  repeat' first
    | with_reducible exact Keeps.refl _ _
    | (with_reducible apply Keeps.step (axisEvent_fr ..); decide)
    | (with_reducible apply Keeps.step (enterSegment_fr ..); decide)
    | (with_reducible apply Keeps.step (moveTo_fr ..); decide)
    | (with_reducible apply Keeps.step (takeAxisShadow_fr ..); decide)
    | split
    | intro _
    | dsimp only

theorem waitAtSpeed_fr : ∀ a0 a1 a2 a3, Keeps 0x10000000000000000000000c00000000002a0011040 a3 (waitAtSpeed a0 a1 a2 a3) := by
  intros; unfold waitAtSpeed
  (try dsimp only)
  repeat' first
    | with_reducible exact Keeps.refl _ _
    | (with_reducible apply Keeps.step (faultAxis_fr ..); decide)
    | (with_reducible apply Keeps.step (moveTo_fr ..); decide)
    | split
    | intro _
    | dsimp only

theorem runSegment_fr : ∀ a n e r s, Keeps 0x10000000000002000000000c00000000002a0011070 s (runSegment a n e r s) := by
  intro a n; induction n with
  | zero => intros; unfold runSegment; exact Keeps.refl _ _
  | succ n ih =>
    intros; unfold runSegment; dsimp only
    repeat' first
      | with_reducible exact Keeps.refl _ _
      | (with_reducible apply Keeps.step (enterSegment_fr ..); decide)
      | (with_reducible apply Keeps.step (endSegment_fr ..); decide)
      | (with_reducible apply Keeps.step (faultAxis_fr ..); decide)
      | (with_reducible apply Keeps.step (waitAtSpeed_fr ..); decide)
      | (with_reducible apply Keeps.step (moveTo_fr ..); decide)
      | (with_reducible apply Keeps.step (modAxis_fr ..); decide)
      | with_reducible apply (ih _ _ _).trans'
      | split

theorem tickSegments_fr : ∀ a0 a1, Keeps 0x10000000000002000000000c00000000002a0011070 a1 (tickSegments a0 a1) := by
  intros; unfold tickSegments
  (try dsimp only)
  repeat' first
    | with_reducible exact Keeps.refl _ _
    | (with_reducible apply Keeps.step (modAxis_fr ..); decide)
    | (with_reducible apply Keeps.step (runSegment_fr ..); decide)
    | (with_reducible apply Keeps.step (waitAtSpeed_fr ..); decide)
    | split
    | intro _
    | dsimp only

theorem motMatch_fr : ∀ a0 a1, Keeps 0x20000000 a1 (motMatch a0 a1) := by
  intros; unfold motMatch
  (try dsimp only)
  repeat' first
    | with_reducible exact Keeps.refl _ _
    | (with_reducible apply Keeps.step (modAxis_fr ..); decide)
    | with_reducible apply Keeps.eachDo
    | split
    | intro _
    | dsimp only

theorem tickAxis_fr : ∀ a0 a1, Keeps 0x10000000000002000000000c00000000002a0011070 a1 (tickAxis a0 a1) := by
  intros; unfold tickAxis
  (try dsimp only)
  repeat' first
    | with_reducible exact Keeps.refl _ _
    | (with_reducible apply Keeps.step (faultAxis_fr ..); decide)
    | (with_reducible apply Keeps.step (takeAxisShadow_fr ..); decide)
    | (with_reducible apply Keeps.step (tickHome_fr ..); decide)
    | (with_reducible apply Keeps.step (tickMove_fr ..); decide)
    | (with_reducible apply Keeps.step (tickSegments_fr ..); decide)
    | split
    | intro _
    | dsimp only

theorem takeBits_fr : ∀ a0 a1 a2 a3, Keeps 0x20000000 a3 (takeBits a0 a1 a2 a3) := by
  intros; unfold takeBits
  (try dsimp only)
  repeat' first
    | with_reducible exact Keeps.refl _ _
    | (with_reducible apply Keeps.step (modAxis_fr ..); decide)
    | split
    | intro _
    | dsimp only

theorem stopAxis_fr : ∀ a0 a1, Keeps 0x1000000000000002000003ec00000000002a00110c0 a1 (stopAxis a0 a1) := by
  intros; unfold stopAxis
  (try dsimp only)
  repeat' first
    | with_reducible exact Keeps.refl _ _
    | (with_reducible apply Keeps.step (axisEvent_fr ..); decide)
    | (with_reducible apply Keeps.step (checkLedgers_fr ..); decide)
    | (with_reducible apply Keeps.step (goHold_fr ..); decide)
    | (with_reducible apply Keeps.step (modAxis_fr ..); decide)
    | (with_reducible apply Keeps.step (refreshLegs_fr ..); decide)
    | split
    | intro _
    | dsimp only

theorem stopAxes_fr : ∀ a0, Keeps 0x1000000000000002000003ec00000000002a00110c0 a0 (stopAxes a0) := by
  intros; unfold stopAxes
  (try dsimp only)
  repeat' first
    | with_reducible exact Keeps.refl _ _
    | (with_reducible apply Keeps.step (stopAxis_fr ..); decide)
    | with_reducible apply Keeps.eachDo
    | split
    | intro _
    | dsimp only

theorem execProfileTick_fr : ∀ a0 t, (execProfileTick a0) = .next t → Keeps 0x10000000000002000000000c00000000002a0011070 a0 t := by
  intros; rename_i h; unfold execProfileTick at h; replace h := Host.Outcome.next.inj h; subst h
  (try dsimp only)
  repeat' first
    | with_reducible exact Keeps.refl _ _
    | (with_reducible apply Keeps.step (tickAxis_fr ..); decide)
    | with_reducible apply Keeps.eachDo
    | with_reducible apply Keeps.whenDo
    | split
    | intro _
    | dsimp only

theorem startMove_fr : ∀ a0 a1, Keeps 0x10000000000000000000000c00000000002a0011040 a1 (startMove a0 a1) := by
  intros; unfold startMove
  (try dsimp only)
  repeat' first
    | with_reducible exact Keeps.refl _ _
    | (with_reducible apply Keeps.step (axisEvent_fr ..); decide)
    | (with_reducible apply Keeps.step (modAxis_fr ..); decide)
    | (with_reducible apply Keeps.step (refreshLegs_fr ..); decide)
    | split
    | intro _
    | dsimp only

theorem motCommand_fr : ∀ a0 a1 a2, Keeps 0x1000000000000002000003ec00000000002a00110c0 a2 (motCommand a0 a1 a2).2 := by
  intros; unfold motCommand
  (try dsimp only)
  repeat' first
    | with_reducible exact Keeps.refl _ _
    | (with_reducible apply Keeps.step (axisEvent_fr ..); decide)
    | (with_reducible apply Keeps.step (enterSegment_fr ..); decide)
    | (with_reducible apply Keeps.step (modAxis_fr ..); decide)
    | (with_reducible apply Keeps.step (refreshLegs_fr ..); decide)
    | (with_reducible apply Keeps.step (startMove_fr ..); decide)
    | (with_reducible apply Keeps.step (stopAxis_fr ..); decide)
    | split
    | intro _
    | dsimp only

theorem axisEnabled_fr : ∀ a0 a1, Keeps 0x1000000000000002000003ec00000000002a00110c0 a1 (axisEnabled a0 a1) := by
  intros; unfold axisEnabled
  (try dsimp only)
  repeat' first
    | with_reducible exact Keeps.refl _ _
    | (with_reducible apply Keeps.step (modAxis_fr ..); decide)
    | (with_reducible apply Keeps.step (refreshLegs_fr ..); decide)
    | (with_reducible apply Keeps.step (stopAxis_fr ..); decide)
    | split
    | intro _
    | dsimp only

theorem execCurrentSample_fr : ∀ a0 a1 a2 a3 t, (execCurrentSample a0 a1 a2 a3) = .next t → Keeps 0x10000000000000000000000c00000000002a0011040 a3 t := by
  intros; rename_i h; unfold execCurrentSample at h; replace h := Host.Outcome.next.inj h; subst h
  (try dsimp only)
  repeat' first
    | with_reducible exact Keeps.refl _ _
    | (with_reducible apply Keeps.step (faultAxis_fr ..); decide)
    | (with_reducible apply Keeps.step (modAxis_fr ..); decide)
    | (with_reducible apply Keeps.step (refreshLegs_fr ..); decide)
    | (with_reducible apply Keeps.step (takeBits_fr ..); decide)
    | with_reducible apply Keeps.whenDo
    | split
    | intro _
    | dsimp only

theorem execChopOffTimeEnd_fr : ∀ a0 a1 a2 t, (execChopOffTimeEnd a0 a1 a2) = .next t → Keeps 0x20000000 a2 t := by
  intros; rename_i h; unfold execChopOffTimeEnd at h; replace h := Host.Outcome.next.inj h; subst h
  (try dsimp only)
  repeat' first
    | with_reducible exact Keeps.refl _ _
    | (with_reducible apply Keeps.step (modAxis_fr ..); decide)
    | (with_reducible apply Keeps.step (refreshLegs_fr ..); decide)
    | with_reducible apply Keeps.whenDo
    | split
    | intro _
    | dsimp only

theorem execSenseTimeout_fr : ∀ a0 a1 a2 t, (execSenseTimeout a0 a1 a2) = .next t → Keeps 0x10000000000000000000000c00000000002a0011040 a2 t := by
  intros; rename_i h; unfold execSenseTimeout at h; replace h := Host.Outcome.next.inj h; subst h
  (try dsimp only)
  repeat' first
    | with_reducible exact Keeps.refl _ _
    | (with_reducible apply Keeps.step (faultAxis_fr ..); decide)
    | with_reducible apply Keeps.whenDo
    | split
    | intro _
    | dsimp only

theorem faultPin_fr : ∀ a0 a1, Keeps 0x10000000000000000000000c00000000002a0011040 a1 (faultPin a0 a1) := by
  intros; unfold faultPin
  (try dsimp only)
  repeat' first
    | with_reducible exact Keeps.refl _ _
    | (with_reducible apply Keeps.step (faultAxis_fr ..); decide)
    | with_reducible apply Keeps.eachDo
    | split
    | intro _
    | dsimp only

theorem execHoldDelayExpiry_fr : ∀ a0 a1 t, (execHoldDelayExpiry a0 a1) = .next t → Keeps 0x10000000000000000000000c00000000002a0011040 a1 t := by
  intros; rename_i h; unfold execHoldDelayExpiry at h; replace h := Host.Outcome.next.inj h; subst h
  (try dsimp only)
  repeat' first
    | with_reducible exact Keeps.refl _ _
    | (with_reducible apply Keeps.step (goHold_fr ..); decide)
    | (with_reducible apply Keeps.step (refreshLegs_fr ..); decide)
    | with_reducible apply Keeps.whenDo
    | split
    | intro _
    | dsimp only

theorem motReset_fr : ∀ a0, Keeps 0x20000000 a0 (motReset a0) := by
  intros; unfold motReset
  (try dsimp only)
  repeat' first
    | with_reducible exact Keeps.refl _ _
    | split
    | intro _
    | dsimp only
    | (with_reducible apply Keeps.upd_axes; decide)

/-! ### Machine/Camera.lean -/

theorem modCam_fr : ∀ a0 a1 a2, Keeps 0x2000000 a2 (modCam a0 a1 a2) := by
  intros; unfold modCam
  (try dsimp only)
  repeat' first
    | with_reducible exact Keeps.refl _ _
    | split
    | intro _
    | dsimp only
    | (with_reducible apply Keeps.upd_cams; decide)

theorem camEvent_fr : ∀ a0 a1 a2 a3, Keeps 0x10000000000000000000000c0000000000280011040 a3 (camEvent a0 a1 a2 a3) := by
  intros; unfold camEvent
  (try dsimp only)
  repeat' first
    | with_reducible exact Keeps.refl _ _
    | (with_reducible apply Keeps.step (raise_fr ..); decide)
    | split
    | intro _
    | dsimp only

theorem pendTrigger_fr : ∀ a0 a1 a2 a3 a4, Keeps 0x2000000 a4 (pendTrigger a0 a1 a2 a3 a4) := by
  intros; unfold pendTrigger
  (try dsimp only)
  repeat' first
    | with_reducible exact Keeps.refl _ _
    | (with_reducible apply Keeps.step (modCam_fr ..); decide)
    | split
    | intro _
    | dsimp only

theorem camMatch_fr : ∀ a0 a1 a2, Keeps 0x10000000000000800000000c0000000000282011040 a2 (camMatch a0 a1 a2) := by
  intros; unfold camMatch
  (try dsimp only)
  have kMISSED_TRIGGERS := Fam.has_MISSED_TRIGGERS
  generalize OD.MISSED_TRIGGERS = fMISSED_TRIGGERS at kMISSED_TRIGGERS ⊢
  repeat' first
    | with_reducible exact Keeps.refl _ _
    | (with_reducible apply Keeps.step (camEvent_fr ..); decide)
    | (with_reducible apply Keeps.step (modCam_fr ..); decide)
    | (with_reducible apply Keeps.step (pendTrigger_fr ..); decide)
    | with_reducible apply Keeps.eachDo
    | (with_reducible apply Keeps.bump .MISSED_TRIGGERS ?_ (kMISSED_TRIGGERS ..) ?_; decide)
    | split
    | intro _
    | dsimp only

theorem camHandOver_fr : ∀ a0 a1, Keeps 0x10000000000000040000000c0000002000282011070 a1 (camHandOver a0 a1) := by
  intros; unfold camHandOver
  (try dsimp only)
  have kCAM_COMMIT_PENDING := Fam.has_CAM_COMMIT_PENDING
  generalize OD.CAM_COMMIT_PENDING = fCAM_COMMIT_PENDING at kCAM_COMMIT_PENDING ⊢
  have kLIVE_ID := Fam.has_LIVE_ID
  generalize OD.LIVE_ID = fLIVE_ID at kLIVE_ID ⊢
  repeat' first
    | with_reducible exact Keeps.refl _ _
    | (with_reducible apply Keeps.step (State.handOver_fr ..); decide)
    | (with_reducible apply Keeps.step (camEvent_fr ..); decide)
    | (with_reducible apply Keeps.step (modCam_fr ..); decide)
    | (with_reducible apply Keeps.setB .CAM_COMMIT_PENDING ?_ (kCAM_COMMIT_PENDING ..) ?_; decide)
    | (with_reducible apply Keeps.setO .LIVE_ID ?_ (kLIVE_ID ..) ?_; decide)
    | split
    | intro _
    | dsimp only

theorem settingsLate_fr : ∀ a0 a1, Keeps 0x11001000000000000000000c0000000000282011040 a1 (settingsLate a0 a1) := by
  intros; unfold settingsLate
  (try dsimp only)
  have kSETTINGS_LATE := Fam.has_SETTINGS_LATE
  generalize OD.SETTINGS_LATE = fSETTINGS_LATE at kSETTINGS_LATE ⊢
  have kTARGET_FSN := Fam.has_TARGET_FSN
  generalize OD.TARGET_FSN = fTARGET_FSN at kTARGET_FSN ⊢
  repeat' first
    | with_reducible exact Keeps.refl _ _
    | (with_reducible apply Keeps.step (camEvent_fr ..); decide)
    | (with_reducible apply Keeps.step (modCam_fr ..); decide)
    | (with_reducible apply Keeps.bump .SETTINGS_LATE ?_ (kSETTINGS_LATE ..) ?_; decide)
    | (with_reducible apply Keeps.setO .TARGET_FSN ?_ (kTARGET_FSN ..) ?_; decide)
    | split
    | intro _
    | dsimp only

theorem settingsLateLive_fr : ∀ a0 a1, Keeps 0x10001000000000000000000c0000000000282011040 a1 (settingsLateLive a0 a1) := by
  intros; unfold settingsLateLive
  (try dsimp only)
  have kSETTINGS_LATE := Fam.has_SETTINGS_LATE
  generalize OD.SETTINGS_LATE = fSETTINGS_LATE at kSETTINGS_LATE ⊢
  repeat' first
    | with_reducible exact Keeps.refl _ _
    | (with_reducible apply Keeps.step (camEvent_fr ..); decide)
    | (with_reducible apply Keeps.step (modCam_fr ..); decide)
    | (with_reducible apply Keeps.bump .SETTINGS_LATE ?_ (kSETTINGS_LATE ..) ?_; decide)
    | split
    | intro _
    | dsimp only

theorem writesDone_fr : ∀ a0 a1, Keeps 0x11001000000000040000000c0000002000282011070 a1 (writesDone a0 a1) := by
  intros; unfold writesDone
  (try dsimp only)
  have kTARGET_FSN := Fam.has_TARGET_FSN
  generalize OD.TARGET_FSN = fTARGET_FSN at kTARGET_FSN ⊢
  repeat' first
    | with_reducible exact Keeps.refl _ _
    | (with_reducible apply Keeps.step (camHandOver_fr ..); decide)
    | (with_reducible apply Keeps.step (modCam_fr ..); decide)
    | (with_reducible apply Keeps.step (settingsLate_fr ..); decide)
    | (with_reducible apply Keeps.step (settingsLateLive_fr ..); decide)
    | (with_reducible apply Keeps.setO .TARGET_FSN ?_ (kTARGET_FSN ..) ?_; decide)
    | split
    | intro _
    | dsimp only

theorem sendEntry_fr : ∀ a0 a1 a2, Keeps 0x2000000 a2 (sendEntry a0 a1 a2) := by
  intros; unfold sendEntry
  (try dsimp only)
  repeat' first
    | with_reducible exact Keeps.refl _ _
    | (with_reducible apply Keeps.step (modCam_fr ..); decide)
    | split
    | intro _
    | dsimp only

theorem startWrites_fr : ∀ a0 a1 a2, Keeps 0x11001000000000040000000c0000002000282011070 a2 (startWrites a0 a1 a2) := by
  intros; unfold startWrites
  (try dsimp only)
  repeat' first
    | with_reducible exact Keeps.refl _ _
    | (with_reducible apply Keeps.step (modCam_fr ..); decide)
    | (with_reducible apply Keeps.step (sendEntry_fr ..); decide)
    | (with_reducible apply Keeps.step (writesDone_fr ..); decide)
    | split
    | intro _
    | dsimp only

theorem dispatchCommit_fr : ∀ a0 a1, Keeps 0x11001000000000040000000c0000002000282011070 a1 (dispatchCommit a0 a1) := by
  intros; unfold dispatchCommit
  (try dsimp only)
  have kTARGET_FSN := Fam.has_TARGET_FSN
  generalize OD.TARGET_FSN = fTARGET_FSN at kTARGET_FSN ⊢
  repeat' first
    | with_reducible exact Keeps.refl _ _
    | (with_reducible apply Keeps.step (modCam_fr ..); decide)
    | (with_reducible apply Keeps.step (startWrites_fr ..); decide)
    | (with_reducible apply Keeps.setO .TARGET_FSN ?_ (kTARGET_FSN ..) ?_; decide)
    | split
    | intro _
    | dsimp only

theorem redispatch_fr : ∀ a0 a1, Keeps 0x11001000000000040000000c0000002000282011070 a1 (redispatch a0 a1) := by
  intros; unfold redispatch
  (try dsimp only)
  repeat' first
    | with_reducible exact Keeps.refl _ _
    | (with_reducible apply Keeps.step (dispatchCommit_fr ..); decide)
    | (with_reducible apply Keeps.step (modCam_fr ..); decide)
    | split
    | intro _
    | dsimp only

theorem dispatchWaiting_fr : ∀ a0 a1, Keeps 0x11001000000000040000000c0000002000282011070 a1 (dispatchWaiting a0 a1) := by
  intros; unfold dispatchWaiting
  (try dsimp only)
  repeat' first
    | with_reducible exact Keeps.refl _ _
    | (with_reducible apply Keeps.step (dispatchCommit_fr ..); decide)
    | (with_reducible apply Keeps.step (modCam_fr ..); decide)
    | split
    | intro _
    | dsimp only

theorem commitCamera_fr : ∀ a0 a1, Keeps 0x11001000000000040000000c0000003000282011070 a1 (commitCamera a0 a1).2 := by
  intros; unfold commitCamera
  (try dsimp only)
  have kCAM_COMMIT_CAUSE := Fam.has_CAM_COMMIT_CAUSE
  generalize OD.CAM_COMMIT_CAUSE = fCAM_COMMIT_CAUSE at kCAM_COMMIT_CAUSE ⊢
  have kCAM_COMMIT_PENDING := Fam.has_CAM_COMMIT_PENDING
  generalize OD.CAM_COMMIT_PENDING = fCAM_COMMIT_PENDING at kCAM_COMMIT_PENDING ⊢
  repeat' first
    | with_reducible exact Keeps.refl _ _
    | (with_reducible apply Keeps.step (camEvent_fr ..); decide)
    | (with_reducible apply Keeps.step (dispatchCommit_fr ..); decide)
    | (with_reducible apply Keeps.step (modCam_fr ..); decide)
    | (with_reducible apply Keeps.setO .CAM_COMMIT_CAUSE ?_ (kCAM_COMMIT_CAUSE ..) ?_; decide)
    | (with_reducible apply Keeps.setB .CAM_COMMIT_PENDING ?_ (kCAM_COMMIT_PENDING ..) ?_; decide)
    | split
    | intro _
    | dsimp only

theorem cciWriteEnd_fr : ∀ a0 a1 a2, Keeps 0x11001000000000040000000c0000002000282011070 a2 (cciWriteEnd a0 a1 a2) := by
  intros; unfold cciWriteEnd
  (try dsimp only)
  repeat' first
    | with_reducible exact Keeps.refl _ _
    | (with_reducible apply Keeps.step (camEvent_fr ..); decide)
    | (with_reducible apply Keeps.step (dispatchWaiting_fr ..); decide)
    | (with_reducible apply Keeps.step (modCam_fr ..); decide)
    | (with_reducible apply Keeps.step (sendEntry_fr ..); decide)
    | (with_reducible apply Keeps.step (writesDone_fr ..); decide)
    | split
    | intro _
    | dsimp only

theorem cciCommand_fr : ∀ a0 a1 a2, Keeps 0x100000002000000 a2 (cciCommand a0 a1 a2).2 := by
  intros; unfold cciCommand
  (try dsimp only)
  have kCCI_STATUS := Fam.has_CCI_STATUS
  generalize OD.CCI_STATUS = fCCI_STATUS at kCCI_STATUS ⊢
  repeat' first
    | with_reducible exact Keeps.refl _ _
    | (with_reducible apply Keeps.step (modCam_fr ..); decide)
    | (with_reducible apply Keeps.setO .CCI_STATUS ?_ (kCCI_STATUS ..) ?_; decide)
    | split
    | intro _
    | dsimp only

theorem cciEnd_fr : ∀ a0 a1 a2 a3, Keeps 0x11001000000000040000000c0000182000282011070 a3 (cciEnd a0 a1 a2 a3) := by
  intros; unfold cciEnd
  (try dsimp only)
  have kCCI_DATA := Fam.has_CCI_DATA
  generalize OD.CCI_DATA = fCCI_DATA at kCCI_DATA ⊢
  have kCCI_STATUS := Fam.has_CCI_STATUS
  generalize OD.CCI_STATUS = fCCI_STATUS at kCCI_STATUS ⊢
  repeat' first
    | with_reducible exact Keeps.refl _ _
    | (with_reducible apply Keeps.step (camEvent_fr ..); decide)
    | (with_reducible apply Keeps.step (dispatchWaiting_fr ..); decide)
    | (with_reducible apply Keeps.step (modCam_fr ..); decide)
    | (with_reducible apply Keeps.step (startWrites_fr ..); decide)
    | (with_reducible apply Keeps.setO .CCI_DATA ?_ (kCCI_DATA ..) ?_; decide)
    | (with_reducible apply Keeps.setO .CCI_STATUS ?_ (kCCI_STATUS ..) ?_; decide)
    | split
    | intro _
    | dsimp only

theorem storeLine_fr : ∀ a0 a1 a2 a3, Keeps 0x18000000 a3 (storeLine a0 a1 a2 a3) := by
  intros; unfold storeLine
  (try dsimp only)
  repeat' first
    | with_reducible exact Keeps.refl _ _
    | (with_reducible apply Keeps.step (dramWrite_fr ..); decide)
    | split
    | intro _
    | dsimp only

theorem closeFrame_fr : ∀ a0 a1 a2, Keeps 0x10000000000000000000000c000000400029e019140 a2 (closeFrame a0 a1 a2) := by
  intros; unfold closeFrame
  (try dsimp only)
  have kCAM_RECORDS_LOST := Fam.has_CAM_RECORDS_LOST
  generalize OD.CAM_RECORDS_LOST = fCAM_RECORDS_LOST at kCAM_RECORDS_LOST ⊢
  repeat' first
    | with_reducible exact Keeps.refl _ _
    | (with_reducible apply Keeps.step (camEvent_fr ..); decide)
    | (with_reducible apply Keeps.step (modCam_fr ..); decide)
    | (with_reducible apply Keeps.step (moveLedger_fr ..); decide)
    | (with_reducible apply Keeps.step (storeLine_fr ..); decide)
    | (with_reducible apply tryRecord_fr ?_ (by decide))
    | with_reducible apply Keeps.eachDo
    | (with_reducible apply Keeps.bump .CAM_RECORDS_LOST ?_ (kCAM_RECORDS_LOST ..) ?_; decide)
    | split
    | intro _
    | dsimp only
    | (with_reducible apply Keeps.upd_prf; decide)

theorem frameHandOver_fr : ∀ a0 a1 a2, Keeps 0x11001000000000040000000c0000002000282011070 a2 (frameHandOver a0 a1 a2) := by
  intros; unfold frameHandOver
  (try dsimp only)
  repeat' first
    | with_reducible exact Keeps.refl _ _
    | (with_reducible apply Keeps.step (camHandOver_fr ..); decide)
    | (with_reducible apply Keeps.step (settingsLate_fr ..); decide)
    | split
    | intro _
    | dsimp only

theorem lateWrites_fr : ∀ a0 a1, Keeps 0x11001000000000040000000c0000002000282011070 a1 (lateWrites a0 a1) := by
  intros; unfold lateWrites
  (try dsimp only)
  repeat' first
    | with_reducible exact Keeps.refl _ _
    | (with_reducible apply Keeps.step (modCam_fr ..); decide)
    | (with_reducible apply Keeps.step (startWrites_fr ..); decide)
    | split
    | intro _
    | dsimp only

theorem openFrame_fr : ∀ a0 a1, Keeps 0x11001000000000040002800c0000002000282011170 a1 (openFrame a0 a1) := by
  intros; unfold openFrame
  (try dsimp only)
  have kFRAMES_DROPPED := Fam.has_FRAMES_DROPPED
  generalize OD.FRAMES_DROPPED = fFRAMES_DROPPED at kFRAMES_DROPPED ⊢
  have kFSN := Fam.has_FSN
  generalize OD.FSN = fFSN at kFSN ⊢
  repeat' first
    | with_reducible exact Keeps.refl _ _
    | (with_reducible apply Keeps.step (camEvent_fr ..); decide)
    | (with_reducible apply Keeps.step (frameHandOver_fr ..); decide)
    | (with_reducible apply Keeps.step (lateWrites_fr ..); decide)
    | (with_reducible apply Keeps.step (modCam_fr ..); decide)
    | (with_reducible apply Keeps.step (moveLedger_fr ..); decide)
    | (with_reducible apply Keeps.step (pendTrigger_fr ..); decide)
    | (with_reducible apply Keeps.step (redispatch_fr ..); decide)
    | (with_reducible apply Keeps.bump .FRAMES_DROPPED ?_ (kFRAMES_DROPPED ..) ?_; decide)
    | (with_reducible apply Keeps.setO .FSN ?_ (kFSN ..) ?_; decide)
    | split
    | intro _
    | dsimp only

theorem takeLine_fr : ∀ a0 a1 a2 a3 a4 a5, Keeps 0x8001a000000 a5 (takeLine a0 a1 a2 a3 a4 a5) := by
  intros; unfold takeLine
  (try dsimp only)
  have kBAD_LINES_TOTAL := Fam.has_BAD_LINES_TOTAL
  generalize OD.BAD_LINES_TOTAL = fBAD_LINES_TOTAL at kBAD_LINES_TOTAL ⊢
  repeat' first
    | with_reducible exact Keeps.refl _ _
    | (with_reducible apply Keeps.step (modCam_fr ..); decide)
    | (with_reducible apply Keeps.step (storeLine_fr ..); decide)
    | (with_reducible apply Keeps.bump .BAD_LINES_TOTAL ?_ (kBAD_LINES_TOTAL ..) ?_; decide)
    | split
    | intro _
    | dsimp only

theorem pixelPacket_fr : ∀ a0 a1 a2 a3 a4 a5 a6, Keeps 0x10000000000080000000000c000000008029a011040 a6 (pixelPacket a0 a1 a2 a3 a4 a5 a6) := by
  intros; unfold pixelPacket
  (try dsimp only)
  have kOTHER_PACKETS := Fam.has_OTHER_PACKETS
  generalize OD.OTHER_PACKETS = fOTHER_PACKETS at kOTHER_PACKETS ⊢
  repeat' first
    | with_reducible exact Keeps.refl _ _
    | (with_reducible apply Keeps.step (camEvent_fr ..); decide)
    | (with_reducible apply Keeps.step (takeLine_fr ..); decide)
    | (with_reducible apply Keeps.bump .OTHER_PACKETS ?_ (kOTHER_PACKETS ..) ?_; decide)
    | split
    | intro _
    | dsimp only

theorem otherPacket_fr : ∀ a0 a1 a2 a3 a4, Keeps 0x10000000000080000000000c4000000000280011040 a4 (otherPacket a0 a1 a2 a3 a4) := by
  intros; unfold otherPacket
  (try dsimp only)
  have kECC_ERRORS := Fam.has_ECC_ERRORS
  generalize OD.ECC_ERRORS = fECC_ERRORS at kECC_ERRORS ⊢
  have kOTHER_PACKETS := Fam.has_OTHER_PACKETS
  generalize OD.OTHER_PACKETS = fOTHER_PACKETS at kOTHER_PACKETS ⊢
  repeat' first
    | with_reducible exact Keeps.refl _ _
    | (with_reducible apply Keeps.step (camEvent_fr ..); decide)
    | (with_reducible apply Keeps.bump .ECC_ERRORS ?_ (kECC_ERRORS ..) ?_; decide)
    | (with_reducible apply Keeps.bump .OTHER_PACKETS ?_ (kOTHER_PACKETS ..) ?_; decide)
    | split
    | intro _
    | dsimp only

theorem camEnabled_fr : ∀ a0 a1 a2 a3, Keeps 0x1000000000000002000203ec00000000002820111c0 a3 (camEnabled a0 a1 a2 a3) := by
  intros; unfold camEnabled
  (try dsimp only)
  have kFSN := Fam.has_FSN
  generalize OD.FSN = fFSN at kFSN ⊢
  repeat' first
    | with_reducible exact Keeps.refl _ _
    | (with_reducible apply Keeps.step (checkLedgers_fr ..); decide)
    | (with_reducible apply Keeps.step (modCam_fr ..); decide)
    | (with_reducible apply Keeps.step (moveLedger_fr ..); decide)
    | (with_reducible apply Keeps.setO .FSN ?_ (kFSN ..) ?_; decide)
    | split
    | intro _
    | dsimp only

theorem startCams_fr : ∀ a0, Keeps 0x2000000 a0 (startCams a0) := by
  intros; unfold startCams
  (try dsimp only)
  repeat' first
    | with_reducible exact Keeps.refl _ _
    | split
    | intro _
    | dsimp only
    | (with_reducible apply Keeps.upd_cams; decide)

theorem refclkChange_fr : ∀ a0 a1, Keeps 0x2000000 a1 (refclkChange a0 a1) := by
  intros; unfold refclkChange
  (try dsimp only)
  repeat' first
    | with_reducible exact Keeps.refl _ _
    | (with_reducible apply Keeps.step (modCam_fr ..); decide)
    | split
    | intro _
    | dsimp only

theorem endFrame_fr : ∀ a0 a1, Keeps 0x10000000000000000000000c000000400029e019140 a1 (endFrame a0 a1) := by
  intros; unfold endFrame
  (try dsimp only)
  repeat' first
    | with_reducible exact Keeps.refl _ _
    | (with_reducible apply Keeps.step (closeFrame_fr ..); decide)
    | split
    | intro _
    | dsimp only

theorem execFrameEnd_fr : ∀ a0 a1 t, (execFrameEnd a0 a1) = .next t → Keeps 0x10000000000000000000000c000000400029e019140 a1 t := by
  intros; rename_i h; unfold execFrameEnd at h; replace h := Host.Outcome.next.inj h; subst h
  (try dsimp only)
  repeat' first
    | with_reducible exact Keeps.refl _ _
    | (with_reducible apply Keeps.step (endFrame_fr ..); decide)
    | with_reducible apply Keeps.whenDo
    | split
    | intro _
    | dsimp only

theorem execPixelPacket_fr : ∀ a0 a1 a2 a3 a4 a5 t, (execPixelPacket a0 a1 a2 a3 a4 a5) = .next t → Keeps 0x10000000000080000000000c000000008029a011040 a5 t := by
  intros; rename_i h; unfold execPixelPacket at h; replace h := Host.Outcome.next.inj h; subst h
  (try dsimp only)
  repeat' first
    | with_reducible exact Keeps.refl _ _
    | (with_reducible apply Keeps.step (pixelPacket_fr ..); decide)
    | with_reducible apply Keeps.whenDo
    | split
    | intro _
    | dsimp only

theorem execOtherPacket_fr : ∀ a0 a1 a2 a3 t, (execOtherPacket a0 a1 a2 a3) = .next t → Keeps 0x10000000000080000000000c4000000000280011040 a3 t := by
  intros; rename_i h; unfold execOtherPacket at h; replace h := Host.Outcome.next.inj h; subst h
  (try dsimp only)
  repeat' first
    | with_reducible exact Keeps.refl _ _
    | (with_reducible apply Keeps.step (otherPacket_fr ..); decide)
    | with_reducible apply Keeps.whenDo
    | split
    | intro _
    | dsimp only

theorem execCciWriteComplete_fr : ∀ a0 a1 a2 t, (execCciWriteComplete a0 a1 a2) = .next t → Keeps 0x11001000000000040000000c0000002000282011070 a2 t := by
  intros; rename_i h; unfold execCciWriteComplete at h; replace h := Host.Outcome.next.inj h; subst h
  (try dsimp only)
  repeat' first
    | with_reducible exact Keeps.refl _ _
    | (with_reducible apply Keeps.step (cciWriteEnd_fr ..); decide)
    | with_reducible apply Keeps.whenDo
    | split
    | intro _
    | dsimp only

theorem execCamCciDone_fr : ∀ a0 a1 a2 a3 t, (execCamCciDone a0 a1 a2 a3) = .next t → Keeps 0x11001000000000040000000c0000182000282011070 a3 t := by
  intros; rename_i h; unfold execCamCciDone at h; replace h := Host.Outcome.next.inj h; subst h
  (try dsimp only)
  repeat' first
    | with_reducible exact Keeps.refl _ _
    | (with_reducible apply Keeps.step (cciEnd_fr ..); decide)
    | with_reducible apply Keeps.whenDo
    | split
    | intro _
    | dsimp only

theorem execStreamingTimeout_fr : ∀ a0 a1 t, (execStreamingTimeout a0 a1) = .next t → Keeps 0x2000000 a1 t := by
  intros; rename_i h; unfold execStreamingTimeout at h; replace h := Host.Outcome.next.inj h; subst h
  (try dsimp only)
  repeat' first
    | with_reducible exact Keeps.refl _ _
    | (with_reducible apply Keeps.step (modCam_fr ..); decide)
    | with_reducible apply Keeps.whenDo
    | split
    | intro _
    | dsimp only

theorem execClkRefclkSwitch_fr : ∀ a0 a1 t, (execClkRefclkSwitch a0 a1) = .next t → Keeps 0x10000000000000000000000c0000000000282011040 a1 t := by
  intros; rename_i h; unfold execClkRefclkSwitch at h; replace h := Host.Outcome.next.inj h; subst h
  (try dsimp only)
  repeat' first
    | with_reducible exact Keeps.refl _ _
    | (with_reducible apply Keeps.step (modCam_fr ..); decide)
    | (with_reducible apply Keeps.step (raise_fr ..); decide)
    | split
    | intro _
    | dsimp only

/-! ### Machine/Time.lean -/

theorem addPeriods_fr : ∀ a0 a1 a2, Keeps 0x5000000000000000 a2 (addPeriods a0 a1 a2) := by
  intros; unfold addPeriods
  (try dsimp only)
  have kCMP_FRACTION := Fam.has_CMP_FRACTION
  generalize OD.CMP_FRACTION = fCMP_FRACTION at kCMP_FRACTION ⊢
  have kCMP_TARGET := Fam.has_CMP_TARGET
  generalize OD.CMP_TARGET = fCMP_TARGET at kCMP_TARGET ⊢
  repeat' first
    | with_reducible exact Keeps.refl _ _
    | (with_reducible apply Keeps.setO .CMP_FRACTION ?_ (kCMP_FRACTION ..) ?_; decide)
    | (with_reducible apply Keeps.setO .CMP_TARGET ?_ (kCMP_TARGET ..) ?_; decide)
    | split
    | intro _
    | dsimp only

theorem startPulses_fr : ∀ a0 a1, Keeps 0x10000000000000000000000c0000000000280811040 a1 (startPulses a0 a1) := by
  intros; unfold startPulses
  (try dsimp only)
  repeat' first
    | with_reducible exact Keeps.refl _ _
    | (with_reducible apply Keeps.step (raise_fr ..); decide)
    | with_reducible apply Keeps.eachDo
    | split
    | intro _
    | dsimp only
    | (with_reducible apply Keeps.upd_time; decide)

theorem matchUnit_fr : ∀ a0 a1, Keeps 0x10000000000000800000000c00078000002a2811040 a1 (matchUnit a0 a1) := by
  intros; unfold matchUnit
  (try dsimp only)
  have kCMP_ARM := Fam.has_CMP_ARM
  generalize OD.CMP_ARM = fCMP_ARM at kCMP_ARM ⊢
  have kCMP_MATCHES := Fam.has_CMP_MATCHES
  generalize OD.CMP_MATCHES = fCMP_MATCHES at kCMP_MATCHES ⊢
  repeat' first
    | with_reducible exact Keeps.refl _ _
    | (with_reducible apply Keeps.step (addPeriods_fr ..); decide)
    | (with_reducible apply Keeps.step (camMatch_fr ..); decide)
    | (with_reducible apply Keeps.step (motMatch_fr ..); decide)
    | (with_reducible apply Keeps.step (raise_fr ..); decide)
    | (with_reducible apply Keeps.step (startPulses_fr ..); decide)
    | (with_reducible apply Keeps.setB .CMP_ARM ?_ (kCMP_ARM ..) ?_; decide)
    | (with_reducible apply Keeps.bump .CMP_MATCHES ?_ (kCMP_MATCHES ..) ?_; decide)
    | split
    | intro _
    | dsimp only
    | (with_reducible apply Keeps.upd_time; decide)

theorem tryMatch_fr : ∀ a0 a1, Keeps 0x10000000000000800000000c00078000002a2811040 a1 (tryMatch a0 a1) := by
  intros; unfold tryMatch
  (try dsimp only)
  repeat' first
    | with_reducible exact Keeps.refl _ _
    | (with_reducible apply Keeps.step (matchUnit_fr ..); decide)
    | split
    | intro _
    | dsimp only

theorem matchFirst_fr : ∀ a0 a1, Keeps 0x10000000000000800000000c00078000002a2811040 a1 (matchFirst a0 a1) := by
  intros; unfold matchFirst
  (try dsimp only)
  repeat' first
    | with_reducible exact Keeps.refl _ _
    | (with_reducible apply Keeps.step (tryMatch_fr ..); decide)
    | split
    | intro _
    | dsimp only

theorem execCompareMatch_fr : ∀ a0 a1 t, (execCompareMatch a0 a1) = .next t → Keeps 0x10000000000000800000000c00078000002a2811040 a1 t := by
  intros; rename_i h; unfold execCompareMatch at h; replace h := Host.Outcome.next.inj h; subst h
  (try dsimp only)
  repeat' first
    | with_reducible exact Keeps.refl _ _
    | (with_reducible apply Keeps.step (tryMatch_fr ..); decide)
    | split
    | intro _
    | dsimp only

theorem armUnit_fr : ∀ a0 a1, Keeps 0x800000 a1 (armUnit a0 a1) := by
  intros; unfold armUnit
  (try dsimp only)
  repeat' first
    | with_reducible exact Keeps.refl _ _
    | split
    | intro _
    | dsimp only
    | (with_reducible apply Keeps.upd_time; decide)

theorem execTrigPulseEnd_fr : ∀ a0 a1 t, (execTrigPulseEnd a0 a1) = .next t → Keeps 0x800000 a1 t := by
  intros; rename_i h; unfold execTrigPulseEnd at h; replace h := Host.Outcome.next.inj h; subst h
  (try dsimp only)
  repeat' first
    | with_reducible exact Keeps.refl _ _
    | split
    | intro _
    | dsimp only
    | (with_reducible apply Keeps.upd_time; decide)

theorem takeCapture_fr : ∀ a0 a1, Keeps 0x10000000000000000000000c0000078000280811040 a1 (takeCapture a0 a1) := by
  intros; unfold takeCapture
  (try dsimp only)
  have kCAP_LOC := Fam.has_CAP_LOC
  generalize OD.CAP_LOC = fCAP_LOC at kCAP_LOC ⊢
  have kCAP_NET := Fam.has_CAP_NET
  generalize OD.CAP_NET = fCAP_NET at kCAP_NET ⊢
  have kCAP_OVERRUNS := Fam.has_CAP_OVERRUNS
  generalize OD.CAP_OVERRUNS = fCAP_OVERRUNS at kCAP_OVERRUNS ⊢
  have kCAP_POSITION := Fam.has_CAP_POSITION
  generalize OD.CAP_POSITION = fCAP_POSITION at kCAP_POSITION ⊢
  repeat' first
    | with_reducible exact Keeps.refl _ _
    | (with_reducible apply Keeps.step (raise_fr ..); decide)
    | (with_reducible apply Keeps.setO .CAP_LOC ?_ (kCAP_LOC ..) ?_; decide)
    | (with_reducible apply Keeps.setO .CAP_NET ?_ (kCAP_NET ..) ?_; decide)
    | (with_reducible apply Keeps.bump .CAP_OVERRUNS ?_ (kCAP_OVERRUNS ..) ?_; decide)
    | (with_reducible apply Keeps.setO .CAP_POSITION ?_ (kCAP_POSITION ..) ?_; decide)
    | split
    | intro _
    | dsimp only
    | (with_reducible apply Keeps.upd_time; decide)

theorem captureEdge_fr : ∀ a0 a1 a2, Keeps 0x18010000000000000000000000c00000780002a0c11040 a2 (captureEdge a0 a1 a2) := by
  intros; unfold captureEdge
  (try dsimp only)
  repeat' first
    | with_reducible exact Keeps.refl _ _
    | (with_reducible apply Keeps.step (demandWake_fr ..); decide)
    | (with_reducible apply Keeps.step (faultPin_fr ..); decide)
    | (with_reducible apply Keeps.step (latchSlot_fr ..); decide)
    | (with_reducible apply Keeps.step (takeCapture_fr ..); decide)
    | split
    | intro _
    | dsimp only
    | (with_reducible apply Keeps.upd_time; decide)

theorem execFaultInputLow_fr : ∀ a0 a1 t, (execFaultInputLow a0 a1) = .next t → Keeps 0x18010000000000000000000000c00000780002a0c11040 a1 t := by
  intros; rename_i h; unfold execFaultInputLow at h; replace h := Host.Outcome.next.inj h; subst h
  (try dsimp only)
  repeat' first
    | with_reducible exact Keeps.refl _ _
    | (with_reducible apply Keeps.step (captureEdge_fr ..); decide)
    | (with_reducible apply Keeps.step (faultPin_fr ..); decide)
    | split
    | intro _
    | dsimp only
    | (with_reducible apply Keeps.upd_time; decide)

theorem execCaptureEdge_fr : ∀ a0 a1 a2 t, (execCaptureEdge a0 a1 a2) = .next t → Keeps 0x18010000000000000000000000c00000780002a0c11040 a2 t := by
  intros; rename_i h; unfold execCaptureEdge at h; replace h := Host.Outcome.next.inj h; subst h
  (try dsimp only)
  repeat' first
    | with_reducible exact Keeps.refl _ _
    | (with_reducible apply Keeps.step (captureEdge_fr ..); decide)
    | with_reducible apply Keeps.whenDo
    | split
    | intro _
    | dsimp only
    | (with_reducible apply Keeps.upd_time; decide)

/-! ### Machine/Pace.lean -/

theorem modPace_fr : ∀ a0 a1, Keeps 0x1000000 a1 (modPace a0 a1) := by
  intros; unfold modPace
  (try dsimp only)
  repeat' first
    | with_reducible exact Keeps.refl _ _
    | split
    | intro _
    | dsimp only
    | (with_reducible apply Keeps.upd_pace; decide)

theorem sendPaceFrame_fr : ∀ a0 a1 a2, Keeps 0x1000000 a2 (sendPaceFrame a0 a1 a2) := by
  intros; unfold sendPaceFrame
  (try dsimp only)
  repeat' first
    | with_reducible exact Keeps.refl _ _
    | (with_reducible apply Keeps.step (modPace_fr ..); decide)
    | split
    | intro _
    | dsimp only

theorem paceLinkUp_fr : ∀ a0 a1 a2, Keeps 0x10000000000008000000000c0000000000281011040 a2 (paceLinkUp a0 a1 a2) := by
  intros; unfold paceLinkUp
  (try dsimp only)
  repeat' first
    | with_reducible exact Keeps.refl _ _
    | (with_reducible apply Keeps.step (modPace_fr ..); decide)
    | (with_reducible apply Keeps.step (raise_fr ..); decide)
    | (with_reducible apply Keeps.step (sendPaceFrame_fr ..); decide)
    | (with_reducible apply Keeps.step (setNegotiated_fr ..); decide)
    | split
    | intro _
    | dsimp only

theorem execPaceLinkHello_fr : ∀ a0 a1 a2 t, (execPaceLinkHello a0 a1 a2) = .next t → Keeps 0x10000000000008000000000c0000000000281011040 a2 t := by
  intros; rename_i h; unfold execPaceLinkHello at h; replace h := Host.Outcome.next.inj h; subst h
  (try dsimp only)
  repeat' first
    | with_reducible exact Keeps.refl _ _
    | (with_reducible apply Keeps.step (paceLinkUp_fr ..); decide)
    | with_reducible apply Keeps.whenDo
    | split
    | intro _
    | dsimp only

theorem execPaceLinkDown_fr : ∀ a0 a1 t, (execPaceLinkDown a0 a1) = .next t → Keeps 0x10000000000000000000000c0000000000281011040 a1 t := by
  intros; rename_i h; unfold execPaceLinkDown at h; replace h := Host.Outcome.next.inj h; subst h
  (try dsimp only)
  repeat' first
    | with_reducible exact Keeps.refl _ _
    | (with_reducible apply Keeps.step (modPace_fr ..); decide)
    | (with_reducible apply Keeps.step (raise_fr ..); decide)
    | with_reducible apply Keeps.whenDo
    | split
    | intro _
    | dsimp only

theorem execEnum_fr : ∀ a0 a1 t, (execEnum a0 a1) = .next t → Keeps 0x10000000000000000000000001000000 a1 t := by
  intros; rename_i h; unfold execEnum at h; replace h := Host.Outcome.next.inj h; subst h
  (try dsimp only)
  have kPACE_POSITION := Fam.has_PACE_POSITION
  generalize OD.PACE_POSITION = fPACE_POSITION at kPACE_POSITION ⊢
  repeat' first
    | with_reducible exact Keeps.refl _ _
    | (with_reducible apply Keeps.step (sendPaceFrame_fr ..); decide)
    | with_reducible apply Keeps.whenDo
    | (with_reducible apply Keeps.setO .PACE_POSITION ?_ (kPACE_POSITION ..) ?_; decide)
    | split
    | intro _
    | dsimp only

theorem execCycle_fr : ∀ a0 a1 a2 t, (execCycle a0 a1 a2) = .next t → Keeps 0x1000000 a2 t := by
  intros; rename_i h; unfold execCycle at h; replace h := Host.Outcome.next.inj h; subst h
  (try dsimp only)
  repeat' first
    | with_reducible exact Keeps.refl _ _
    | (with_reducible apply Keeps.step (modPace_fr ..); decide)
    | (with_reducible apply Keeps.step (sendPaceFrame_fr ..); decide)
    | with_reducible apply Keeps.whenDo
    | split
    | intro _
    | dsimp only

theorem execBusy_fr : ∀ a0 a1 t, (execBusy a0 a1) = .next t → Keeps 0x1000000 a1 t := by
  intros; rename_i h; unfold execBusy at h; replace h := Host.Outcome.next.inj h; subst h
  (try dsimp only)
  repeat' first
    | with_reducible exact Keeps.refl _ _
    | (with_reducible apply Keeps.step (modPace_fr ..); decide)
    | with_reducible apply Keeps.whenDo
    | split
    | intro _
    | dsimp only

theorem execPaceSyncIn_fr : ∀ a0 t, (execPaceSyncIn a0) = .next t → Keeps 0x10400000000000000000000c0000000000280011040 a0 t := by
  intros; rename_i h; unfold execPaceSyncIn at h; replace h := Host.Outcome.next.inj h; subst h
  (try dsimp only)
  have kSYNC_SKEW_LAST := Fam.has_SYNC_SKEW_LAST
  generalize OD.SYNC_SKEW_LAST = fSYNC_SKEW_LAST at kSYNC_SKEW_LAST ⊢
  repeat' first
    | with_reducible exact Keeps.refl _ _
    | (with_reducible apply Keeps.step (raise_fr ..); decide)
    | with_reducible apply Keeps.whenDo
    | (with_reducible apply Keeps.setI .SYNC_SKEW_LAST ?_ (kSYNC_SKEW_LAST ..) ?_; decide)
    | split
    | intro _
    | dsimp only

theorem setReady_fr : ∀ a0 a1, Keeps 0x10000000000000000000000c0000000000281011040 a1 (setReady a0 a1) := by
  intros; unfold setReady
  (try dsimp only)
  repeat' first
    | with_reducible exact Keeps.refl _ _
    | (with_reducible apply Keeps.step (modPace_fr ..); decide)
    | (with_reducible apply Keeps.step (raise_fr ..); decide)
    | split
    | intro _
    | dsimp only

theorem sendRecord_fr : ∀ a0, Keeps 0x1000000 a0 (sendRecord a0) := by
  intros; unfold sendRecord
  (try dsimp only)
  repeat' first
    | with_reducible exact Keeps.refl _ _
    | (with_reducible apply Keeps.step (modPace_fr ..); decide)
    | split
    | intro _
    | dsimp only

theorem alignCount_fr : ∀ a0 a1, Keeps 0x1400000 a1 (alignCount a0 a1) := by
  intros; unfold alignCount
  (try dsimp only)
  repeat' first
    | with_reducible exact Keeps.refl _ _
    | (with_reducible apply Keeps.step (modPace_fr ..); decide)
    | split
    | intro _
    | dsimp only
    | (with_reducible apply Keeps.upd_web; decide)

theorem compareRecord_fr : ∀ a0 a1, Keeps 0x10000000000000000000000c0000000000281011040 a1 (compareRecord a0 a1) := by
  intros; unfold compareRecord
  (try dsimp only)
  repeat' first
    | with_reducible exact Keeps.refl _ _
    | (with_reducible apply Keeps.step (modPace_fr ..); decide)
    | (with_reducible apply Keeps.step (raise_fr ..); decide)
    | (with_reducible apply Keeps.step (setReady_fr ..); decide)
    | split
    | intro _
    | dsimp only

theorem execMirrorRecord_fr : ∀ a0 a1 t, (execMirrorRecord a0 a1) = .next t → Keeps 0x10000000000400000000000c0000000002281411040 a1 t := by
  intros; rename_i h; unfold execMirrorRecord at h; replace h := Host.Outcome.next.inj h; subst h
  (try dsimp only)
  have kPARTNER_READY := Fam.has_PARTNER_READY
  generalize OD.PARTNER_READY = fPARTNER_READY at kPARTNER_READY ⊢
  repeat' first
    | with_reducible exact Keeps.refl _ _
    | (with_reducible apply Keeps.step (alignCount_fr ..); decide)
    | (with_reducible apply Keeps.step (compareRecord_fr ..); decide)
    | (with_reducible apply Keeps.step (modPace_fr ..); decide)
    | with_reducible apply Keeps.whenDo
    | (with_reducible apply Keeps.setB .PARTNER_READY ?_ (kPARTNER_READY ..) ?_; decide)
    | split
    | intro _
    | dsimp only
    | (with_reducible apply Keeps.upd_pins; decide)

theorem releaseQuoin_fr : ∀ a0, Keeps 0x40000000000000000000002001400000 a0 (releaseQuoin a0) := by
  intros; unfold releaseQuoin
  (try dsimp only)
  have kPARTNER_READY := Fam.has_PARTNER_READY
  generalize OD.PARTNER_READY = fPARTNER_READY at kPARTNER_READY ⊢
  repeat' first
    | with_reducible exact Keeps.refl _ _
    | (with_reducible apply Keeps.step (modPace_fr ..); decide)
    | (with_reducible apply Keeps.setB .PARTNER_READY ?_ (kPARTNER_READY ..) ?_; decide)
    | split
    | intro _
    | dsimp only
    | (with_reducible apply Keeps.upd_pins_web; decide; decide)
    | (with_reducible apply Keeps.upd_web; decide)

theorem secondMiss_fr : ∀ a0, Keeps 0x10000000000400000000000c0000000002281411040 a0 (secondMiss a0) := by
  intros; unfold secondMiss
  (try dsimp only)
  have kPARTNER_READY := Fam.has_PARTNER_READY
  generalize OD.PARTNER_READY = fPARTNER_READY at kPARTNER_READY ⊢
  repeat' first
    | with_reducible exact Keeps.refl _ _
    | (with_reducible apply Keeps.step (modPace_fr ..); decide)
    | (with_reducible apply Keeps.step (raise_fr ..); decide)
    | (with_reducible apply Keeps.step (releaseQuoin_fr ..); decide)
    | (with_reducible apply Keeps.step (setReady_fr ..); decide)
    | (with_reducible apply Keeps.setB .PARTNER_READY ?_ (kPARTNER_READY ..) ?_; decide)
    | split
    | intro _
    | dsimp only

theorem execHeartbeatMiss_fr : ∀ a0 t, (execHeartbeatMiss a0) = .next t → Keeps 0x10000000000400400000000c0000000002281411040 a0 t := by
  intros; rename_i h; unfold execHeartbeatMiss at h; replace h := Host.Outcome.next.inj h; subst h
  (try dsimp only)
  have kMISSED_RECORDS := Fam.has_MISSED_RECORDS
  generalize OD.MISSED_RECORDS = fMISSED_RECORDS at kMISSED_RECORDS ⊢
  repeat' first
    | with_reducible exact Keeps.refl _ _
    | (with_reducible apply Keeps.step (modPace_fr ..); decide)
    | (with_reducible apply Keeps.step (secondMiss_fr ..); decide)
    | with_reducible apply Keeps.whenDo
    | (with_reducible apply Keeps.bump .MISSED_RECORDS ?_ (kMISSED_RECORDS ..) ?_; decide)
    | split
    | intro _
    | dsimp only

theorem execMirrorHeartbeat_fr : ∀ a0 t, (execMirrorHeartbeat a0) = .next t → Keeps 0x1000000 a0 t := by
  intros; rename_i h; unfold execMirrorHeartbeat at h; replace h := Host.Outcome.next.inj h; subst h
  (try dsimp only)
  repeat' first
    | with_reducible exact Keeps.refl _ _
    | (with_reducible apply Keeps.step (sendRecord_fr ..); decide)
    | with_reducible apply Keeps.whenDo
    | split
    | intro _
    | dsimp only

theorem bumpJournaled_fr {m : Nat} {k : Nat} {s x : State} (f : Fam) (hf : m.testBit (Place.objects f).num = true)
    (hk : f.has k) (h : Nat.lor 0x80000000 m = m) (a : Keeps m s x) : Keeps m s (bumpJournaled k x) := by
  unfold bumpJournaled
  exact Keeps.step (openRecord_fr ..) h (Keeps.bump f hf hk a)

theorem oweCounts_fr : ∀ a0, Keeps 0x400000 a0 (oweCounts a0) := by
  intros; unfold oweCounts
  (try dsimp only)
  repeat' first
    | with_reducible exact Keeps.refl _ _
    | split
    | intro _
    | dsimp only
    | (with_reducible apply Keeps.upd_web; decide)

theorem takeQuoin_fr : ∀ a0, Keeps 0x10800000000000010000000c0000000002281411040 a0 (takeQuoin a0) := by
  intros; unfold takeQuoin
  (try dsimp only)
  have kLAST_TAKEOVER_LINE := Fam.has_LAST_TAKEOVER_LINE
  generalize OD.LAST_TAKEOVER_LINE = fLAST_TAKEOVER_LINE at kLAST_TAKEOVER_LINE ⊢
  have kTAKEOVERS := Fam.has_TAKEOVERS
  generalize OD.TAKEOVERS = fTAKEOVERS at kTAKEOVERS ⊢
  repeat' first
    | with_reducible exact Keeps.refl _ _
    | (with_reducible apply Keeps.step (driveHold_fr ..); decide)
    | (with_reducible apply Keeps.step (modPace_fr ..); decide)
    | (with_reducible apply Keeps.step (oweCounts_fr ..); decide)
    | (with_reducible apply Keeps.step (raise_fr ..); decide)
    | (with_reducible apply Keeps.step (raiseX_fr ..); decide)
    | (with_reducible apply bumpJournaled_fr .TAKEOVERS ?_ (kTAKEOVERS ..) ?_ ?_; decide; decide)
    | (with_reducible apply Keeps.setO .LAST_TAKEOVER_LINE ?_ (kLAST_TAKEOVER_LINE ..) ?_; decide)
    | split
    | intro _
    | dsimp only
    | (with_reducible apply Keeps.upd_pins; decide)

theorem execQuoinTake_fr : ∀ a0 t, (execQuoinTake a0) = .next t → Keeps 0x10800000000000010000000c0000000002281411040 a0 t := by
  intros; rename_i h; unfold execQuoinTake at h; replace h := Host.Outcome.next.inj h; subst h
  (try dsimp only)
  repeat' first
    | with_reducible exact Keeps.refl _ _
    | (with_reducible apply Keeps.step (takeQuoin_fr ..); decide)
    | split
    | intro _
    | dsimp only

theorem execStandbyQuoinTimeout_fr : ∀ a0 t, (execStandbyQuoinTimeout a0) = .next t → Keeps 0x10800000000000010000000c0000000002281411040 a0 t := by
  intros; rename_i h; unfold execStandbyQuoinTimeout at h; replace h := Host.Outcome.next.inj h; subst h
  (try dsimp only)
  repeat' first
    | with_reducible exact Keeps.refl _ _
    | (with_reducible apply Keeps.step (takeQuoin_fr ..); decide)
    | split
    | intro _
    | dsimp only

theorem execPaceQuoinStuck_fr : ∀ a0 t, (execPaceQuoinStuck a0) = .next t → Keeps 0x10000000000000000000000c0000000000281011040 a0 t := by
  intros; rename_i h; unfold execPaceQuoinStuck at h; replace h := Host.Outcome.next.inj h; subst h
  (try dsimp only)
  repeat' first
    | with_reducible exact Keeps.refl _ _
    | (with_reducible apply Keeps.step (modPace_fr ..); decide)
    | (with_reducible apply Keeps.step (raise_fr ..); decide)
    | with_reducible apply Keeps.whenDo
    | split
    | intro _
    | dsimp only

theorem execPaceOutEnable_fr : ∀ a0 t, (execPaceOutEnable a0) = .next t → Keeps 0x10000000000100000000000c0000000000281411040 a0 t := by
  intros; rename_i h; unfold execPaceOutEnable at h; replace h := Host.Outcome.next.inj h; subst h
  (try dsimp only)
  have kPACE_POSITION := Fam.has_PACE_POSITION
  generalize OD.PACE_POSITION = fPACE_POSITION at kPACE_POSITION ⊢
  repeat' first
    | with_reducible exact Keeps.refl _ _
    | (with_reducible apply Keeps.step (emulate_fr ..); decide)
    | (with_reducible apply Keeps.step (modPace_fr ..); decide)
    | with_reducible apply Keeps.whenDo
    | (with_reducible apply Keeps.setO .PACE_POSITION ?_ (kPACE_POSITION ..) ?_; decide)
    | split
    | intro _
    | dsimp only
    | (with_reducible apply Keeps.upd_web; decide)

theorem execTakeoverHoldPulseEnd_fr : ∀ a0 t, (execTakeoverHoldPulseEnd a0) = .next t → Keeps 0x2001000000 a0 t := by
  intros; rename_i h; unfold execTakeoverHoldPulseEnd at h; replace h := Host.Outcome.next.inj h; subst h
  (try dsimp only)
  repeat' first
    | with_reducible exact Keeps.refl _ _
    | (with_reducible apply Keeps.step (driveHold_fr ..); decide)
    | (with_reducible apply Keeps.step (modPace_fr ..); decide)
    | split
    | intro _
    | dsimp only
    | (with_reducible apply Keeps.upd_pins; decide)

theorem takeRole_fr : ∀ a0, Keeps 0x10000000000400000000000c0000000002281411040 a0 (takeRole a0) := by
  intros; unfold takeRole
  (try dsimp only)
  repeat' first
    | with_reducible exact Keeps.refl _ _
    | (with_reducible apply Keeps.step (modPace_fr ..); decide)
    | (with_reducible apply Keeps.step (releaseQuoin_fr ..); decide)
    | (with_reducible apply Keeps.step (setReady_fr ..); decide)
    | split
    | intro _
    | dsimp only

theorem handbackStep_fr : ∀ a0, Keeps 0x20000040000000000000000000002081400000 a0 (handbackStep a0) := by
  intros; unfold handbackStep
  (try dsimp only)
  have kRETURNS := Fam.has_RETURNS
  generalize OD.RETURNS = fRETURNS at kRETURNS ⊢
  repeat' first
    | with_reducible exact Keeps.refl _ _
    | (with_reducible apply Keeps.step (modPace_fr ..); decide)
    | (with_reducible apply Keeps.step (releaseQuoin_fr ..); decide)
    | (with_reducible apply bumpJournaled_fr .RETURNS ?_ (kRETURNS ..) ?_ ?_; decide; decide)
    | split
    | intro _
    | dsimp only

theorem paceCycleEnd_fr : ∀ a0 a1, Keeps 0x10000200000400000000000c0000000002281411040 a1 (paceCycleEnd a0 a1) := by
  intros; unfold paceCycleEnd
  (try dsimp only)
  repeat' first
    | with_reducible exact Keeps.refl _ _
    | (with_reducible apply Keeps.step (alignCount_fr ..); decide)
    | (with_reducible apply Keeps.step (handbackStep_fr ..); decide)
    | (with_reducible apply Keeps.step (modPace_fr ..); decide)
    | (with_reducible apply Keeps.step (sendPaceFrame_fr ..); decide)
    | (with_reducible apply Keeps.step (sendRecord_fr ..); decide)
    | (with_reducible apply Keeps.step (takeRole_fr ..); decide)
    | split
    | intro _
    | dsimp only

theorem execPaceSyncPulseEnd_fr : ∀ a0 t, (execPaceSyncPulseEnd a0) = .next t → Keeps 0x1000000 a0 t := by
  intros; rename_i h; unfold execPaceSyncPulseEnd at h; replace h := Host.Outcome.next.inj h; subst h
  (try dsimp only)
  repeat' first
    | with_reducible exact Keeps.refl _ _
    | (with_reducible apply Keeps.step (modPace_fr ..); decide)
    | split
    | intro _
    | dsimp only

theorem paceReset_fr : ∀ a0, Keeps 0x2001000000 a0 (paceReset a0) := by
  intros; unfold paceReset
  (try dsimp only)
  repeat' first
    | with_reducible exact Keeps.refl _ _
    | (with_reducible apply Keeps.step (driveHold_fr ..); decide)
    | split
    | intro _
    | dsimp only
    | (with_reducible apply Keeps.upd_pace_pins; decide; decide)
    | (with_reducible apply Keeps.upd_pace; decide)

/-! ### Machine/Dram.lean -/

theorem acceptRequest_fr : ∀ a0 a1, Keeps 0x18000000 a1 (acceptRequest a0 a1) := by
  intros; unfold acceptRequest
  (try dsimp only)
  repeat' first
    | with_reducible exact Keeps.refl _ _
    | (with_reducible apply Keeps.step (modChannel_fr ..); decide)
    | split
    | intro _
    | dsimp only
    | (with_reducible apply Keeps.own_ddr; rfl; decide)
    | (with_reducible apply Keeps.own_mem; rfl; decide)
    | (with_reducible apply Keeps.upd_ddr; decide; decide)

theorem placeRequests_fr : ∀ n s, Keeps 0x18000000 s (placeRequests n s) := by
  intro n; induction n with
  | zero => intros; exact Keeps.refl _ _
  | succ n ih =>
    intro s; unfold placeRequests
    generalize nextPlaced s = o
    cases o with
    | none => exact Keeps.refl _ _
    | some r =>
      have h : Keeps 0x18000000 s (if hasQuota s r = true then s
          else modChannel (placeNow r.address s).channel (fun c => { c with placed := Vector.replicate 7 0 }) s) := by
        split
        · exact Keeps.refl _ _
        · exact (modChannel_fr _ _ _).mono (by decide)
      revert h
      dsimp only
      generalize (if hasQuota s r = true then s
        else modChannel (placeNow r.address s).channel (fun c => { c with placed := Vector.replicate 7 0 }) s) = x
      intro h
      refine (ih _).trans' ?_
      exact Keeps.step (acceptRequest_fr _ _) (by decide) (Keeps.upd_ddr (by decide) (by decide) h)

theorem serveWaiting_fr : ∀ a0, Keeps 0x18000000 a0 (serveWaiting a0) := by
  intros; unfold serveWaiting
  (try dsimp only)
  repeat' first
    | with_reducible exact Keeps.refl _ _
    | (with_reducible apply Keeps.step (placeRequests_fr ..); decide)
    | split
    | intro _
    | dsimp only
    | (with_reducible apply Keeps.own_ddr; rfl; decide)
    | (with_reducible apply Keeps.own_mem; rfl; decide)
    | (with_reducible apply Keeps.upd_ddr; decide; decide)

theorem addRequest_fr : ∀ a0 a1, Keeps 0x8000000 a1 (addRequest a0 a1) := by
  intros; unfold addRequest
  (try dsimp only)
  repeat' first
    | with_reducible exact Keeps.refl _ _
    | split
    | intro _
    | dsimp only
    | (with_reducible apply Keeps.own_ddr; rfl; decide)
    | (with_reducible apply Keeps.own_mem; rfl; decide)
    | (with_reducible apply Keeps.upd_ddr; decide; decide)

theorem execDramRequest_fr : ∀ a0 a1 t, (execDramRequest a0 a1) = .next t → Keeps 0x18000000 a1 t := by
  intros; rename_i h; unfold execDramRequest at h; replace h := Host.Outcome.next.inj h; subst h
  (try dsimp only)
  repeat' first
    | with_reducible exact Keeps.refl _ _
    | (with_reducible apply Keeps.step (addRequest_fr ..); decide)
    | (with_reducible apply Keeps.step (serveWaiting_fr ..); decide)
    | split
    | intro _
    | dsimp only

theorem dramTick_fr : ∀ a0, Keeps 0x18000000 a0 (dramTick a0) := by
  intros; unfold dramTick
  (try dsimp only)
  repeat' first
    | with_reducible exact Keeps.refl _ _
    | (with_reducible apply Keeps.step (serveWaiting_fr ..); decide)
    | split
    | intro _
    | dsimp only
    | (with_reducible apply Keeps.own_ddr; rfl; decide)
    | (with_reducible apply Keeps.own_mem; rfl; decide)
    | (with_reducible apply Keeps.upd_ddr; decide; decide)

theorem eccCorrected_fr : ∀ a0 a1 a2, Keeps 0x10000000000000000000000ca000000000288011040 a2 (eccCorrected a0 a1 a2) := by
  intros; unfold eccCorrected
  (try dsimp only)
  have kECC_CORRECTED := Fam.has_ECC_CORRECTED
  generalize OD.ECC_CORRECTED = fECC_CORRECTED at kECC_CORRECTED ⊢
  have kECC_LAST_ADDRESS := Fam.has_ECC_LAST_ADDRESS
  generalize OD.ECC_LAST_ADDRESS = fECC_LAST_ADDRESS at kECC_LAST_ADDRESS ⊢
  repeat' first
    | with_reducible exact Keeps.refl _ _
    | (with_reducible apply Keeps.step (modChannel_fr ..); decide)
    | (with_reducible apply Keeps.step (raise_fr ..); decide)
    | (with_reducible apply Keeps.bump .ECC_CORRECTED ?_ (kECC_CORRECTED ..) ?_; decide)
    | (with_reducible apply Keeps.setO .ECC_LAST_ADDRESS ?_ (kECC_LAST_ADDRESS ..) ?_; decide)
    | split
    | intro _
    | dsimp only

theorem eccUncorrectable_fr : ∀ a0 a1 a2 a3, Keeps 0x10000000000000000000000d8000000000280011040 a3 (eccUncorrectable a0 a1 a2 a3) := by
  intros; unfold eccUncorrectable
  (try dsimp only)
  have kECC_LAST_ADDRESS := Fam.has_ECC_LAST_ADDRESS
  generalize OD.ECC_LAST_ADDRESS = fECC_LAST_ADDRESS at kECC_LAST_ADDRESS ⊢
  have kECC_UNCORRECTABLE := Fam.has_ECC_UNCORRECTABLE
  generalize OD.ECC_UNCORRECTABLE = fECC_UNCORRECTABLE at kECC_UNCORRECTABLE ⊢
  repeat' first
    | with_reducible exact Keeps.refl _ _
    | (with_reducible apply Keeps.step (raise_fr ..); decide)
    | (with_reducible apply Keeps.setO .ECC_LAST_ADDRESS ?_ (kECC_LAST_ADDRESS ..) ?_; decide)
    | (with_reducible apply Keeps.bump .ECC_UNCORRECTABLE ?_ (kECC_UNCORRECTABLE ..) ?_; decide)
    | split
    | intro _
    | dsimp only

theorem scrubNext_fr : ∀ a0, Keeps 0x18000000 a0 (scrubNext a0) := by
  intros; unfold scrubNext
  (try dsimp only)
  repeat' first
    | with_reducible exact Keeps.refl _ _
    | split
    | intro _
    | dsimp only
    | (with_reducible apply Keeps.own_ddr; rfl; decide)
    | (with_reducible apply Keeps.own_mem; rfl; decide)
    | (with_reducible apply Keeps.upd_ddr; decide; decide)

theorem execScrubRead_fr : ∀ a0 a1 t, (execScrubRead a0 a1) = .next t → Keeps 0x18000000 a1 t := by
  intros; rename_i h; unfold execScrubRead at h; replace h := Host.Outcome.next.inj h; subst h
  (try dsimp only)
  repeat' first
    | with_reducible exact Keeps.refl _ _
    | (with_reducible apply Keeps.step (addRequest_fr ..); decide)
    | (with_reducible apply Keeps.step (scrubNext_fr ..); decide)
    | (with_reducible apply Keeps.step (serveWaiting_fr ..); decide)
    | split
    | intro _
    | dsimp only
    | (with_reducible apply Keeps.own_ddr; rfl; decide)
    | (with_reducible apply Keeps.own_mem; rfl; decide)
    | (with_reducible apply Keeps.upd_ddr; decide; decide)

theorem scrubReturned_fr : ∀ a0 a1, Keeps 0x18000000 a1 (scrubReturned a0 a1) := by
  intros; unfold scrubReturned
  (try dsimp only)
  repeat' first
    | with_reducible exact Keeps.refl _ _
    | (with_reducible apply Keeps.step (addRequest_fr ..); decide)
    | (with_reducible apply Keeps.step (serveWaiting_fr ..); decide)
    | split
    | intro _
    | dsimp only

theorem refreshDue_fr : ∀ a0 a1 a2, Keeps 0x10000000200000000000000c0000000000288011040 a2 (refreshDue a0 a1 a2) := by
  intros; unfold refreshDue
  (try dsimp only)
  have kREFRESH_FORCED := Fam.has_REFRESH_FORCED
  generalize OD.REFRESH_FORCED = fREFRESH_FORCED at kREFRESH_FORCED ⊢
  repeat' first
    | with_reducible exact Keeps.refl _ _
    | (with_reducible apply Keeps.step (modChannel_fr ..); decide)
    | (with_reducible apply Keeps.step (raise_fr ..); decide)
    | (with_reducible apply Keeps.bump .REFRESH_FORCED ?_ (kREFRESH_FORCED ..) ?_; decide)
    | split
    | intro _
    | dsimp only

theorem execRefreshDue_fr : ∀ a0 a1 a2 t, (execRefreshDue a0 a1 a2) = .next t → Keeps 0x10000000200000000000000c0000000000288011040 a2 t := by
  intros; rename_i h; unfold execRefreshDue at h; replace h := Host.Outcome.next.inj h; subst h
  (try dsimp only)
  repeat' first
    | with_reducible exact Keeps.refl _ _
    | (with_reducible apply Keeps.step (modChannel_fr ..); decide)
    | (with_reducible apply Keeps.step (refreshDue_fr ..); decide)
    | split
    | intro _
    | dsimp only

theorem execMr4Poll_fr : ∀ a0 a1 a2 t, (execMr4Poll a0 a1 a2) = .next t → Keeps 0x10000000400000000000000c0000000000288011040 a2 t := by
  intros; rename_i h; unfold execMr4Poll at h; replace h := Host.Outcome.next.inj h; subst h
  (try dsimp only)
  have kREFRESH_RATE := Fam.has_REFRESH_RATE
  generalize OD.REFRESH_RATE = fREFRESH_RATE at kREFRESH_RATE ⊢
  repeat' first
    | with_reducible exact Keeps.refl _ _
    | (with_reducible apply Keeps.step (modChannel_fr ..); decide)
    | (with_reducible apply Keeps.step (raise_fr ..); decide)
    | (with_reducible apply Keeps.setO .REFRESH_RATE ?_ (kREFRESH_RATE ..) ?_; decide)
    | split
    | intro _
    | dsimp only

theorem trackDrift_fr : ∀ a0 a1 a2, Keeps 0x10000000000000000000000c0000000000288011040 a2 (trackDrift a0 a1 a2) := by
  intros; unfold trackDrift
  (try dsimp only)
  repeat' first
    | with_reducible exact Keeps.refl _ _
    | (with_reducible apply Keeps.step (modChannel_fr ..); decide)
    | (with_reducible apply Keeps.step (raise_fr ..); decide)
    | split
    | intro _
    | dsimp only
    | (with_reducible apply Keeps.own_ddr; rfl; decide)
    | (with_reducible apply Keeps.own_mem; rfl; decide)
    | (with_reducible apply Keeps.upd_ddr; decide; decide)

theorem execDriftTracking_fr : ∀ a0 a1 a2 a3 t, (execDriftTracking a0 a1 a2 a3) = .next t → Keeps 0x10000000000000000000000c0000000000288011040 a3 t := by
  intros; rename_i h; unfold execDriftTracking at h; replace h := Host.Outcome.next.inj h; subst h
  (try dsimp only)
  repeat' first
    | with_reducible exact Keeps.refl _ _
    | (with_reducible apply Keeps.step (trackDrift_fr ..); decide)
    | split
    | intro _
    | dsimp only

theorem useEngines_fr : ∀ a0 a1, Keeps 0x18000004 a1 (useEngines a0 a1) := by
  intros; unfold useEngines
  (try dsimp only)
  repeat' first
    | with_reducible exact Keeps.refl _ _
    | split
    | intro _
    | dsimp only
    | (with_reducible apply Keeps.own_ddr; rfl; decide)
    | (with_reducible apply Keeps.own_mem; rfl; decide)
    | (with_reducible apply Keeps.upd_ddr; decide; decide)
    | (with_reducible apply Keeps.upd_ddr_freeCtr; decide; decide; decide)

theorem recordDelays_fr : ∀ a0 a1, Keeps 0x80000008 a1 (recordDelays a0 a1) := by
  intros; unfold recordDelays
  (try dsimp only)
  repeat' first
    | with_reducible exact Keeps.refl _ _
    | (with_reducible apply Keeps.step (State.setDom_fr ..); decide)
    | (with_reducible apply Keeps.step (openRecord_fr ..); decide)
    | split
    | intro _
    | dsimp only
    | (with_reducible apply Keeps.own_ddr; rfl; decide)
    | (with_reducible apply Keeps.own_mem; rfl; decide)
    | (with_reducible apply Keeps.upd_ddr; decide; decide)

theorem readIdentity_fr : ∀ a0 a1, Keeps 0x10000400000000000800000000000000000 a1 (readIdentity a0 a1) := by
  intros; unfold readIdentity
  (try dsimp only)
  have kDENSITY := Fam.has_DENSITY
  generalize OD.DENSITY = fDENSITY at kDENSITY ⊢
  have kMR_VENDOR := Fam.has_MR_VENDOR
  generalize OD.MR_VENDOR = fMR_VENDOR at kMR_VENDOR ⊢
  have kRANKS := Fam.has_RANKS
  generalize OD.RANKS = fRANKS at kRANKS ⊢
  repeat' first
    | with_reducible exact Keeps.refl _ _
    | (with_reducible apply Keeps.setO .DENSITY ?_ (kDENSITY ..) ?_; decide)
    | (with_reducible apply Keeps.setO .MR_VENDOR ?_ (kMR_VENDOR ..) ?_; decide)
    | (with_reducible apply Keeps.setO .RANKS ?_ (kRANKS ..) ?_; decide)
    | split
    | intro _
    | dsimp only

theorem setDdrLock_fr : ∀ a0 a1, Keeps 0x400000000 a1 (setDdrLock a0 a1) := by
  intros; unfold setDdrLock
  (try dsimp only)
  repeat' first
    | with_reducible exact Keeps.refl _ _
    | split
    | intro _
    | dsimp only
    | (with_reducible apply Keeps.upd_clk; decide)

theorem trainDram_fr : ∀ a0 a1, Keeps 0x70000000100004000400000c080000000069801104c a1 (trainDram a0 a1).2 := by
  intros; unfold trainDram
  (try dsimp only)
  have kINSTALLED_SIZE := Fam.has_INSTALLED_SIZE
  generalize OD.INSTALLED_SIZE = fINSTALLED_SIZE at kINSTALLED_SIZE ⊢
  have kTRAINING_RESULT := Fam.has_TRAINING_RESULT
  generalize OD.TRAINING_RESULT = fTRAINING_RESULT at kTRAINING_RESULT ⊢
  have kTRAINING_TIME := Fam.has_TRAINING_TIME
  generalize OD.TRAINING_TIME = fTRAINING_TIME at kTRAINING_TIME ⊢
  repeat' first
    | with_reducible exact Keeps.refl _ _
    | (with_reducible apply Keeps.step (raise_fr ..); decide)
    | (with_reducible apply Keeps.step (readIdentity_fr ..); decide)
    | (with_reducible apply Keeps.step (recordDelays_fr ..); decide)
    | (with_reducible apply Keeps.step (serveWaiting_fr ..); decide)
    | (with_reducible apply Keeps.step (setDdrLock_fr ..); decide)
    | (with_reducible apply Keeps.step (useEngines_fr ..); decide)
    | (with_reducible apply Keeps.setO .INSTALLED_SIZE ?_ (kINSTALLED_SIZE ..) ?_; decide)
    | (with_reducible apply Keeps.setO .TRAINING_RESULT ?_ (kTRAINING_RESULT ..) ?_; decide)
    | (with_reducible apply Keeps.setO .TRAINING_TIME ?_ (kTRAINING_TIME ..) ?_; decide)
    | split
    | intro _
    | dsimp only
    | (with_reducible apply Keeps.own_ddr; rfl; decide)
    | (with_reducible apply Keeps.own_mem; rfl; decide)
    | (with_reducible apply Keeps.upd_ddr; decide; decide)

theorem enterSelfRefresh_fr : ∀ a0, Keeps 0x10000000000000000000000c0000000000688011040 a0 (enterSelfRefresh a0) := by
  intros; unfold enterSelfRefresh
  (try dsimp only)
  repeat' first
    | with_reducible exact Keeps.refl _ _
    | (with_reducible apply Keeps.step (raise_fr ..); decide)
    | (with_reducible apply Keeps.step (setDdrLock_fr ..); decide)
    | split
    | intro _
    | dsimp only
    | (with_reducible apply Keeps.own_ddr; rfl; decide)
    | (with_reducible apply Keeps.own_mem; rfl; decide)
    | (with_reducible apply Keeps.upd_ddr; decide; decide)

theorem exitSelfRefresh_fr : ∀ a0 a1, Keeps 0x10000000000000000000000c0000000000698011040 a1 (exitSelfRefresh a0 a1) := by
  intros; unfold exitSelfRefresh
  (try dsimp only)
  repeat' first
    | with_reducible exact Keeps.refl _ _
    | (with_reducible apply Keeps.step (raise_fr ..); decide)
    | (with_reducible apply Keeps.step (serveWaiting_fr ..); decide)
    | (with_reducible apply Keeps.step (setDdrLock_fr ..); decide)
    | (with_reducible apply Keeps.step (trackDrift_fr ..); decide)
    | with_reducible apply Keeps.eachDo
    | split
    | intro _
    | dsimp only
    | (with_reducible apply Keeps.own_ddr; rfl; decide)
    | (with_reducible apply Keeps.own_mem; rfl; decide)
    | (with_reducible apply Keeps.upd_ddr; decide; decide)

theorem dramSleep_fr : ∀ s, Keeps 0x418000000 s (dramSleep s) := by
  intro s
  exact Keeps.step (setDdrLock_fr _ _) (by decide) (Keeps.upd_ddr (by decide) (by decide) (Keeps.refl _ _))

/-! ### Machine/Display.lean -/

theorem modDisp_fr : ∀ a0 a1, Keeps 0x1000000000 a1 (modDisp a0 a1) := by
  intros; unfold modDisp
  (try dsimp only)
  repeat' first
    | with_reducible exact Keeps.refl _ _
    | split
    | intro _
    | dsimp only
    | (with_reducible apply Keeps.upd_disp; decide)

theorem pushBufferWrite_fr : ∀ a0 a1 a2, Keeps 0x8 a2 (pushBufferWrite a0 a1 a2) := by
  intros; unfold pushBufferWrite
  (try dsimp only)
  repeat' first
    | with_reducible exact Keeps.refl _ _
    | (with_reducible apply Keeps.step (State.setDom_fr ..); decide)
    | split
    | intro _
    | dsimp only

theorem hostPush_fr : ∀ a0 a1 a2, Keeps 0x3000000000000000000000001000000000 a2 (hostPush a0 a1 a2).2 := by
  intros; unfold hostPush
  (try dsimp only)
  have kPUSH_COUNT := Fam.has_PUSH_COUNT
  generalize OD.PUSH_COUNT = fPUSH_COUNT at kPUSH_COUNT ⊢
  have kPUSH_FIRST := Fam.has_PUSH_FIRST
  generalize OD.PUSH_FIRST = fPUSH_FIRST at kPUSH_FIRST ⊢
  repeat' first
    | with_reducible exact Keeps.refl _ _
    | (with_reducible apply Keeps.step (modDisp_fr ..); decide)
    | (with_reducible apply Keeps.setO .PUSH_COUNT ?_ (kPUSH_COUNT ..) ?_; decide)
    | (with_reducible apply Keeps.setO .PUSH_FIRST ?_ (kPUSH_FIRST ..) ?_; decide)
    | split
    | intro _
    | dsimp only

theorem firmwareTurn_fr : ∀ a0, Keeps 0x1000000000 a0 (firmwareTurn a0) := by
  intros; unfold firmwareTurn
  (try dsimp only)
  repeat' first
    | with_reducible exact Keeps.refl _ _
    | (with_reducible apply Keeps.step (modDisp_fr ..); decide)
    | split
    | intro _
    | dsimp only

theorem redrawCells_fr : ∀ a0 a1, Keeps 0x1000000000 a1 (redrawCells a0 a1) := by
  intros; unfold redrawCells
  (try dsimp only)
  repeat' first
    | with_reducible exact Keeps.refl _ _
    | (with_reducible apply Keeps.step (firmwareTurn_fr ..); decide)
    | (with_reducible apply Keeps.step (modDisp_fr ..); decide)
    | split
    | intro _
    | dsimp only

theorem startPanel_fr : ∀ a0, Keeps 0x1000000000 a0 (startPanel a0) := by
  intros; unfold startPanel
  (try dsimp only)
  repeat' first
    | with_reducible exact Keeps.refl _ _
    | (with_reducible apply Keeps.step (modDisp_fr ..); decide)
    | split
    | intro _
    | dsimp only

theorem execPanelInit_fr : ∀ a0 t, (execPanelInit a0) = .next t → Keeps 0x1000000000 a0 t := by
  intros; rename_i h; unfold execPanelInit at h; replace h := Host.Outcome.next.inj h; subst h
  (try dsimp only)
  repeat' first
    | with_reducible exact Keeps.refl _ _
    | (with_reducible apply Keeps.step (modDisp_fr ..); decide)
    | (with_reducible apply Keeps.step (redrawCells_fr ..); decide)
    | with_reducible apply Keeps.whenDo
    | split
    | intro _
    | dsimp only

theorem hostCellsChanged_fr : ∀ a0 a1, Keeps 0x1000000000 a1 (hostCellsChanged a0 a1) := by
  intros; unfold hostCellsChanged
  (try dsimp only)
  repeat' first
    | with_reducible exact Keeps.refl _ _
    | (with_reducible apply Keeps.step (redrawCells_fr ..); decide)
    | split
    | intro _
    | dsimp only

theorem execCellRepush_fr : ∀ a0 a1 t, (execCellRepush a0 a1) = .next t → Keeps 0x1000000000 a1 t := by
  intros; rename_i h; unfold execCellRepush at h; replace h := Host.Outcome.next.inj h; subst h
  (try dsimp only)
  repeat' first
    | with_reducible exact Keeps.refl _ _
    | (with_reducible apply Keeps.step (modDisp_fr ..); decide)
    | (with_reducible apply Keeps.step (redrawCells_fr ..); decide)
    | with_reducible apply Keeps.whenDo
    | split
    | intro _
    | dsimp only

theorem sendRow_fr : ∀ a0 a1 a2, Keeps 0x1000000000 a2 (sendRow a0 a1 a2) := by
  intros; unfold sendRow
  (try dsimp only)
  repeat' first
    | with_reducible exact Keeps.refl _ _
    | (with_reducible apply Keeps.step (modDisp_fr ..); decide)
    | split
    | intro _
    | dsimp only

theorem sendRows_fr : ∀ a0 a1, Keeps 0x1000000000 a1 (sendRows a0 a1) := by
  intros; unfold sendRows
  (try dsimp only)
  repeat' first
    | with_reducible exact Keeps.refl _ _
    | (with_reducible apply Keeps.step (modDisp_fr ..); decide)
    | (with_reducible apply Keeps.step (sendRow_fr ..); decide)
    | with_reducible apply Keeps.eachDo
    | split
    | intro _
    | dsimp only

theorem sendRest_fr : ∀ a0, Keeps 0x1000000000 a0 (sendRest a0) := by
  intros; unfold sendRest
  (try dsimp only)
  repeat' first
    | with_reducible exact Keeps.refl _ _
    | (with_reducible apply Keeps.step (sendRows_fr ..); decide)
    | split
    | intro _
    | dsimp only

theorem execDispTeBlank_fr : ∀ a0 t, (execDispTeBlank a0) = .next t → Keeps 0x10000000040000000000000c0000000001280011040 a0 t := by
  intros; rename_i h; unfold execDispTeBlank at h; replace h := Host.Outcome.next.inj h; subst h
  (try dsimp only)
  have kPUSH_SEQ := Fam.has_PUSH_SEQ
  generalize OD.PUSH_SEQ = fPUSH_SEQ at kPUSH_SEQ ⊢
  repeat' first
    | with_reducible exact Keeps.refl _ _
    | (with_reducible apply Keeps.step (firmwareTurn_fr ..); decide)
    | (with_reducible apply Keeps.step (modDisp_fr ..); decide)
    | (with_reducible apply Keeps.step (raise_fr ..); decide)
    | with_reducible apply Keeps.whenDo
    | (with_reducible apply Keeps.bump .PUSH_SEQ ?_ (kPUSH_SEQ ..) ?_; decide)
    | split
    | intro _
    | dsimp only

theorem execDsi1TeEdge_fr : ∀ a0 a1 t, (execDsi1TeEdge a0 a1) = .next t → Keeps 0x1000000000 a1 t := by
  intros; rename_i h; unfold execDsi1TeEdge at h; replace h := Host.Outcome.next.inj h; subst h
  (try dsimp only)
  repeat' first
    | with_reducible exact Keeps.refl _ _
    | (with_reducible apply Keeps.step (modDisp_fr ..); decide)
    | with_reducible apply Keeps.whenDo
    | split
    | intro _
    | dsimp only

theorem reachRow_fr : ∀ a0 a1, Keeps 0x10000000000000000000000c0000000001280011040 a1 (reachRow a0 a1) := by
  intros; unfold reachRow
  (try dsimp only)
  repeat' first
    | with_reducible exact Keeps.refl _ _
    | (with_reducible apply Keeps.step (modDisp_fr ..); decide)
    | (with_reducible apply Keeps.step (raise_fr ..); decide)
    | split
    | intro _
    | dsimp only

theorem execScanRowAdvance_fr : ∀ a0 a1 t, (execScanRowAdvance a0 a1) = .next t → Keeps 0x10000000000000000000000c0000000001280011040 a1 t := by
  intros; rename_i h; unfold execScanRowAdvance at h; replace h := Host.Outcome.next.inj h; subst h
  (try dsimp only)
  repeat' first
    | with_reducible exact Keeps.refl _ _
    | (with_reducible apply Keeps.step (reachRow_fr ..); decide)
    | (with_reducible apply Keeps.step (sendRows_fr ..); decide)
    | with_reducible apply Keeps.eachDo
    | with_reducible apply Keeps.whenDo
    | split
    | intro _
    | dsimp only

theorem dispDiscard_fr : ∀ a0, Keeps 0x1000000000 a0 (dispDiscard a0) := by
  intros; unfold dispDiscard
  (try dsimp only)
  repeat' first
    | with_reducible exact Keeps.refl _ _
    | (with_reducible apply Keeps.step (modDisp_fr ..); decide)
    | split
    | intro _
    | dsimp only

/-! ### Machine/Power.lean -/

theorem modPwr_fr : ∀ a0 a1, Keeps 0x300000000 a1 (modPwr a0 a1) := by
  intros; unfold modPwr
  (try dsimp only)
  repeat' first
    | with_reducible exact Keeps.refl _ _
    | split
    | intro _
    | dsimp only
    | (with_reducible apply Keeps.own_wake; rfl; decide)
    | (with_reducible apply Keeps.own_pwr; rfl; rfl; decide)
    | (with_reducible apply Keeps.upd_pwr; decide; decide)

theorem setPower_fr : ∀ a0 a1, Keeps 0x10000000000000000000000c0000000000380011040 a1 (setPower a0 a1) := by
  intros; unfold setPower
  (try dsimp only)
  repeat' first
    | with_reducible exact Keeps.refl _ _
    | (with_reducible apply Keeps.step (modPwr_fr ..); decide)
    | (with_reducible apply Keeps.step (raise_fr ..); decide)
    | split
    | intro _
    | dsimp only

theorem pwrRecompute_fr : ∀ a0, Keeps 0x10004000000010000000000c0000000000380011040 a0 (pwrRecompute a0) := by
  intros; unfold pwrRecompute
  (try dsimp only)
  have kNEXT_SOURCE := Fam.has_NEXT_SOURCE
  generalize OD.NEXT_SOURCE = fNEXT_SOURCE at kNEXT_SOURCE ⊢
  have kSLACK := Fam.has_SLACK
  generalize OD.SLACK = fSLACK at kSLACK ⊢
  repeat' first
    | with_reducible exact Keeps.refl _ _
    | (with_reducible apply Keeps.step (demandWake_fr ..); decide)
    | (with_reducible apply Keeps.step (modPwr_fr ..); decide)
    | (with_reducible apply Keeps.step (setPower_fr ..); decide)
    | (with_reducible apply Keeps.setO .NEXT_SOURCE ?_ (kNEXT_SOURCE ..) ?_; decide)
    | (with_reducible apply Keeps.setO .SLACK ?_ (kSLACK ..) ?_; decide)
    | split
    | intro _
    | dsimp only

theorem execScheduledWake_fr : ∀ a0 t, (execScheduledWake a0) = .next t → Keeps 0x200000000 a0 t := by
  intros; rename_i h; unfold execScheduledWake at h; replace h := Host.Outcome.next.inj h; subst h
  (try dsimp only)
  repeat' first
    | with_reducible exact Keeps.refl _ _
    | (with_reducible apply Keeps.step (demandWake_fr ..); decide)
    | split
    | intro _
    | dsimp only

theorem execSleepIdleExpiry_fr : ∀ a0 t, (execSleepIdleExpiry a0) = .next t → Keeps 0x300000000 a0 t := by
  intros; rename_i h; unfold execSleepIdleExpiry at h; replace h := Host.Outcome.next.inj h; subst h
  (try dsimp only)
  repeat' first
    | with_reducible exact Keeps.refl _ _
    | (with_reducible apply Keeps.step (modPwr_fr ..); decide)
    | split
    | intro _
    | dsimp only

theorem execPwrWakeLate_fr : ∀ a0 a1 t, (execPwrWakeLate a0 a1) = .next t → Keeps 0x4010000000000000000000000c0000000000280011040 a1 t := by
  intros; rename_i h; unfold execPwrWakeLate at h; replace h := Host.Outcome.next.inj h; subst h
  (try dsimp only)
  have kWAKE_LATE := Fam.has_WAKE_LATE
  generalize OD.WAKE_LATE = fWAKE_LATE at kWAKE_LATE ⊢
  repeat' first
    | with_reducible exact Keeps.refl _ _
    | (with_reducible apply Keeps.step (raise_fr ..); decide)
    | (with_reducible apply Keeps.bump .WAKE_LATE ?_ (kWAKE_LATE ..) ?_; decide)
    | split
    | intro _
    | dsimp only

theorem execPwrBrownoutWarn_fr : ∀ a0 a1 t, (execPwrBrownoutWarn a0 a1) = .next t → Keeps 0x10200000000000000000000c0000000000280011040 a1 t := by
  intros; rename_i h; unfold execPwrBrownoutWarn at h; replace h := Host.Outcome.next.inj h; subst h
  (try dsimp only)
  have kSUPPLY_STATUS := Fam.has_SUPPLY_STATUS
  generalize OD.SUPPLY_STATUS = fSUPPLY_STATUS at kSUPPLY_STATUS ⊢
  repeat' first
    | with_reducible exact Keeps.refl _ _
    | (with_reducible apply Keeps.step (raise_fr ..); decide)
    | (with_reducible apply Keeps.setO .SUPPLY_STATUS ?_ (kSUPPLY_STATUS ..) ?_; decide)
    | split
    | intro _
    | dsimp only

theorem execPwrBrownoutClear_fr : ∀ a0 a1 t, (execPwrBrownoutClear a0 a1) = .next t → Keeps 0x10200000000000000000000c0000000000280011040 a1 t := by
  intros; rename_i h; unfold execPwrBrownoutClear at h; replace h := Host.Outcome.next.inj h; subst h
  (try dsimp only)
  have kSUPPLY_STATUS := Fam.has_SUPPLY_STATUS
  generalize OD.SUPPLY_STATUS = fSUPPLY_STATUS at kSUPPLY_STATUS ⊢
  repeat' first
    | with_reducible exact Keeps.refl _ _
    | (with_reducible apply Keeps.step (raise_fr ..); decide)
    | (with_reducible apply Keeps.setO .SUPPLY_STATUS ?_ (kSUPPLY_STATUS ..) ?_; decide)
    | split
    | intro _
    | dsimp only

theorem tempHighCheck_fr : ∀ a0 a1, Keeps 0x10000000000000000000000c0000000000380011040 a1 (tempHighCheck a0 a1) := by
  intros; unfold tempHighCheck
  (try dsimp only)
  repeat' first
    | with_reducible exact Keeps.refl _ _
    | (with_reducible apply Keeps.step (modPwr_fr ..); decide)
    | (with_reducible apply Keeps.step (raise_fr ..); decide)
    | split
    | intro _
    | dsimp only

theorem junctionReading_fr : ∀ a0 a1, Keeps 0x10000000000000001800000c0000000000380011040 a1 (junctionReading a0 a1) := by
  intros; unfold junctionReading
  (try dsimp only)
  have kJUNCTION_MAX := Fam.has_JUNCTION_MAX
  generalize OD.JUNCTION_MAX = fJUNCTION_MAX at kJUNCTION_MAX ⊢
  have kJUNCTION_TEMP := Fam.has_JUNCTION_TEMP
  generalize OD.JUNCTION_TEMP = fJUNCTION_TEMP at kJUNCTION_TEMP ⊢
  repeat' first
    | with_reducible exact Keeps.refl _ _
    | (with_reducible apply Keeps.step (demandWake_fr ..); decide)
    | (with_reducible apply Keeps.step (tempHighCheck_fr ..); decide)
    | (with_reducible apply Keeps.setI .JUNCTION_MAX ?_ (kJUNCTION_MAX ..) ?_; decide)
    | (with_reducible apply Keeps.setI .JUNCTION_TEMP ?_ (kJUNCTION_TEMP ..) ?_; decide)
    | split
    | intro _
    | dsimp only

theorem execJunctionTempSample_fr : ∀ a0 a1 t, (execJunctionTempSample a0 a1) = .next t → Keeps 0x10000000000000001800000c0000000000380011040 a1 t := by
  intros; rename_i h; unfold execJunctionTempSample at h; replace h := Host.Outcome.next.inj h; subst h
  (try dsimp only)
  repeat' first
    | with_reducible exact Keeps.refl _ _
    | (with_reducible apply Keeps.step (junctionReading_fr ..); decide)
    | split
    | intro _
    | dsimp only

/-! ### Machine/Proof.lean -/

theorem modPrf_fr : ∀ a0 a1 a2, Keeps 0x4000000 a2 (modPrf a0 a1 a2) := by
  intros; unfold modPrf
  (try dsimp only)
  repeat' first
    | with_reducible exact Keeps.refl _ _
    | split
    | intro _
    | dsimp only
    | (with_reducible apply Keeps.upd_prf; decide)

theorem prfEvent_fr : ∀ a0 a1 a2 a3, Keeps 0x10000000000000000000000c0000000000280011040 a3 (prfEvent a0 a1 a2 a3) := by
  intros; unfold prfEvent
  (try dsimp only)
  repeat' first
    | with_reducible exact Keeps.refl _ _
    | (with_reducible apply Keeps.step (raise_fr ..); decide)
    | split
    | intro _
    | dsimp only

theorem closeWindow_fr : ∀ a0 a1 a2 a3, Keeps 0x10100000000000000000000c000000000029c011040 a3 (closeWindow a0 a1 a2 a3) := by
  intros; unfold closeWindow
  (try dsimp only)
  have kSUMMARIES_LOST := Fam.has_SUMMARIES_LOST
  generalize OD.SUMMARIES_LOST = fSUMMARIES_LOST at kSUMMARIES_LOST ⊢
  repeat' first
    | with_reducible exact Keeps.refl _ _
    | (with_reducible apply Keeps.step (dramWrite_fr ..); decide)
    | (with_reducible apply Keeps.step (modPrf_fr ..); decide)
    | (with_reducible apply Keeps.step (prfEvent_fr ..); decide)
    | (with_reducible apply Keeps.bump .SUMMARIES_LOST ?_ (kSUMMARIES_LOST ..) ?_; decide)
    | split
    | intro _
    | dsimp only

theorem openWindow_fr : ∀ a0 a1 a2, Keeps 0x4000000 a2 (openWindow a0 a1 a2) := by
  intros; unfold openWindow
  (try dsimp only)
  repeat' first
    | with_reducible exact Keeps.refl _ _
    | (with_reducible apply Keeps.step (modPrf_fr ..); decide)
    | split
    | intro _
    | dsimp only

theorem renderDot_fr : ∀ a0 a1 a2 a3 a4 a5 a6, Keeps 0x4000000 a6 (renderDot a0 a1 a2 a3 a4 a5 a6) := by
  intros; unfold renderDot
  (try dsimp only)
  repeat' first
    | with_reducible exact Keeps.refl _ _
    | (with_reducible apply Keeps.step (modPrf_fr ..); decide)
    | (with_reducible apply Keeps.step (openWindow_fr ..); decide)
    | split
    | intro _
    | dsimp only

theorem renderBody_fr : ∀ a0 a1 a2, Keeps 0x4000000 a2 (renderBody a0 a1 a2) := by
  intros; unfold renderBody
  (try dsimp only)
  repeat' first
    | with_reducible exact Keeps.refl _ _
    | (with_reducible apply Keeps.step (renderDot_fr ..); decide)
    | with_reducible apply Keeps.eachDo
    | split
    | intro _
    | dsimp only

theorem closeWindows_fr : ∀ a0, Keeps 0x10100000000000000000000c000000000029c011040 a0 (closeWindows a0) := by
  intros; unfold closeWindows
  (try dsimp only)
  repeat' first
    | with_reducible exact Keeps.refl _ _
    | (with_reducible apply Keeps.step (closeWindow_fr ..); decide)
    | with_reducible apply Keeps.eachDo
    | split
    | intro _
    | dsimp only

theorem limitWindows_fr : ∀ a0, Keeps 0x10100000000000000000000c000000000029c011040 a0 (limitWindows a0) := by
  intros; unfold limitWindows
  (try dsimp only)
  repeat' first
    | with_reducible exact Keeps.refl _ _
    | (with_reducible apply Keeps.step (closeWindow_fr ..); decide)
    | with_reducible apply Keeps.eachDo
    | split
    | intro _
    | dsimp only

theorem renderSlots_fr : ∀ a0 a1 a2, Keeps 0x10100000000000000000000c000000000029c011040 a2 (renderSlots a0 a1 a2) := by
  intros; unfold renderSlots
  (try dsimp only)
  repeat' first
    | with_reducible exact Keeps.refl _ _
    | (with_reducible apply Keeps.step (closeWindows_fr ..); decide)
    | (with_reducible apply Keeps.step (limitWindows_fr ..); decide)
    | (with_reducible apply Keeps.step (renderBody_fr ..); decide)
    | with_reducible apply Keeps.eachDo
    | split
    | intro _
    | dsimp only

theorem summaryExpiry_fr : ∀ a0, Keeps 0x4000000 a0 (summaryExpiry a0) := by
  intros; unfold summaryExpiry
  (try dsimp only)
  repeat' first
    | with_reducible exact Keeps.refl _ _
    | (with_reducible apply Keeps.step (modPrf_fr ..); decide)
    | with_reducible apply Keeps.eachDo
    | split
    | intro _
    | dsimp only

theorem noteMatched_fr : ∀ a0 a1 a2, Keeps 0x4000000 a2 (noteMatched a0 a1 a2) := by
  intros; unfold noteMatched
  (try dsimp only)
  repeat' first
    | with_reducible exact Keeps.refl _ _
    | (with_reducible apply Keeps.step (modPrf_fr ..); decide)
    | split
    | intro _
    | dsimp only

theorem prfRequest_fr : ∀ a0 a1 a2 a3 a4, Keeps 0x1000000e000000100000000c0000200000298099140 a4 (prfRequest a0 a1 a2 a3 a4).2 := by
  intros; unfold prfRequest
  (try dsimp only)
  have kLOOP_LATE := Fam.has_LOOP_LATE
  generalize OD.LOOP_LATE = fLOOP_LATE at kLOOP_LATE ⊢
  have kREQUESTS := Fam.has_REQUESTS
  generalize OD.REQUESTS = fREQUESTS at kREQUESTS ⊢
  have kREQUESTS_REFUSED := Fam.has_REQUESTS_REFUSED
  generalize OD.REQUESTS_REFUSED = fREQUESTS_REFUSED at kREQUESTS_REFUSED ⊢
  repeat' first
    | with_reducible exact Keeps.refl _ _
    | (with_reducible apply Keeps.step (prfEvent_fr ..); decide)
    | (with_reducible apply Keeps.step (requestChange_fr ..); decide)
    | (with_reducible apply Keeps.step (Keeps.snd (by assumption) (requestChange_fr ..)); decide)
    | (with_reducible apply Keeps.bump .LOOP_LATE ?_ (kLOOP_LATE ..) ?_; decide)
    | (with_reducible apply Keeps.bump .REQUESTS ?_ (kREQUESTS ..) ?_; decide)
    | (with_reducible apply Keeps.bump .REQUESTS_REFUSED ?_ (kREQUESTS_REFUSED ..) ?_; decide)
    | split
    | intro _
    | dsimp only

theorem payFinding_fr : ∀ a0 a1, Keeps 0x10000000000000000000000c000000000021c019140 a1 (payFinding a0 a1) := by
  intros; unfold payFinding
  (try dsimp only)
  repeat' first
    | with_reducible exact Keeps.refl _ _
    | (with_reducible apply Keeps.step (putRecord_fr ..); decide)
    | split
    | intro _
    | dsimp only
    | (with_reducible apply Keeps.upd_prf; decide)

theorem payFindings_fr : ∀ a0 a1, Keeps 0x10000000000000000000000c000000000021c019140 a1 (payFindings a0 a1) := by
  intros; unfold payFindings
  (try dsimp only)
  repeat' first
    | with_reducible exact Keeps.refl _ _
    | (with_reducible apply Keeps.step (payFinding_fr ..); decide)
    | with_reducible apply Keeps.eachDo
    | split
    | intro _
    | dsimp only

theorem putFinding_fr : ∀ a0 a1 a2, Keeps 0x10000000000000000000000c000000000021c019140 a2 (putFinding a0 a1 a2) := by
  intros; unfold putFinding
  (try dsimp only)
  repeat' first
    | with_reducible exact Keeps.refl _ _
    | (with_reducible apply Keeps.step (payFindings_fr ..); decide)
    | (with_reducible apply tryRecord_fr ?_ (by decide))
    | split
    | intro _
    | dsimp only
    | (with_reducible apply Keeps.upd_prf; decide)

theorem setHealth_fr : ∀ a0 a1 a2, Keeps 0x80000 a2 (setHealth a0 a1 a2) := by
  intros; unfold setHealth
  (try dsimp only)
  repeat' first
    | with_reducible exact Keeps.refl _ _
    | (with_reducible apply Keeps.step (setFolded_fr ..); decide)
    | split
    | intro _
    | dsimp only

theorem keepFinding_fr : ∀ a0 a1 a2, Keeps 0x4000000 a2 (keepFinding a0 a1 a2) := by
  intros; unfold keepFinding
  (try dsimp only)
  repeat' first
    | with_reducible exact Keeps.refl _ _
    | split
    | intro _
    | dsimp only
    | (with_reducible apply Keeps.upd_prf; decide)

theorem startTrial_fr : ∀ a0 a1 a2 a3 a4 a5, Keeps 0x11000000e000000100000000c000020000029c099140 a5 (startTrial a0 a1 a2 a3 a4 a5) := by
  intros; unfold startTrial
  (try dsimp only)
  have kTRIALS := Fam.has_TRIALS
  generalize OD.TRIALS = fTRIALS at kTRIALS ⊢
  repeat' first
    | with_reducible exact Keeps.refl _ _
    | (with_reducible apply Keeps.step (keepFinding_fr ..); decide)
    | (with_reducible apply Keeps.step (prfEvent_fr ..); decide)
    | (with_reducible apply Keeps.step (prfRequest_fr ..); decide)
    | (with_reducible apply Keeps.step (Keeps.snd (by assumption) (prfRequest_fr ..)); decide)
    | (with_reducible apply Keeps.step (putFinding_fr ..); decide)
    | (with_reducible apply Keeps.bump .TRIALS ?_ (kTRIALS ..) ?_; decide)
    | split
    | intro _
    | dsimp only
    | (with_reducible apply Keeps.upd_prf; decide)

theorem nextCandidate_fr : ∀ a0 a1 a2 a3 a4, Keeps 0x51000000e000000100000000c000020000029c099140 a4 (nextCandidate a0 a1 a2 a3 a4) := by
  intros; unfold nextCandidate
  (try dsimp only)
  have kUNRESOLVED := Fam.has_UNRESOLVED
  generalize OD.UNRESOLVED = fUNRESOLVED at kUNRESOLVED ⊢
  repeat' first
    | with_reducible exact Keeps.refl _ _
    | (with_reducible apply Keeps.step (prfEvent_fr ..); decide)
    | (with_reducible apply Keeps.step (putFinding_fr ..); decide)
    | (with_reducible apply Keeps.step (setHealth_fr ..); decide)
    | (with_reducible apply Keeps.step (startTrial_fr ..); decide)
    | (with_reducible apply Keeps.bump .UNRESOLVED ?_ (kUNRESOLVED ..) ?_; decide)
    | split
    | intro _
    | dsimp only

theorem judgeTrial_fr : ∀ a0 a1 a2 a3 a4, Keeps 0x51000000e000000100000000c000020000029c099140 a4 (judgeTrial a0 a1 a2 a3 a4) := by
  intros; unfold judgeTrial
  (try dsimp only)
  repeat' first
    | with_reducible exact Keeps.refl _ _
    | (with_reducible apply Keeps.step (nextCandidate_fr ..); decide)
    | (with_reducible apply Keeps.step (prfEvent_fr ..); decide)
    | (with_reducible apply Keeps.step (prfRequest_fr ..); decide)
    | (with_reducible apply Keeps.step (Keeps.snd (by assumption) (prfRequest_fr ..)); decide)
    | (with_reducible apply Keeps.step (putFinding_fr ..); decide)
    | (with_reducible apply Keeps.step (setHealth_fr ..); decide)
    | split
    | intro _
    | dsimp only
    | (with_reducible apply Keeps.upd_prf; decide)

theorem actOn_fr : ∀ a0 a1 a2 a3 a4, Keeps 0x11000000e000000100000040c000020000029c099140 a4 (actOn a0 a1 a2 a3 a4) := by
  intros; unfold actOn
  (try dsimp only)
  have kFINDINGS := Fam.has_FINDINGS
  generalize OD.FINDINGS = fFINDINGS at kFINDINGS ⊢
  repeat' first
    | with_reducible exact Keeps.refl _ _
    | (with_reducible apply Keeps.step (prfEvent_fr ..); decide)
    | (with_reducible apply Keeps.step (putFinding_fr ..); decide)
    | (with_reducible apply Keeps.step (setHealth_fr ..); decide)
    | (with_reducible apply Keeps.step (startTrial_fr ..); decide)
    | (with_reducible apply Keeps.bump .FINDINGS ?_ (kFINDINGS ..) ?_; decide)
    | split
    | intro _
    | dsimp only
    | (with_reducible apply Keeps.upd_prf; decide)

theorem decayHealth_fr : ∀ a0 a1 a2 a3 a4 a5, Keeps 0x80000 a5 (decayHealth a0 a1 a2 a3 a4 a5) := by
  intros; unfold decayHealth
  (try dsimp only)
  repeat' first
    | with_reducible exact Keeps.refl _ _
    | (with_reducible apply Keeps.step (setHealth_fr ..); decide)
    | with_reducible apply Keeps.eachDo
    | split
    | intro _
    | dsimp only

theorem journalHealth_fr : ∀ a0 a1, Keeps 0x80000000 a1 (journalHealth a0 a1) := by
  intros; unfold journalHealth
  (try dsimp only)
  repeat' first
    | with_reducible exact Keeps.refl _ _
    | (with_reducible apply Keeps.step (openRecord_fr ..); decide)
    | with_reducible apply Keeps.eachDo
    | split
    | intro _
    | dsimp only

theorem windowRecord_fr : ∀ a0 a1 a2 a3 a4 a5 a6 a7 a8, Keeps 0x10000000004000000000000c000000000029c019140 a8 (windowRecord a0 a1 a2 a3 a4 a5 a6 a7 a8) := by
  intros; unfold windowRecord
  (try dsimp only)
  have kPRF_RECORDS_LOST := Fam.has_PRF_RECORDS_LOST
  generalize OD.PRF_RECORDS_LOST = fPRF_RECORDS_LOST at kPRF_RECORDS_LOST ⊢
  repeat' first
    | with_reducible exact Keeps.refl _ _
    | (with_reducible apply Keeps.step (modPrf_fr ..); decide)
    | (with_reducible apply Keeps.step (payFindings_fr ..); decide)
    | (with_reducible apply Keeps.step (prfEvent_fr ..); decide)
    | (with_reducible apply tryRecord_fr ?_ (by decide))
    | (with_reducible apply Keeps.bump .PRF_RECORDS_LOST ?_ (kPRF_RECORDS_LOST ..) ?_; decide)
    | split
    | intro _
    | dsimp only

theorem returnFrame_fr : ∀ a0 a1 a2, Keeps 0x2000100 a2 (returnFrame a0 a1 a2) := by
  intros; unfold returnFrame
  (try dsimp only)
  repeat' first
    | with_reducible exact Keeps.refl _ _
    | (with_reducible apply Keeps.step (modCam_fr ..); decide)
    | (with_reducible apply Keeps.step (moveLedger_fr ..); decide)
    | split
    | intro _
    | dsimp only

theorem poisonFrame_fr : ∀ a0 a1, Keeps 0x2000000 a1 (poisonFrame a0 a1) := by
  intros; unfold poisonFrame
  (try dsimp only)
  repeat' first
    | with_reducible exact Keeps.refl _ _
    | (with_reducible apply Keeps.step (modCam_fr ..); decide)
    | with_reducible apply Keeps.eachDo
    | split
    | intro _
    | dsimp only

theorem skipFrame_fr : ∀ a0 a1 a2 a3 a4, Keeps 0x10000000004000000001000c000000000029e019140 a4 (skipFrame a0 a1 a2 a3 a4) := by
  intros; unfold skipFrame
  (try dsimp only)
  have kFRAMES_SKIPPED := Fam.has_FRAMES_SKIPPED
  generalize OD.FRAMES_SKIPPED = fFRAMES_SKIPPED at kFRAMES_SKIPPED ⊢
  repeat' first
    | with_reducible exact Keeps.refl _ _
    | (with_reducible apply Keeps.step (noteMatched_fr ..); decide)
    | (with_reducible apply Keeps.step (prfEvent_fr ..); decide)
    | (with_reducible apply Keeps.step (returnFrame_fr ..); decide)
    | (with_reducible apply Keeps.step (windowRecord_fr ..); decide)
    | (with_reducible apply Keeps.bump .FRAMES_SKIPPED ?_ (kFRAMES_SKIPPED ..) ?_; decide)
    | split
    | intro _
    | dsimp only

theorem inspect_fr : ∀ a0 a1 a2 a3, Keeps 0x2051000000e004000100000040c000020000029e099140 a3 (inspect a0 a1 a2 a3) := by
  intros; unfold inspect
  (try dsimp only)
  have kFINDINGS := Fam.has_FINDINGS
  generalize OD.FINDINGS = fFINDINGS at kFINDINGS ⊢
  have kWINDOWS_INSPECTED := Fam.has_WINDOWS_INSPECTED
  generalize OD.WINDOWS_INSPECTED = fWINDOWS_INSPECTED at kWINDOWS_INSPECTED ⊢
  repeat' first
    | with_reducible exact Keeps.refl _ _
    | (with_reducible apply Keeps.step (actOn_fr ..); decide)
    | (with_reducible apply Keeps.step (decayHealth_fr ..); decide)
    | (with_reducible apply Keeps.step (journalHealth_fr ..); decide)
    | (with_reducible apply Keeps.step (judgeTrial_fr ..); decide)
    | (with_reducible apply Keeps.step (modPrf_fr ..); decide)
    | (with_reducible apply Keeps.step (prfEvent_fr ..); decide)
    | (with_reducible apply Keeps.step (putFinding_fr ..); decide)
    | (with_reducible apply Keeps.step (returnFrame_fr ..); decide)
    | (with_reducible apply Keeps.step (windowRecord_fr ..); decide)
    | with_reducible apply Keeps.eachDo
    | (with_reducible apply Keeps.bump .FINDINGS ?_ (kFINDINGS ..) ?_; decide)
    | (with_reducible apply Keeps.bump .WINDOWS_INSPECTED ?_ (kWINDOWS_INSPECTED ..) ?_; decide)
    | split
    | intro _
    | dsimp only

theorem windowProcessed_fr : ∀ a0 a1, Keeps 0x2051000000e004000100001040c000020000029e099140 a1 (windowProcessed a0 a1) := by
  intros; unfold windowProcessed
  (try dsimp only)
  repeat' first
    | with_reducible exact Keeps.refl _ _
    | (with_reducible apply Keeps.step (inspect_fr ..); decide)
    | (with_reducible apply Keeps.step (returnFrame_fr ..); decide)
    | (with_reducible apply Keeps.step (skipFrame_fr ..); decide)
    | split
    | intro _
    | dsimp only

theorem confirmFinding_fr : ∀ a0 a1, Keeps 0x1000000e000000100000000c000020000029c099140 a1 (confirmFinding a0 a1).2 := by
  intros; unfold confirmFinding
  (try dsimp only)
  repeat' first
    | with_reducible exact Keeps.refl _ _
    | (with_reducible apply Keeps.step (prfRequest_fr ..); decide)
    | (with_reducible apply Keeps.step (Keeps.snd (by assumption) (prfRequest_fr ..)); decide)
    | (with_reducible apply Keeps.step (putFinding_fr ..); decide)
    | split
    | intro _
    | dsimp only

theorem prfClear_fr : ∀ a0, Keeps 0x6000100 a0 (prfClear a0) := by
  intros; unfold prfClear
  (try dsimp only)
  repeat' first
    | with_reducible exact Keeps.refl _ _
    | (with_reducible apply Keeps.step (freeHolder_fr ..); decide)
    | (with_reducible apply Keeps.step (modCam_fr ..); decide)
    | with_reducible apply Keeps.eachDo
    | split
    | intro _
    | dsimp only
    | (with_reducible apply Keeps.upd_prf; decide)

theorem changeOf_fr : ∀ a0 a1, Keeps 0x210000001000000000000000c00000000002843b1d40 a1 (changeOf a0 a1) := by
  intros; unfold changeOf
  (try dsimp only)
  repeat' first
    | with_reducible exact Keeps.refl _ _
    | (with_reducible apply Keeps.step (composeLine_fr ..); decide)
    | (with_reducible apply Keeps.step (foldFirst_fr ..); decide)
    | with_reducible apply Keeps.whenDo
    | split
    | intro _
    | dsimp only

theorem afterChanges_fr : ∀ a0, Keeps 0x210000001000000000000000c00000000002843b1d40 a0 (afterChanges a0) := by
  intros; unfold afterChanges
  (try dsimp only)
  repeat' first
    | with_reducible exact Keeps.refl _ _
    | (with_reducible apply Keeps.step (changeOf_fr ..); decide)
    | with_reducible apply Keeps.eachDo
    | split
    | intro _
    | dsimp only

theorem changesFirst_fr : ∀ a0, Keeps 0x210000001000000000000000c00000000002843b1d40 a0 (changesFirst a0) := by
  intros; unfold changesFirst
  (try dsimp only)
  repeat' first
    | with_reducible exact Keeps.refl _ _
    | (with_reducible apply Keeps.step (afterChanges_fr ..); decide)
    | split
    | intro _
    | dsimp only
    | (with_reducible apply Keeps.upd_prf; decide)

theorem execWindowProcessed_fr : ∀ a0 a1 t, (execWindowProcessed a0 a1) = .next t → Keeps 0x2071000000f004000100001040c000020000029e3b9d40 a1 t := by
  intros; rename_i h; unfold execWindowProcessed at h; replace h := Host.Outcome.next.inj h; subst h
  (try dsimp only)
  repeat' first
    | with_reducible exact Keeps.refl _ _
    | (with_reducible apply Keeps.step (changesFirst_fr ..); decide)
    | (with_reducible apply Keeps.step (windowProcessed_fr ..); decide)
    | with_reducible apply Keeps.whenDo
    | split
    | intro _
    | dsimp only

theorem returnsFirst_fr : ∀ a0, Keeps 0x2071000000f004000100001040c000020000029e3b9d40 a0 (returnsFirst a0) := by
  intros; unfold returnsFirst
  (try dsimp only)
  repeat' first
    | with_reducible exact Keeps.refl _ _
    | (with_reducible apply Keeps.step (changesFirst_fr ..); decide)
    | (with_reducible apply Keeps.step (modPrf_fr ..); decide)
    | (with_reducible apply Keeps.step (windowProcessed_fr ..); decide)
    | with_reducible apply Keeps.eachDo
    | split
    | intro _
    | dsimp only

theorem execFrameStart_fr : ∀ a0 a1 t, (execFrameStart a0 a1) = .next t → Keeps 0x2071100100f004000140003840c000020600029e3b9d70 a1 t := by
  intros; rename_i h; unfold execFrameStart at h; replace h := Host.Outcome.next.inj h; subst h
  (try dsimp only)
  repeat' first
    | with_reducible exact Keeps.refl _ _
    | (with_reducible apply Keeps.step (closeFrame_fr ..); decide)
    | (with_reducible apply Keeps.step (openFrame_fr ..); decide)
    | (with_reducible apply Keeps.step (returnsFirst_fr ..); decide)
    | with_reducible apply Keeps.whenDo
    | split
    | intro _
    | dsimp only

/-! ### Machine/Ductor.lean -/

theorem modXfer_fr : ∀ a0 a1 a2, Keeps 0x4000 a2 (modXfer a0 a1 a2) := by
  intros; unfold modXfer
  (try dsimp only)
  repeat' first
    | with_reducible exact Keeps.refl _ _
    | (with_reducible apply Keeps.step (modRing_fr ..); decide)
    | split
    | intro _
    | dsimp only

theorem retireRecords_fr : ∀ a0 a1 a2, Keeps 0x18140 a2 (retireRecords a0 a1 a2) := by
  intros; unfold retireRecords
  (try dsimp only)
  repeat' first
    | with_reducible exact Keeps.refl _ _
    | (with_reducible apply Keeps.step (moveLedger_fr ..); decide)
    | split
    | intro _
    | dsimp only
    | (with_reducible apply Keeps.own_log; rfl; rfl; decide)
    | (with_reducible apply Keeps.own_dev; rfl; rfl; rfl; rfl; rfl; decide)
    | (with_reducible apply Keeps.upd_dev; decide; decide)
    | (with_reducible apply Keeps.upd_egress; decide; decide)
    | (with_reducible apply Keeps.own_dev; rfl; rfl; rfl; rfl; decide)

theorem accessHost_fr : ∀ a0 a1, Keeps 0x2000 a1 (accessHost a0 a1) := by
  intros; unfold accessHost
  (try dsimp only)
  repeat' first
    | with_reducible exact Keeps.refl _ _
    | split
    | intro _
    | dsimp only
    | (with_reducible apply Keeps.own_pcie; rfl; rfl; rfl; decide)
    | (with_reducible apply Keeps.own_msix; rfl; rfl; decide)
    | (with_reducible apply Keeps.own_hostWrites; rfl; rfl; rfl; decide)
    | (with_reducible apply Keeps.upd_pcie; decide; decide; decide)

theorem postWrite_fr : ∀ a0 a1 a2 a3 a4, Keeps 0x2000 a4 (postWrite a0 a1 a2 a3 a4) := by
  intros; unfold postWrite
  (try dsimp only)
  repeat' first
    | with_reducible exact Keeps.refl _ _
    | (with_reducible apply Keeps.step (accessHost_fr ..); decide)
    | split
    | intro _
    | dsimp only
    | (with_reducible apply Keeps.own_pcie; rfl; rfl; rfl; decide)
    | (with_reducible apply Keeps.own_msix; rfl; rfl; decide)
    | (with_reducible apply Keeps.own_hostWrites; rfl; rfl; rfl; decide)
    | (with_reducible apply Keeps.upd_pcie; decide; decide; decide)

theorem readHost_fr : ∀ a0 a1 a2 a3 a4, Keeps 0x2000 a4 (readHost a0 a1 a2 a3 a4) := by
  intros; unfold readHost
  (try dsimp only)
  repeat' first
    | with_reducible exact Keeps.refl _ _
    | (with_reducible apply Keeps.step (accessHost_fr ..); decide)
    | split
    | intro _
    | dsimp only

theorem discardXfer_fr : ∀ a0 a1, Keeps 0x10000a4100 a1 (discardXfer a0 a1) := by
  intros; unfold discardXfer
  (try dsimp only)
  repeat' first
    | with_reducible exact Keeps.refl _ _
    | (with_reducible apply Keeps.step (freeBlocksOf_fr ..); decide)
    | (with_reducible apply Keeps.step (modDisp_fr ..); decide)
    | (with_reducible apply Keeps.step (modRing_fr ..); decide)
    | (with_reducible apply Keeps.step (setStaging_fr ..); decide)
    | (with_reducible apply Keeps.withDemotion (fun _ _ _ => Keeps.mono (demoteCheck_fr ..) (by decide)); intro _)
    | split
    | intro _
    | dsimp only
    | (with_reducible apply Keeps.upd_comp; decide)

theorem haltRing_fr : ∀ a0 a1 a2 a3, Keeps 0x10000000000000000000000c00000000012800b5140 a3 (haltRing a0 a1 a2 a3) := by
  intros; unfold haltRing
  (try dsimp only)
  repeat' first
    | with_reducible exact Keeps.refl _ _
    | (with_reducible apply Keeps.step (discardXfer_fr ..); decide)
    | (with_reducible apply Keeps.step (modRing_fr ..); decide)
    | (with_reducible apply Keeps.step (raise_fr ..); decide)
    | split
    | intro _
    | dsimp only

theorem doorbell_fr : ∀ a0 a1 a2, Keeps 0x10000000000000000000000c000000000028001d040 a2 (doorbell a0 a1 a2) := by
  intros; unfold doorbell
  (try dsimp only)
  repeat' first
    | with_reducible exact Keeps.refl _ _
    | (with_reducible apply Keeps.step (modRing_fr ..); decide)
    | (with_reducible apply Keeps.step (raise_fr ..); decide)
    | split
    | intro _
    | dsimp only
    | (with_reducible apply Keeps.upd_egress; decide; decide)

theorem execDoorbellWrite_fr : ∀ a0 a1 a2 t, (execDoorbellWrite a0 a1 a2) = .next t → Keeps 0x10000000000000000000000c000000000038001d040 a2 t := by
  intros; rename_i h; unfold execDoorbellWrite at h; replace h := Host.Outcome.next.inj h; subst h
  (try dsimp only)
  repeat' first
    | with_reducible exact Keeps.refl _ _
    | (with_reducible apply Keeps.step (doorbell_fr ..); decide)
    | (with_reducible apply Keeps.barAccess (fun _ => Keeps.mono (demandWake_fr ..) (by decide)) ?_ (by decide) (by decide) ?_)
    | split
    | intro _
    | dsimp only

theorem enableRing_fr : ∀ a0 a1, Keeps 0x4000 a1 (enableRing a0 a1) := by
  intros; unfold enableRing
  (try dsimp only)
  repeat' first
    | with_reducible exact Keeps.refl _ _
    | (with_reducible apply Keeps.step (modRing_fr ..); decide)
    | split
    | intro _
    | dsimp only

theorem stallLeft_fr : ∀ a0 a1, Keeps 0x10000000000000000000000c0000000000200019040 a1 (stallLeft a0 a1) := by
  intros; unfold stallLeft
  (try dsimp only)
  repeat' first
    | with_reducible exact Keeps.refl _ _
    | (with_reducible apply Keeps.step (stallCheck_fr ..); decide)
    | split
    | intro _
    | dsimp only

theorem execRingEnable_fr : ∀ a0 a1 t, (execRingEnable a0 a1) = .next t → Keeps 0x10000000000000000000000c000000000030001d040 a1 t := by
  intros; rename_i h; unfold execRingEnable at h; replace h := Host.Outcome.next.inj h; subst h
  (try dsimp only)
  repeat' first
    | with_reducible exact Keeps.refl _ _
    | (with_reducible apply Keeps.step (enableRing_fr ..); decide)
    | (with_reducible apply Keeps.step (stallLeft_fr ..); decide)
    | (with_reducible apply Keeps.barAccess (fun _ => Keeps.mono (demandWake_fr ..) (by decide)) ?_ (by decide) (by decide) ?_)
    | split
    | intro _
    | dsimp only

theorem unbind_fr : ∀ a0 a1, Keeps 0x20000 a1 (unbind a0 a1) := by
  intros; unfold unbind
  (try dsimp only)
  repeat' first
    | with_reducible exact Keeps.refl _ _
    | split
    | intro _
    | dsimp only
    | (with_reducible apply Keeps.upd_gal; decide)

theorem disableRing_fr : ∀ a0 a1, Keeps 0x10000a4100 a1 (disableRing a0 a1) := by
  intros; unfold disableRing
  (try dsimp only)
  repeat' first
    | with_reducible exact Keeps.refl _ _
    | (with_reducible apply Keeps.step (discardXfer_fr ..); decide)
    | (with_reducible apply Keeps.step (modRing_fr ..); decide)
    | (with_reducible apply Keeps.step (unbind_fr ..); decide)
    | split
    | intro _
    | dsimp only

theorem execRingDisable_fr : ∀ a0 a1 t, (execRingDisable a0 a1) = .next t → Keeps 0x13000a4100 a1 t := by
  intros; rename_i h; unfold execRingDisable at h; replace h := Host.Outcome.next.inj h; subst h
  (try dsimp only)
  repeat' first
    | with_reducible exact Keeps.refl _ _
    | (with_reducible apply Keeps.step (disableRing_fr ..); decide)
    | (with_reducible apply Keeps.barAccess (fun _ => Keeps.mono (demandWake_fr ..) (by decide)) ?_ (by decide) (by decide) ?_)
    | split
    | intro _
    | dsimp only

theorem stopRing_fr : ∀ a0 a1, Keeps 0x10000a4100 a1 (stopRing a0 a1) := by
  intros; unfold stopRing
  (try dsimp only)
  repeat' first
    | with_reducible exact Keeps.refl _ _
    | (with_reducible apply Keeps.step (discardXfer_fr ..); decide)
    | (with_reducible apply Keeps.step (modRing_fr ..); decide)
    | split
    | intro _
    | dsimp only

theorem execRingStop_fr : ∀ a0 a1 t, (execRingStop a0 a1) = .next t → Keeps 0x13000a4100 a1 t := by
  intros; rename_i h; unfold execRingStop at h; replace h := Host.Outcome.next.inj h; subst h
  (try dsimp only)
  repeat' first
    | with_reducible exact Keeps.refl _ _
    | (with_reducible apply Keeps.step (stopRing_fr ..); decide)
    | (with_reducible apply Keeps.barAccess (fun _ => Keeps.mono (demandWake_fr ..) (by decide)) ?_ (by decide) (by decide) ?_)
    | split
    | intro _
    | dsimp only

theorem resumeRing_fr : ∀ a0 a1, Keeps 0x4000 a1 (resumeRing a0 a1) := by
  intros; unfold resumeRing
  (try dsimp only)
  repeat' first
    | with_reducible exact Keeps.refl _ _
    | (with_reducible apply Keeps.step (modRing_fr ..); decide)
    | split
    | intro _
    | dsimp only

theorem execRingResume_fr : ∀ a0 a1 t, (execRingResume a0 a1) = .next t → Keeps 0x300004000 a1 t := by
  intros; rename_i h; unfold execRingResume at h; replace h := Host.Outcome.next.inj h; subst h
  (try dsimp only)
  repeat' first
    | with_reducible exact Keeps.refl _ _
    | (with_reducible apply Keeps.step (resumeRing_fr ..); decide)
    | (with_reducible apply Keeps.barAccess (fun _ => Keeps.mono (demandWake_fr ..) (by decide)) ?_ (by decide) (by decide) ?_)
    | split
    | intro _
    | dsimp only

theorem skipDesc_fr : ∀ a0 a1, Keeps 0x10000000000000000000000c000000000020001d040 a1 (skipDesc a0 a1) := by
  intros; unfold skipDesc
  (try dsimp only)
  repeat' first
    | with_reducible exact Keeps.refl _ _
    | (with_reducible apply Keeps.step (modRing_fr ..); decide)
    | (with_reducible apply Keeps.step (stallLeft_fr ..); decide)
    | split
    | intro _
    | dsimp only

theorem execRingSkip_fr : ∀ a0 a1 t, (execRingSkip a0 a1) = .next t → Keeps 0x10000000000000000000000c000000000030001d040 a1 t := by
  intros; rename_i h; unfold execRingSkip at h; replace h := Host.Outcome.next.inj h; subst h
  (try dsimp only)
  repeat' first
    | with_reducible exact Keeps.refl _ _
    | (with_reducible apply Keeps.step (skipDesc_fr ..); decide)
    | (with_reducible apply Keeps.barAccess (fun _ => Keeps.mono (demandWake_fr ..) (by decide)) ?_ (by decide) (by decide) ?_)
    | split
    | intro _
    | dsimp only

theorem targetWrite_fr : ∀ a0 a1 a2 a3, Keeps 0x18000008 a3 (targetWrite a0 a1 a2 a3) := by
  intros; unfold targetWrite
  (try dsimp only)
  repeat' first
    | with_reducible exact Keeps.refl _ _
    | (with_reducible apply Keeps.step (State.setDom_fr ..); decide)
    | (with_reducible apply Keeps.step (dramWrite_fr ..); decide)
    | (with_reducible apply Keeps.step (pushBufferWrite_fr ..); decide)
    | split
    | intro _
    | dsimp only

theorem raiseDescDone_fr : ∀ a0 a1 a2, Keeps 0x10000000000000000000000c0000000000200019040 a2 (raiseDescDone a0 a1 a2) := by
  intros; unfold raiseDescDone
  (try dsimp only)
  repeat' first
    | with_reducible exact Keeps.refl _ _
    | (with_reducible apply Keeps.step (routeEvent_fr ..); decide)
    | (with_reducible apply Keeps.step (stallCheck_fr ..); decide)
    | split
    | intro _
    | dsimp only

theorem galleyArrives_fr : ∀ a0 a1 a2 a3 a4, Keeps 0x400000000000024100 a4 (galleyArrives a0 a1 a2 a3 a4) := by
  intros; unfold galleyArrives
  (try dsimp only)
  have kDELIVERED_BYTES := Fam.has_DELIVERED_BYTES
  generalize OD.DELIVERED_BYTES = fDELIVERED_BYTES at kDELIVERED_BYTES ⊢
  repeat' first
    | with_reducible exact Keeps.refl _ _
    | (with_reducible apply Keeps.step (moveBlocks_fr ..); decide)
    | (with_reducible apply Keeps.step (passBlocks_fr ..); decide)
    | (with_reducible apply Keeps.withDemotion (fun _ _ _ => Keeps.mono (demoteCheck_fr ..) (by decide)); intro _)
    | (with_reducible apply Keeps.setO .DELIVERED_BYTES ?_ (kDELIVERED_BYTES ..) ?_; decide)
    | split
    | intro _
    | dsimp only

theorem creditGalley_fr : ∀ a0 a1 a2 a3 a4, Keeps 0x10080000000008000000080c04000000002803f5140 a4 (creditGalley a0 a1 a2 a3 a4) := by
  intros; unfold creditGalley
  (try dsimp only)
  repeat' first
    | with_reducible exact Keeps.refl _ _
    | (with_reducible apply Keeps.step (checkEnd_fr ..); decide)
    | (with_reducible apply Keeps.step (checkHeader_fr ..); decide)
    | (with_reducible apply Keeps.step (currentCheck_fr ..); decide)
    | (with_reducible apply Keeps.step (formeChecks_fr ..); decide)
    | (with_reducible apply Keeps.step (galleyArrives_fr ..); decide)
    | (with_reducible apply Keeps.step (linkChecks_fr ..); decide)
    | (with_reducible apply Keeps.step (modStream_fr ..); decide)
    | (with_reducible apply Keeps.step (releaseBlocks_fr ..); decide)
    | (with_reducible apply Keeps.step (underrunCheck_fr ..); decide)
    | split
    | intro _
    | dsimp only

theorem creditOrphan_fr : ∀ a0 a1 a2, Keeps 0x24100 a2 (creditOrphan a0 a1 a2) := by
  intros; unfold creditOrphan
  (try dsimp only)
  repeat' first
    | with_reducible exact Keeps.refl _ _
    | (with_reducible apply Keeps.step (freeBlocksOf_fr ..); decide)
    | (with_reducible apply Keeps.step (moveLedger_fr ..); decide)
    | with_reducible apply Keeps.eachDo
    | (with_reducible apply Keeps.withDemotion (fun _ _ _ => Keeps.mono (demoteCheck_fr ..) (by decide)); intro _)
    | split
    | intro _
    | dsimp only
    | (with_reducible apply Keeps.upd_gal; decide)

theorem completeDesc_fr : ∀ a0 a1, Keeps 0x10084000000018000000080c040020000039c3fd148 a1 (completeDesc a0 a1) := by
  intros; unfold completeDesc
  (try dsimp only)
  repeat' first
    | with_reducible exact Keeps.refl _ _
    | (with_reducible apply Keeps.step (coolRefill_fr ..); decide)
    | (with_reducible apply Keeps.step (creditGalley_fr ..); decide)
    | (with_reducible apply Keeps.step (creditOrphan_fr ..); decide)
    | (with_reducible apply Keeps.step (modRing_fr ..); decide)
    | (with_reducible apply Keeps.step (payFindings_fr ..); decide)
    | (with_reducible apply Keeps.step (pwrRecompute_fr ..); decide)
    | (with_reducible apply Keeps.step (raiseDescDone_fr ..); decide)
    | (with_reducible apply Keeps.step (retireRecords_fr ..); decide)
    | (with_reducible apply Keeps.step (setStaging_fr ..); decide)
    | (with_reducible apply Keeps.step (stallCheck_fr ..); decide)
    | (with_reducible apply Keeps.step (targetWrite_fr ..); decide)
    | split
    | intro _
    | dsimp only

theorem reserveStart_fr : ∀ a0 a1 a2, Keeps 0x10000000000000000000000c0000000000280035140 a2 (reserveStart a0 a1 a2) := by
  intros; unfold reserveStart
  (try dsimp only)
  repeat' first
    | with_reducible exact Keeps.refl _ _
    | (with_reducible apply Keeps.step (modRing_fr ..); decide)
    | (with_reducible apply Keeps.step (modXfer_fr ..); decide)
    | (with_reducible apply Keeps.step (preempt_fr ..); decide)
    | (with_reducible apply Keeps.step (raise_fr ..); decide)
    | (with_reducible apply Keeps.step (reserveBlocks_fr ..); decide)
    | (with_reducible apply Keeps.withDemotion (fun _ _ _ => Keeps.mono (demoteCheck_fr ..) (by decide)); intro _)
    | split
    | intro _
    | dsimp only

theorem startCheck_fr : ∀ a0 a1, Keeps 0x10000000000000000000000c0000000000280035140 a1 (startCheck a0 a1) := by
  intros; unfold startCheck
  (try dsimp only)
  repeat' first
    | with_reducible exact Keeps.refl _ _
    | (with_reducible apply Keeps.step (modRing_fr ..); decide)
    | (with_reducible apply Keeps.step (modXfer_fr ..); decide)
    | (with_reducible apply Keeps.step (preempt_fr ..); decide)
    | (with_reducible apply Keeps.step (raise_fr ..); decide)
    | (with_reducible apply Keeps.step (reserveStart_fr ..); decide)
    | split
    | intro _
    | dsimp only

theorem takeDesc_fr : ∀ a0 a1 a2, Keeps 0x10084000000018000000080c040020000139c3fd148 a2 (takeDesc a0 a1 a2) := by
  intros; unfold takeDesc
  (try dsimp only)
  repeat' first
    | with_reducible exact Keeps.refl _ _
    | (with_reducible apply Keeps.step (completeDesc_fr ..); decide)
    | (with_reducible apply Keeps.step (haltRing_fr ..); decide)
    | (with_reducible apply Keeps.step (modRing_fr ..); decide)
    | (with_reducible apply Keeps.step (modStream_fr ..); decide)
    | (with_reducible apply Keeps.step (promoteBound_fr ..); decide)
    | (with_reducible apply Keeps.step (startCheck_fr ..); decide)
    | split
    | intro _
    | dsimp only

theorem readDesc_fr : ∀ a0 a1, Keeps 0x2000 a1 (readDesc a0 a1) := by
  intros; unfold readDesc
  (try dsimp only)
  repeat' first
    | with_reducible exact Keeps.refl _ _
    | (with_reducible apply Keeps.step (readHost_fr ..); decide)
    | split
    | intro _
    | dsimp only

theorem execDescriptorFetched_fr : ∀ a0 a1 a2 t, (execDescriptorFetched a0 a1 a2) = .next t → Keeps 0x10084000000018000000080c040020000139c3ff148 a2 t := by
  intros; rename_i h; unfold execDescriptorFetched at h; replace h := Host.Outcome.next.inj h; subst h
  (try dsimp only)
  repeat' first
    | with_reducible exact Keeps.refl _ _
    | (with_reducible apply Keeps.step (haltRing_fr ..); decide)
    | (with_reducible apply Keeps.step (readDesc_fr ..); decide)
    | (with_reducible apply Keeps.step (takeDesc_fr ..); decide)
    | split
    | intro _
    | dsimp only

theorem execPoolWaitEnd_fr : ∀ a0 a1 t, (execPoolWaitEnd a0 a1) = .next t → Keeps 0x10000000000000000000000c0000000000280035140 a1 t := by
  intros; rename_i h; unfold execPoolWaitEnd at h; replace h := Host.Outcome.next.inj h; subst h
  (try dsimp only)
  repeat' first
    | with_reducible exact Keeps.refl _ _
    | (with_reducible apply Keeps.step (startCheck_fr ..); decide)
    | split
    | intro _
    | dsimp only

theorem execDuctRingResumed_fr : ∀ a0 a1 t, (execDuctRingResumed a0 a1) = .next t → Keeps 0x10000000000000000000000c0000000000280035140 a1 t := by
  intros; rename_i h; unfold execDuctRingResumed at h; replace h := Host.Outcome.next.inj h; subst h
  (try dsimp only)
  repeat' first
    | with_reducible exact Keeps.refl _ _
    | (with_reducible apply Keeps.step (startCheck_fr ..); decide)
    | split
    | intro _
    | dsimp only

theorem markTurn_fr : ∀ a0 a1 a2, Keeps 0x4000 a2 (markTurn a0 a1 a2) := by
  intros; unfold markTurn
  (try dsimp only)
  repeat' first
    | with_reducible exact Keeps.refl _ _
    | split
    | intro _
    | dsimp only
    | (with_reducible apply Keeps.upd_rings; decide)

theorem serveTurns_fr : ∀ n s, Keeps 0x4100 s (serveTurns n s) := by
  intro n; induction n with
  | zero => intros; exact Keeps.refl _ _
  | succ n ih =>
    intro s; unfold serveTurns; split
    · exact Keeps.refl _ _
    · refine (ih _).trans' ?_
      refine Keeps.step (preempt_fr ..) (by decide) ?_
      refine Keeps.step (modXfer_fr ..) (by decide) ?_
      refine Keeps.step (setStaging_fr ..) (by decide) ?_
      exact Keeps.step (markTurn_fr ..) (by decide) (Keeps.refl _ _)

theorem entryDone_fr : ∀ a0 a1, Keeps 0x10000000000000000000000c00000000012800b5140 a1 (entryDone a0 a1) := by
  intros; unfold entryDone
  (try dsimp only)
  repeat' first
    | with_reducible exact Keeps.refl _ _
    | (with_reducible apply Keeps.step (haltRing_fr ..); decide)
    | (with_reducible apply Keeps.step (modXfer_fr ..); decide)
    | split
    | intro _
    | dsimp only

theorem toHostTurn_fr : ∀ a0 a1 a2 a3, Keeps 0x10000000000000000000000c00000000012800b7140 a3 (toHostTurn a0 a1 a2 a3) := by
  intros; unfold toHostTurn
  (try dsimp only)
  repeat' first
    | with_reducible exact Keeps.refl _ _
    | (with_reducible apply Keeps.step (entryDone_fr ..); decide)
    | (with_reducible apply Keeps.step (modXfer_fr ..); decide)
    | (with_reducible apply Keeps.step (postWrite_fr ..); decide)
    | split
    | intro _
    | dsimp only

theorem pumpRecords_fr : ∀ r n s, Keeps 0x10000000000000000000000c00000000012800b7140 s (pumpRecords r n s) := by
  intro r n; induction n with
  | zero => intros; exact Keeps.refl _ _
  | succ n ih =>
    intros; unfold pumpRecords; dsimp only
    repeat' first
      | with_reducible exact Keeps.refl _ _
      | (with_reducible apply Keeps.step (entryDone_fr ..); decide)
      | (with_reducible apply Keeps.step (modXfer_fr ..); decide)
      | (with_reducible apply Keeps.step (postWrite_fr ..); decide)
      | with_reducible apply (ih _).trans'
      | split

theorem outTurn_fr : ∀ a0 a1, Keeps 0x10000000000000000000000c00000000012800b7140 a1 (outTurn a0 a1) := by
  intros; unfold outTurn
  (try dsimp only)
  repeat' first
    | with_reducible exact Keeps.refl _ _
    | (with_reducible apply Keeps.step (pumpRecords_fr ..); decide)
    | (with_reducible apply Keeps.step (toHostTurn_fr ..); decide)
    | split
    | intro _
    | dsimp only

theorem serveOut_fr : ∀ n s, Keeps 0x10000000000000000000000c00000000012800b7140 s (serveOut n s) := by
  intro n; induction n with
  | zero => intros; exact Keeps.refl _ _
  | succ n ih =>
    intro s; unfold serveOut; split
    · exact Keeps.refl _ _
    · refine (ih _).trans' ?_
      refine Keeps.step (outTurn_fr ..) (by decide) ?_
      exact Keeps.step (markTurn_fr ..) (by decide) (Keeps.refl _ _)

theorem moveOut_fr : ∀ a0, Keeps 0x10000000000000000000000c00000000012800b7140 a0 (moveOut a0) := by
  intros; unfold moveOut
  (try dsimp only)
  repeat' first
    | with_reducible exact Keeps.refl _ _
    | (with_reducible apply Keeps.step (serveOut_fr ..); decide)
    | split
    | intro _
    | dsimp only

theorem takeEntry_fr : ∀ a0 a1 a2 a3, Keeps 0x10000000000000000000000c00000000012800b7140 a3 (takeEntry a0 a1 a2 a3) := by
  intros; unfold takeEntry
  (try dsimp only)
  repeat' first
    | with_reducible exact Keeps.refl _ _
    | (with_reducible apply Keeps.step (entryDone_fr ..); decide)
    | (with_reducible apply Keeps.step (haltRing_fr ..); decide)
    | (with_reducible apply Keeps.step (modXfer_fr ..); decide)
    | (with_reducible apply Keeps.step (moveOut_fr ..); decide)
    | (with_reducible apply Keeps.step (serveTurns_fr ..); decide)
    | split
    | intro _
    | dsimp only

theorem execSgEntryRead_fr : ∀ a0 a1 a2 t, (execSgEntryRead a0 a1 a2) = .next t → Keeps 0x10000000000000000000000c00000000012800b7140 a2 t := by
  intros; rename_i h; unfold execSgEntryRead at h; replace h := Host.Outcome.next.inj h; subst h
  (try dsimp only)
  repeat' first
    | with_reducible exact Keeps.refl _ _
    | (with_reducible apply Keeps.step (haltRing_fr ..); decide)
    | (with_reducible apply Keeps.step (readHost_fr ..); decide)
    | (with_reducible apply Keeps.step (takeEntry_fr ..); decide)
    | split
    | intro _
    | dsimp only

theorem landData_fr : ∀ r x bs s, Keeps 0x58004000 s (landData r x bs s) := by
  intro r x bs s; unfold landData; split
  · split
    · exact Keeps.refl _ _
    · have h : ∀ (l : List (Nat × Byte)) (st : Stream) (y : State), Keeps 0x58004000 y (l.foldl (fun s ib =>
          match streamAddress st (x.desc.offset + x.moved + ib.1) s with
          | some a => dramWrite a [ib.2] s
          | none => s) y) := by
        intro l st; induction l with
        | nil => intro y; exact Keeps.refl _ _
        | cons b l ih =>
          intro y
          refine Keeps.trans ?_ (ih _)
          dsimp only
          split
          · exact Keeps.mono (dramWrite_fr ..) (by decide)
          · exact Keeps.refl _ _
      exact h _ _ _
  · dsimp only
    refine Keeps.step (modXfer_fr ..) (by decide) ?_
    split
    · exact (imageStore_fr _ _ _).mono (by decide)
    · exact Keeps.refl _ _

theorem feedTable_fr : ∀ a0 a1, Keeps 0x84000 a1 (feedTable a0 a1) := by
  intros; unfold feedTable
  (try dsimp only)
  repeat' first
    | with_reducible exact Keeps.refl _ _
    | (with_reducible apply Keeps.step (loadTable_fr ..); decide)
    | (with_reducible apply Keeps.step (modXfer_fr ..); decide)
    | split
    | intro _
    | dsimp only

theorem feedTables_fr : ∀ a0, Keeps 0x84000 a0 (feedTables a0) := by
  intros; unfold feedTables
  (try dsimp only)
  repeat' first
    | with_reducible exact Keeps.refl _ _
    | (with_reducible apply Keeps.step (feedTable_fr ..); decide)
    | with_reducible apply Keeps.eachDo
    | split
    | intro _
    | dsimp only

theorem moveData_fr : ∀ a0 a1 a2 a3 a4, Keeps 0x10000000000000000000000c00000000012d80b5140 a4 (moveData a0 a1 a2 a3 a4) := by
  intros; unfold moveData
  (try dsimp only)
  repeat' first
    | with_reducible exact Keeps.refl _ _
    | (with_reducible apply Keeps.step (entryDone_fr ..); decide)
    | (with_reducible apply Keeps.step (feedTable_fr ..); decide)
    | (with_reducible apply Keeps.step (landData_fr ..); decide)
    | (with_reducible apply Keeps.step (modXfer_fr ..); decide)
    | (with_reducible apply Keeps.step (serveTurns_fr ..); decide)
    | (with_reducible apply Keeps.step (setStaging_fr ..); decide)
    | split
    | intro _
    | dsimp only

theorem execHostReadCompletion_fr : ∀ a0 a1 a2 t, (execHostReadCompletion a0 a1 a2) = .next t → Keeps 0x10000000000000000000000c00000000012d80b7140 a2 t := by
  intros; rename_i h; unfold execHostReadCompletion at h; replace h := Host.Outcome.next.inj h; subst h
  (try dsimp only)
  repeat' first
    | with_reducible exact Keeps.refl _ _
    | (with_reducible apply Keeps.step (haltRing_fr ..); decide)
    | (with_reducible apply Keeps.step (modXfer_fr ..); decide)
    | (with_reducible apply Keeps.step (moveData_fr ..); decide)
    | (with_reducible apply Keeps.step (readHost_fr ..); decide)
    | (with_reducible apply Keeps.step (serveTurns_fr ..); decide)
    | split
    | intro _
    | dsimp only

theorem execHostWriteFailure_fr : ∀ a0 a1 t, (execHostWriteFailure a0 a1) = .next t → Keeps 0x10000000000000000000000c00000000012800b5140 a1 t := by
  intros; rename_i h; unfold execHostWriteFailure at h; replace h := Host.Outcome.next.inj h; subst h
  (try dsimp only)
  repeat' first
    | with_reducible exact Keeps.refl _ _
    | (with_reducible apply Keeps.step (haltRing_fr ..); decide)
    | split
    | intro _
    | dsimp only

theorem execPcieCompletionTimeout_fr : ∀ a0 a1 t, (execPcieCompletionTimeout a0 a1) = .next t → Keeps 0x10000000000000000000000c00000000012800b5140 a1 t := by
  intros; rename_i h; unfold execPcieCompletionTimeout at h; replace h := Host.Outcome.next.inj h; subst h
  (try dsimp only)
  repeat' first
    | with_reducible exact Keeps.refl _ _
    | (with_reducible apply Keeps.step (haltRing_fr ..); decide)
    | (with_reducible apply Keeps.step (raise_fr ..); decide)
    | split
    | intro _
    | dsimp only

theorem execRetainedTransferResume_fr : ∀ a0 a1 t, (execRetainedTransferResume a0 a1) = .next t → Keeps 0x10000000000000000000000c00000000012d80b7140 a1 t := by
  intros; rename_i h; unfold execRetainedTransferResume at h; replace h := Host.Outcome.next.inj h; subst h
  (try dsimp only)
  repeat' first
    | with_reducible exact Keeps.refl _ _
    | (with_reducible apply Keeps.step (moveData_fr ..); decide)
    | (with_reducible apply Keeps.step (moveOut_fr ..); decide)
    | (with_reducible apply Keeps.step (setStaging_fr ..); decide)
    | split
    | intro _
    | dsimp only

theorem endRecords_fr : ∀ a0 a1 a2, Keeps 0x2000 a2 (endRecords a0 a1 a2) := by
  intros; unfold endRecords
  (try dsimp only)
  repeat' first
    | with_reducible exact Keeps.refl _ _
    | (with_reducible apply Keeps.step (postWrite_fr ..); decide)
    | split
    | intro _
    | dsimp only

theorem finishDevice_fr : ∀ a0 a1 a2, Keeps 0x10084000000018000000080c04002000013dc3fd148 a2 (finishDevice a0 a1 a2) := by
  intros; unfold finishDevice
  (try dsimp only)
  repeat' first
    | with_reducible exact Keeps.refl _ _
    | (with_reducible apply Keeps.step (completeDesc_fr ..); decide)
    | (with_reducible apply Keeps.step (haltRing_fr ..); decide)
    | (with_reducible apply Keeps.step (imageReached_fr ..); decide)
    | (with_reducible apply Keeps.step (Keeps.snd (by assumption) (imageReached_fr ..)); decide)
    | (with_reducible apply Keeps.step (modDisp_fr ..); decide)
    | split
    | intro _
    | dsimp only

theorem completeMoved_fr : ∀ a0 a1, Keeps 0x10084000000018000000080c04002000013dc3ff148 a1 (completeMoved a0 a1) := by
  intros; unfold completeMoved
  (try dsimp only)
  repeat' first
    | with_reducible exact Keeps.refl _ _
    | (with_reducible apply Keeps.step (completeDesc_fr ..); decide)
    | (with_reducible apply Keeps.step (endRecords_fr ..); decide)
    | (with_reducible apply Keeps.step (feedTable_fr ..); decide)
    | (with_reducible apply Keeps.step (finishDevice_fr ..); decide)
    | (with_reducible apply Keeps.step (moveOut_fr ..); decide)
    | split
    | intro _
    | dsimp only

theorem execDescriptorComplete_fr : ∀ a0 a1 t, (execDescriptorComplete a0 a1) = .next t → Keeps 0x10084000000018000000080c04002000013dc3ff148 a1 t := by
  intros; rename_i h; unfold execDescriptorComplete at h; replace h := Host.Outcome.next.inj h; subst h
  (try dsimp only)
  repeat' first
    | with_reducible exact Keeps.refl _ _
    | (with_reducible apply Keeps.step (completeMoved_fr ..); decide)
    | split
    | intro _
    | dsimp only

theorem flushRing_fr : ∀ a0 a1, Keeps 0x10084000000018000000080c040020000139c3ff148 a1 (flushRing a0 a1) := by
  intros; unfold flushRing
  (try dsimp only)
  repeat' first
    | with_reducible exact Keeps.refl _ _
    | (with_reducible apply Keeps.step (completeDesc_fr ..); decide)
    | (with_reducible apply Keeps.step (endRecords_fr ..); decide)
    | (with_reducible apply Keeps.step (moveOut_fr ..); decide)
    | split
    | intro _
    | dsimp only

theorem completionBy_fr : ∀ a0 a1 a2, Keeps 0x10084000000018000000080c04002000013dc3ff148 a2 (completionBy a0 a1 a2) := by
  intros; unfold completionBy
  (try dsimp only)
  repeat' first
    | with_reducible exact Keeps.refl _ _
    | (with_reducible apply Keeps.step (completeDesc_fr ..); decide)
    | (with_reducible apply Keeps.step (completeMoved_fr ..); decide)
    | (with_reducible apply Keeps.step (flushRing_fr ..); decide)
    | (with_reducible apply Keeps.step (modDisp_fr ..); decide)
    | (with_reducible apply Keeps.step (sendRest_fr ..); decide)
    | split
    | intro _
    | dsimp only

theorem completionsFirst_fr : ∀ a0 a1, Keeps 0x10084000000018000000080c04002000013dc3ff148 a1 (completionsFirst a0 a1) := by
  intros; unfold completionsFirst
  (try dsimp only)
  repeat' first
    | with_reducible exact Keeps.refl _ _
    | (with_reducible apply Keeps.step (completionBy_fr ..); decide)
    | with_reducible apply Keeps.eachDo
    | split
    | intro _
    | dsimp only

theorem abortRing_fr : ∀ a0 a1, Keeps 0x100840000000180200000bec04002000013dc3ff1c8 a1 (abortRing a0 a1) := by
  intros; unfold abortRing
  (try dsimp only)
  repeat' first
    | with_reducible exact Keeps.refl _ _
    | (with_reducible apply Keeps.step (checkLedgers_fr ..); decide)
    | (with_reducible apply Keeps.step (completionsFirst_fr ..); decide)
    | (with_reducible apply Keeps.step (haltRing_fr ..); decide)
    | split
    | intro _
    | dsimp only

theorem execRingAbort_fr : ∀ a0 a1 t, (execRingAbort a0 a1) = .next t → Keeps 0x100840000000180200000bec04002000013dc3ff1c8 a1 t := by
  intros; rename_i h; unfold execRingAbort at h; replace h := Host.Outcome.next.inj h; subst h
  (try dsimp only)
  repeat' first
    | with_reducible exact Keeps.refl _ _
    | (with_reducible apply Keeps.step (abortRing_fr ..); decide)
    | (with_reducible apply Keeps.barAccess (fun _ => Keeps.mono (demandWake_fr ..) (by decide)) ?_ (by decide) (by decide) ?_)
    | split
    | intro _
    | dsimp only

theorem controlWrite_fr : ∀ a0 a1 a2, Keeps 0x100840000000180200000bec04002000013dc3ff1c8 a2 (controlWrite a0 a1 a2) := by
  intros; unfold controlWrite
  (try dsimp only)
  repeat' first
    | with_reducible exact Keeps.refl _ _
    | (with_reducible apply Keeps.step (abortRing_fr ..); decide)
    | (with_reducible apply Keeps.step (disableRing_fr ..); decide)
    | (with_reducible apply Keeps.step (enableRing_fr ..); decide)
    | (with_reducible apply Keeps.step (resumeRing_fr ..); decide)
    | (with_reducible apply Keeps.step (skipDesc_fr ..); decide)
    | (with_reducible apply Keeps.step (stallLeft_fr ..); decide)
    | (with_reducible apply Keeps.step (stopRing_fr ..); decide)
    | split
    | intro _
    | dsimp only

theorem execEgressFlushExpiry_fr : ∀ a0 a1 t, (execEgressFlushExpiry a0 a1) = .next t → Keeps 0x10084000000018000000080c040020000139c3ff148 a1 t := by
  intros; rename_i h; unfold execEgressFlushExpiry at h; replace h := Host.Outcome.next.inj h; subst h
  (try dsimp only)
  repeat' first
    | with_reducible exact Keeps.refl _ _
    | (with_reducible apply Keeps.step (flushRing_fr ..); decide)
    | split
    | intro _
    | dsimp only

theorem execEventLogOverflow_fr : ∀ a0 t, (execEventLogOverflow a0) = .next t → Keeps 0x10000000000000000000000c0000000000200019040 a0 t := by
  intros; rename_i h; unfold execEventLogOverflow at h; replace h := Host.Outcome.next.inj h; subst h
  (try dsimp only)
  repeat' first
    | with_reducible exact Keeps.refl _ _
    | (with_reducible apply Keeps.step (overflowRecord_fr ..); decide)
    | (with_reducible apply Keeps.step (stallCheck_fr ..); decide)
    | split
    | intro _
    | dsimp only

theorem hotResetRings_fr : ∀ a0, Keeps 0x10000000000000000000000c00000000012000bd140 a0 (hotResetRings a0) := by
  intros; unfold hotResetRings
  (try dsimp only)
  repeat' first
    | with_reducible exact Keeps.refl _ _
    | (with_reducible apply Keeps.step (discardXfer_fr ..); decide)
    | (with_reducible apply Keeps.step (modDisp_fr ..); decide)
    | (with_reducible apply Keeps.step (stallLeft_fr ..); decide)
    | (with_reducible apply Keeps.step (unbind_fr ..); decide)
    | with_reducible apply Keeps.eachDo
    | split
    | intro _
    | dsimp only
    | (with_reducible apply Keeps.upd_rings; decide)

/-! ### Machine/HeadLink.lean -/

theorem portEvent_fr : ∀ a0 a1 a2 a3, Keeps 0x10000000000000000000000c0000000000280011040 a3 (portEvent a0 a1 a2 a3) := by
  intros; unfold portEvent
  (try dsimp only)
  repeat' first
    | with_reducible exact Keeps.refl _ _
    | (with_reducible apply Keeps.step (raise_fr ..); decide)
    | split
    | intro _
    | dsimp only

theorem sendFrame_fr : ∀ a0 a1 a2, Keeps 0x200000 a2 (sendFrame a0 a1 a2) := by
  intros; unfold sendFrame
  (try dsimp only)
  repeat' first
    | with_reducible exact Keeps.refl _ _
    | (with_reducible apply Keeps.step (modPort_fr ..); decide)
    | split
    | intro _
    | dsimp only

theorem sendCommand_fr : ∀ a0 a1 a2 a3, Keeps 0x200000 a3 (sendCommand a0 a1 a2 a3) := by
  intros; unfold sendCommand
  (try dsimp only)
  repeat' first
    | with_reducible exact Keeps.refl _ _
    | (with_reducible apply Keeps.step (sendFrame_fr ..); decide)
    | split
    | intro _
    | dsimp only

theorem freshLink_fr : ∀ a0 a1, Keeps 0x200000 a1 (freshLink a0 a1) := by
  intros; unfold freshLink
  (try dsimp only)
  repeat' first
    | with_reducible exact Keeps.refl _ _
    | (with_reducible apply Keeps.step (modPort_fr ..); decide)
    | split
    | intro _
    | dsimp only

theorem backFrame_fr : ∀ a0 a1, Keeps 0x200000 a1 (backFrame a0 a1) := by
  intros; unfold backFrame
  (try dsimp only)
  repeat' first
    | with_reducible exact Keeps.refl _ _
    | (with_reducible apply Keeps.step (modPort_fr ..); decide)
    | split
    | intro _
    | dsimp only

theorem countLost_fr : ∀ a0 a1 a2, Keeps 0x200000 a2 (countLost a0 a1 a2) := by
  intros; unfold countLost
  (try dsimp only)
  repeat' first
    | with_reducible exact Keeps.refl _ _
    | (with_reducible apply Keeps.step (modPort_fr ..); decide)
    | split
    | intro _
    | dsimp only

theorem setPort_fr : ∀ a0 a1 a2, Keeps 0x300000 a2 (setPort a0 a1 a2) := by
  intros; unfold setPort
  (try dsimp only)
  repeat' first
    | with_reducible exact Keeps.refl _ _
    | (with_reducible apply Keeps.step (linkCheck_fr ..); decide)
    | (with_reducible apply Keeps.step (modPort_fr ..); decide)
    | (with_reducible apply Keeps.step (modSeqr_fr ..); decide)
    | split
    | intro _
    | dsimp only

theorem dropFresh_fr : ∀ a0 a1, Keeps 0x10000000000000000000000c1000000000280211140 a1 (dropFresh a0 a1) := by
  intros; unfold dropFresh
  (try dsimp only)
  repeat' first
    | with_reducible exact Keeps.refl _ _
    | (with_reducible apply Keeps.step (dropHeld_fr ..); decide)
    | (with_reducible apply Keeps.step (modPort_fr ..); decide)
    | (with_reducible apply Keeps.step (slotDiscarded_fr ..); decide)
    | with_reducible apply Keeps.eachDo
    | split
    | intro _
    | dsimp only

theorem stopPort_fr : ∀ a0 a1, Keeps 0x4001400000000000002002003ec10000000002847b51c0 a1 (stopPort a0 a1) := by
  intros; unfold stopPort
  (try dsimp only)
  repeat' first
    | with_reducible exact Keeps.refl _ _
    | (with_reducible apply Keeps.step (checkLedgers_fr ..); decide)
    | (with_reducible apply Keeps.step (dropFresh_fr ..); decide)
    | (with_reducible apply Keeps.step (dropHeld_fr ..); decide)
    | (with_reducible apply Keeps.step (modPort_fr ..); decide)
    | (with_reducible apply Keeps.step (modSeqr_fr ..); decide)
    | (with_reducible apply Keeps.step (portEvent_fr ..); decide)
    | (with_reducible apply Keeps.step (tornReport_fr ..); decide)
    | split
    | intro _
    | dsimp only

theorem faultPort_fr : ∀ a0 a1 a2, Keeps 0x4001400000000004002002003ec10000000002847b51c0 a2 (faultPort a0 a1 a2) := by
  intros; unfold faultPort
  (try dsimp only)
  have kOHL_FAULT_CAUSE := Fam.has_OHL_FAULT_CAUSE
  generalize OD.OHL_FAULT_CAUSE = fOHL_FAULT_CAUSE at kOHL_FAULT_CAUSE ⊢
  repeat' first
    | with_reducible exact Keeps.refl _ _
    | (with_reducible apply Keeps.step (portEvent_fr ..); decide)
    | (with_reducible apply Keeps.step (setPort_fr ..); decide)
    | (with_reducible apply Keeps.step (stopPort_fr ..); decide)
    | (with_reducible apply Keeps.setO .OHL_FAULT_CAUSE ?_ (kOHL_FAULT_CAUSE ..) ?_; decide)
    | split
    | intro _
    | dsimp only

theorem detachPort_fr : ∀ a0 a1 a2, Keeps 0x4001400000000004002002003ec10000000002847b51c0 a2 (detachPort a0 a1 a2) := by
  intros; unfold detachPort
  (try dsimp only)
  have kOHL_FAULT_CAUSE := Fam.has_OHL_FAULT_CAUSE
  generalize OD.OHL_FAULT_CAUSE = fOHL_FAULT_CAUSE at kOHL_FAULT_CAUSE ⊢
  repeat' first
    | with_reducible exact Keeps.refl _ _
    | (with_reducible apply Keeps.step (portEvent_fr ..); decide)
    | (with_reducible apply Keeps.step (setPort_fr ..); decide)
    | (with_reducible apply Keeps.step (stopPort_fr ..); decide)
    | (with_reducible apply Keeps.setO .OHL_FAULT_CAUSE ?_ (kOHL_FAULT_CAUSE ..) ?_; decide)
    | split
    | intro _
    | dsimp only

theorem portEnabled_fr : ∀ a0 a1 a2, Keeps 0x4001400000000004002002003ec10000000002847b51c0 a2 (portEnabled a0 a1 a2) := by
  intros; unfold portEnabled
  (try dsimp only)
  repeat' first
    | with_reducible exact Keeps.refl _ _
    | (with_reducible apply Keeps.step (detachPort_fr ..); decide)
    | (with_reducible apply Keeps.step (setPort_fr ..); decide)
    | split
    | intro _
    | dsimp only

theorem headDetected_fr : ∀ a0 a1, Keeps 0x300000 a1 (headDetected a0 a1) := by
  intros; unfold headDetected
  (try dsimp only)
  repeat' first
    | with_reducible exact Keeps.refl _ _
    | (with_reducible apply Keeps.step (modPort_fr ..); decide)
    | (with_reducible apply Keeps.step (setPort_fr ..); decide)
    | split
    | intro _
    | dsimp only

theorem trainingEnd_fr : ∀ a0 a1 a2, Keeps 0x4001400000000004002002003ec10000000002847b51c0 a2 (trainingEnd a0 a1 a2) := by
  intros; unfold trainingEnd
  (try dsimp only)
  repeat' first
    | with_reducible exact Keeps.refl _ _
    | (with_reducible apply Keeps.step (faultPort_fr ..); decide)
    | (with_reducible apply Keeps.step (freshLink_fr ..); decide)
    | (with_reducible apply Keeps.step (modPort_fr ..); decide)
    | split
    | intro _
    | dsimp only

theorem helloReceived_fr : ∀ a0 a1 a2, Keeps 0x300000 a2 (helloReceived a0 a1 a2) := by
  intros; unfold helloReceived
  (try dsimp only)
  repeat' first
    | with_reducible exact Keeps.refl _ _
    | (with_reducible apply Keeps.step (modPort_fr ..); decide)
    | (with_reducible apply Keeps.step (sendCommand_fr ..); decide)
    | (with_reducible apply Keeps.step (setPort_fr ..); decide)
    | split
    | intro _
    | dsimp only

theorem startAlign_fr : ∀ a0 a1 a2, Keeps 0x300000 a2 (startAlign a0 a1 a2) := by
  intros; unfold startAlign
  (try dsimp only)
  repeat' first
    | with_reducible exact Keeps.refl _ _
    | (with_reducible apply Keeps.step (modPort_fr ..); decide)
    | (with_reducible apply Keeps.step (sendCommand_fr ..); decide)
    | (with_reducible apply Keeps.step (setPort_fr ..); decide)
    | split
    | intro _
    | dsimp only

theorem chooseVersion_fr : ∀ a0 a1, Keeps 0x300000 a1 (chooseVersion a0 a1) := by
  intros; unfold chooseVersion
  (try dsimp only)
  repeat' first
    | with_reducible exact Keeps.refl _ _
    | (with_reducible apply Keeps.step (modPort_fr ..); decide)
    | (with_reducible apply Keeps.step (sendCommand_fr ..); decide)
    | (with_reducible apply Keeps.step (setPort_fr ..); decide)
    | (with_reducible apply Keeps.step (startAlign_fr ..); decide)
    | split
    | intro _
    | dsimp only

theorem checkDescriptor_fr : ∀ a0 a1 a2, Keeps 0x4001400000000004002002003ec10000000002847b51c0 a2 (checkDescriptor a0 a1 a2) := by
  intros; unfold checkDescriptor
  (try dsimp only)
  repeat' first
    | with_reducible exact Keeps.refl _ _
    | (with_reducible apply Keeps.step (chooseVersion_fr ..); decide)
    | (with_reducible apply Keeps.step (faultPort_fr ..); decide)
    | (with_reducible apply Keeps.step (modPort_fr ..); decide)
    | (with_reducible apply Keeps.step (sendCommand_fr ..); decide)
    | split
    | intro _
    | dsimp only

theorem descriptorChunk_fr : ∀ a0 a1 a2 a3, Keeps 0x4001400000000004002002003ec10000000002847b51c0 a3 (descriptorChunk a0 a1 a2 a3) := by
  intros; unfold descriptorChunk
  (try dsimp only)
  repeat' first
    | with_reducible exact Keeps.refl _ _
    | (with_reducible apply Keeps.step (checkDescriptor_fr ..); decide)
    | (with_reducible apply Keeps.step (modPort_fr ..); decide)
    | (with_reducible apply Keeps.step (sendCommand_fr ..); decide)
    | split
    | intro _
    | dsimp only

theorem selftestCheck_fr : ∀ a0 a1, Keeps 0x10000800000000000000000c0000000000280211040 a1 (selftestCheck a0 a1) := by
  intros; unfold selftestCheck
  (try dsimp only)
  have kSELFTEST_FAILS := Fam.has_SELFTEST_FAILS
  generalize OD.SELFTEST_FAILS = fSELFTEST_FAILS at kSELFTEST_FAILS ⊢
  repeat' first
    | with_reducible exact Keeps.refl _ _
    | (with_reducible apply Keeps.step (modPort_fr ..); decide)
    | (with_reducible apply Keeps.step (portEvent_fr ..); decide)
    | (with_reducible apply Keeps.setO .SELFTEST_FAILS ?_ (kSELFTEST_FAILS ..) ?_; decide)
    | split
    | intro _
    | dsimp only

theorem selftestChunk_fr : ∀ a0 a1 a2 a3, Keeps 0x10000800000000000000000c0000000000280211048 a3 (selftestChunk a0 a1 a2 a3) := by
  intros; unfold selftestChunk
  (try dsimp only)
  repeat' first
    | with_reducible exact Keeps.refl _ _
    | (with_reducible apply Keeps.step (State.setDom_fr ..); decide)
    | (with_reducible apply Keeps.step (modPort_fr ..); decide)
    | (with_reducible apply Keeps.step (selftestCheck_fr ..); decide)
    | split
    | intro _
    | dsimp only

theorem dataReceived_fr : ∀ a0 a1 a2 a3 a4, Keeps 0x4001400080000004002002003ec10000000002847b51c8 a4 (dataReceived a0 a1 a2 a3 a4) := by
  intros; unfold dataReceived
  (try dsimp only)
  repeat' first
    | with_reducible exact Keeps.refl _ _
    | (with_reducible apply Keeps.step (descriptorChunk_fr ..); decide)
    | (with_reducible apply Keeps.step (selftestChunk_fr ..); decide)
    | split
    | intro _
    | dsimp only

theorem descTimeout_fr : ∀ a0 a1, Keeps 0x200000 a1 (descTimeout a0 a1) := by
  intros; unfold descTimeout
  (try dsimp only)
  repeat' first
    | with_reducible exact Keeps.refl _ _
    | (with_reducible apply Keeps.step (sendCommand_fr ..); decide)
    | split
    | intro _
    | dsimp only

theorem upgradeEnd_fr : ∀ a0 a1 a2, Keeps 0x10000000000000000000000c0000000000280311040 a2 (upgradeEnd a0 a1 a2) := by
  intros; unfold upgradeEnd
  (try dsimp only)
  repeat' first
    | with_reducible exact Keeps.refl _ _
    | (with_reducible apply Keeps.step (freshLink_fr ..); decide)
    | (with_reducible apply Keeps.step (modPort_fr ..); decide)
    | (with_reducible apply Keeps.step (portEvent_fr ..); decide)
    | (with_reducible apply Keeps.step (startAlign_fr ..); decide)
    | split
    | intro _
    | dsimp only

theorem sendTimeSet_fr : ∀ a0 a1, Keeps 0x200000 a1 (sendTimeSet a0 a1) := by
  intros; unfold sendTimeSet
  (try dsimp only)
  repeat' first
    | with_reducible exact Keeps.refl _ _
    | (with_reducible apply Keeps.step (sendCommand_fr ..); decide)
    | split
    | intro _
    | dsimp only

theorem echoReceived_fr : ∀ a0 a1 a2, Keeps 0x200000 a2 (echoReceived a0 a1 a2) := by
  intros; unfold echoReceived
  (try dsimp only)
  repeat' first
    | with_reducible exact Keeps.refl _ _
    | (with_reducible apply Keeps.step (modPort_fr ..); decide)
    | (with_reducible apply Keeps.step (sendTimeSet_fr ..); decide)
    | split
    | intro _
    | dsimp only

theorem timeSetAgain_fr : ∀ a0 a1, Keeps 0x200000 a1 (timeSetAgain a0 a1) := by
  intros; unfold timeSetAgain
  (try dsimp only)
  repeat' first
    | with_reducible exact Keeps.refl _ _
    | (with_reducible apply Keeps.step (sendTimeSet_fr ..); decide)
    | split
    | intro _
    | dsimp only

theorem descLimits_key (h : Nat) (d : List Byte) (kv : Nat × Int) (hk : kv ∈ descLimits h d) : Fam.has .platenHead kv.1 := by
  simp only [descLimits, List.mem_cons, List.not_mem_nil, or_false] at hk
  rcases hk with rfl | rfl | rfl | rfl <;>
    (simp only [Fam.has, OD.TEMP_SOFT, OD.TEMP_HARD, OD.FIRE_WIDTH_MAX, OD.BRAYER_WIDTH_MAX, okey]; omega)

theorem limitsReplaced_key (h : Nat) (d : List Byte) (s : State) (kv : Nat × Int) (hk : kv ∈ limitsReplaced h d s) :
    Fam.has .platenHead kv.1 := by
  unfold limitsReplaced at hk; split at hk
  · exact descLimits_key h d kv hk
  · exact descLimits_key h d kv (List.mem_filter.mp hk).1

theorem takeDescriptor_fr : ∀ a0 a1 s, Keeps 0x10000400000020002018000c0000000010280011048 s (takeDescriptor a0 a1 s) := by
  intro h d s; unfold takeDescriptor
  have hl := limitsReplaced_key h d s
  generalize limitsReplaced h d s = lim at hl ⊢
  dsimp only
  have c : ∀ x, Keeps 0x10000400000020002018000c0000000010280011048 s x → Keeps 0x10000400000020002018000c0000000010280011048 s (eachDo lim (fun kv s => s.setI kv.1 kv.2) x) := fun x a =>
    Keeps.eachDo_mem (fun kv hk y => Keeps.setI .platenHead (by decide) (hl kv hk) (Keeps.refl _ _)) a
  have kA := Fam.has_ROW_OFFSET
  have kB := Fam.has_NOZZLE_GRID
  have kC := Fam.has_HEAD_MODEL
  have kD := Fam.has_HEAD_SERIAL
  have kE := Fam.has_KNOWN_SERIAL
  generalize OD.ROW_OFFSET = fA at kA ⊢
  generalize OD.NOZZLE_GRID = fB at kB ⊢
  generalize OD.HEAD_MODEL = fC at kC ⊢
  generalize OD.HEAD_SERIAL = fD at kD ⊢
  generalize OD.KNOWN_SERIAL = fE at kE ⊢
  repeat' first
    | with_reducible exact Keeps.refl _ _
    | (with_reducible apply Keeps.step (portEvent_fr ..); decide)
    | (with_reducible apply Keeps.step (openRecord_fr ..); decide)
    | (with_reducible apply Keeps.step (State.setDom_fr ..); decide)
    | (with_reducible apply Keeps.setO .HEAD_SERIAL ?_ (kD ..) ?_; decide)
    | (with_reducible apply Keeps.setO .KNOWN_SERIAL ?_ (kE ..) ?_; decide)
    | (with_reducible apply Keeps.setO .HEAD_MODEL ?_ (kC ..) ?_; decide)
    | (with_reducible apply Keeps.setO .NOZZLE_GRID ?_ (kB ..) ?_; decide)
    | (with_reducible apply Keeps.setO .ROW_OFFSET ?_ (kA ..) ?_; decide)
    | with_reducible apply c
    | with_reducible apply Keeps.eachDo
    | split
    | intro _

theorem descRecipes_key (h : Nat) (d : List Byte) (kv : Nat × Nat) (hk : kv ∈ descRecipes h d) : Fam.has .platenHead kv.1 := by
  simp only [descRecipes, List.mem_append, List.mem_map, List.mem_cons, List.not_mem_nil, or_false] at hk
  rcases hk with ⟨i, -, rfl⟩ | rfl <;> (simp only [Fam.has, OD.RECIPE, OD.RECIPE_SELECT, okey]; omega)

theorem loadRecipes_fr : ∀ a0 a1 s, Keeps 0x10000000000800000000000c0000200010218199150 s (loadRecipes a0 a1 s) := by
  intro h d s; unfold loadRecipes
  have hl := descRecipes_key h d
  generalize descRecipes h d = l at hl ⊢
  have kA := Fam.has_PLAT_COMMIT_PENDING
  generalize OD.PLAT_COMMIT_PENDING = fA at kA ⊢
  have c : ∀ x, Keeps 0x10000000000800000000000c0000200010218199150 s x → Keeps 0x10000000000800000000000c0000200010218199150 s
      (eachDo l (fun kv s => (s.setO kv.1 (storedNum kv.1 kv.2)).setL kv.1 (storedNum kv.1 kv.2)) x) := fun x a =>
    Keeps.eachDo_mem (fun kv hk y => Keeps.step (State.setL_fr ..) (by decide)
      (Keeps.setO .platenHead (by decide) (hl kv hk) (Keeps.refl _ _))) a
  dsimp only
  repeat' first
    | with_reducible exact Keeps.refl _ _
    | (with_reducible apply Keeps.step (modSeqr_fr ..); decide)
    | (with_reducible apply Keeps.step (setRecords_fr ..); decide)
    | (with_reducible apply Keeps.step (reserveSlots_fr ..); decide)
    | (with_reducible apply Keeps.step (unreserveSlots_fr ..); decide)
    | (with_reducible apply Keeps.setB .PLAT_COMMIT_PENDING ?_ (kA ..) ?_; decide)
    | with_reducible apply c
    | split

theorem restoreTrims_fr : ∀ a0 a1, Keeps 0x200000 a1 (restoreTrims a0 a1) := by
  intros; unfold restoreTrims
  (try dsimp only)
  repeat' first
    | with_reducible exact Keeps.refl _ _
    | (with_reducible apply Keeps.step (modPort_fr ..); decide)
    | split
    | intro _
    | dsimp only

theorem attachDone_fr : ∀ a0 a1, Keeps 0x10000400000828002018000c0000200010298399158 a1 (attachDone a0 a1) := by
  intros; unfold attachDone
  (try dsimp only)
  repeat' first
    | with_reducible exact Keeps.refl _ _
    | (with_reducible apply Keeps.step (loadRecipes_fr ..); decide)
    | (with_reducible apply Keeps.step (modPort_fr ..); decide)
    | (with_reducible apply Keeps.step (portEvent_fr ..); decide)
    | (with_reducible apply Keeps.step (restoreTrims_fr ..); decide)
    | (with_reducible apply Keeps.step (setNegotiated_fr ..); decide)
    | (with_reducible apply Keeps.step (setPort_fr ..); decide)
    | (with_reducible apply Keeps.step (takeDescriptor_fr ..); decide)
    | split
    | intro _
    | dsimp only

theorem sendSlot_fr : ∀ a0 a1, Keeps 0x200100 a1 (sendSlot a0 a1) := by
  intros; unfold sendSlot
  (try dsimp only)
  repeat' first
    | with_reducible exact Keeps.refl _ _
    | (with_reducible apply Keeps.step (modHeld_fr ..); decide)
    | (with_reducible apply Keeps.step (moveLedger_fr ..); decide)
    | (with_reducible apply Keeps.step (sendFrame_fr ..); decide)
    | with_reducible apply Keeps.eachDo
    | split
    | intro _
    | dsimp only

theorem sendTrim_fr : ∀ a0 a1, Keeps 0x200000 a1 (sendTrim a0 a1) := by
  intros; unfold sendTrim
  (try dsimp only)
  repeat' first
    | with_reducible exact Keeps.refl _ _
    | (with_reducible apply Keeps.step (modPort_fr ..); decide)
    | (with_reducible apply Keeps.step (sendFrame_fr ..); decide)
    | split
    | intro _
    | dsimp only

theorem ackReceived_fr : ∀ a0 a1 a2, Keeps 0x200100 a2 (ackReceived a0 a1 a2) := by
  intros; unfold ackReceived
  (try dsimp only)
  repeat' first
    | with_reducible exact Keeps.refl _ _
    | (with_reducible apply Keeps.step (modHeld_fr ..); decide)
    | (with_reducible apply Keeps.step (modPort_fr ..); decide)
    | (with_reducible apply Keeps.step (moveLedger_fr ..); decide)
    | with_reducible apply Keeps.eachDo
    | split
    | intro _
    | dsimp only

theorem slotsDone_fr : ∀ a0 a1 a2, Keeps 0x10100000000008000000000c000000000029c3f5140 a2 (slotsDone a0 a1 a2) := by
  intros; unfold slotsDone
  (try dsimp only)
  repeat' first
    | with_reducible exact Keeps.refl _ _
    | (with_reducible apply Keeps.step (allFormeChecks_fr ..); decide)
    | (with_reducible apply Keeps.step (dropHeld_fr ..); decide)
    | (with_reducible apply Keeps.step (modPort_fr ..); decide)
    | (with_reducible apply Keeps.step (modSeqr_fr ..); decide)
    | (with_reducible apply Keeps.step (releaseBlocks_fr ..); decide)
    | (with_reducible apply Keeps.step (renderSlots_fr ..); decide)
    | split
    | intro _
    | dsimp only

theorem reportLate_fr : ∀ a0 a1, Keeps 0x300000 a1 (reportLate a0 a1) := by
  intros; unfold reportLate
  (try dsimp only)
  repeat' first
    | with_reducible exact Keeps.refl _ _
    | (with_reducible apply Keeps.step (modPort_fr ..); decide)
    | (with_reducible apply Keeps.step (takeCause_fr ..); decide)
    | split
    | intro _
    | dsimp only

theorem doneReceived_fr : ∀ a0 a1 a2 a3, Keeps 0x10100000000008200000000c020000000029c3f5140 a3 (doneReceived a0 a1 a2 a3) := by
  intros; unfold doneReceived
  (try dsimp only)
  have kDEFERRED_SLOTS := Fam.has_DEFERRED_SLOTS
  generalize OD.DEFERRED_SLOTS = fDEFERRED_SLOTS at kDEFERRED_SLOTS ⊢
  have kMAX_LATE := Fam.has_MAX_LATE
  generalize OD.MAX_LATE = fMAX_LATE at kMAX_LATE ⊢
  repeat' first
    | with_reducible exact Keeps.refl _ _
    | (with_reducible apply Keeps.step (raise_fr ..); decide)
    | (with_reducible apply Keeps.step (reportLate_fr ..); decide)
    | (with_reducible apply Keeps.step (slotsDone_fr ..); decide)
    | (with_reducible apply Keeps.bump .DEFERRED_SLOTS ?_ (kDEFERRED_SLOTS ..) ?_; decide)
    | (with_reducible apply Keeps.setO .MAX_LATE ?_ (kMAX_LATE ..) ?_; decide)
    | split
    | intro _
    | dsimp only

theorem donesFirst_fr : ∀ a0 a1, Keeps 0x10100000000008200000000c020000000029c3f5140 a1 (donesFirst a0 a1) := by
  intros; unfold donesFirst
  (try dsimp only)
  repeat' first
    | with_reducible exact Keeps.refl _ _
    | (with_reducible apply Keeps.step (doneReceived_fr ..); decide)
    | with_reducible apply Keeps.eachDo
    | split
    | intro _
    | dsimp only

theorem portWritten_fr : ∀ a0 a1 a2, Keeps 0x4001410000000004822002003ec120000000029c7f51c0 a2 (portWritten a0 a1 a2) := by
  intros; unfold portWritten
  (try dsimp only)
  repeat' first
    | with_reducible exact Keeps.refl _ _
    | (with_reducible apply Keeps.step (donesFirst_fr ..); decide)
    | (with_reducible apply Keeps.step (portEnabled_fr ..); decide)
    | split
    | intro _
    | dsimp only

theorem groupOverdue_fr : ∀ a0 a1, Keeps 0x300000 a1 (groupOverdue a0 a1) := by
  intros; unfold groupOverdue
  (try dsimp only)
  repeat' first
    | with_reducible exact Keeps.refl _ _
    | (with_reducible apply Keeps.step (reportLate_fr ..); decide)
    | split
    | intro _
    | dsimp only

theorem enterRetrain_fr : ∀ a0 a1, Keeps 0x10000080000000000000000c1000000000280311140 a1 (enterRetrain a0 a1) := by
  intros; unfold enterRetrain
  (try dsimp only)
  have kRETRAINS := Fam.has_RETRAINS
  generalize OD.RETRAINS = fRETRAINS at kRETRAINS ⊢
  repeat' first
    | with_reducible exact Keeps.refl _ _
    | (with_reducible apply Keeps.step (dropFresh_fr ..); decide)
    | (with_reducible apply Keeps.step (modPort_fr ..); decide)
    | (with_reducible apply Keeps.step (portEvent_fr ..); decide)
    | (with_reducible apply Keeps.step (setPort_fr ..); decide)
    | (with_reducible apply Keeps.bump .RETRAINS ?_ (kRETRAINS ..) ?_; decide)
    | split
    | intro _
    | dsimp only

theorem resendFrom_fr : ∀ a0 a1 a2, Keeps 0x10000100000000000000000c0000000000280211040 a2 (resendFrom a0 a1 a2) := by
  intros; unfold resendFrom
  (try dsimp only)
  have kRETRIES := Fam.has_RETRIES
  generalize OD.RETRIES = fRETRIES at kRETRIES ⊢
  repeat' first
    | with_reducible exact Keeps.refl _ _
    | (with_reducible apply Keeps.step (modPort_fr ..); decide)
    | (with_reducible apply Keeps.step (portEvent_fr ..); decide)
    | (with_reducible apply Keeps.bump .RETRIES ?_ (kRETRIES ..) ?_; decide)
    | split
    | intro _
    | dsimp only

theorem nakReceived_fr : ∀ a0 a1 a2, Keeps 0x10000180000000000000000c1000000000280311140 a2 (nakReceived a0 a1 a2) := by
  intros; unfold nakReceived
  (try dsimp only)
  repeat' first
    | with_reducible exact Keeps.refl _ _
    | (with_reducible apply Keeps.step (enterRetrain_fr ..); decide)
    | (with_reducible apply Keeps.step (modPort_fr ..); decide)
    | (with_reducible apply Keeps.step (resendFrom_fr ..); decide)
    | split
    | intro _
    | dsimp only

theorem resendTimedOut_fr : ∀ a0 a1, Keeps 0x10000180000000000000000c1000000000280311140 a1 (resendTimedOut a0 a1) := by
  intros; unfold resendTimedOut
  (try dsimp only)
  repeat' first
    | with_reducible exact Keeps.refl _ _
    | (with_reducible apply Keeps.step (enterRetrain_fr ..); decide)
    | (with_reducible apply Keeps.step (modPort_fr ..); decide)
    | (with_reducible apply Keeps.step (resendFrom_fr ..); decide)
    | split
    | intro _
    | dsimp only

theorem resendHeld_fr : ∀ a0 a1 a2, Keeps 0x200000 a2 (resendHeld a0 a1 a2) := by
  intros; unfold resendHeld
  (try dsimp only)
  repeat' first
    | with_reducible exact Keeps.refl _ _
    | (with_reducible apply Keeps.step (freshLink_fr ..); decide)
    | (with_reducible apply Keeps.step (sendFrame_fr ..); decide)
    | with_reducible apply Keeps.eachDo
    | split
    | intro _
    | dsimp only

theorem resumeAttach_fr : ∀ a0 a1, Keeps 0x300000 a1 (resumeAttach a0 a1) := by
  intros; unfold resumeAttach
  (try dsimp only)
  repeat' first
    | with_reducible exact Keeps.refl _ _
    | (with_reducible apply Keeps.step (modPort_fr ..); decide)
    | (with_reducible apply Keeps.step (sendCommand_fr ..); decide)
    | (with_reducible apply Keeps.step (setPort_fr ..); decide)
    | (with_reducible apply Keeps.step (startAlign_fr ..); decide)
    | split
    | intro _
    | dsimp only

theorem retrainEnd_fr : ∀ a0 a1 a2, Keeps 0x4001400000000004002002003ec10000000002847b51c0 a2 (retrainEnd a0 a1 a2) := by
  intros; unfold retrainEnd
  (try dsimp only)
  repeat' first
    | with_reducible exact Keeps.refl _ _
    | (with_reducible apply Keeps.step (faultPort_fr ..); decide)
    | (with_reducible apply Keeps.step (freshLink_fr ..); decide)
    | (with_reducible apply Keeps.step (modPort_fr ..); decide)
    | (with_reducible apply Keeps.step (resumeAttach_fr ..); decide)
    | (with_reducible apply Keeps.step (sendCommand_fr ..); decide)
    | (with_reducible apply Keeps.step (setPort_fr ..); decide)
    | split
    | intro _
    | dsimp only

theorem tornReceived_fr : ∀ a0 a1 a2 a3, Keeps 0x40014000000000000000020000c10000000002847b5140 a3 (tornReceived a0 a1 a2 a3) := by
  intros; unfold tornReceived
  (try dsimp only)
  repeat' first
    | with_reducible exact Keeps.refl _ _
    | (with_reducible apply Keeps.step (dropFresh_fr ..); decide)
    | (with_reducible apply Keeps.step (dropHeld_fr ..); decide)
    | (with_reducible apply Keeps.step (modHeld_fr ..); decide)
    | (with_reducible apply Keeps.step (modPort_fr ..); decide)
    | (with_reducible apply Keeps.step (portEvent_fr ..); decide)
    | (with_reducible apply Keeps.step (sendCommand_fr ..); decide)
    | (with_reducible apply Keeps.step (setPort_fr ..); decide)
    | (with_reducible apply Keeps.step (tornReport_fr ..); decide)
    | split
    | intro _
    | dsimp only

theorem tornsFirst_fr : ∀ a0, Keeps 0x40014000000000000000020000c10000000002847b5140 a0 (tornsFirst a0) := by
  intros; unfold tornsFirst
  (try dsimp only)
  repeat' first
    | with_reducible exact Keeps.refl _ _
    | (with_reducible apply Keeps.step (tornReceived_fr ..); decide)
    | with_reducible apply Keeps.eachDo
    | split
    | intro _
    | dsimp only

theorem lostReported_fr : ∀ a0 a1, Keeps 0x40014000000000008000020000c00000000002847f5140 a1 (lostReported a0 a1) := by
  intros; unfold lostReported
  (try dsimp only)
  repeat' first
    | with_reducible exact Keeps.refl _ _
    | (with_reducible apply Keeps.step (allFormeChecks_fr ..); decide)
    | (with_reducible apply Keeps.step (modPort_fr ..); decide)
    | (with_reducible apply Keeps.step (modSeqr_fr ..); decide)
    | (with_reducible apply Keeps.step (releaseBlocks_fr ..); decide)
    | (with_reducible apply Keeps.step (tornReport_fr ..); decide)
    | split
    | intro _
    | dsimp only

theorem readyReceived_fr : ∀ a0 a1 a2, Keeps 0x40014100000000008000020000c000000000029c7f5140 a2 (readyReceived a0 a1 a2) := by
  intros; unfold readyReceived
  (try dsimp only)
  repeat' first
    | with_reducible exact Keeps.refl _ _
    | (with_reducible apply Keeps.step (lostReported_fr ..); decide)
    | (with_reducible apply Keeps.step (modPort_fr ..); decide)
    | (with_reducible apply Keeps.step (portEvent_fr ..); decide)
    | (with_reducible apply Keeps.step (resendHeld_fr ..); decide)
    | (with_reducible apply Keeps.step (setPort_fr ..); decide)
    | (with_reducible apply Keeps.step (slotsDone_fr ..); decide)
    | split
    | intro _
    | dsimp only

theorem telemetryReceived_fr : ∀ a0 a1 a2, Keeps 0x3012000000000000000004000c0000000000280311040 a2 (telemetryReceived a0 a1 a2) := by
  intros; unfold telemetryReceived
  (try dsimp only)
  have kHEAD_FLAGS := Fam.has_HEAD_FLAGS
  generalize OD.HEAD_FLAGS = fHEAD_FLAGS at kHEAD_FLAGS ⊢
  have kTEMPERATURE := Fam.has_TEMPERATURE
  generalize OD.TEMPERATURE = fTEMPERATURE at kTEMPERATURE ⊢
  have kVHEAD := Fam.has_VHEAD
  generalize OD.VHEAD = fVHEAD at kVHEAD ⊢
  have kVLOGIC := Fam.has_VLOGIC
  generalize OD.VLOGIC = fVLOGIC at kVLOGIC ⊢
  repeat' first
    | with_reducible exact Keeps.refl _ _
    | (with_reducible apply Keeps.step (countLost_fr ..); decide)
    | (with_reducible apply Keeps.step (demandWake_fr ..); decide)
    | (with_reducible apply Keeps.step (modPort_fr ..); decide)
    | (with_reducible apply Keeps.step (portEvent_fr ..); decide)
    | (with_reducible apply Keeps.step (tempReading_fr ..); decide)
    | with_reducible apply Keeps.whenDo
    | (with_reducible apply Keeps.setO .HEAD_FLAGS ?_ (kHEAD_FLAGS ..) ?_; decide)
    | (with_reducible apply Keeps.setI .TEMPERATURE ?_ (kTEMPERATURE ..) ?_; decide)
    | (with_reducible apply Keeps.setO .VHEAD ?_ (kVHEAD ..) ?_; decide)
    | (with_reducible apply Keeps.setO .VLOGIC ?_ (kVLOGIC ..) ?_; decide)
    | split
    | intro _
    | dsimp only

theorem telemetryGone_fr : ∀ a0 a1, Keeps 0x10000000000000000000000c0000000000280311040 a1 (telemetryGone a0 a1) := by
  intros; unfold telemetryGone
  (try dsimp only)
  repeat' first
    | with_reducible exact Keeps.refl _ _
    | (with_reducible apply Keeps.step (modPort_fr ..); decide)
    | (with_reducible apply Keeps.step (portEvent_fr ..); decide)
    | (with_reducible apply Keeps.step (tempReading_fr ..); decide)
    | split
    | intro _
    | dsimp only

theorem supplyTimedOut_fr : ∀ a0 a1, Keeps 0x4001400000000004002002003ec10000000002847b51c0 a1 (supplyTimedOut a0 a1) := by
  intros; unfold supplyTimedOut
  (try dsimp only)
  repeat' first
    | with_reducible exact Keeps.refl _ _
    | (with_reducible apply Keeps.step (faultPort_fr ..); decide)
    | split
    | intro _
    | dsimp only

theorem selftestStart_fr : ∀ a0 a1, Keeps 0x200000 a1 (selftestStart a0 a1).2 := by
  intros; unfold selftestStart
  (try dsimp only)
  repeat' first
    | with_reducible exact Keeps.refl _ _
    | (with_reducible apply Keeps.step (modPort_fr ..); decide)
    | (with_reducible apply Keeps.step (sendCommand_fr ..); decide)
    | split
    | intro _
    | dsimp only

theorem selftestDone_fr : ∀ a0 a1 a2, Keeps 0x10000800000000000000000c0000000000280211040 a2 (selftestDone a0 a1 a2) := by
  intros; unfold selftestDone
  (try dsimp only)
  repeat' first
    | with_reducible exact Keeps.refl _ _
    | (with_reducible apply Keeps.step (modPort_fr ..); decide)
    | (with_reducible apply Keeps.step (selftestCheck_fr ..); decide)
    | split
    | intro _
    | dsimp only

theorem execHeadDetect_fr : ∀ a0 a1 t, (execHeadDetect a0 a1) = .next t → Keeps 0x300000 a1 t := by
  intros; rename_i h; unfold execHeadDetect at h; replace h := Host.Outcome.next.inj h; subst h
  (try dsimp only)
  repeat' first
    | with_reducible exact Keeps.refl _ _
    | (with_reducible apply Keeps.step (headDetected_fr ..); decide)
    | with_reducible apply Keeps.whenDo
    | split
    | intro _
    | dsimp only

theorem execTrainingAttemptEnd_fr : ∀ a0 a1 a2 t, (execTrainingAttemptEnd a0 a1 a2) = .next t → Keeps 0x4001400000000004002002003ec10000000002847b51c0 a2 t := by
  intros; rename_i h; unfold execTrainingAttemptEnd at h; replace h := Host.Outcome.next.inj h; subst h
  (try dsimp only)
  repeat' first
    | with_reducible exact Keeps.refl _ _
    | (with_reducible apply Keeps.step (trainingEnd_fr ..); decide)
    | with_reducible apply Keeps.whenDo
    | split
    | intro _
    | dsimp only

theorem execStatusHello_fr : ∀ a0 a1 a2 t, (execStatusHello a0 a1 a2) = .next t → Keeps 0x300000 a2 t := by
  intros; rename_i h; unfold execStatusHello at h; replace h := Host.Outcome.next.inj h; subst h
  (try dsimp only)
  repeat' first
    | with_reducible exact Keeps.refl _ _
    | (with_reducible apply Keeps.step (backFrame_fr ..); decide)
    | (with_reducible apply Keeps.step (helloReceived_fr ..); decide)
    | with_reducible apply Keeps.whenDo
    | split
    | intro _
    | dsimp only

theorem execDataFrame_fr : ∀ a0 a1 a2 a3 a4 t, (execDataFrame a0 a1 a2 a3 a4) = .next t → Keeps 0x4001400080000004002002003ec10000000002847b51c8 a4 t := by
  intros; rename_i h; unfold execDataFrame at h; replace h := Host.Outcome.next.inj h; subst h
  (try dsimp only)
  repeat' first
    | with_reducible exact Keeps.refl _ _
    | (with_reducible apply Keeps.step (backFrame_fr ..); decide)
    | (with_reducible apply Keeps.step (dataReceived_fr ..); decide)
    | with_reducible apply Keeps.whenDo
    | split
    | intro _
    | dsimp only

theorem execDescReadTimeout_fr : ∀ a0 a1 t, (execDescReadTimeout a0 a1) = .next t → Keeps 0x200000 a1 t := by
  intros; rename_i h; unfold execDescReadTimeout at h; replace h := Host.Outcome.next.inj h; subst h
  (try dsimp only)
  repeat' first
    | with_reducible exact Keeps.refl _ _
    | (with_reducible apply Keeps.step (descTimeout_fr ..); decide)
    | with_reducible apply Keeps.whenDo
    | split
    | intro _
    | dsimp only

theorem execStatusUpgradeAck_fr : ∀ a0 a1 t, (execStatusUpgradeAck a0 a1) = .next t → Keeps 0x200000 a1 t := by
  intros; rename_i h; unfold execStatusUpgradeAck at h; replace h := Host.Outcome.next.inj h; subst h
  (try dsimp only)
  repeat' first
    | with_reducible exact Keeps.refl _ _
    | (with_reducible apply Keeps.step (backFrame_fr ..); decide)
    | (with_reducible apply Keeps.step (modPort_fr ..); decide)
    | with_reducible apply Keeps.whenDo
    | split
    | intro _
    | dsimp only

theorem execUpgradeTrainingEnd_fr : ∀ a0 a1 a2 t, (execUpgradeTrainingEnd a0 a1 a2) = .next t → Keeps 0x10000000000000000000000c0000000000280311040 a2 t := by
  intros; rename_i h; unfold execUpgradeTrainingEnd at h; replace h := Host.Outcome.next.inj h; subst h
  (try dsimp only)
  repeat' first
    | with_reducible exact Keeps.refl _ _
    | (with_reducible apply Keeps.step (upgradeEnd_fr ..); decide)
    | with_reducible apply Keeps.whenDo
    | split
    | intro _
    | dsimp only

theorem execStatusEcho_fr : ∀ a0 a1 a2 t, (execStatusEcho a0 a1 a2) = .next t → Keeps 0x200000 a2 t := by
  intros; rename_i h; unfold execStatusEcho at h; replace h := Host.Outcome.next.inj h; subst h
  (try dsimp only)
  repeat' first
    | with_reducible exact Keeps.refl _ _
    | (with_reducible apply Keeps.step (backFrame_fr ..); decide)
    | (with_reducible apply Keeps.step (echoReceived_fr ..); decide)
    | with_reducible apply Keeps.whenDo
    | split
    | intro _
    | dsimp only

theorem execTimeSetRepeat_fr : ∀ a0 a1 t, (execTimeSetRepeat a0 a1) = .next t → Keeps 0x200000 a1 t := by
  intros; rename_i h; unfold execTimeSetRepeat at h; replace h := Host.Outcome.next.inj h; subst h
  (try dsimp only)
  repeat' first
    | with_reducible exact Keeps.refl _ _
    | (with_reducible apply Keeps.step (timeSetAgain_fr ..); decide)
    | with_reducible apply Keeps.whenDo
    | split
    | intro _
    | dsimp only

theorem execAttachComplete_fr : ∀ a0 a1 t, (execAttachComplete a0 a1) = .next t → Keeps 0x10000400000828002018000c0000200010298399158 a1 t := by
  intros; rename_i h; unfold execAttachComplete at h; replace h := Host.Outcome.next.inj h; subst h
  (try dsimp only)
  repeat' first
    | with_reducible exact Keeps.refl _ _
    | (with_reducible apply Keeps.step (attachDone_fr ..); decide)
    | with_reducible apply Keeps.whenDo
    | split
    | intro _
    | dsimp only

theorem execDetach_fr : ∀ a0 a1 t, (execDetach a0 a1) = .next t → Keeps 0x4001410000000004822002003ec120000000029c7f51c0 a1 t := by
  intros; rename_i h; unfold execDetach at h; replace h := Host.Outcome.next.inj h; subst h
  (try dsimp only)
  repeat' first
    | with_reducible exact Keeps.refl _ _
    | (with_reducible apply Keeps.step (detachPort_fr ..); decide)
    | (with_reducible apply Keeps.step (donesFirst_fr ..); decide)
    | (with_reducible apply Keeps.step (modPort_fr ..); decide)
    | with_reducible apply Keeps.whenDo
    | split
    | intro _
    | dsimp only

theorem execSlotSend_fr : ∀ a0 a1 t, (execSlotSend a0 a1) = .next t → Keeps 0x200100 a1 t := by
  intros; rename_i h; unfold execSlotSend at h; replace h := Host.Outcome.next.inj h; subst h
  (try dsimp only)
  repeat' first
    | with_reducible exact Keeps.refl _ _
    | (with_reducible apply Keeps.step (sendSlot_fr ..); decide)
    | with_reducible apply Keeps.whenDo
    | split
    | intro _
    | dsimp only

theorem execTrimFrameSend_fr : ∀ a0 a1 t, (execTrimFrameSend a0 a1) = .next t → Keeps 0x200000 a1 t := by
  intros; rename_i h; unfold execTrimFrameSend at h; replace h := Host.Outcome.next.inj h; subst h
  (try dsimp only)
  repeat' first
    | with_reducible exact Keeps.refl _ _
    | (with_reducible apply Keeps.step (sendTrim_fr ..); decide)
    | with_reducible apply Keeps.whenDo
    | split
    | intro _
    | dsimp only

theorem execAckFrame_fr : ∀ a0 a1 a2 t, (execAckFrame a0 a1 a2) = .next t → Keeps 0x200100 a2 t := by
  intros; rename_i h; unfold execAckFrame at h; replace h := Host.Outcome.next.inj h; subst h
  (try dsimp only)
  repeat' first
    | with_reducible exact Keeps.refl _ _
    | (with_reducible apply Keeps.step (ackReceived_fr ..); decide)
    | (with_reducible apply Keeps.step (backFrame_fr ..); decide)
    | with_reducible apply Keeps.whenDo
    | split
    | intro _
    | dsimp only

theorem execNakFrame_fr : ∀ a0 a1 a2 t, (execNakFrame a0 a1 a2) = .next t → Keeps 0x10000180000000000000000c1000000000280311140 a2 t := by
  intros; rename_i h; unfold execNakFrame at h; replace h := Host.Outcome.next.inj h; subst h
  (try dsimp only)
  repeat' first
    | with_reducible exact Keeps.refl _ _
    | (with_reducible apply Keeps.step (backFrame_fr ..); decide)
    | (with_reducible apply Keeps.step (nakReceived_fr ..); decide)
    | with_reducible apply Keeps.whenDo
    | split
    | intro _
    | dsimp only

theorem execResendTimeout_fr : ∀ a0 a1 t, (execResendTimeout a0 a1) = .next t → Keeps 0x10000180000000000000000c1000000000280311140 a1 t := by
  intros; rename_i h; unfold execResendTimeout at h; replace h := Host.Outcome.next.inj h; subst h
  (try dsimp only)
  repeat' first
    | with_reducible exact Keeps.refl _ _
    | (with_reducible apply Keeps.step (resendTimedOut_fr ..); decide)
    | with_reducible apply Keeps.whenDo
    | split
    | intro _
    | dsimp only

theorem execDoneFrame_fr : ∀ a0 a1 a2 a3 t, (execDoneFrame a0 a1 a2 a3) = .next t → Keeps 0x10100000000008200000000c020000000029c3f5140 a3 t := by
  intros; rename_i h; unfold execDoneFrame at h; replace h := Host.Outcome.next.inj h; subst h
  (try dsimp only)
  repeat' first
    | with_reducible exact Keeps.refl _ _
    | (with_reducible apply Keeps.step (backFrame_fr ..); decide)
    | (with_reducible apply Keeps.step (doneReceived_fr ..); decide)
    | with_reducible apply Keeps.whenDo
    | split
    | intro _
    | dsimp only

theorem execGroupAckOverdue_fr : ∀ a0 a1 t, (execGroupAckOverdue a0 a1) = .next t → Keeps 0x300000 a1 t := by
  intros; rename_i h; unfold execGroupAckOverdue at h; replace h := Host.Outcome.next.inj h; subst h
  (try dsimp only)
  repeat' first
    | with_reducible exact Keeps.refl _ _
    | (with_reducible apply Keeps.step (groupOverdue_fr ..); decide)
    | with_reducible apply Keeps.whenDo
    | split
    | intro _
    | dsimp only

theorem execTornFrame_fr : ∀ a0 a1 a2 a3 t, (execTornFrame a0 a1 a2 a3) = .next t → Keeps 0x40014000000000000000020000c10000000002847b5140 a3 t := by
  intros; rename_i h; unfold execTornFrame at h; replace h := Host.Outcome.next.inj h; subst h
  (try dsimp only)
  repeat' first
    | with_reducible exact Keeps.refl _ _
    | (with_reducible apply Keeps.step (backFrame_fr ..); decide)
    | (with_reducible apply Keeps.step (tornReceived_fr ..); decide)
    | with_reducible apply Keeps.whenDo
    | split
    | intro _
    | dsimp only

theorem execStatusReady_fr : ∀ a0 a1 a2 t, (execStatusReady a0 a1 a2) = .next t → Keeps 0x40014100000000008000020000c000000000029c7f5140 a2 t := by
  intros; rename_i h; unfold execStatusReady at h; replace h := Host.Outcome.next.inj h; subst h
  (try dsimp only)
  repeat' first
    | with_reducible exact Keeps.refl _ _
    | (with_reducible apply Keeps.step (backFrame_fr ..); decide)
    | (with_reducible apply Keeps.step (readyReceived_fr ..); decide)
    | with_reducible apply Keeps.whenDo
    | split
    | intro _
    | dsimp only

theorem execTelemetryFrame_fr : ∀ a0 a1 a2 t, (execTelemetryFrame a0 a1 a2) = .next t → Keeps 0x3012000000000000000004000c0000000000280311040 a2 t := by
  intros; rename_i h; unfold execTelemetryFrame at h; replace h := Host.Outcome.next.inj h; subst h
  (try dsimp only)
  repeat' first
    | with_reducible exact Keeps.refl _ _
    | (with_reducible apply Keeps.step (telemetryReceived_fr ..); decide)
    | with_reducible apply Keeps.whenDo
    | split
    | intro _
    | dsimp only

theorem execTelemetryTimeout_fr : ∀ a0 a1 t, (execTelemetryTimeout a0 a1) = .next t → Keeps 0x10000000000000000000000c0000000000280311040 a1 t := by
  intros; rename_i h; unfold execTelemetryTimeout at h; replace h := Host.Outcome.next.inj h; subst h
  (try dsimp only)
  repeat' first
    | with_reducible exact Keeps.refl _ _
    | (with_reducible apply Keeps.step (telemetryGone_fr ..); decide)
    | with_reducible apply Keeps.whenDo
    | split
    | intro _
    | dsimp only

theorem execSupplyFaultTimeout_fr : ∀ a0 a1 t, (execSupplyFaultTimeout a0 a1) = .next t → Keeps 0x4001400000000004002002003ec10000000002847b51c0 a1 t := by
  intros; rename_i h; unfold execSupplyFaultTimeout at h; replace h := Host.Outcome.next.inj h; subst h
  (try dsimp only)
  repeat' first
    | with_reducible exact Keeps.refl _ _
    | (with_reducible apply Keeps.step (supplyTimedOut_fr ..); decide)
    | with_reducible apply Keeps.whenDo
    | split
    | intro _
    | dsimp only

theorem execLaneLockLost_fr : ∀ a0 a1 t, (execLaneLockLost a0 a1) = .next t → Keeps 0x10000080000000000000000c1000000000280311140 a1 t := by
  intros; rename_i h; unfold execLaneLockLost at h; replace h := Host.Outcome.next.inj h; subst h
  (try dsimp only)
  repeat' first
    | with_reducible exact Keeps.refl _ _
    | (with_reducible apply Keeps.step (enterRetrain_fr ..); decide)
    | with_reducible apply Keeps.whenDo
    | split
    | intro _
    | dsimp only

theorem execBackchannelSilence_fr : ∀ a0 a1 t, (execBackchannelSilence a0 a1) = .next t → Keeps 0x10000080000000000000000c1000000000280311140 a1 t := by
  intros; rename_i h; unfold execBackchannelSilence at h; replace h := Host.Outcome.next.inj h; subst h
  (try dsimp only)
  repeat' first
    | with_reducible exact Keeps.refl _ _
    | (with_reducible apply Keeps.step (enterRetrain_fr ..); decide)
    | with_reducible apply Keeps.whenDo
    | split
    | intro _
    | dsimp only

theorem execRetrainAttemptEnd_fr : ∀ a0 a1 a2 t, (execRetrainAttemptEnd a0 a1 a2) = .next t → Keeps 0x4001400000000004002002003ec10000000002847b51c0 a2 t := by
  intros; rename_i h; unfold execRetrainAttemptEnd at h; replace h := Host.Outcome.next.inj h; subst h
  (try dsimp only)
  repeat' first
    | with_reducible exact Keeps.refl _ _
    | (with_reducible apply Keeps.step (retrainEnd_fr ..); decide)
    | with_reducible apply Keeps.whenDo
    | split
    | intro _
    | dsimp only

theorem execStatusSelftestDone_fr : ∀ a0 a1 a2 t, (execStatusSelftestDone a0 a1 a2) = .next t → Keeps 0x10000800000000000000000c0000000000280211040 a2 t := by
  intros; rename_i h; unfold execStatusSelftestDone at h; replace h := Host.Outcome.next.inj h; subst h
  (try dsimp only)
  repeat' first
    | with_reducible exact Keeps.refl _ _
    | (with_reducible apply Keeps.step (backFrame_fr ..); decide)
    | (with_reducible apply Keeps.step (selftestDone_fr ..); decide)
    | with_reducible apply Keeps.whenDo
    | split
    | intro _
    | dsimp only

end Sys2Proof.Machine
end

