-- ==== Sys2Proof/Laws/FrameServer.lean ====
section
/-! SUPPORT. Laws/FrameServer.lean: the frame of every operation of the resets, the object server and the host interface: one lemma per operation, whose mask
(Safety.lean) names every place that the operation may change. -/

namespace Sys2Proof.Machine
open Sys2Proof

/-! ### Machine/Security.lean -/

theorem modSec_fr : ∀ a0 a1, Keeps 0x800000000 a1 (modSec a0 a1) := by
  intros; unfold modSec
  (try dsimp only)
  repeat' first
    | with_reducible exact Keeps.refl _ _
    | split
    | intro _
    | dsimp only
    | (with_reducible apply Keeps.upd_sec; decide)

theorem dropProposal_fr : ∀ a0, Keeps 0x800000000 a0 (dropProposal a0) := by
  intros; unfold dropProposal
  (try dsimp only)
  repeat' first
    | with_reducible exact Keeps.refl _ _
    | (with_reducible apply Keeps.step (modSec_fr ..); decide)
    | split
    | intro _
    | dsimp only

theorem closeProposal_fr : ∀ a0 a1, Keeps 0x10000000000000004000000c0000000000a80011040 a1 (closeProposal a0 a1) := by
  intros; unfold closeProposal
  (try dsimp only)
  have kLAST_CAUSE := Fam.has_LAST_CAUSE
  generalize OD.LAST_CAUSE = fLAST_CAUSE at kLAST_CAUSE ⊢
  repeat' first
    | with_reducible exact Keeps.refl _ _
    | (with_reducible apply Keeps.step (dropProposal_fr ..); decide)
    | (with_reducible apply Keeps.step (raise_fr ..); decide)
    | (with_reducible apply Keeps.setO .LAST_CAUSE ?_ (kLAST_CAUSE ..) ?_; decide)
    | split
    | intro _
    | dsimp only

theorem openProposal_fr : ∀ a0 a1 a2 a3, Keeps 0x10000000008000004000000c0000000000a80011044 a3 (openProposal a0 a1 a2 a3) := by
  intros; unfold openProposal
  (try dsimp only)
  have kPROPOSAL_ID := Fam.has_PROPOSAL_ID
  generalize OD.PROPOSAL_ID = fPROPOSAL_ID at kPROPOSAL_ID ⊢
  repeat' first
    | with_reducible exact Keeps.refl _ _
    | (with_reducible apply Keeps.step (closeProposal_fr ..); decide)
    | (with_reducible apply Keeps.step (freeDrawn_fr ..); decide)
    | (with_reducible apply Keeps.step (modSec_fr ..); decide)
    | (with_reducible apply Keeps.step (raise_fr ..); decide)
    | (with_reducible apply Keeps.bump .PROPOSAL_ID ?_ (kPROPOSAL_ID ..) ?_; decide)
    | split
    | intro _
    | dsimp only

theorem refuseConsent_fr : ∀ a0 a1 a2, Keeps 0x10000000800000004000000c0000000000a80011040 a2 (refuseConsent a0 a1 a2) := by
  intros; unfold refuseConsent
  (try dsimp only)
  have kLAST_CAUSE := Fam.has_LAST_CAUSE
  generalize OD.LAST_CAUSE = fLAST_CAUSE at kLAST_CAUSE ⊢
  have kREFUSALS := Fam.has_REFUSALS
  generalize OD.REFUSALS = fREFUSALS at kREFUSALS ⊢
  repeat' first
    | with_reducible exact Keeps.refl _ _
    | (with_reducible apply Keeps.step (dropProposal_fr ..); decide)
    | (with_reducible apply Keeps.step (modSec_fr ..); decide)
    | (with_reducible apply Keeps.step (openRecord_fr ..); decide)
    | (with_reducible apply Keeps.step (raise_fr ..); decide)
    | (with_reducible apply Keeps.setO .LAST_CAUSE ?_ (kLAST_CAUSE ..) ?_; decide)
    | (with_reducible apply Keeps.bump .REFUSALS ?_ (kREFUSALS ..) ?_; decide)
    | split
    | intro _
    | dsimp only

theorem takeConsent_fr : ∀ a0 a1 a2, Keeps 0x880000000 a2 (takeConsent a0 a1 a2) := by
  intros; unfold takeConsent
  (try dsimp only)
  repeat' first
    | with_reducible exact Keeps.refl _ _
    | (with_reducible apply Keeps.step (modSec_fr ..); decide)
    | (with_reducible apply Keeps.step (openRecord_fr ..); decide)
    | split
    | intro _
    | dsimp only

theorem setDchk_fr : ∀ a0 a1, Keeps 0x10000000000000000000000c00200000002800110c0 a1 (setDchk a0 a1) := by
  intros; unfold setDchk
  (try dsimp only)
  have kDCHK_ENABLE := Fam.has_DCHK_ENABLE
  generalize OD.DCHK_ENABLE = fDCHK_ENABLE at kDCHK_ENABLE ⊢
  repeat' first
    | with_reducible exact Keeps.refl _ _
    | (with_reducible apply Keeps.step (raiseX_fr ..); decide)
    | (with_reducible apply Keeps.setB .DCHK_ENABLE ?_ (kDCHK_ENABLE ..) ?_; decide)
    | split
    | intro _
    | dsimp only
    | (with_reducible apply Keeps.own_log; rfl; rfl; decide)
    | (with_reducible apply Keeps.own_dev; rfl; rfl; rfl; rfl; rfl; decide)
    | (with_reducible apply Keeps.upd_dev; decide; decide)
    | (with_reducible apply Keeps.own_dev; rfl; rfl; rfl; rfl; decide)

theorem setUnlocked_fr : ∀ a0 a1, Keeps 0x10000000000000000000000c0020000000a800110c0 a1 (setUnlocked a0 a1) := by
  intros; unfold setUnlocked
  (try dsimp only)
  repeat' first
    | with_reducible exact Keeps.refl _ _
    | (with_reducible apply Keeps.step (modSec_fr ..); decide)
    | (with_reducible apply Keeps.step (raise_fr ..); decide)
    | (with_reducible apply Keeps.step (setDchk_fr ..); decide)
    | split
    | intro _
    | dsimp only

theorem setConsentKey_fr : ∀ a0 a1 a2 s t, setConsentKey a0 a1 a2 s = some t → Keeps 0x800000000 s t := by
  intro a b w s t h; unfold setConsentKey at h; split at h
  · cases h
  · replace h := Option.some.inj h; subst h; exact modSec_fr ..

theorem provision_fr : ∀ a0 a1 a2, Keeps 0x800000000 a2 (provision a0 a1 a2).2 := by
  intros; unfold provision
  (try dsimp only)
  repeat' first
    | with_reducible exact Keeps.refl _ _
    | (with_reducible apply Keeps.step (setConsentKey_fr _ _ _ _ _ (by assumption)); decide)
    | split
    | intro _
    | dsimp only

theorem proposalApplied_fr : ∀ a0, Keeps 0x10000000000000000000000c0000000000a80011040 a0 (proposalApplied a0) := by
  intros; unfold proposalApplied
  (try dsimp only)
  repeat' first
    | with_reducible exact Keeps.refl _ _
    | (with_reducible apply Keeps.step (dropProposal_fr ..); decide)
    | (with_reducible apply Keeps.step (raise_fr ..); decide)
    | split
    | intro _
    | dsimp only

theorem execProposalExpiry_fr : ∀ a0 t, (execProposalExpiry a0) = .next t → Keeps 0x10000000000000004000000c0000000000a80011040 a0 t := by
  intros; rename_i h; unfold execProposalExpiry at h; replace h := Host.Outcome.next.inj h; subst h
  (try dsimp only)
  repeat' first
    | with_reducible exact Keeps.refl _ _
    | (with_reducible apply Keeps.step (closeProposal_fr ..); decide)
    | split
    | intro _
    | dsimp only

theorem jtagShift_fr : ∀ a0 a1, Keeps 0x2000000000 a1 (jtagShift a0 a1) := by
  intros; unfold jtagShift
  (try dsimp only)
  repeat' first
    | with_reducible exact Keeps.refl _ _
    | split
    | intro _
    | dsimp only
    | (with_reducible apply Keeps.upd_pins; decide)

theorem execIdcode_fr : ∀ a0 t, (execIdcode a0) = .next t → Keeps 0x2000000000 a0 t := by
  intros; rename_i h; unfold execIdcode at h; replace h := Host.Outcome.next.inj h; subst h
  (try dsimp only)
  repeat' first
    | with_reducible exact Keeps.refl _ _
    | (with_reducible apply Keeps.step (jtagShift_fr ..); decide)
    | split
    | intro _
    | dsimp only

theorem execBypass_fr : ∀ a0 t, (execBypass a0) = .next t → Keeps 0x2000000000 a0 t := by
  intros; rename_i h; unfold execBypass at h; replace h := Host.Outcome.next.inj h; subst h
  (try dsimp only)
  repeat' first
    | with_reducible exact Keeps.refl _ _
    | (with_reducible apply Keeps.step (jtagShift_fr ..); decide)
    | split
    | intro _
    | dsimp only

theorem execSample_fr : ∀ a0 a1 t, (execSample a0 a1) = .next t → Keeps 0x2000000000 a1 t := by
  intros; rename_i h; unfold execSample at h; replace h := Host.Outcome.next.inj h; subst h
  (try dsimp only)
  repeat' first
    | with_reducible exact Keeps.refl _ _
    | split
    | intro _
    | dsimp only
    | (with_reducible apply Keeps.upd_pins; decide)

theorem execDebugInstruction_fr : ∀ a0 a1 t, execDebugInstruction a0 a1 = .next t → Keeps 0x2000000000 a1 t := by
  intro a s t h; unfold execDebugInstruction at h; split at h
  · cases h
  · have h := Host.Outcome.next.inj h; subst h; exact jtagShift_fr ..

/-! ### Machine/Reset.lean -/

theorem configLedgers_fr : ∀ a0, Keeps 0x100 a0 (configLedgers a0) := by
  intros; unfold configLedgers
  (try dsimp only)
  repeat' first
    | with_reducible exact Keeps.refl _ _
    | (with_reducible apply Keeps.step (startLedger_fr ..); decide)
    | split
    | intro _
    | dsimp only

theorem dropObjects_fr : ∀ a0 a1, Keeps 0x4000000008 a1 (dropObjects a0 a1) := by
  intros; unfold dropObjects
  (try dsimp only)
  repeat' first
    | with_reducible exact Keeps.refl _ _
    | split
    | intro _
    | dsimp only
    | (with_reducible apply Keeps.upd_dom_od; decide; decide)

theorem loadLive_fr : ∀ a0, Keeps 0x30 a0 (loadLive a0) := by
  intros; unfold loadLive
  (try dsimp only)
  repeat' first
    | with_reducible exact Keeps.refl _ _
    | (with_reducible apply Keeps.step (State.handOver_fr ..); decide)
    | split
    | intro _
    | dsimp only

theorem dropLive_fr : ∀ a0 a1, Keeps 0x30 a1 (dropLive a0 a1) := by
  intros; unfold dropLive
  (try dsimp only)
  repeat' first
    | with_reducible exact Keeps.refl _ _
    | split
    | intro _
    | dsimp only
    | (with_reducible apply Keeps.upd_live_liveDom; decide; decide)

theorem hotReset_fr : ∀ a0 a1, Keeps 0x1000000000000002000003ec00000000012800bfbc0 a1 (hotReset a0 a1) := by
  intros; unfold hotReset
  (try dsimp only)
  repeat' first
    | with_reducible exact Keeps.refl _ _
    | (with_reducible apply Keeps.step (checkLedgers_fr ..); decide)
    | (with_reducible apply Keeps.step (hotResetRings_fr ..); decide)
    | split
    | intro _
    | dsimp only
    | (with_reducible apply Keeps.own_pcie; rfl; rfl; rfl; decide)
    | (with_reducible apply Keeps.own_msix; rfl; rfl; decide)
    | (with_reducible apply Keeps.own_hostWrites; rfl; rfl; rfl; decide)
    | (with_reducible apply Keeps.upd_pcie; decide; decide; decide)
    | (with_reducible apply Keeps.upd_pcie_srv; decide; decide; decide; decide)

theorem subEnds_fr : ∀ a0 a1, Keeps 0x3002100000 a1 (subEnds a0 a1) := by
  intros; unfold subEnds
  (try dsimp only)
  repeat' first
    | with_reducible exact Keeps.refl _ _
    | (with_reducible apply Keeps.step (driveHold_fr ..); decide)
    | (with_reducible apply Keeps.step (startCams_fr ..); decide)
    | (with_reducible apply Keeps.step (startPanel_fr ..); decide)
    | split
    | intro _
    | dsimp only
    | (with_reducible apply Keeps.upd_plat; decide)

theorem abandonSubs_fr : ∀ a0, Keeps 0x3042100000 a0 (abandonSubs a0) := by
  intros; unfold abandonSubs
  (try dsimp only)
  repeat' first
    | with_reducible exact Keeps.refl _ _
    | (with_reducible apply Keeps.step (subEnds_fr ..); decide)
    | with_reducible apply Keeps.eachDo
    | split
    | intro _
    | dsimp only
    | (with_reducible apply Keeps.upd_boot; decide)

theorem resetPower_fr : ∀ a0, Keeps 0x10000000000000000000000c0000000001798011040 a0 (resetPower a0) := by
  intros; unfold resetPower
  (try dsimp only)
  repeat' first
    | with_reducible exact Keeps.refl _ _
    | (with_reducible apply Keeps.step (exitSelfRefresh_fr ..); decide)
    | (with_reducible apply Keeps.step (setPower_fr ..); decide)
    | (with_reducible apply Keeps.step (startPanel_fr ..); decide)
    | split
    | intro _
    | dsimp only
    | (with_reducible apply Keeps.own_wake; rfl; decide)
    | (with_reducible apply Keeps.own_pwr; rfl; rfl; decide)
    | (with_reducible apply Keeps.upd_pwr; decide; decide)

theorem takeHot_fr : ∀ a0, Keeps 0x1000000000000002000003ec00000000037da1bfbc0 a0 (takeHot a0) := by
  intros; unfold takeHot
  (try dsimp only)
  repeat' first
    | with_reducible exact Keeps.refl _ _
    | (with_reducible apply Keeps.step (abandonSubs_fr ..); decide)
    | (with_reducible apply Keeps.step (hotReset_fr ..); decide)
    | (with_reducible apply Keeps.step (resetPower_fr ..); decide)
    | split
    | intro _
    | dsimp only
    | (with_reducible apply Keeps.own_wake; rfl; decide)
    | (with_reducible apply Keeps.own_pwr; rfl; rfl; decide)
    | (with_reducible apply Keeps.upd_pwr; decide; decide)

theorem hotAsserted_fr : ∀ a0 a1, Keeps 0x1000000000000002000003ec00000000037da1bfbc0 a1 (hotAsserted a0 a1) := by
  intros; unfold hotAsserted
  (try dsimp only)
  repeat' first
    | with_reducible exact Keeps.refl _ _
    | (with_reducible apply Keeps.step (raise_fr ..); decide)
    | (with_reducible apply Keeps.step (takeHot_fr ..); decide)
    | split
    | intro _
    | dsimp only

theorem execHotReset_fr : ∀ a0 a1 t, (execHotReset a0 a1) = .next t → Keeps 0x1000000000000002000003ec00000000037da1bfbc0 a1 t := by
  intros; rename_i h; unfold execHotReset at h; replace h := Host.Outcome.next.inj h; subst h
  (try dsimp only)
  repeat' first
    | with_reducible exact Keeps.refl _ _
    | (with_reducible apply Keeps.step (hotAsserted_fr ..); decide)
    | split
    | intro _
    | dsimp only

theorem pcieLost_fr : ∀ a0, Keeps 0x1000000000000002000003ec00000000037da1bfbc0 a0 (pcieLost a0) := by
  intros; unfold pcieLost
  (try dsimp only)
  repeat' first
    | with_reducible exact Keeps.refl _ _
    | (with_reducible apply Keeps.step (raise_fr ..); decide)
    | (with_reducible apply Keeps.step (takeHot_fr ..); decide)
    | split
    | intro _
    | dsimp only
    | (with_reducible apply Keeps.upd_clk_pcie; decide; decide; decide; decide)
    | (with_reducible apply Keeps.own_pcie; rfl; rfl; rfl; decide)
    | (with_reducible apply Keeps.own_msix; rfl; rfl; decide)
    | (with_reducible apply Keeps.own_hostWrites; rfl; rfl; rfl; decide)
    | (with_reducible apply Keeps.upd_pcie; decide; decide; decide)

theorem execPcieLinkDown_fr : ∀ a0 t, (execPcieLinkDown a0) = .next t → Keeps 0x1000000000000002000003ec00000000037da1bfbc0 a0 t := by
  intros; rename_i h; unfold execPcieLinkDown at h; replace h := Host.Outcome.next.inj h; subst h
  (try dsimp only)
  repeat' first
    | with_reducible exact Keeps.refl _ _
    | (with_reducible apply Keeps.step (pcieLost_fr ..); decide)
    | split
    | intro _
    | dsimp only

theorem execPerstNEdge_fr : ∀ a0 a1 t, (execPerstNEdge a0 a1) = .next t → Keeps 0x1000000000000002000003ec00000000037da1bfbc0 a1 t := by
  intros; rename_i h; unfold execPerstNEdge at h; replace h := Host.Outcome.next.inj h; subst h
  (try dsimp only)
  repeat' first
    | with_reducible exact Keeps.refl _ _
    | (with_reducible apply Keeps.step (demandWake_fr ..); decide)
    | (with_reducible apply Keeps.step (pcieLost_fr ..); decide)
    | split
    | intro _
    | dsimp only
    | (with_reducible apply Keeps.own_pcie; rfl; rfl; rfl; decide)
    | (with_reducible apply Keeps.own_msix; rfl; rfl; decide)
    | (with_reducible apply Keeps.own_hostWrites; rfl; rfl; rfl; decide)
    | (with_reducible apply Keeps.upd_pcie; decide; decide; decide)

theorem resetTo_fr : ∀ a0 a1 s, a0 ≠ 0 → Keeps 0x10000060000000000000000c0000000007ffffffff8 s (resetTo a0 a1 s) := by
  intro k d s hk; unfold resetTo; dsimp only
  refine Keeps.ite ?_ (Keeps.step (raise_fr ..) (by decide) ?_)
  all_goals
    refine ⟨fun p hp => ?_, fun j hj => absurd trivial (hj .any (by decide))⟩
    cases p <;> first
      | exact absurd hp (by decide)
      | rfl
      | (show (if k = 0 then 0 else s.loc) = s.loc; rw [if_neg hk])

theorem resetTo_zero_fr : ∀ a0 a1 s, Keeps 0x10000060000000000000000c0000000007ffffffffa s (resetTo a0 a1 s) := by
  intro k d s; unfold resetTo; dsimp only
  refine Keeps.ite ?_ (Keeps.step (raise_fr ..) (by decide) ?_)
  all_goals
    refine ⟨fun p hp => ?_, fun j hj => absurd trivial (hj .any (by decide))⟩
    cases p <;> first
      | exact absurd hp (by decide)
      | rfl

theorem doReset_fr : ∀ a0 a1 s, a0 ≠ 0 → Keeps 0x10000060000000000000000c0000000007ffffffff8 s (doReset a0 a1 s) := by
  intro k d s hk; unfold doReset; split
  · exact Keeps.refl _ _
  · exact resetTo_fr k d s hk

theorem doReset_zero_fr : ∀ a0 a1 s, Keeps 0x10000060000000000000000c0000000007ffffffffa s (doReset a0 a1 s) := by
  intro k d s; unfold doReset; split
  · exact Keeps.refl _ _
  · exact resetTo_zero_fr k d s

theorem execPowerOnReset_fr : ∀ a0 t, (execPowerOnReset a0) = .next t → Keeps 0x10000060000000000000000c0000000007ffffffffa a0 t := by
  intros; rename_i h; unfold execPowerOnReset at h; replace h := Host.Outcome.next.inj h; subst h
  (try dsimp only)
  repeat' first
    | with_reducible exact Keeps.refl _ _
    | (with_reducible apply Keeps.step (doReset_fr _ _ _ ?_) ?_ ?_; decide; decide)
    | (with_reducible apply Keeps.step (doReset_zero_fr ..); decide)
    | split
    | intro _
    | dsimp only

theorem execPinReset_fr : ∀ a0 t, (execPinReset a0) = .next t → Keeps 0x10000060000000000000000c0000000007ffffffff8 a0 t := by
  intros; rename_i h; unfold execPinReset at h; replace h := Host.Outcome.next.inj h; subst h
  (try dsimp only)
  repeat' first
    | with_reducible exact Keeps.refl _ _
    | (with_reducible apply Keeps.step (doReset_fr _ _ _ ?_) ?_ ?_; decide; decide)
    | split
    | intro _
    | dsimp only

theorem execWdgReset_fr : ∀ a0 a1 t, (execWdgReset a0 a1) = .next t → Keeps 0x10000060000000000000000c0000000007ffffffff8 a1 t := by
  intros; rename_i h; unfold execWdgReset at h; replace h := Host.Outcome.next.inj h; subst h
  (try dsimp only)
  repeat' first
    | with_reducible exact Keeps.refl _ _
    | (with_reducible apply Keeps.step (doReset_fr _ _ _ ?_) ?_ ?_; decide; decide)
    | split
    | intro _
    | dsimp only

theorem execCpuWatchdogWarn_fr : ∀ a0 a1 t, (execCpuWatchdogWarn a0 a1) = .next t → Keeps 0x10000000000000000000000c0000000000280011040 a1 t := by
  intros; rename_i h; unfold execCpuWatchdogWarn at h; replace h := Host.Outcome.next.inj h; subst h
  (try dsimp only)
  repeat' first
    | with_reducible exact Keeps.refl _ _
    | (with_reducible apply Keeps.step (raise_fr ..); decide)
    | split
    | intro _
    | dsimp only

theorem execCpuFirmwareFault_fr : ∀ a0 a1 a2 t, (execCpuFirmwareFault a0 a1 a2) = .next t → Keeps 0x10000060000000000000000c0000000007ffffffff8 a2 t := by
  intros; rename_i h; unfold execCpuFirmwareFault at h; replace h := Host.Outcome.next.inj h; subst h
  (try dsimp only)
  repeat' first
    | with_reducible exact Keeps.refl _ _
    | (with_reducible apply Keeps.step (completeOpen_fr ..); decide)
    | (with_reducible apply Keeps.step (raise_fr ..); decide)
    | (with_reducible apply Keeps.step (doReset_fr _ _ _ ?_) ?_ ?_; decide; decide)
    | split
    | intro _
    | dsimp only

theorem clockFailure_fr : ∀ a0, Keeps 0x400000000000000 a0 (clockFailure a0) := by
  intros; unfold clockFailure
  (try dsimp only)
  have kCLOCK_FAILURES := Fam.has_CLOCK_FAILURES
  generalize OD.CLOCK_FAILURES = fCLOCK_FAILURES at kCLOCK_FAILURES ⊢
  repeat' first
    | with_reducible exact Keeps.refl _ _
    | (with_reducible apply Keeps.bump .CLOCK_FAILURES ?_ (kCLOCK_FAILURES ..) ?_; decide)
    | split
    | intro _
    | dsimp only

theorem execCrystalLoss_fr : ∀ a0 a1 t, (execCrystalLoss a0 a1) = .next t → Keeps 0x10000060000000000000000c0000400007ffffffff8 a1 t := by
  intros; rename_i h; unfold execCrystalLoss at h; replace h := Host.Outcome.next.inj h; subst h
  (try dsimp only)
  repeat' first
    | with_reducible exact Keeps.refl _ _
    | (with_reducible apply Keeps.step (clockFailure_fr ..); decide)
    | (with_reducible apply Keeps.step (doReset_fr _ _ _ ?_) ?_ ?_; decide; decide)
    | split
    | intro _
    | dsimp only
    | (with_reducible apply Keeps.upd_clk; decide)

theorem execDdrPllUnlock_fr : ∀ a0 t, (execDdrPllUnlock a0) = .next t → Keeps 0x10000060000000000000000c0000400007ffffffff8 a0 t := by
  intros; rename_i h; unfold execDdrPllUnlock at h; replace h := Host.Outcome.next.inj h; subst h
  (try dsimp only)
  repeat' first
    | with_reducible exact Keeps.refl _ _
    | (with_reducible apply Keeps.step (clockFailure_fr ..); decide)
    | (with_reducible apply Keeps.step (doReset_fr _ _ _ ?_) ?_ ?_; decide; decide)
    | split
    | intro _
    | dsimp only
    | (with_reducible apply Keeps.upd_clk; decide)

theorem execClkPcieRefLost_fr : ∀ a0 t, (execClkPcieRefLost a0) = .next t → Keeps 0x1000000000000002000003ec00004000037da1bfbc0 a0 t := by
  intros; rename_i h; unfold execClkPcieRefLost at h; replace h := Host.Outcome.next.inj h; subst h
  (try dsimp only)
  repeat' first
    | with_reducible exact Keeps.refl _ _
    | (with_reducible apply Keeps.step (clockFailure_fr ..); decide)
    | (with_reducible apply Keeps.step (pcieLost_fr ..); decide)
    | (with_reducible apply Keeps.step (raise_fr ..); decide)
    | split
    | intro _
    | dsimp only
    | (with_reducible apply Keeps.upd_clk; decide)

theorem execClkPcieRefRestored_fr : ∀ a0 t, (execClkPcieRefRestored a0) = .next t → Keeps 0x10000000000000000000000c0000000000680011040 a0 t := by
  intros; rename_i h; unfold execClkPcieRefRestored at h; replace h := Host.Outcome.next.inj h; subst h
  (try dsimp only)
  repeat' first
    | with_reducible exact Keeps.refl _ _
    | (with_reducible apply Keeps.step (raise_fr ..); decide)
    | split
    | intro _
    | dsimp only
    | (with_reducible apply Keeps.upd_clk; decide)

theorem execBrownoutReset_fr : ∀ a0 a1 t, (execBrownoutReset a0 a1) = .next t → Keeps 0x1000006000000002000003ec0000000807ffffffffa a1 t := by
  intros; rename_i h; unfold execBrownoutReset at h; replace h := Host.Outcome.next.inj h; subst h
  (try dsimp only)
  have kBROWNOUTS := Fam.has_BROWNOUTS
  generalize OD.BROWNOUTS = fBROWNOUTS at kBROWNOUTS ⊢
  repeat' first
    | with_reducible exact Keeps.refl _ _
    | (with_reducible apply Keeps.step (pcieLost_fr ..); decide)
    | (with_reducible apply Keeps.step (doReset_fr _ _ _ ?_) ?_ ?_; decide; decide)
    | (with_reducible apply Keeps.step (doReset_zero_fr ..); decide)
    | (with_reducible apply Keeps.bump .BROWNOUTS ?_ (kBROWNOUTS ..) ?_; decide)
    | split
    | intro _
    | dsimp only

theorem dropRecords_fr : ∀ a0, Keeps 0x18100 a0 (dropRecords a0) := by
  intros; unfold dropRecords
  (try dsimp only)
  repeat' first
    | with_reducible exact Keeps.refl _ _
    | (with_reducible apply Keeps.step (freeHolder_fr ..); decide)
    | split
    | intro _
    | dsimp only
    | (with_reducible apply Keeps.upd_egress; decide; decide)

theorem resetDuct_fr : ∀ a0, Keeps 0x10000000000000000000000c00000000012000bd140 a0 (resetDuct a0) := by
  intros; unfold resetDuct
  (try dsimp only)
  repeat' first
    | with_reducible exact Keeps.refl _ _
    | (with_reducible apply Keeps.step (dropRecords_fr ..); decide)
    | (with_reducible apply Keeps.step (hotResetRings_fr ..); decide)
    | split
    | intro _
    | dsimp only

theorem dropStreams_fr : ∀ a0, Keeps 0x20100 a0 (dropStreams a0) := by
  intros; unfold dropStreams
  (try dsimp only)
  repeat' first
    | with_reducible exact Keeps.refl _ _
    | (with_reducible apply Keeps.step (freeHolder_fr ..); decide)
    | with_reducible apply Keeps.eachDo
    | split
    | intro _
    | dsimp only
    | (with_reducible apply Keeps.upd_gal; decide)

theorem dropInputs_fr : ∀ a0, Keeps 0x80100 a0 (dropInputs a0) := by
  intros; unfold dropInputs
  (try dsimp only)
  repeat' first
    | with_reducible exact Keeps.refl _ _
    | (with_reducible apply Keeps.step (freeHolder_fr ..); decide)
    | split
    | intro _
    | dsimp only
    | (with_reducible apply Keeps.upd_comp; decide)

theorem resetGal_fr : ∀ a0, Keeps 0xa0100 a0 (resetGal a0) := by
  intros; unfold resetGal
  (try dsimp only)
  repeat' first
    | with_reducible exact Keeps.refl _ _
    | (with_reducible apply Keeps.step (dropInputs_fr ..); decide)
    | (with_reducible apply Keeps.step (dropStreams_fr ..); decide)
    | split
    | intro _
    | dsimp only

theorem resetImp_fr : ∀ a0, Keeps 0xe0100 a0 (resetImp a0) := by
  intros; unfold resetImp
  (try dsimp only)
  repeat' first
    | with_reducible exact Keeps.refl _ _
    | (with_reducible apply Keeps.step (dropInputs_fr ..); decide)
    | (with_reducible apply Keeps.step (dropStreams_fr ..); decide)
    | (with_reducible apply Keeps.step (startLedger_fr ..); decide)
    | split
    | intro _
    | dsimp only
    | (with_reducible apply Keeps.upd_comp_formes_gal; decide; decide; decide)
    | (with_reducible apply Keeps.upd_comp_formes; decide; decide)

theorem resetComp_fr : ∀ a0, Keeps 0x80d00 a0 (resetComp a0) := by
  intros; unfold resetComp
  (try dsimp only)
  repeat' first
    | with_reducible exact Keeps.refl _ _
    | (with_reducible apply Keeps.step (answerTo_fr ..); decide)
    | (with_reducible apply Keeps.step (freeHolder_fr ..); decide)
    | split
    | intro _
    | dsimp only
    | (with_reducible apply Keeps.upd_comp; decide)

theorem dropReserved_fr : ∀ a0, Keeps 0x18100 a0 (dropReserved a0) := by
  intros; unfold dropReserved
  (try dsimp only)
  repeat' first
    | with_reducible exact Keeps.refl _ _
    | (with_reducible apply Keeps.step (freeHolder_fr ..); decide)
    | split
    | intro _
    | dsimp only
    | (with_reducible apply Keeps.upd_egress; decide; decide)

theorem resetPlat_fr : ∀ a0, Keeps 0x2000718100 a0 (resetPlat a0) := by
  intros; unfold resetPlat
  (try dsimp only)
  repeat' first
    | with_reducible exact Keeps.refl _ _
    | (with_reducible apply Keeps.step (dropReserved_fr ..); decide)
    | (with_reducible apply Keeps.step (freeHolder_fr ..); decide)
    | split
    | intro _
    | dsimp only
    | (with_reducible apply Keeps.upd_pins_plat_ports_web; decide; decide; decide; decide)

theorem resetOhl_fr : ∀ a0, Keeps 0x300100 a0 (resetOhl a0) := by
  intros; unfold resetOhl
  (try dsimp only)
  repeat' first
    | with_reducible exact Keeps.refl _ _
    | (with_reducible apply Keeps.step (freeHolder_fr ..); decide)
    | (with_reducible apply Keeps.step (startLedger_fr ..); decide)
    | split
    | intro _
    | dsimp only
    | (with_reducible apply Keeps.upd_plat_ports; decide; decide)

theorem resetWeb_fr : ∀ a0, Keeps 0x400000 a0 (resetWeb a0) := by
  intros; unfold resetWeb
  (try dsimp only)
  repeat' first
    | with_reducible exact Keeps.refl _ _
    | split
    | intro _
    | dsimp only
    | (with_reducible apply Keeps.upd_web; decide)

theorem resetTime_fr : ∀ a0, Keeps 0x800000 a0 (resetTime a0) := by
  intros; unfold resetTime
  (try dsimp only)
  repeat' first
    | with_reducible exact Keeps.refl _ _
    | split
    | intro _
    | dsimp only
    | (with_reducible apply Keeps.upd_time; decide)

theorem resetCam_fr : ∀ a0, Keeps 0x100000000000004000200000000002000002000130 a0 (resetCam a0) := by
  intros; unfold resetCam
  (try dsimp only)
  have kCAM_COMMIT_PENDING := Fam.has_CAM_COMMIT_PENDING
  generalize OD.CAM_COMMIT_PENDING = fCAM_COMMIT_PENDING at kCAM_COMMIT_PENDING ⊢
  have kFSN := Fam.has_FSN
  generalize OD.FSN = fFSN at kFSN ⊢
  have kLIVE_ID := Fam.has_LIVE_ID
  generalize OD.LIVE_ID = fLIVE_ID at kLIVE_ID ⊢
  have kTARGET_FSN := Fam.has_TARGET_FSN
  generalize OD.TARGET_FSN = fTARGET_FSN at kTARGET_FSN ⊢
  repeat' first
    | with_reducible exact Keeps.refl _ _
    | (with_reducible apply Keeps.step (dropLive_fr ..); decide)
    | (with_reducible apply Keeps.step (freeHolder_fr ..); decide)
    | with_reducible apply Keeps.eachDo
    | (with_reducible apply Keeps.setB .CAM_COMMIT_PENDING ?_ (kCAM_COMMIT_PENDING ..) ?_; decide)
    | (with_reducible apply Keeps.setO .FSN ?_ (kFSN ..) ?_; decide)
    | (with_reducible apply Keeps.setO .LIVE_ID ?_ (kLIVE_ID ..) ?_; decide)
    | (with_reducible apply Keeps.setO .TARGET_FSN ?_ (kTARGET_FSN ..) ?_; decide)
    | split
    | intro _
    | dsimp only
    | (with_reducible apply Keeps.upd_cams; decide)

theorem resetDisp_fr : ∀ a0, Keeps 0x10084000000018000000080c040020000139c3fdd48 a0 (resetDisp a0) := by
  intros; unfold resetDisp
  (try dsimp only)
  repeat' first
    | with_reducible exact Keeps.refl _ _
    | (with_reducible apply Keeps.step (answerTo_fr ..); decide)
    | (with_reducible apply Keeps.step (completeDesc_fr ..); decide)
    | with_reducible apply Keeps.eachDo
    | split
    | intro _
    | dsimp only
    | (with_reducible apply Keeps.upd_disp; decide)

theorem resetUnit_fr : ∀ a0 a1, Keeps 0x11084000000418040002080c04002020033bfffdd78 a1 (resetUnit a0 a1) := by
  intros; unfold resetUnit
  (try dsimp only)
  repeat' first
    | with_reducible exact Keeps.refl _ _
    | (with_reducible apply Keeps.step (motReset_fr ..); decide)
    | (with_reducible apply Keeps.step (paceReset_fr ..); decide)
    | (with_reducible apply Keeps.step (prfClear_fr ..); decide)
    | (with_reducible apply Keeps.step (releaseQuoin_fr ..); decide)
    | (with_reducible apply Keeps.step (resetCam_fr ..); decide)
    | (with_reducible apply Keeps.step (resetComp_fr ..); decide)
    | (with_reducible apply Keeps.step (resetDisp_fr ..); decide)
    | (with_reducible apply Keeps.step (resetDuct_fr ..); decide)
    | (with_reducible apply Keeps.step (resetGal_fr ..); decide)
    | (with_reducible apply Keeps.step (resetImp_fr ..); decide)
    | (with_reducible apply Keeps.step (resetOhl_fr ..); decide)
    | (with_reducible apply Keeps.step (resetPlat_fr ..); decide)
    | (with_reducible apply Keeps.step (resetTime_fr ..); decide)
    | (with_reducible apply Keeps.step (resetWeb_fr ..); decide)
    | split
    | intro _
    | dsimp only

theorem reloadUnit_fr : ∀ a0 a1, Keeps 0x30 a1 (reloadUnit a0 a1) := by
  intros; unfold reloadUnit
  (try dsimp only)
  repeat' first
    | with_reducible exact Keeps.refl _ _
    | (with_reducible apply Keeps.step (State.handOver_fr ..); decide)
    | split
    | intro _
    | dsimp only

theorem subReset_fr : ∀ a0 a1, Keeps 0x11084000000418040002080c04002020073ffffdd78 a1 (subReset a0 a1) := by
  intros; unfold subReset
  (try dsimp only)
  repeat' first
    | with_reducible exact Keeps.refl _ _
    | (with_reducible apply Keeps.step (dropObjects_fr ..); decide)
    | (with_reducible apply Keeps.step (motReset_fr ..); decide)
    | (with_reducible apply Keeps.step (reloadUnit_fr ..); decide)
    | (with_reducible apply Keeps.step (resetUnit_fr ..); decide)
    | split
    | intro _
    | dsimp only
    | (with_reducible apply Keeps.upd_boot; decide)

theorem subResetCommand_fr : ∀ a0 a1, Keeps 0x11084000000418040002080c04002020077ffffdd78 a1 (subResetCommand a0 a1).2 := by
  intros; unfold subResetCommand
  (try dsimp only)
  repeat' first
    | with_reducible exact Keeps.refl _ _
    | (with_reducible apply Keeps.step (demandWake_fr ..); decide)
    | (with_reducible apply Keeps.step (modPwr_fr ..); decide)
    | (with_reducible apply Keeps.step (resetPower_fr ..); decide)
    | (with_reducible apply Keeps.step (subReset_fr ..); decide)
    | split
    | intro _
    | dsimp only

theorem execPwrSubResetDone_fr : ∀ a0 t, (execPwrSubResetDone a0) = .next t → Keeps 0x1000000000000002000003ec00000000032c21110c0 a0 t := by
  intros; rename_i h; unfold execPwrSubResetDone at h; replace h := Host.Outcome.next.inj h; subst h
  (try dsimp only)
  repeat' first
    | with_reducible exact Keeps.refl _ _
    | (with_reducible apply Keeps.step (checkLedgers_fr ..); decide)
    | (with_reducible apply Keeps.step (raise_fr ..); decide)
    | (with_reducible apply Keeps.step (subEnds_fr ..); decide)
    | split
    | intro _
    | dsimp only
    | (with_reducible apply Keeps.upd_boot; decide)
    | (with_reducible apply Keeps.upd_pins_plat; decide; decide)
    | (with_reducible apply Keeps.upd_boot_pins_plat; decide; decide; decide)

theorem resetCommand_fr : ∀ a0 a1, Keeps 0x10000060000000000000000c0000000007ffffffff8 a1 (resetCommand a0 a1).2 := by
  intros; unfold resetCommand
  (try dsimp only)
  repeat' first
    | with_reducible exact Keeps.refl _ _
    | (with_reducible apply Keeps.step (demandWake_fr ..); decide)
    | (with_reducible apply Keeps.step (modPwr_fr ..); decide)
    | (with_reducible apply Keeps.step (doReset_fr _ _ _ ?_) ?_ ?_; decide; decide)
    | split
    | intro _
    | dsimp only

theorem sleepEntry_fr : ∀ a0, Keeps 0x1100000000000006000203ec0000002007fbffffff8 a0 (sleepEntry a0) := by
  intros; unfold sleepEntry
  (try dsimp only)
  repeat' first
    | with_reducible exact Keeps.refl _ _
    | (with_reducible apply Keeps.step (dramSleep_fr ..); decide)
    | (with_reducible apply Keeps.step (dropObjects_fr ..); decide)
    | (with_reducible apply Keeps.step (dropRecords_fr ..); decide)
    | (with_reducible apply Keeps.step (dropReserved_fr ..); decide)
    | (with_reducible apply Keeps.step (freeHolder_fr ..); decide)
    | (with_reducible apply Keeps.step (hotReset_fr ..); decide)
    | (with_reducible apply Keeps.step (motReset_fr ..); decide)
    | (with_reducible apply Keeps.step (paceReset_fr ..); decide)
    | (with_reducible apply Keeps.step (prfClear_fr ..); decide)
    | (with_reducible apply Keeps.step (resetCam_fr ..); decide)
    | (with_reducible apply Keeps.step (resetComp_fr ..); decide)
    | (with_reducible apply Keeps.step (resetGal_fr ..); decide)
    | (with_reducible apply Keeps.step (resetImp_fr ..); decide)
    | (with_reducible apply Keeps.step (resetOhl_fr ..); decide)
    | (with_reducible apply Keeps.step (webSleep_fr ..); decide)
    | split
    | intro _
    | dsimp only
    | (with_reducible apply Keeps.upd_clk_pcie; decide; decide; decide; decide)
    | (with_reducible apply Keeps.upd_disp_live_liveDom_pins_plat_pwr_sec_time; decide; decide; decide; decide; decide; decide; decide; decide; decide)
    | (with_reducible apply Keeps.own_pcie; rfl; rfl; rfl; decide)
    | (with_reducible apply Keeps.own_msix; rfl; rfl; decide)
    | (with_reducible apply Keeps.own_hostWrites; rfl; rfl; rfl; decide)
    | (with_reducible apply Keeps.upd_pcie; decide; decide; decide)
    | (with_reducible apply Keeps.upd_disp_live_liveDom_plat_sec; decide; decide; decide; decide; decide)

/-! ### Machine/Boot.lean -/

theorem modBoot_fr : ∀ a0 a1, Keeps 0x40000000 a1 (modBoot a0 a1) := by
  intros; unfold modBoot
  (try dsimp only)
  repeat' first
    | with_reducible exact Keeps.refl _ _
    | split
    | intro _
    | dsimp only
    | (with_reducible apply Keeps.upd_boot; decide)

theorem bootState_fr : ∀ a0 a1, Keeps 0x4000000000 a1 (bootState a0 a1) := by
  intros; unfold bootState
  refine Keeps.eachDo (fun _ _ => ?_) (Keeps.refl _ _)
  exact Keeps.setO .any (by decide) (Fam.has_any ..) (Keeps.refl _ _)

theorem readBoot_fr : ∀ a0, Keeps 0x4000000000 a0 (readBoot a0) := by
  intros; unfold readBoot
  (try dsimp only)
  repeat' first
    | with_reducible exact Keeps.refl _ _
    | (with_reducible apply Keeps.step (bootState_fr ..); decide)
    | (with_reducible apply Keeps.setO .any ?_ (Fam.has_any ..) ?_; decide)
    | split
    | intro _
    | dsimp only

theorem failStart_fr : ∀ a0 a1, Keeps 0x10010060000000000000000c0000000007ffffffff8 a1 (failStart a0 a1) := by
  intros; unfold failStart
  (try dsimp only)
  have kSTART_CAUSE := Fam.has_START_CAUSE
  generalize OD.START_CAUSE = fSTART_CAUSE at kSTART_CAUSE ⊢
  repeat' first
    | with_reducible exact Keeps.refl _ _
    | (with_reducible apply Keeps.step (journalNow_fr ..); decide)
    | (with_reducible apply Keeps.step (modBoot_fr ..); decide)
    | (with_reducible apply Keeps.step (resetTo_fr _ _ _ ?_) ?_ ?_; decide; decide)
    | (with_reducible apply Keeps.setO .START_CAUSE ?_ (kSTART_CAUSE ..) ?_; decide)
    | split
    | intro _
    | dsimp only

theorem loadAlias_fr : ∀ a0, Keeps 0x10000000000000000000000c0000000000280011440 a0 (loadAlias a0) := by
  intros; unfold loadAlias
  (try dsimp only)
  repeat' first
    | with_reducible exact Keeps.refl _ _
    | (with_reducible apply Keeps.step (raise_fr ..); decide)
    | split
    | intro _
    | dsimp only
    | (with_reducible apply Keeps.upd_net; decide)

theorem replayJournal_fr : ∀ a0 a1, Keeps 0x18000000000000000000000c0000000004280091048 a1 (replayJournal a0 a1) := by
  intros; unfold replayJournal
  (try dsimp only)
  repeat' first
    | with_reducible exact Keeps.refl _ _
    | (with_reducible apply Keeps.step (bootState_fr ..); decide)
    | (with_reducible apply Keeps.step (compactionCheck_fr ..); decide)
    | (with_reducible apply Keeps.step (modTymp_fr ..); decide)
    | (with_reducible apply Keeps.step (replay_fr ..); decide)
    | (with_reducible apply Keeps.step (tornTail_fr ..); decide)
    | split
    | intro _
    | dsimp only

theorem setFails_fr : ∀ a0 a1, Keeps 0x100000000000040000000 a1 (setFails a0 a1) := by
  intros; unfold setFails
  (try dsimp only)
  have kFAILED_STARTS := Fam.has_FAILED_STARTS
  generalize OD.FAILED_STARTS = fFAILED_STARTS at kFAILED_STARTS ⊢
  repeat' first
    | with_reducible exact Keeps.refl _ _
    | (with_reducible apply Keeps.step (modBoot_fr ..); decide)
    | (with_reducible apply Keeps.setO .FAILED_STARTS ?_ (kFAILED_STARTS ..) ?_; decide)
    | split
    | intro _
    | dsimp only

theorem enterBare_fr : ∀ a0 a1 a2, Keeps 0x81800000000000002000003fc00000006043c00914c8 a2 (enterBare a0 a1 a2) := by
  intros; unfold enterBare
  (try dsimp only)
  have kBARE_CAUSE := Fam.has_BARE_CAUSE
  generalize OD.BARE_CAUSE = fBARE_CAUSE at kBARE_CAUSE ⊢
  have kBARE_ENTRIES := Fam.has_BARE_ENTRIES
  generalize OD.BARE_ENTRIES = fBARE_ENTRIES at kBARE_ENTRIES ⊢
  have kUPDATE_SLOT := Fam.has_UPDATE_SLOT
  generalize OD.UPDATE_SLOT = fUPDATE_SLOT at kUPDATE_SLOT ⊢
  repeat' first
    | with_reducible exact Keeps.refl _ _
    | (with_reducible apply Keeps.step (checkLedgers_fr ..); decide)
    | (with_reducible apply Keeps.step (journalNow_fr ..); decide)
    | (with_reducible apply Keeps.step (loadAlias_fr ..); decide)
    | (with_reducible apply Keeps.step (modBoot_fr ..); decide)
    | (with_reducible apply Keeps.step (modTymp_fr ..); decide)
    | (with_reducible apply Keeps.step (raise_fr ..); decide)
    | (with_reducible apply Keeps.step (replayJournal_fr ..); decide)
    | (with_reducible apply Keeps.step (setFails_fr ..); decide)
    | (with_reducible apply Keeps.step (setPower_fr ..); decide)
    | with_reducible apply Keeps.eachDo
    | (with_reducible apply Keeps.setO .BARE_CAUSE ?_ (kBARE_CAUSE ..) ?_; decide)
    | (with_reducible apply Keeps.bump .BARE_ENTRIES ?_ (kBARE_ENTRIES ..) ?_; decide)
    | (with_reducible apply Keeps.setO .UPDATE_SLOT ?_ (kUPDATE_SLOT ..) ?_; decide)
    | split
    | intro _
    | dsimp only
    | (with_reducible apply Keeps.upd_net; decide)

theorem readPair_fr : ∀ a0 a1, Keeps 0x4080000000 a1 (readPair a0 a1) := by
  intros; unfold readPair
  (try dsimp only)
  repeat' first
    | with_reducible exact Keeps.refl _ _
    | (with_reducible apply Keeps.step (modTymp_fr ..); decide)
    | (with_reducible apply Keeps.step (readBoot_fr ..); decide)
    | split
    | intro _
    | dsimp only

theorem countStart_fr : ∀ a0 a1, Keeps 0x10000000000000000000001c00000000002c0011040 a1 (countStart a0 a1) := by
  intros; unfold countStart
  (try dsimp only)
  repeat' first
    | with_reducible exact Keeps.refl _ _
    | (with_reducible apply Keeps.step (journalNow_fr ..); decide)
    | (with_reducible apply Keeps.step (modBoot_fr ..); decide)
    | (with_reducible apply Keeps.step (openRecord_fr ..); decide)
    | (with_reducible apply Keeps.step (setFails_fr ..); decide)
    | split
    | intro _
    | dsimp only

theorem verifySlots_fr : ∀ a0 a1, Keeps 0x40000000 a1 (verifySlots a0 a1) := by
  intros; unfold verifySlots
  (try dsimp only)
  repeat' first
    | with_reducible exact Keeps.refl _ _
    | (with_reducible apply Keeps.step (modBoot_fr ..); decide)
    | split
    | intro _
    | dsimp only

theorem revertTrial_fr : ∀ a0, Keeps 0x90000000000000000000000c00000000402c0011040 a0 (revertTrial a0) := by
  intros; unfold revertTrial
  (try dsimp only)
  have kACTIVE_SLOT := Fam.has_ACTIVE_SLOT
  generalize OD.ACTIVE_SLOT = fACTIVE_SLOT at kACTIVE_SLOT ⊢
  have kTRIAL := Fam.has_TRIAL
  generalize OD.TRIAL = fTRIAL at kTRIAL ⊢
  repeat' first
    | with_reducible exact Keeps.refl _ _
    | (with_reducible apply Keeps.step (journalNow_fr ..); decide)
    | (with_reducible apply Keeps.step (modBoot_fr ..); decide)
    | (with_reducible apply Keeps.setO .ACTIVE_SLOT ?_ (kACTIVE_SLOT ..) ?_; decide)
    | (with_reducible apply Keeps.setB .TRIAL ?_ (kTRIAL ..) ?_; decide)
    | split
    | intro _
    | dsimp only

theorem initUnits_fr : ∀ a0, Keeps 0x3422700030 a0 (initUnits a0) := by
  intros; unfold initUnits
  (try dsimp only)
  repeat' first
    | with_reducible exact Keeps.refl _ _
    | (with_reducible apply Keeps.step (driveHold_fr ..); decide)
    | (with_reducible apply Keeps.step (loadLive_fr ..); decide)
    | (with_reducible apply Keeps.step (motReset_fr ..); decide)
    | (with_reducible apply Keeps.step (startCams_fr ..); decide)
    | (with_reducible apply Keeps.step (startPanel_fr ..); decide)
    | split
    | intro _
    | dsimp only
    | (with_reducible apply Keeps.upd_clk; decide)
    | (with_reducible apply Keeps.upd_plat_ports_web; decide; decide; decide)
    | (with_reducible apply Keeps.upd_pins_plat_ports_web; decide; decide; decide; decide)

theorem startReady_fr : ∀ a0 a1 a2 a3, Keeps 0x9002400000001002000003fc00000000403c00110c0 a3 (startReady a0 a1 a2 a3) := by
  intros; unfold startReady
  (try dsimp only)
  have kACTIVE_SLOT := Fam.has_ACTIVE_SLOT
  generalize OD.ACTIVE_SLOT = fACTIVE_SLOT at kACTIVE_SLOT ⊢
  have kSTART_TIME := Fam.has_START_TIME
  generalize OD.START_TIME = fSTART_TIME at kSTART_TIME ⊢
  have kTRIAL := Fam.has_TRIAL
  generalize OD.TRIAL = fTRIAL at kTRIAL ⊢
  repeat' first
    | with_reducible exact Keeps.refl _ _
    | (with_reducible apply Keeps.step (checkLedgers_fr ..); decide)
    | (with_reducible apply Keeps.step (journalNow_fr ..); decide)
    | (with_reducible apply Keeps.step (modBoot_fr ..); decide)
    | (with_reducible apply Keeps.step (pwrRecompute_fr ..); decide)
    | (with_reducible apply Keeps.step (raise_fr ..); decide)
    | (with_reducible apply Keeps.step (setFails_fr ..); decide)
    | (with_reducible apply Keeps.setO .ACTIVE_SLOT ?_ (kACTIVE_SLOT ..) ?_; decide)
    | (with_reducible apply Keeps.setO .START_TIME ?_ (kSTART_TIME ..) ?_; decide)
    | (with_reducible apply Keeps.setB .TRIAL ?_ (kTRIAL ..) ?_; decide)
    | split
    | intro _
    | dsimp only

theorem copyPart_fr : ∀ a0 a1, Keeps 0x40000000 a1 (copyPart a0 a1) := by
  intros; unfold copyPart
  (try dsimp only)
  repeat' first
    | with_reducible exact Keeps.refl _ _
    | (with_reducible apply Keeps.step (modBoot_fr ..); decide)
    | split
    | intro _
    | dsimp only

theorem startFirmware_fr : ∀ a0 a1 a2 a3 a4, Keeps 0xf003406010001402040003fc0800000047ffffffffc a4 (startFirmware a0 a1 a2 a3 a4) := by
  intros; unfold startFirmware
  (try dsimp only)
  repeat' first
    | with_reducible exact Keeps.refl _ _
    | (with_reducible apply Keeps.step (copyPart_fr ..); decide)
    | (with_reducible apply Keeps.step (failStart_fr ..); decide)
    | (with_reducible apply Keeps.step (initUnits_fr ..); decide)
    | (with_reducible apply Keeps.step (startReady_fr ..); decide)
    | (with_reducible apply Keeps.step (trainDram_fr ..); decide)
    | (with_reducible apply Keeps.step (Keeps.snd (by assumption) (trainDram_fr ..)); decide)
    | split
    | intro _
    | dsimp only

theorem startReplay_fr : ∀ a0 a1 a2, Keeps 0x18000000000000000000000c0000000006281091448 a2 (startReplay a0 a1 a2) := by
  intros; unfold startReplay
  (try dsimp only)
  repeat' first
    | with_reducible exact Keeps.refl _ _
    | (with_reducible apply Keeps.step (loadAlias_fr ..); decide)
    | (with_reducible apply Keeps.step (paceReset_fr ..); decide)
    | (with_reducible apply Keeps.step (replayJournal_fr ..); decide)
    | split
    | intro _
    | dsimp only
    | (with_reducible apply Keeps.upd_pace; decide)
    | (with_reducible apply Keeps.upd_net_pace; decide; decide)
    | (with_reducible apply Keeps.upd_net; decide)

theorem loadSlot_fr : ∀ a0 a1, Keeps 0x40000000 a1 (loadSlot a0 a1) := by
  intros; unfold loadSlot
  (try dsimp only)
  repeat' first
    | with_reducible exact Keeps.refl _ _
    | (with_reducible apply Keeps.step (modBoot_fr ..); decide)
    | split
    | intro _
    | dsimp only

theorem startSlots_fr : ∀ a0 a1 a2 a3, Keeps 0xf803406010001402040003fc0800000047ffffffffc a3 (startSlots a0 a1 a2 a3) := by
  intros; unfold startSlots
  (try dsimp only)
  repeat' first
    | with_reducible exact Keeps.refl _ _
    | (with_reducible apply Keeps.step (failStart_fr ..); decide)
    | (with_reducible apply Keeps.step (loadSlot_fr ..); decide)
    | (with_reducible apply Keeps.step (revertTrial_fr ..); decide)
    | (with_reducible apply Keeps.step (startFirmware_fr ..); decide)
    | (with_reducible apply Keeps.step (startReplay_fr ..); decide)
    | (with_reducible apply Keeps.step (verifySlots_fr ..); decide)
    | split
    | intro _
    | dsimp only

theorem forwardFrames_fr : ∀ a0, Keeps 0x400 a0 (forwardFrames a0) := by
  intros; unfold forwardFrames
  (try dsimp only)
  repeat' first
    | with_reducible exact Keeps.refl _ _
    | split
    | intro _
    | dsimp only
    | (with_reducible apply Keeps.upd_net; decide)

theorem startSteps_fr : ∀ a0 a1 a2, Keeps 0x8f803406010001402040003fc0800000647ffffffffc a2 (startSteps a0 a1 a2) := by
  intros; unfold startSteps
  (try dsimp only)
  repeat' first
    | with_reducible exact Keeps.refl _ _
    | (with_reducible apply Keeps.step (countStart_fr ..); decide)
    | (with_reducible apply Keeps.step (enterBare_fr ..); decide)
    | (with_reducible apply Keeps.step (readPair_fr ..); decide)
    | (with_reducible apply Keeps.step (startSlots_fr ..); decide)
    | split
    | intro _
    | dsimp only

theorem runStart_fr : ∀ a0 a1, Keeps 0x8f803406010001402040003fc0800000647ffffffffc a1 (runStart a0 a1) := by
  intros; unfold runStart
  (try dsimp only)
  repeat' first
    | with_reducible exact Keeps.refl _ _
    | (with_reducible apply Keeps.step (failStart_fr ..); decide)
    | (with_reducible apply Keeps.step (forwardFrames_fr ..); decide)
    | (with_reducible apply Keeps.step (modBoot_fr ..); decide)
    | (with_reducible apply Keeps.step (readPair_fr ..); decide)
    | (with_reducible apply Keeps.step (startSteps_fr ..); decide)
    | split
    | intro _
    | dsimp only
    | (with_reducible apply Keeps.upd_clk; decide)

theorem startStep_fr : ∀ a0 a1, Keeps 0x8f803406010001402040003fc0800000647ffffffffc a1 (startStep a0 a1) := by
  intros; unfold startStep
  (try dsimp only)
  repeat' first
    | with_reducible exact Keeps.refl _ _
    | (with_reducible apply Keeps.step (runStart_fr ..); decide)
    | split
    | intro _
    | dsimp only

theorem startExpired_fr : ∀ a0, Keeps 0x90010060000000000000001c0000000047ffffffff8 a0 (startExpired a0) := by
  intros; unfold startExpired
  (try dsimp only)
  repeat' first
    | with_reducible exact Keeps.refl _ _
    | (with_reducible apply Keeps.step (countStart_fr ..); decide)
    | (with_reducible apply Keeps.step (failStart_fr ..); decide)
    | (with_reducible apply Keeps.step (forwardFrames_fr ..); decide)
    | (with_reducible apply Keeps.step (readBoot_fr ..); decide)
    | (with_reducible apply Keeps.step (revertTrial_fr ..); decide)
    | split
    | intro _
    | dsimp only

theorem restartCheck_fr : ∀ a0, Keeps 0x10000060000000000000000c0000000007ffffffff8 a0 (restartCheck a0) := by
  intros; unfold restartCheck
  (try dsimp only)
  repeat' first
    | with_reducible exact Keeps.refl _ _
    | (with_reducible apply Keeps.step (modBoot_fr ..); decide)
    | (with_reducible apply Keeps.step (doReset_fr _ _ _ ?_) ?_ ?_; decide; decide)
    | split
    | intro _
    | dsimp only

theorem sleepExit_fr : ∀ a0 a1, Keeps 0x70000000100004000400000c080000000169a61117c a1 (sleepExit a0 a1) := by
  intros; unfold sleepExit
  (try dsimp only)
  repeat' first
    | with_reducible exact Keeps.refl _ _
    | (with_reducible apply Keeps.step (configLedgers_fr ..); decide)
    | (with_reducible apply Keeps.step (loadLive_fr ..); decide)
    | (with_reducible apply Keeps.step (startCams_fr ..); decide)
    | (with_reducible apply Keeps.step (startPanel_fr ..); decide)
    | (with_reducible apply Keeps.step (trainDram_fr ..); decide)
    | (with_reducible apply Keeps.step (Keeps.snd (by assumption) (trainDram_fr ..)); decide)
    | split
    | intro _
    | dsimp only
    | (with_reducible apply Keeps.upd_ports_web; decide; decide)

theorem waitingReset_fr : ∀ a0, Keeps 0x11084060000418040002080c0400202007ffffffff8 a0 (waitingReset a0) := by
  intros; unfold waitingReset
  (try dsimp only)
  repeat' first
    | with_reducible exact Keeps.refl _ _
    | (with_reducible apply Keeps.step (modPwr_fr ..); decide)
    | (with_reducible apply Keeps.step (subReset_fr ..); decide)
    | (with_reducible apply Keeps.step (doReset_fr _ _ _ ?_) ?_ ?_; decide; decide)
    | with_reducible apply Keeps.eachDo
    | split
    | intro _
    | dsimp only

/-! ### Machine/Boundary.lean -/

theorem bandCheck_fr : ∀ a0 a1, Keeps 0x1000000000000002000003ec00000000002800110c0 a1 (bandCheck a0 a1) := by
  intros; unfold bandCheck
  (try dsimp only)
  repeat' first
    | with_reducible exact Keeps.refl _ _
    | (with_reducible apply Keeps.step (checkLedgers_fr ..); decide)
    | split
    | intro _
    | dsimp only

theorem boundaryWork_fr : ∀ a0 a1, Keeps 0x4001400a200001c080a00603bec10d020010229d7fd1f0 a1 (boundaryWork a0 a1) := by
  intros; unfold boundaryWork
  (try dsimp only)
  repeat' first
    | with_reducible exact Keeps.refl _ _
    | (with_reducible apply Keeps.step (bandCheck_fr ..); decide)
    | (with_reducible apply Keeps.step (impBoundary_fr ..); decide)
    | (with_reducible apply Keeps.step (paceCycleEnd_fr ..); decide)
    | (with_reducible apply Keeps.step (platBoundary_fr ..); decide)
    | (with_reducible apply Keeps.step (summaryExpiry_fr ..); decide)
    | (with_reducible apply Keeps.step (switchSource_fr ..); decide)
    | (with_reducible apply Keeps.step (tornsFirst_fr ..); decide)
    | split
    | intro _
    | dsimp only

theorem releaseBoundary_fr : ∀ a0, Keeps 0x4001400e200001c180a00603bec10d020010239d7fd1f0 a0 (releaseBoundary a0) := by
  intros; unfold releaseBoundary
  (try dsimp only)
  repeat' first
    | with_reducible exact Keeps.refl _ _
    | (with_reducible apply Keeps.step (boundaryWork_fr ..); decide)
    | (with_reducible apply Keeps.step (pwrRecompute_fr ..); decide)
    | (with_reducible apply Keeps.step (raise_fr ..); decide)
    | split
    | intro _
    | dsimp only
    | (with_reducible apply Keeps.upd_web; decide)

theorem execLineBoundary_fr : ∀ a0 t, (execLineBoundary a0) = .next t → Keeps 0x4001400e200001c180a00603bec10d020010239d7fd1f0 a0 t := by
  intros; rename_i h; unfold execLineBoundary at h; replace h := Host.Outcome.next.inj h; subst h
  (try dsimp only)
  repeat' first
    | with_reducible exact Keeps.refl _ _
    | (with_reducible apply Keeps.step (releaseBoundary_fr ..); decide)
    | split
    | intro _
    | dsimp only

/-! ### Machine/ObjectServer.lean -/

theorem pressControl_fr : ∀ a0 a1, Keeps 0x1000000000200002000003ec00000000002a01110c0 a1 (pressControl a0 a1) := by
  intros; unfold pressControl
  (try dsimp only)
  have kPRESS_CONTROL := Fam.has_PRESS_CONTROL
  generalize OD.PRESS_CONTROL = fPRESS_CONTROL at kPRESS_CONTROL ⊢
  repeat' first
    | with_reducible exact Keeps.refl _ _
    | (with_reducible apply Keeps.step (platDisable_fr ..); decide)
    | (with_reducible apply Keeps.step (stopAxes_fr ..); decide)
    | (with_reducible apply Keeps.step (takeCause_fr ..); decide)
    | (with_reducible apply Keeps.setO .PRESS_CONTROL ?_ (kPRESS_CONTROL ..) ?_; decide)
    | split
    | intro _
    | dsimp only

theorem ackEvents_fr : ∀ a0 a1 a2, Keeps 0x60000000000000100000 a2 (ackEvents a0 a1 a2) := by
  intros; unfold ackEvents
  (try dsimp only)
  have kEVENT_ACK := Fam.has_EVENT_ACK
  generalize OD.EVENT_ACK = fEVENT_ACK at kEVENT_ACK ⊢
  have kEVENT_BITS := Fam.has_EVENT_BITS
  generalize OD.EVENT_BITS = fEVENT_BITS at kEVENT_BITS ⊢
  repeat' first
    | with_reducible exact Keeps.refl _ _
    | (with_reducible apply Keeps.step (clearCycling_fr ..); decide)
    | (with_reducible apply Keeps.setO .EVENT_ACK ?_ (kEVENT_ACK ..) ?_; decide)
    | (with_reducible apply Keeps.setO .EVENT_BITS ?_ (kEVENT_BITS ..) ?_; decide)
    | split
    | intro _
    | dsimp only

theorem proofTotal_fr : ∀ a0, Keeps 0x100 a0 (proofTotal a0) := by
  intros; unfold proofTotal
  (try dsimp only)
  repeat' first
    | with_reducible exact Keeps.refl _ _
    | split
    | intro _
    | dsimp only
    | (with_reducible apply Keeps.upd_ledgers; decide)

theorem egressStart_fr : ∀ a0, Keeps 0x18100 a0 (egressStart a0) := by
  intros; unfold egressStart
  (try dsimp only)
  repeat' first
    | with_reducible exact Keeps.refl _ _
    | (with_reducible apply Keeps.step (startLedger_fr ..); decide)
    | split
    | intro _
    | dsimp only
    | (with_reducible apply Keeps.upd_egress; decide; decide)

theorem directWrite_fr : ∀ a0 a1, Keeps 0x30 a1 (directWrite a0 a1) := by
  intros; unfold directWrite
  (try dsimp only)
  repeat' first
    | with_reducible exact Keeps.refl _ _
    | (with_reducible apply Keeps.step (State.handOver_fr ..); decide)
    | split
    | intro _
    | dsimp only

theorem storeBytes_fr : ∀ a0 a1 a2, Keeps 0x4000000008 a2 (storeBytes a0 a1 a2) := by
  intros; unfold storeBytes
  (try dsimp only)
  repeat' first
    | with_reducible exact Keeps.refl _ _
    | (with_reducible apply Keeps.step (State.setDom_fr ..); decide)
    | (with_reducible apply Keeps.setO .any ?_ (Fam.has_any ..) ?_; decide)
    | split
    | intro _
    | dsimp only

theorem valueHook_fr : ∀ a b s, Keeps 0x4001414000000004822002203ec12000000012be7fd5c0 s (valueHook a b s) := by
  intros; unfold valueHook; dsimp only
  refine Keeps.ite ?_ ?_
  · exact Keeps.setI .STEP_PENDING (by decide) rfl (Keeps.refl _ _)
  refine Keeps.ite ?_ ?_
  · exact Keeps.mono (startLedger_fr ..) (by decide)
  refine Keeps.ite ?_ ?_
  · exact Keeps.mono (egressStart_fr ..) (by decide)
  refine Keeps.ite ?_ ?_
  · exact Keeps.mono (proofTotal_fr ..) (by decide)
  refine Keeps.ite ?_ ?_
  · exact Keeps.mono (hostCellsChanged_fr ..) (by decide)
  refine Keeps.ite ?_ ?_
  · exact Keeps.upd_net (by decide) (Keeps.refl _ _)
  refine Keeps.ite ?_ ?_
  · exact Keeps.refl _ _
  refine Keeps.ite ?_ ?_
  · exact Keeps.mono (revolutionChanged_fr ..) (by decide)
  refine Keeps.ite ?_ ?_
  · exact Keeps.mono (allFormeChecks_fr ..) (by decide)
  refine Keeps.ite ?_ ?_
  · exact Keeps.mono (headChecks_fr ..) (by decide)
  refine Keeps.ite ?_ ?_
  · exact Keeps.mono (portWritten_fr ..) (by decide)
  refine Keeps.ite ?_ ?_
  · exact Keeps.mono (camEnabled_fr ..) (by decide)
  refine Keeps.ite ?_ ?_
  · exact Keeps.mono (refclkChange_fr ..) (by decide)
  refine Keeps.ite ?_ ?_
  · exact Keeps.mono (axisEnabled_fr ..) (by decide)
  · exact Keeps.refl _ _

theorem storeValue_fr : ∀ a0 a1 a2, Keeps 0x4001414000000204822002203ee12200000052be7fd5f8 a2 (storeValue a0 a1 a2) := by
  intros; unfold storeValue
  (try dsimp only)
  repeat' first
    | with_reducible exact Keeps.refl _ _
    | (with_reducible apply Keeps.step (ackEvents_fr ..); decide)
    | (with_reducible apply Keeps.step (directWrite_fr ..); decide)
    | (with_reducible apply Keeps.step (pressControl_fr ..); decide)
    | (with_reducible apply Keeps.step (setDchk_fr ..); decide)
    | (with_reducible apply Keeps.step (storeBytes_fr ..); decide)
    | (with_reducible apply Keeps.step (valueHook_fr ..); decide)
    | split
    | intro _
    | dsimp only

theorem answerAfter_fr : ∀ a0 a1 a2 a3, Keeps 0x10000001000000000000000c0000000000280011240 a3 (answerAfter a0 a1 a2 a3).state := by
  intros; unfold answerAfter
  (try dsimp only)
  repeat' first
    | with_reducible exact Keeps.refl _ _
    | (with_reducible apply Keeps.step (journalRefused_fr ..); decide)
    | (with_reducible apply Keeps.step (openRecord_fr ..); decide)
    | with_reducible apply Keeps.ite_wr
    | with_reducible apply Keeps.ite_sv
    | with_reducible apply Keeps.done
    | with_reducible apply Keeps.refused
    | with_reducible apply Keeps.served
    | split
    | intro _
    | dsimp only
    | (with_reducible apply Keeps.upd_srv; decide)

theorem restartCommand_fr : ∀ a0 a1, Keeps 0x10000060000000000000001c0000000007ffffffff8 a1 (restartCommand a0 a1).state := by
  intros; unfold restartCommand
  (try dsimp only)
  have kFAILED_STARTS := Fam.has_FAILED_STARTS
  generalize OD.FAILED_STARTS = fFAILED_STARTS at kFAILED_STARTS ⊢
  repeat' first
    | with_reducible exact Keeps.refl _ _
    | (with_reducible apply Keeps.step (modPwr_fr ..); decide)
    | (with_reducible apply Keeps.step (modTymp_fr ..); decide)
    | (with_reducible apply Keeps.step (openRecord_fr ..); decide)
    | (with_reducible apply Keeps.step (restartCheck_fr ..); decide)
    | (with_reducible apply Keeps.step (startCompaction_fr ..); decide)
    | (with_reducible apply Keeps.setO .FAILED_STARTS ?_ (kFAILED_STARTS ..) ?_; decide)
    | with_reducible apply Keeps.ite_wr
    | with_reducible apply Keeps.ite_sv
    | with_reducible apply Keeps.done
    | with_reducible apply Keeps.refused
    | with_reducible apply Keeps.served
    | split
    | intro _
    | dsimp only
    | (with_reducible apply Keeps.upd_srv; decide)

theorem bootCommand_fr : ∀ a0 a1 a2, Keeps 0x10000061000000000000001c0000000007ffffffff8 a2 (bootCommand a0 a1 a2).state := by
  intros; unfold bootCommand
  (try dsimp only)
  repeat' first
    | with_reducible exact Keeps.refl _ _
    | (with_reducible apply Keeps.step (answerAfter_fr ..); decide)
    | (with_reducible apply Keeps.step (formatJournal_fr ..); decide)
    | (with_reducible apply Keeps.step (restartCommand_fr ..); decide)
    | with_reducible apply Keeps.ite_wr
    | with_reducible apply Keeps.ite_sv
    | with_reducible apply Keeps.done
    | with_reducible apply Keeps.refused
    | with_reducible apply Keeps.served
    | split
    | intro _
    | dsimp only

theorem consentCommand_fr : ∀ a0 a1 a2, Keeps 0x10000001800000004000000c0000000000a80011240 a2 (consentCommand a0 a1 a2).state := by
  intros; unfold consentCommand
  (try dsimp only)
  repeat' first
    | with_reducible exact Keeps.refl _ _
    | (with_reducible apply Keeps.step (journalRefused_fr ..); decide)
    | (with_reducible apply Keeps.step (refuseConsent_fr ..); decide)
    | (with_reducible apply Keeps.step (takeConsent_fr ..); decide)
    | with_reducible apply Keeps.ite_wr
    | with_reducible apply Keeps.ite_sv
    | with_reducible apply Keeps.done
    | with_reducible apply Keeps.refused
    | with_reducible apply Keeps.served
    | split
    | intro _
    | dsimp only
    | (with_reducible apply Keeps.upd_srv; decide)

theorem armCommand_fr : ∀ a0 a1 a2, Keeps 0x10000000000000800000000c00078000002a2811040 a2 (armCommand a0 a1 a2) := by
  intros; unfold armCommand
  (try dsimp only)
  have kCMP_ARM := Fam.has_CMP_ARM
  generalize OD.CMP_ARM = fCMP_ARM at kCMP_ARM ⊢
  repeat' first
    | with_reducible exact Keeps.refl _ _
    | (with_reducible apply Keeps.step (armUnit_fr ..); decide)
    | (with_reducible apply Keeps.step (matchFirst_fr ..); decide)
    | (with_reducible apply Keeps.setO .CMP_ARM ?_ (kCMP_ARM ..) ?_; decide)
    | split
    | intro _
    | dsimp only

theorem pushObject_fr : ∀ a0 a1 a2, Keeps 0x1000000008 a2 (pushObject a0 a1 a2).state := by
  intros; unfold pushObject
  (try dsimp only)
  repeat' first
    | with_reducible exact Keeps.refl _ _
    | (with_reducible apply Keeps.step (modDisp_fr ..); decide)
    | (with_reducible apply Keeps.step (pushBufferWrite_fr ..); decide)
    | with_reducible apply Keeps.ite_wr
    | with_reducible apply Keeps.ite_sv
    | with_reducible apply Keeps.done
    | with_reducible apply Keeps.refused
    | with_reducible apply Keeps.served
    | split
    | intro _
    | dsimp only

theorem tableObject_fr : ∀ a0 a1 a2 a3 a4, Keeps 0x80000 a4 (tableObject a0 a1 a2 a3 a4).state := by
  intros; unfold tableObject
  (try dsimp only)
  repeat' first
    | with_reducible exact Keeps.refl _ _
    | (with_reducible apply Keeps.step (loadTable_fr ..); decide)
    | with_reducible apply Keeps.ite_wr
    | with_reducible apply Keeps.ite_sv
    | with_reducible apply Keeps.done
    | with_reducible apply Keeps.refused
    | with_reducible apply Keeps.served
    | split
    | intro _
    | dsimp only

theorem applyWrite_fr : ∀ a0 a1 a2 a3, Keeps 0x580151c507f8b2c5bb642222bfe1627b03027ffffffff8 a3 (applyWrite a0 a1 a2 a3).state := by
  intros; unfold applyWrite
  (try dsimp only)
  repeat' first
    | with_reducible exact Keeps.refl _ _
    | (with_reducible apply Keeps.step (abortCommand_fr ..); decide)
    | (with_reducible apply Keeps.step (Keeps.snd (by assumption) (abortCommand_fr ..)); decide)
    | (with_reducible apply Keeps.step (armCommand_fr ..); decide)
    | (with_reducible apply Keeps.step (bootCommand_fr ..); decide)
    | (with_reducible apply Keeps.step (cciCommand_fr ..); decide)
    | (with_reducible apply Keeps.step (Keeps.snd (by assumption) (cciCommand_fr ..)); decide)
    | (with_reducible apply Keeps.step (commitCamera_fr ..); decide)
    | (with_reducible apply Keeps.step (Keeps.snd (by assumption) (commitCamera_fr ..)); decide)
    | (with_reducible apply Keeps.step (commitMotion_fr ..); decide)
    | (with_reducible apply Keeps.step (Keeps.snd (by assumption) (commitMotion_fr ..)); decide)
    | (with_reducible apply Keeps.step (commitPlaten_fr ..); decide)
    | (with_reducible apply Keeps.step (Keeps.snd (by assumption) (commitPlaten_fr ..)); decide)
    | (with_reducible apply Keeps.step (confirmFinding_fr ..); decide)
    | (with_reducible apply Keeps.step (Keeps.snd (by assumption) (confirmFinding_fr ..)); decide)
    | (with_reducible apply Keeps.step (consentCommand_fr ..); decide)
    | (with_reducible apply Keeps.step (hostPush_fr ..); decide)
    | (with_reducible apply Keeps.step (Keeps.snd (by assumption) (hostPush_fr ..)); decide)
    | (with_reducible apply Keeps.step (motCommand_fr ..); decide)
    | (with_reducible apply Keeps.step (Keeps.snd (by assumption) (motCommand_fr ..)); decide)
    | (with_reducible apply Keeps.step (pushObject_fr ..); decide)
    | (with_reducible apply Keeps.step (requestRate_fr ..); decide)
    | (with_reducible apply Keeps.step (Keeps.snd (by assumption) (requestRate_fr ..)); decide)
    | (with_reducible apply Keeps.step (resetCommand_fr ..); decide)
    | (with_reducible apply Keeps.step (Keeps.snd (by assumption) (resetCommand_fr ..)); decide)
    | (with_reducible apply Keeps.step (selftestStart_fr ..); decide)
    | (with_reducible apply Keeps.step (Keeps.snd (by assumption) (selftestStart_fr ..)); decide)
    | (with_reducible apply Keeps.step (storeValue_fr ..); decide)
    | (with_reducible apply Keeps.step (subResetCommand_fr ..); decide)
    | (with_reducible apply Keeps.step (Keeps.snd (by assumption) (subResetCommand_fr ..)); decide)
    | (with_reducible apply Keeps.step (submitForme_fr ..); decide)
    | (with_reducible apply Keeps.step (Keeps.snd (by assumption) (submitForme_fr ..)); decide)
    | (with_reducible apply Keeps.step (submitRequest_fr ..); decide)
    | (with_reducible apply Keeps.step (Keeps.snd (by assumption) (submitRequest_fr ..)); decide)
    | (with_reducible apply Keeps.step (tableObject_fr ..); decide)
    | (with_reducible apply Keeps.step (webCommand_fr ..); decide)
    | (with_reducible apply Keeps.step (Keeps.snd (by assumption) (webCommand_fr ..)); decide)
    | with_reducible apply Keeps.ite_wr
    | with_reducible apply Keeps.ite_sv
    | with_reducible apply Keeps.done
    | with_reducible apply Keeps.refused
    | with_reducible apply Keeps.served
    | split
    | intro _
    | dsimp only

theorem rawStore_fr : ∀ a0 a1, Keeps 0x4000000008 a1 (rawStore a0 a1) := by
  intros; unfold rawStore
  (try dsimp only)
  repeat' first
    | with_reducible exact Keeps.refl _ _
    | (with_reducible apply Keeps.step (storeBytes_fr ..); decide)
    | with_reducible apply Keeps.eachDo
    | split
    | intro _
    | dsimp only

theorem undoWrites_fr : ∀ a0 a1 a2, Keeps 0x4000000008 a2 (undoWrites a0 a1 a2) := by
  intros; unfold undoWrites
  (try dsimp only)
  repeat' first
    | with_reducible exact Keeps.refl _ _
    | (with_reducible apply Keeps.step (State.setDom_fr ..); decide)
    | (with_reducible apply Keeps.setO .any ?_ (Fam.has_any ..) ?_; decide)
    | with_reducible apply Keeps.eachDo
    | split
    | intro _
    | dsimp only

theorem runWrites_fr : ∀ a b old l ws s, Keeps 0x7ffffffffffffffffffffffffffffffffffffffffffffc old s → Keeps 0x7ffffffffffffffffffffffffffffffffffffffffffffc old (runWrites a b old l ws s).state := by
  intro a b old l ws
  induction ws generalizing l with
  | nil => intro s h; exact h
  | cons w ws ih =>
    intro s h
    unfold runWrites; dsimp only
    have h1 : Keeps 0x7ffffffffffffffffffffffffffffffffffffffffffffc old (applyWrite a b w s).state := Keeps.step (applyWrite_fr ..) (by decide) h
    split
    · split
      · exact ih _ _ h1
      · exact ih _ _ h1
    · refine Keeps.step (undoWrites_fr ..) (by decide) ?_
      refine Keeps.step (applyWrite_fr ..) (by decide) ?_
      exact Keeps.step (rawStore_fr ..) (by decide) (Keeps.refl _ _)

theorem applyProposal_fr : ∀ a0, Keeps 0x10000001000000004000000c0020000000a800110c0 a0 (applyProposal a0).2 := by
  intros; unfold applyProposal
  (try dsimp only)
  repeat' first
    | with_reducible exact Keeps.refl _ _
    | (with_reducible apply Keeps.step (closeProposal_fr ..); decide)
    | (with_reducible apply Keeps.step (journalRefused_fr ..); decide)
    | (with_reducible apply Keeps.step (modSec_fr ..); decide)
    | (with_reducible apply Keeps.step (openRecord_fr ..); decide)
    | (with_reducible apply Keeps.step (proposalApplied_fr ..); decide)
    | (with_reducible apply Keeps.step (setUnlocked_fr ..); decide)
    | (with_reducible apply Keeps.step (setConsentKey_fr _ _ _ _ _ (by assumption)); decide)
    | split
    | intro _
    | dsimp only

theorem guardedWrite_fr : ∀ a0 a1 a2, Keeps 0x10000000008000004000000c0000000000a80011044 a2 (guardedWrite a0 a1 a2).state := by
  intros; unfold guardedWrite
  (try dsimp only)
  repeat' first
    | with_reducible exact Keeps.refl _ _
    | (with_reducible apply Keeps.step (openProposal_fr ..); decide)
    | (with_reducible apply Keeps.step (provision_fr ..); decide)
    | (with_reducible apply Keeps.step (Keeps.snd (by assumption) (provision_fr ..)); decide)
    | with_reducible apply Keeps.ite_wr
    | with_reducible apply Keeps.ite_sv
    | with_reducible apply Keeps.done
    | with_reducible apply Keeps.refused
    | with_reducible apply Keeps.served
    | split
    | intro _
    | dsimp only

theorem performWrites_fr : ∀ a0 a1 a2 a3, Keeps 0x7ffffffffffffffffffffffffffffffffffffffffffffc a3 (performWrites a0 a1 a2 a3).state := by
  intros; unfold performWrites
  (try dsimp only)
  repeat' first
    | with_reducible exact Keeps.refl _ _
    | (with_reducible apply Keeps.step (answerAfter_fr ..); decide)
    | (with_reducible apply Keeps.step (guardedWrite_fr ..); decide)
    | (with_reducible apply Keeps.step (runWrites_fr ..); decide)
    | (with_reducible apply runWrites_fr)
    | with_reducible apply Keeps.ite_wr
    | with_reducible apply Keeps.ite_sv
    | with_reducible apply Keeps.done
    | with_reducible apply Keeps.refused
    | with_reducible apply Keeps.served
    | split
    | intro _
    | dsimp only

theorem writeAccess_fr : ∀ a0 a1 a2 a3 a4 a5, Keeps 0x7ffffffffffffffffffffffffffffffffffffffffffffc a5 (writeAccess a0 a1 a2 a3 a4 a5).state := by
  intros; unfold writeAccess
  (try dsimp only)
  repeat' first
    | with_reducible exact Keeps.refl _ _
    | (with_reducible apply Keeps.step (modDisp_fr ..); decide)
    | (with_reducible apply Keeps.step (performWrites_fr ..); decide)
    | with_reducible apply Keeps.ite_wr
    | with_reducible apply Keeps.ite_sv
    | with_reducible apply Keeps.done
    | with_reducible apply Keeps.refused
    | with_reducible apply Keeps.served
    | split
    | intro _
    | dsimp only

/-! ### Machine/ObjectRequests.lean -/

theorem refusedWith_fr : ∀ a0 a1, Keeps 0x0 a1 (refusedWith a0 a1).state := by
  intros; unfold refusedWith
  (try dsimp only)
  repeat' first
    | with_reducible exact Keeps.refl _ _
    | with_reducible apply Keeps.ite_wr
    | with_reducible apply Keeps.ite_sv
    | with_reducible apply Keeps.done
    | with_reducible apply Keeps.refused
    | with_reducible apply Keeps.served
    | split
    | intro _
    | dsimp only

theorem writeFromOne_fr : ∀ a0 a1 a2, Keeps 0x7ffffffffffffffffffffffffffffffffffffffffffffc a2 (writeFromOne a0 a1 a2).state := by
  intros; unfold writeFromOne
  (try dsimp only)
  repeat' first
    | with_reducible exact Keeps.refl _ _
    | (with_reducible apply Keeps.step (writeAccess_fr ..); decide)
    | with_reducible apply Keeps.ite_wr
    | with_reducible apply Keeps.ite_sv
    | with_reducible apply Keeps.done
    | with_reducible apply Keeps.refused
    | with_reducible apply Keeps.served
    | split
    | intro _
    | dsimp only

theorem writeFromZero_fr : ∀ a0 a1 a2, Keeps 0x7ffffffffffffffffffffffffffffffffffffffffffffc a2 (writeFromZero a0 a1 a2).state := by
  intros; unfold writeFromZero
  (try dsimp only)
  repeat' first
    | with_reducible exact Keeps.refl _ _
    | (with_reducible apply Keeps.step (writeAccess_fr ..); decide)
    | with_reducible apply Keeps.ite_wr
    | with_reducible apply Keeps.ite_sv
    | with_reducible apply Keeps.done
    | with_reducible apply Keeps.refused
    | with_reducible apply Keeps.served
    | split
    | intro _
    | dsimp only

theorem writeAllOf_fr : ∀ a0 a1 a2 a3, Keeps 0x7ffffffffffffffffffffffffffffffffffffffffffffc a3 (writeAllOf a0 a1 a2 a3).state := by
  intros; unfold writeAllOf
  (try dsimp only)
  repeat' first
    | with_reducible exact Keeps.refl _ _
    | (with_reducible apply Keeps.step (refusedWith_fr ..); decide)
    | (with_reducible apply Keeps.step (writeFromOne_fr ..); decide)
    | (with_reducible apply Keeps.step (writeFromZero_fr ..); decide)
    | with_reducible apply Keeps.ite_wr
    | with_reducible apply Keeps.ite_sv
    | with_reducible apply Keeps.done
    | with_reducible apply Keeps.refused
    | with_reducible apply Keeps.served
    | split
    | intro _
    | dsimp only

theorem dropSeg_fr : ∀ a0 a1, Keeps 0x200 a1 (dropSeg a0 a1) := by
  intros; unfold dropSeg
  (try dsimp only)
  repeat' first
    | with_reducible exact Keeps.refl _ _
    | split
    | intro _
    | dsimp only
    | (with_reducible apply Keeps.upd_srv; decide)

theorem putSeg_fr : ∀ a0 a1, Keeps 0x200 a1 (putSeg a0 a1) := by
  intros; unfold putSeg
  (try dsimp only)
  repeat' first
    | with_reducible exact Keeps.refl _ _
    | split
    | intro _
    | dsimp only
    | (with_reducible apply Keeps.upd_srv; decide)

theorem leaveSeg_fr : ∀ a0 a1 a2, Keeps 0x200 a2 (leaveSeg a0 a1 a2) := by
  intros; unfold leaveSeg
  (try dsimp only)
  repeat' first
    | with_reducible exact Keeps.refl _ _
    | (with_reducible apply Keeps.step (dropSeg_fr ..); decide)
    | split
    | intro _
    | dsimp only

theorem finishWrite_fr : ∀ a0 a1 a2 a3, Keeps 0x7ffffffffffffffffffffffffffffffffffffffffffffc a3 (finishWrite a0 a1 a2 a3).state := by
  intros; unfold finishWrite
  (try dsimp only)
  repeat' first
    | with_reducible exact Keeps.refl _ _
    | (with_reducible apply Keeps.step (dropSeg_fr ..); decide)
    | (with_reducible apply Keeps.step (refusedWith_fr ..); decide)
    | (with_reducible apply Keeps.step (tableObject_fr ..); decide)
    | (with_reducible apply Keeps.step (writeAccess_fr ..); decide)
    | with_reducible apply Keeps.ite_wr
    | with_reducible apply Keeps.ite_sv
    | with_reducible apply Keeps.done
    | with_reducible apply Keeps.refused
    | with_reducible apply Keeps.served
    | split
    | intro _
    | dsimp only

theorem streamTable_fr : ∀ a0 a1, Keeps 0x80200 a1 (streamTable a0 a1).state := by
  intros; unfold streamTable
  (try dsimp only)
  repeat' first
    | with_reducible exact Keeps.refl _ _
    | (with_reducible apply Keeps.step (loadTable_fr ..); decide)
    | (with_reducible apply Keeps.step (putSeg_fr ..); decide)
    | (with_reducible apply Keeps.step (tableObject_fr ..); decide)
    | with_reducible apply Keeps.ite_wr
    | with_reducible apply Keeps.ite_sv
    | with_reducible apply Keeps.done
    | with_reducible apply Keeps.refused
    | with_reducible apply Keeps.served
    | split
    | intro _
    | dsimp only

theorem writePiece_fr : ∀ a0 a1 a2, Keeps 0x7ffffffffffffffffffffffffffffffffffffffffffffc a2 (writePiece a0 a1 a2).state := by
  intros; unfold writePiece
  (try dsimp only)
  repeat' first
    | with_reducible exact Keeps.refl _ _
    | (with_reducible apply Keeps.step (dropSeg_fr ..); decide)
    | (with_reducible apply Keeps.step (finishWrite_fr ..); decide)
    | (with_reducible apply Keeps.step (putSeg_fr ..); decide)
    | (with_reducible apply Keeps.step (refusedWith_fr ..); decide)
    | (with_reducible apply Keeps.step (streamTable_fr ..); decide)
    | with_reducible apply Keeps.ite_wr
    | with_reducible apply Keeps.ite_sv
    | with_reducible apply Keeps.done
    | with_reducible apply Keeps.refused
    | with_reducible apply Keeps.served
    | split
    | intro _
    | dsimp only

theorem readPiece_fr : ∀ a0 a1 a2, Keeps 0x200 a2 (readPiece a0 a1 a2).state := by
  intros; unfold readPiece
  (try dsimp only)
  repeat' first
    | with_reducible exact Keeps.refl _ _
    | (with_reducible apply Keeps.step (dropSeg_fr ..); decide)
    | (with_reducible apply Keeps.step (putSeg_fr ..); decide)
    | (with_reducible apply Keeps.step (refusedWith_fr ..); decide)
    | with_reducible apply Keeps.ite_wr
    | with_reducible apply Keeps.ite_sv
    | with_reducible apply Keeps.done
    | with_reducible apply Keeps.refused
    | with_reducible apply Keeps.served
    | split
    | intro _
    | dsimp only

theorem serve_fr : ∀ a0 a1, Keeps 0x7ffffffffffffffffffffffffffffffffffffffffffffc a1 (serve a0 a1).state := by
  intros; unfold serve
  (try dsimp only)
  repeat' first
    | with_reducible exact Keeps.refl _ _
    | (with_reducible apply Keeps.step (dropSeg_fr ..); decide)
    | (with_reducible apply Keeps.step (leaveSeg_fr ..); decide)
    | (with_reducible apply Keeps.step (readPiece_fr ..); decide)
    | (with_reducible apply Keeps.step (writeAllOf_fr ..); decide)
    | (with_reducible apply Keeps.step (writePiece_fr ..); decide)
    | with_reducible apply Keeps.ite_wr
    | with_reducible apply Keeps.ite_sv
    | with_reducible apply Keeps.done
    | with_reducible apply Keeps.refused
    | with_reducible apply Keeps.served
    | split
    | intro _
    | dsimp only

theorem serveNow_fr : ∀ a0 a1, Keeps 0x7ffffffffffffffffffffffffffffffffffffffffffffc a1 (serveNow a0 a1) := by
  intros; unfold serveNow
  (try dsimp only)
  repeat' first
    | with_reducible exact Keeps.refl _ _
    | (with_reducible apply Keeps.step (answerTo_fr ..); decide)
    | (with_reducible apply Keeps.step (pwrRecompute_fr ..); decide)
    | (with_reducible apply Keeps.step (serve_fr ..); decide)
    | with_reducible apply Keeps.ite_wr
    | with_reducible apply Keeps.ite_sv
    | with_reducible apply Keeps.done
    | with_reducible apply Keeps.refused
    | with_reducible apply Keeps.served
    | split
    | intro _
    | dsimp only

theorem drainServer_fr : ∀ n s, Keeps 0x7ffffffffffffffffffffffffffffffffffffffffffffc s (drainServer n s) := by
  intro n; induction n with
  | zero => intro s; exact Keeps.refl _ _
  | succ n ih =>
    intro s; unfold drainServer; split
    · exact Keeps.refl _ _
    · refine (ih _).trans' ?_
      refine Keeps.step (serveNow_fr ..) (by decide) ?_
      exact Keeps.upd_srv (by decide) (Keeps.refl _ _)

theorem drain_fr : ∀ a0, Keeps 0x7ffffffffffffffffffffffffffffffffffffffffffffc a0 (drain a0) := by
  intros; unfold drain
  (try dsimp only)
  repeat' first
    | with_reducible exact Keeps.refl _ _
    | (with_reducible apply Keeps.step (drainServer_fr ..); decide)
    | split
    | intro _
    | dsimp only

theorem submit_fr : ∀ a0 a1, Keeps 0x7ffffffffffffffffffffffffffffffffffffffffffffc a1 (submit a0 a1) := by
  intros; unfold submit
  (try dsimp only)
  repeat' first
    | with_reducible exact Keeps.refl _ _
    | (with_reducible apply Keeps.step (demandWake_fr ..); decide)
    | (with_reducible apply Keeps.step (drain_fr ..); decide)
    | split
    | intro _
    | dsimp only
    | (with_reducible apply Keeps.upd_srv; decide)

theorem viaMailbox_fr : ∀ a0 a1, Keeps 0x7ffffffffffffffffffffffffffffffffffffffffffffc a1 (viaMailbox a0 a1) := by
  intros; unfold viaMailbox
  (try dsimp only)
  repeat' first
    | with_reducible exact Keeps.refl _ _
    | (with_reducible apply Keeps.step (drain_fr ..); decide)
    | (with_reducible apply Keeps.step (submit_fr ..); decide)
    | split
    | intro _
    | dsimp only
    | (with_reducible apply Keeps.upd_net; decide)

theorem viaWindow_fr : ∀ a0 a1 a2, Keeps 0x7ffffffffffffffffffffffffffffffffffffffffffffc a2 (viaWindow a0 a1 a2) := by
  intros; unfold viaWindow
  (try dsimp only)
  repeat' first
    | with_reducible exact Keeps.refl _ _
    | (with_reducible apply Keeps.step (submit_fr ..); decide)
    | split
    | intro _
    | dsimp only
    | (with_reducible apply Keeps.own_pcie; rfl; rfl; rfl; decide)
    | (with_reducible apply Keeps.own_msix; rfl; rfl; decide)
    | (with_reducible apply Keeps.own_hostWrites; rfl; rfl; rfl; decide)
    | (with_reducible apply Keeps.upd_pcie; decide; decide; decide)

theorem objectWrite_fr : ∀ a0 a1 a2 a3 a4, Keeps 0x7ffffffffffffffffffffffffffffffffffffffffffffc a4 (objectWrite a0 a1 a2 a3 a4) := by
  intros; unfold objectWrite
  (try dsimp only)
  repeat' first
    | with_reducible exact Keeps.refl _ _
    | (with_reducible apply Keeps.step (viaMailbox_fr ..); decide)
    | (with_reducible apply Keeps.step (viaWindow_fr ..); decide)
    | split
    | intro _
    | dsimp only

theorem storeWrites_fr : ∀ a0 a1, Keeps 0x4001414000000204822002203ee12200000052be7fd5f8 a1 (storeWrites a0 a1) := by
  intros; unfold storeWrites
  (try dsimp only)
  repeat' first
    | with_reducible exact Keeps.refl _ _
    | (with_reducible apply Keeps.step (storeValue_fr ..); decide)
    | with_reducible apply Keeps.eachDo
    | split
    | intro _
    | dsimp only

theorem bootCommitted_fr : ∀ a0 a1 a2, Keeps 0x10000000000000000000001c00000000042c0011040 a2 (bootCommitted a0 a1 a2) := by
  intros; unfold bootCommitted
  (try dsimp only)
  repeat' first
    | with_reducible exact Keeps.refl _ _
    | (with_reducible apply Keeps.step (raise_fr ..); decide)
    | (with_reducible apply Keeps.step (setFails_fr ..); decide)
    | (with_reducible apply Keeps.setO .any ?_ (Fam.has_any ..) ?_; decide)
    | with_reducible apply Keeps.eachDo
    | split
    | intro _
    | dsimp only

theorem freeServer_fr : ∀ a0, Keeps 0x200 a0 (freeServer a0) := by
  intros; unfold freeServer
  (try dsimp only)
  repeat' first
    | with_reducible exact Keeps.refl _ _
    | split
    | intro _
    | dsimp only
    | (with_reducible apply Keeps.upd_srv; decide)

theorem consentCommitted_fr : ∀ a0 a1 a2, Keeps 0x10000001000000004000000c0020000004a80011ec0 a2 (consentCommitted a0 a1 a2) := by
  intros; unfold consentCommitted
  (try dsimp only)
  repeat' first
    | with_reducible exact Keeps.refl _ _
    | (with_reducible apply Keeps.step (answerTo_fr ..); decide)
    | (with_reducible apply Keeps.step (applyProposal_fr ..); decide)
    | (with_reducible apply Keeps.step (Keeps.snd (by assumption) (applyProposal_fr ..)); decide)
    | (with_reducible apply Keeps.step (freeServer_fr ..); decide)
    | (with_reducible apply Keeps.setO .any ?_ (Fam.has_any ..) ?_; decide)
    | split
    | intro _
    | dsimp only

theorem recordCommitted_fr : ∀ a0 a1, Keeps 0x4001414000100204822402203fe1220000005afe7fdff8 a1 (recordCommitted a0 a1) := by
  intros; unfold recordCommitted
  (try dsimp only)
  repeat' first
    | with_reducible exact Keeps.refl _ _
    | (with_reducible apply Keeps.step (answerTo_fr ..); decide)
    | (with_reducible apply Keeps.step (bootCommitted_fr ..); decide)
    | (with_reducible apply Keeps.step (consentCommitted_fr ..); decide)
    | (with_reducible apply Keeps.step (freeServer_fr ..); decide)
    | (with_reducible apply Keeps.step (proposalApplied_fr ..); decide)
    | (with_reducible apply Keeps.step (storeValue_fr ..); decide)
    | (with_reducible apply Keeps.step (storeWrites_fr ..); decide)
    | with_reducible apply Keeps.eachDo
    | split
    | intro _
    | dsimp only

theorem commitRecord_fr : ∀ a0, Keeps 0x7ffffffffffffffffffffffffffffffffffffffffffffc a0 (commitRecord a0) := by
  intros; unfold commitRecord
  (try dsimp only)
  repeat' first
    | with_reducible exact Keeps.refl _ _
    | (with_reducible apply Keeps.step (compactionCheck_fr ..); decide)
    | (with_reducible apply Keeps.step (drain_fr ..); decide)
    | (with_reducible apply Keeps.step (modTymp_fr ..); decide)
    | (with_reducible apply Keeps.step (pwrRecompute_fr ..); decide)
    | (with_reducible apply Keeps.step (recordCommitted_fr ..); decide)
    | (with_reducible apply Keeps.step (restartCheck_fr ..); decide)
    | split
    | intro _
    | dsimp only

theorem execSdoUpload_fr : ∀ a0 a1 a2 t, (execSdoUpload a0 a1 a2) = .next t → Keeps 0x7ffffffffffffffffffffffffffffffffffffffffffffc a2 t := by
  intros; rename_i h; unfold execSdoUpload at h; replace h := Host.Outcome.next.inj h; subst h
  (try dsimp only)
  repeat' first
    | with_reducible exact Keeps.refl _ _
    | (with_reducible apply Keeps.step (viaMailbox_fr ..); decide)
    | split
    | intro _
    | dsimp only

theorem execSdoDownload_fr : ∀ a0 a1 a2 a3 t, (execSdoDownload a0 a1 a2 a3) = .next t → Keeps 0x7ffffffffffffffffffffffffffffffffffffffffffffc a3 t := by
  intros; rename_i h; unfold execSdoDownload at h; replace h := Host.Outcome.next.inj h; subst h
  (try dsimp only)
  repeat' first
    | with_reducible exact Keeps.refl _ _
    | (with_reducible apply Keeps.step (objectWrite_fr ..); decide)
    | split
    | intro _
    | dsimp only

theorem execSdoSegment_fr : ∀ a0 a1 a2 a3 a4 a5 t, (execSdoSegment a0 a1 a2 a3 a4 a5) = .next t → Keeps 0x7ffffffffffffffffffffffffffffffffffffffffffffc a5 t := by
  intros; rename_i h; unfold execSdoSegment at h; replace h := Host.Outcome.next.inj h; subst h
  (try dsimp only)
  repeat' first
    | with_reducible exact Keeps.refl _ _
    | (with_reducible apply Keeps.step (viaMailbox_fr ..); decide)
    | split
    | intro _
    | dsimp only

theorem segmentTimeout_fr : ∀ a0 a1, Keeps 0xe00 a1 (segmentTimeout a0 a1) := by
  intros; unfold segmentTimeout
  (try dsimp only)
  repeat' first
    | with_reducible exact Keeps.refl _ _
    | (with_reducible apply Keeps.step (dropSeg_fr ..); decide)
    | split
    | intro _
    | dsimp only
    | (with_reducible apply Keeps.upd_net; decide)
    | (with_reducible apply Keeps.own_pcie; rfl; rfl; rfl; decide)
    | (with_reducible apply Keeps.own_msix; rfl; rfl; decide)
    | (with_reducible apply Keeps.own_hostWrites; rfl; rfl; rfl; decide)
    | (with_reducible apply Keeps.upd_pcie; decide; decide; decide)

theorem execSdoSegmentTimeout_fr : ∀ a0 a1 t, (execSdoSegmentTimeout a0 a1) = .next t → Keeps 0xe00 a1 t := by
  intros; rename_i h; unfold execSdoSegmentTimeout at h; replace h := Host.Outcome.next.inj h; subst h
  (try dsimp only)
  repeat' first
    | with_reducible exact Keeps.refl _ _
    | (with_reducible apply Keeps.step (segmentTimeout_fr ..); decide)
    | split
    | intro _
    | dsimp only

theorem execCompleteAccess_fr : ∀ a0 a1 a2 a3 t, (execCompleteAccess a0 a1 a2 a3) = .next t → Keeps 0x7ffffffffffffffffffffffffffffffffffffffffffffc a3 t := by
  intros; rename_i h; unfold execCompleteAccess at h; replace h := Host.Outcome.next.inj h; subst h
  (try dsimp only)
  repeat' first
    | with_reducible exact Keeps.refl _ _
    | (with_reducible apply Keeps.step (viaMailbox_fr ..); decide)
    | split
    | intro _
    | dsimp only

theorem execSdoInformation_fr : ∀ a0 a1 t, (execSdoInformation a0 a1) = .next t → Keeps 0x7ffffffffffffffffffffffffffffffffffffffffffffc a1 t := by
  intros; rename_i h; unfold execSdoInformation at h; replace h := Host.Outcome.next.inj h; subst h
  (try dsimp only)
  repeat' first
    | with_reducible exact Keeps.refl _ _
    | (with_reducible apply Keeps.step (viaMailbox_fr ..); decide)
    | split
    | intro _
    | dsimp only
    | (with_reducible apply Keeps.upd_net; decide)

theorem execGuardedWrite_fr : ∀ a0 a1 a2 a3 a4 t, (execGuardedWrite a0 a1 a2 a3 a4) = .next t → Keeps 0x7ffffffffffffffffffffffffffffffffffffffffffffc a4 t := by
  intros; rename_i h; unfold execGuardedWrite at h; replace h := Host.Outcome.next.inj h; subst h
  (try dsimp only)
  repeat' first
    | with_reducible exact Keeps.refl _ _
    | (with_reducible apply Keeps.step (objectWrite_fr ..); decide)
    | split
    | intro _
    | dsimp only

theorem execConsentMessage_fr : ∀ a0 a1 a2 t, (execConsentMessage a0 a1 a2) = .next t → Keeps 0x7ffffffffffffffffffffffffffffffffffffffffffffc a2 t := by
  intros; rename_i h; unfold execConsentMessage at h; replace h := Host.Outcome.next.inj h; subst h
  (try dsimp only)
  repeat' first
    | with_reducible exact Keeps.refl _ _
    | (with_reducible apply Keeps.step (objectWrite_fr ..); decide)
    | split
    | intro _
    | dsimp only

theorem execFormeSubmit_fr : ∀ a0 a1 a2 t, (execFormeSubmit a0 a1 a2) = .next t → Keeps 0x7ffffffffffffffffffffffffffffffffffffffffffffc a2 t := by
  intros; rename_i h; unfold execFormeSubmit at h; replace h := Host.Outcome.next.inj h; subst h
  (try dsimp only)
  repeat' first
    | with_reducible exact Keeps.refl _ _
    | (with_reducible apply Keeps.step (objectWrite_fr ..); decide)
    | split
    | intro _
    | dsimp only

theorem execFormeAbort_fr : ∀ a0 a1 a2 t, (execFormeAbort a0 a1 a2) = .next t → Keeps 0x7ffffffffffffffffffffffffffffffffffffffffffffc a2 t := by
  intros; rename_i h; unfold execFormeAbort at h; replace h := Host.Outcome.next.inj h; subst h
  (try dsimp only)
  repeat' first
    | with_reducible exact Keeps.refl _ _
    | (with_reducible apply Keeps.step (objectWrite_fr ..); decide)
    | split
    | intro _
    | dsimp only

theorem execReqSubmit_fr : ∀ a0 a1 t, (execReqSubmit a0 a1) = .next t → Keeps 0x7ffffffffffffffffffffffffffffffffffffffffffffc a1 t := by
  intros; rename_i h; unfold execReqSubmit at h; replace h := Host.Outcome.next.inj h; subst h
  (try dsimp only)
  repeat' first
    | with_reducible exact Keeps.refl _ _
    | (with_reducible apply Keeps.step (objectWrite_fr ..); decide)
    | split
    | intro _
    | dsimp only

theorem execRateClassRequest_fr : ∀ a0 a1 a2 a3 t, (execRateClassRequest a0 a1 a2 a3) = .next t → Keeps 0x7ffffffffffffffffffffffffffffffffffffffffffffc a3 t := by
  intros; rename_i h; unfold execRateClassRequest at h; replace h := Host.Outcome.next.inj h; subst h
  (try dsimp only)
  repeat' first
    | with_reducible exact Keeps.refl _ _
    | (with_reducible apply Keeps.step (objectWrite_fr ..); decide)
    | split
    | intro _
    | dsimp only

theorem execPresetNow_fr : ∀ a0 a1 t, (execPresetNow a0 a1) = .next t → Keeps 0x7ffffffffffffffffffffffffffffffffffffffffffffc a1 t := by
  intros; rename_i h; unfold execPresetNow at h; replace h := Host.Outcome.next.inj h; subst h
  (try dsimp only)
  repeat' first
    | with_reducible exact Keeps.refl _ _
    | (with_reducible apply Keeps.step (objectWrite_fr ..); decide)
    | split
    | intro _
    | dsimp only

theorem execPresetAtIndex_fr : ∀ a0 a1 t, (execPresetAtIndex a0 a1) = .next t → Keeps 0x7ffffffffffffffffffffffffffffffffffffffffffffc a1 t := by
  intros; rename_i h; unfold execPresetAtIndex at h; replace h := Host.Outcome.next.inj h; subst h
  (try dsimp only)
  repeat' first
    | with_reducible exact Keeps.refl _ _
    | (with_reducible apply Keeps.step (objectWrite_fr ..); decide)
    | split
    | intro _
    | dsimp only

theorem execLatch_fr : ∀ a0 a1 t, (execLatch a0 a1) = .next t → Keeps 0x7ffffffffffffffffffffffffffffffffffffffffffffc a1 t := by
  intros; rename_i h; unfold execLatch at h; replace h := Host.Outcome.next.inj h; subst h
  (try dsimp only)
  repeat' first
    | with_reducible exact Keeps.refl _ _
    | (with_reducible apply Keeps.step (objectWrite_fr ..); decide)
    | split
    | intro _
    | dsimp only

theorem execClearCounters_fr : ∀ a0 a1 t, (execClearCounters a0 a1) = .next t → Keeps 0x7ffffffffffffffffffffffffffffffffffffffffffffc a1 t := by
  intros; rename_i h; unfold execClearCounters at h; replace h := Host.Outcome.next.inj h; subst h
  (try dsimp only)
  repeat' first
    | with_reducible exact Keeps.refl _ _
    | (with_reducible apply Keeps.step (objectWrite_fr ..); decide)
    | split
    | intro _
    | dsimp only

theorem execSelftest_fr : ∀ a0 a1 a2 t, (execSelftest a0 a1 a2) = .next t → Keeps 0x7ffffffffffffffffffffffffffffffffffffffffffffc a2 t := by
  intros; rename_i h; unfold execSelftest at h; replace h := Host.Outcome.next.inj h; subst h
  (try dsimp only)
  repeat' first
    | with_reducible exact Keeps.refl _ _
    | (with_reducible apply Keeps.step (objectWrite_fr ..); decide)
    | split
    | intro _
    | dsimp only

theorem execCciRead_fr : ∀ a0 a1 a2 t, (execCciRead a0 a1 a2) = .next t → Keeps 0x7ffffffffffffffffffffffffffffffffffffffffffffc a2 t := by
  intros; rename_i h; unfold execCciRead at h; replace h := Host.Outcome.next.inj h; subst h
  (try dsimp only)
  repeat' first
    | with_reducible exact Keeps.refl _ _
    | (with_reducible apply Keeps.step (objectWrite_fr ..); decide)
    | split
    | intro _
    | dsimp only

theorem execCciWrite_fr : ∀ a0 a1 a2 t, (execCciWrite a0 a1 a2) = .next t → Keeps 0x7ffffffffffffffffffffffffffffffffffffffffffffc a2 t := by
  intros; rename_i h; unfold execCciWrite at h; replace h := Host.Outcome.next.inj h; subst h
  (try dsimp only)
  repeat' first
    | with_reducible exact Keeps.refl _ _
    | (with_reducible apply Keeps.step (objectWrite_fr ..); decide)
    | split
    | intro _
    | dsimp only

theorem execConfirm_fr : ∀ a0 a1 a2 t, (execConfirm a0 a1 a2) = .next t → Keeps 0x7ffffffffffffffffffffffffffffffffffffffffffffc a2 t := by
  intros; rename_i h; unfold execConfirm at h; replace h := Host.Outcome.next.inj h; subst h
  (try dsimp only)
  repeat' first
    | with_reducible exact Keeps.refl _ _
    | (with_reducible apply Keeps.step (objectWrite_fr ..); decide)
    | split
    | intro _
    | dsimp only

theorem axisCommand_fr : ∀ a0 a1 a2 a3 t, (axisCommand a0 a1 a2 a3) = .next t → Keeps 0x7ffffffffffffffffffffffffffffffffffffffffffffc a3 t := by
  intros; rename_i h; unfold axisCommand at h; replace h := Host.Outcome.next.inj h; subst h
  (try dsimp only)
  repeat' first
    | with_reducible exact Keeps.refl _ _
    | (with_reducible apply Keeps.step (objectWrite_fr ..); decide)
    | split
    | intro _
    | dsimp only

theorem execMove_fr : ∀ a0 a1 a2 t, execMove a0 a1 a2 = .next t → Keeps 0x7ffffffffffffffffffffffffffffffffffffffffffffc a2 t := fun _ _ _ _ h => axisCommand_fr _ _ _ _ _ h

theorem execRunSegments_fr : ∀ a0 a1 a2 t, execRunSegments a0 a1 a2 = .next t → Keeps 0x7ffffffffffffffffffffffffffffffffffffffffffffc a2 t := fun _ _ _ _ h => axisCommand_fr _ _ _ _ _ h

theorem execHome_fr : ∀ a0 a1 a2 t, execHome a0 a1 a2 = .next t → Keeps 0x7ffffffffffffffffffffffffffffffffffffffffffffc a2 t := fun _ _ _ _ h => axisCommand_fr _ _ _ _ _ h

theorem execStop_fr : ∀ a0 a1 a2 t, execStop a0 a1 a2 = .next t → Keeps 0x7ffffffffffffffffffffffffffffffffffffffffffffc a2 t := fun _ _ _ _ h => axisCommand_fr _ _ _ _ _ h

theorem execSetPosition_fr : ∀ a0 a1 a2 t, execSetPosition a0 a1 a2 = .next t → Keeps 0x7ffffffffffffffffffffffffffffffffffffffffffffc a2 t := fun _ _ _ _ h => axisCommand_fr _ _ _ _ _ h

theorem execClearFault_fr : ∀ a0 a1 a2 t, execClearFault a0 a1 a2 = .next t → Keeps 0x7ffffffffffffffffffffffffffffffffffffffffffffc a2 t := fun _ _ _ _ h => axisCommand_fr _ _ _ _ _ h

theorem execResetCommand_fr : ∀ a0 a1 t, (execResetCommand a0 a1) = .next t → Keeps 0x7ffffffffffffffffffffffffffffffffffffffffffffc a1 t := by
  intros; rename_i h; unfold execResetCommand at h; replace h := Host.Outcome.next.inj h; subst h
  (try dsimp only)
  repeat' first
    | with_reducible exact Keeps.refl _ _
    | (with_reducible apply Keeps.step (objectWrite_fr ..); decide)
    | split
    | intro _
    | dsimp only

theorem execSubReset_fr : ∀ a0 a1 a2 t, (execSubReset a0 a1 a2) = .next t → Keeps 0x7ffffffffffffffffffffffffffffffffffffffffffffc a2 t := by
  intros; rename_i h; unfold execSubReset at h; replace h := Host.Outcome.next.inj h; subst h
  (try dsimp only)
  repeat' first
    | with_reducible exact Keeps.refl _ _
    | (with_reducible apply Keeps.step (objectWrite_fr ..); decide)
    | split
    | intro _
    | dsimp only

theorem execActivateA_fr : ∀ a0 a1 t, (execActivateA a0 a1) = .next t → Keeps 0x7ffffffffffffffffffffffffffffffffffffffffffffc a1 t := by
  intros; rename_i h; unfold execActivateA at h; replace h := Host.Outcome.next.inj h; subst h
  (try dsimp only)
  repeat' first
    | with_reducible exact Keeps.refl _ _
    | (with_reducible apply Keeps.step (objectWrite_fr ..); decide)
    | split
    | intro _
    | dsimp only

theorem execActivateB_fr : ∀ a0 a1 t, (execActivateB a0 a1) = .next t → Keeps 0x7ffffffffffffffffffffffffffffffffffffffffffffc a1 t := by
  intros; rename_i h; unfold execActivateB at h; replace h := Host.Outcome.next.inj h; subst h
  (try dsimp only)
  repeat' first
    | with_reducible exact Keeps.refl _ _
    | (with_reducible apply Keeps.step (objectWrite_fr ..); decide)
    | split
    | intro _
    | dsimp only

theorem execRestart_fr : ∀ a0 a1 t, (execRestart a0 a1) = .next t → Keeps 0x7ffffffffffffffffffffffffffffffffffffffffffffc a1 t := by
  intros; rename_i h; unfold execRestart at h; replace h := Host.Outcome.next.inj h; subst h
  (try dsimp only)
  repeat' first
    | with_reducible exact Keeps.refl _ _
    | (with_reducible apply Keeps.step (objectWrite_fr ..); decide)
    | split
    | intro _
    | dsimp only

theorem execJournalFormat_fr : ∀ a0 a1 t, (execJournalFormat a0 a1) = .next t → Keeps 0x7ffffffffffffffffffffffffffffffffffffffffffffc a1 t := by
  intros; rename_i h; unfold execJournalFormat at h; replace h := Host.Outcome.next.inj h; subst h
  (try dsimp only)
  repeat' first
    | with_reducible exact Keeps.refl _ _
    | (with_reducible apply Keeps.step (objectWrite_fr ..); decide)
    | split
    | intro _
    | dsimp only

theorem execJournalCommit_fr : ∀ a0 t, (execJournalCommit a0) = .next t → Keeps 0x7ffffffffffffffffffffffffffffffffffffffffffffc a0 t := by
  intros; rename_i h; unfold execJournalCommit at h; replace h := Host.Outcome.next.inj h; subst h
  (try dsimp only)
  repeat' first
    | with_reducible exact Keeps.refl _ _
    | (with_reducible apply Keeps.step (commitRecord_fr ..); decide)
    | split
    | intro _
    | dsimp only

theorem execTympCompactionDone_fr : ∀ a0 t, (execTympCompactionDone a0) = .next t → Keeps 0x7ffffffffffffffffffffffffffffffffffffffffffffc a0 t := by
  intros; rename_i h; unfold execTympCompactionDone at h; replace h := Host.Outcome.next.inj h; subst h
  (try dsimp only)
  repeat' first
    | with_reducible exact Keeps.refl _ _
    | (with_reducible apply Keeps.step (compactionDone_fr ..); decide)
    | (with_reducible apply Keeps.step (drain_fr ..); decide)
    | (with_reducible apply Keeps.step (pwrRecompute_fr ..); decide)
    | (with_reducible apply Keeps.step (restartCheck_fr ..); decide)
    | split
    | intro _
    | dsimp only

theorem execStart_fr : ∀ a0 a1 t, (execStart a0 a1) = .next t → Keeps 0x7ffffffffffffffffffffffffffffffffffffffffffffc a1 t := by
  intros; rename_i h; unfold execStart at h; replace h := Host.Outcome.next.inj h; subst h
  (try dsimp only)
  repeat' first
    | with_reducible exact Keeps.refl _ _
    | (with_reducible apply Keeps.step (drain_fr ..); decide)
    | (with_reducible apply Keeps.step (startStep_fr ..); decide)
    | split
    | intro _
    | dsimp only

theorem execStartWatchdog_fr : ∀ a0 t, (execStartWatchdog a0) = .next t → Keeps 0x7ffffffffffffffffffffffffffffffffffffffffffffc a0 t := by
  intros; rename_i h; unfold execStartWatchdog at h; replace h := Host.Outcome.next.inj h; subst h
  (try dsimp only)
  repeat' first
    | with_reducible exact Keeps.refl _ _
    | (with_reducible apply Keeps.step (drain_fr ..); decide)
    | (with_reducible apply Keeps.step (startExpired_fr ..); decide)
    | split
    | intro _
    | dsimp only

theorem execPageAccept_fr : ∀ a0 t, (execPageAccept a0) = .next t → Keeps 0x7ffffffffffffffffffffffffffffffffffffffffffffc a0 t := by
  intros; rename_i h; unfold execPageAccept at h; replace h := Host.Outcome.next.inj h; subst h
  (try dsimp only)
  repeat' first
    | with_reducible exact Keeps.refl _ _
    | (with_reducible apply Keeps.step (acceptPage_fr ..); decide)
    | (with_reducible apply Keeps.step (drain_fr ..); decide)
    | (with_reducible apply Keeps.step (feedTables_fr ..); decide)
    | split
    | intro _
    | dsimp only

theorem execCompChangeFolded_fr : ∀ a0 t, (execCompChangeFolded a0) = .next t → Keeps 0x7ffffffffffffffffffffffffffffffffffffffffffffc a0 t := by
  intros; rename_i h; unfold execCompChangeFolded at h; replace h := Host.Outcome.next.inj h; subst h
  (try dsimp only)
  repeat' first
    | with_reducible exact Keeps.refl _ _
    | (with_reducible apply Keeps.step (drain_fr ..); decide)
    | (with_reducible apply Keeps.step (foldFirst_fr ..); decide)
    | split
    | intro _
    | dsimp only

/-! ### Machine/Returns.lean -/

theorem poisonStream_fr : ∀ a0 a1, Keeps 0x10080000000008000000080c0000000000280075140 a1 (poisonStream a0 a1) := by
  intros; unfold poisonStream
  (try dsimp only)
  repeat' first
    | with_reducible exact Keeps.refl _ _
    | (with_reducible apply Keeps.step (streamError_fr ..); decide)
    | split
    | intro _
    | dsimp only

theorem poisonDuctor_fr : ∀ a0 a1, Keeps 0x10000000000000000000000c00000000012980b5140 a1 (poisonDuctor a0 a1) := by
  intros; unfold poisonDuctor
  (try dsimp only)
  repeat' first
    | with_reducible exact Keeps.refl _ _
    | (with_reducible apply Keeps.step (dramWrite_fr ..); decide)
    | (with_reducible apply Keeps.step (haltRing_fr ..); decide)
    | split
    | intro _
    | dsimp only

theorem poisoned_fr : ∀ a0 a1 a2, Keeps 0x10080060000008000000080c0000000007ffffffff8 a2 (poisoned a0 a1 a2) := by
  intros; unfold poisoned
  (try dsimp only)
  repeat' first
    | with_reducible exact Keeps.refl _ _
    | (with_reducible apply Keeps.step (poisonDuctor_fr ..); decide)
    | (with_reducible apply Keeps.step (poisonFrame_fr ..); decide)
    | (with_reducible apply Keeps.step (poisonStream_fr ..); decide)
    | (with_reducible apply Keeps.step (doReset_fr _ _ _ ?_) ?_ ?_; decide; decide)
    | split
    | intro _
    | dsimp only

theorem readReturn_fr : ∀ a0 a1 a2, Keeps 0x10080060000008000000080da000000007ffffffff8 a2 (readReturn a0 a1 a2) := by
  intros; unfold readReturn
  (try dsimp only)
  repeat' first
    | with_reducible exact Keeps.refl _ _
    | (with_reducible apply Keeps.step (eccCorrected_fr ..); decide)
    | (with_reducible apply Keeps.step (eccUncorrectable_fr ..); decide)
    | (with_reducible apply Keeps.step (modChannel_fr ..); decide)
    | (with_reducible apply Keeps.step (poisoned_fr ..); decide)
    | (with_reducible apply Keeps.step (scrubReturned_fr ..); decide)
    | (with_reducible apply Keeps.step (serveWaiting_fr ..); decide)
    | split
    | intro _
    | dsimp only
    | (with_reducible apply Keeps.own_ddr; rfl; decide)
    | (with_reducible apply Keeps.own_mem; rfl; decide)
    | (with_reducible apply Keeps.upd_ddr; decide; decide)

theorem execDramReadReturn_fr : ∀ a0 a1 a2 t, (execDramReadReturn a0 a1 a2) = .next t → Keeps 0x10080060000008000000080da000000007ffffffff8 a2 t := by
  intros; rename_i h; unfold execDramReadReturn at h; replace h := Host.Outcome.next.inj h; subst h
  (try dsimp only)
  repeat' first
    | with_reducible exact Keeps.refl _ _
    | (with_reducible apply Keeps.step (readReturn_fr ..); decide)
    | split
    | intro _
    | dsimp only

theorem landTransfer_fr : ∀ a0 a1, Keeps 0x10084000000018000000080c040020000039c3fdd48 a1 (landTransfer a0 a1) := by
  intros; unfold landTransfer
  (try dsimp only)
  repeat' first
    | with_reducible exact Keeps.refl _ _
    | (with_reducible apply Keeps.step (answerTo_fr ..); decide)
    | (with_reducible apply Keeps.step (completeDesc_fr ..); decide)
    | (with_reducible apply Keeps.step (pushBufferWrite_fr ..); decide)
    | split
    | intro _
    | dsimp only

theorem pushEnds_fr : ∀ a0, Keeps 0x7ffffffffffffffffffffffffffffffffffffffffffffc a0 (pushEnds a0) := by
  intros; unfold pushEnds
  (try dsimp only)
  have kPUSH_SEQ := Fam.has_PUSH_SEQ
  generalize OD.PUSH_SEQ = fPUSH_SEQ at kPUSH_SEQ ⊢
  repeat' first
    | with_reducible exact Keeps.refl _ _
    | (with_reducible apply Keeps.step (drain_fr ..); decide)
    | (with_reducible apply Keeps.step (landTransfer_fr ..); decide)
    | (with_reducible apply Keeps.step (modDisp_fr ..); decide)
    | (with_reducible apply Keeps.step (pwrRecompute_fr ..); decide)
    | (with_reducible apply Keeps.step (raise_fr ..); decide)
    | (with_reducible apply Keeps.step (sendRest_fr ..); decide)
    | with_reducible apply Keeps.eachDo
    | (with_reducible apply Keeps.bump .PUSH_SEQ ?_ (kPUSH_SEQ ..) ?_; decide)
    | split
    | intro _
    | dsimp only

theorem execDispFrameDone_fr : ∀ a0 t, (execDispFrameDone a0) = .next t → Keeps 0x7ffffffffffffffffffffffffffffffffffffffffffffc a0 t := by
  intros; rename_i h; unfold execDispFrameDone at h; replace h := Host.Outcome.next.inj h; subst h
  (try dsimp only)
  repeat' first
    | with_reducible exact Keeps.refl _ _
    | (with_reducible apply Keeps.step (pushEnds_fr ..); decide)
    | with_reducible apply Keeps.whenDo
    | split
    | intro _
    | dsimp only

/-! ### Machine/Net.lean -/

theorem modNet_fr : ∀ a0 a1, Keeps 0x400 a1 (modNet a0 a1) := by
  intros; unfold modNet
  (try dsimp only)
  repeat' first
    | with_reducible exact Keeps.refl _ _
    | split
    | intro _
    | dsimp only
    | (with_reducible apply Keeps.upd_net; decide)

theorem leaveOperational_fr : ∀ a0, Keeps 0x1000000000000002000003ec00000000002a01110c0 a0 (leaveOperational a0) := by
  intros; unfold leaveOperational
  (try dsimp only)
  repeat' first
    | with_reducible exact Keeps.refl _ _
    | (with_reducible apply Keeps.step (platDisable_fr ..); decide)
    | (with_reducible apply Keeps.step (stopAxes_fr ..); decide)
    | split
    | intro _
    | dsimp only

theorem negotiateProfile_fr : ∀ a0, Keeps 0x800000000000000000000000000000 a0 (negotiateProfile a0) := by
  intros; unfold negotiateProfile
  (try dsimp only)
  repeat' first
    | with_reducible exact Keeps.refl _ _
    | (with_reducible apply Keeps.step (setNegotiated_fr ..); decide)
    | split
    | intro _
    | dsimp only

theorem enterAl_fr : ∀ a0 a1, Keeps 0x1000400000001802000003ec00000000003a01114c0 a1 (enterAl a0 a1) := by
  intros; unfold enterAl
  (try dsimp only)
  repeat' first
    | with_reducible exact Keeps.refl _ _
    | (with_reducible apply Keeps.step (leaveOperational_fr ..); decide)
    | (with_reducible apply Keeps.step (loadAlias_fr ..); decide)
    | (with_reducible apply Keeps.step (modNet_fr ..); decide)
    | (with_reducible apply Keeps.step (negotiateProfile_fr ..); decide)
    | (with_reducible apply Keeps.step (pwrRecompute_fr ..); decide)
    | (with_reducible apply Keeps.step (raise_fr ..); decide)
    | split
    | intro _
    | dsimp only

theorem refuseAl_fr : ∀ a0 a1, Keeps 0x10000000000000000000000c0000000000280011440 a1 (refuseAl a0 a1) := by
  intros; unfold refuseAl
  (try dsimp only)
  repeat' first
    | with_reducible exact Keeps.refl _ _
    | (with_reducible apply Keeps.step (modNet_fr ..); decide)
    | (with_reducible apply Keeps.step (raise_fr ..); decide)
    | split
    | intro _
    | dsimp only

theorem loadPdos_fr : ∀ s, Keeps 0x8000000000 s (loadPdos s) := by
  intros; unfold loadPdos; split
  · exact Keeps.refl _ _
  · exact Keeps.eachDo_mem (fun k hk y => Keeps.setO .pdo (by decide) hk (Keeps.refl _ _)) (Keeps.refl _ _)

theorem requestAl_fr : ∀ a0 a1, Keeps 0x1000400000001802000003ec00000000083a01114c0 a1 (requestAl a0 a1) := by
  intros; unfold requestAl
  (try dsimp only)
  repeat' first
    | with_reducible exact Keeps.refl _ _
    | (with_reducible apply Keeps.step (enterAl_fr ..); decide)
    | (with_reducible apply Keeps.step (loadPdos_fr ..); decide)
    | (with_reducible apply Keeps.step (modNet_fr ..); decide)
    | (with_reducible apply Keeps.step (refuseAl_fr ..); decide)
    | split
    | intro _
    | dsimp only

theorem execAlStateRequest_fr : ∀ a0 a1 t, (execAlStateRequest a0 a1) = .next t → Keeps 0x1000400000001802000003ec00000000083a01114c0 a1 t := by
  intros; rename_i h; unfold execAlStateRequest at h; replace h := Host.Outcome.next.inj h; subst h
  (try dsimp only)
  repeat' first
    | with_reducible exact Keeps.refl _ _
    | (with_reducible apply Keeps.step (requestAl_fr ..); decide)
    | split
    | intro _
    | dsimp only

theorem execPreopAcknowledge_fr : ∀ a0 t, (execPreopAcknowledge a0) = .next t → Keeps 0x1000400000001802000003ec00000000003a01114c0 a0 t := by
  intros; rename_i h; unfold execPreopAcknowledge at h; replace h := Host.Outcome.next.inj h; subst h
  (try dsimp only)
  repeat' first
    | with_reducible exact Keeps.refl _ _
    | (with_reducible apply Keeps.step (enterAl_fr ..); decide)
    | split
    | intro _
    | dsimp only

theorem execProcessDataWatchdog_fr : ∀ a0 t, (execProcessDataWatchdog a0) = .next t → Keeps 0x1000400000001802000003ec00000000003a01114c0 a0 t := by
  intros; rename_i h; unfold execProcessDataWatchdog at h; replace h := Host.Outcome.next.inj h; subst h
  (try dsimp only)
  repeat' first
    | with_reducible exact Keeps.refl _ _
    | (with_reducible apply Keeps.step (enterAl_fr ..); decide)
    | (with_reducible apply Keeps.step (modNet_fr ..); decide)
    | (with_reducible apply Keeps.step (raise_fr ..); decide)
    | split
    | intro _
    | dsimp only

theorem latchInputs_fr : ∀ a0, Keeps 0x1800000000000000000000000000000000000000400400 a0 (latchInputs a0) := by
  intros; unfold latchInputs
  (try dsimp only)
  repeat' first
    | with_reducible exact Keeps.refl _ _
    | (with_reducible apply Keeps.step (latchSlot_fr ..); decide)
    | (with_reducible apply Keeps.step (modNet_fr ..); decide)
    | with_reducible apply Keeps.whenDo
    | split
    | intro _
    | dsimp only

theorem applyEntry_fr : ∀ a0 a1 a2, Keeps 0x4001414000000204822002203ee12200000052be7fd5f8 a2 (applyEntry a0 a1 a2) := by
  intros; unfold applyEntry
  (try dsimp only)
  repeat' first
    | with_reducible exact Keeps.refl _ _
    | (with_reducible apply Keeps.step (demandWake_fr ..); decide)
    | (with_reducible apply Keeps.step (storeValue_fr ..); decide)
    | split
    | intro _
    | dsimp only

theorem applyEntries_fr : ∀ a b s, Keeps 0x4001414000000204822002203ee12200000052be7fd5f8 s (applyEntries a b s) := by
  intro a; induction a with
  | nil => intros; exact Keeps.refl _ _
  | cons e es ih =>
    intro b s; unfold applyEntries; dsimp only
    refine (ih _ _).trans' ?_
    split
    · exact Keeps.refl _ _
    · exact Keeps.mono (applyEntry_fr ..) (by decide)

theorem applyOutputs_fr : ∀ a0 a1, Keeps 0x4001414000000204822002203ee12200000052be7fd5f8 a1 (applyOutputs a0 a1) := by
  intros; unfold applyOutputs
  (try dsimp only)
  repeat' first
    | with_reducible exact Keeps.refl _ _
    | (with_reducible apply Keeps.step (applyEntries_fr ..); decide)
    | split
    | intro _
    | dsimp only

theorem noteSm2_fr : ∀ a0, Keeps 0x400 a0 (noteSm2 a0) := by
  intros; unfold noteSm2
  (try dsimp only)
  repeat' first
    | with_reducible exact Keeps.refl _ _
    | (with_reducible apply Keeps.step (modNet_fr ..); decide)
    | split
    | intro _
    | dsimp only

theorem sm2Event_fr : ∀ a0 a1, Keeps 0x5801414400000205822002203ee12200000053be7fd5f8 a1 (sm2Event a0 a1) := by
  intros; unfold sm2Event
  (try dsimp only)
  repeat' first
    | with_reducible exact Keeps.refl _ _
    | (with_reducible apply Keeps.step (applyOutputs_fr ..); decide)
    | (with_reducible apply Keeps.step (latchInputs_fr ..); decide)
    | (with_reducible apply Keeps.step (modNet_fr ..); decide)
    | (with_reducible apply Keeps.step (noteSm2_fr ..); decide)
    | (with_reducible apply Keeps.step (pwrRecompute_fr ..); decide)
    | split
    | intro _
    | dsimp only

theorem execSm2Event_fr : ∀ a0 a1 t, (execSm2Event a0 a1) = .next t → Keeps 0x5801414400000205822002203ee12200000053be7fd5f8 a1 t := by
  intros; rename_i h; unfold execSm2Event at h; replace h := Host.Outcome.next.inj h; subst h
  (try dsimp only)
  repeat' first
    | with_reducible exact Keeps.refl _ _
    | (with_reducible apply Keeps.step (sm2Event_fr ..); decide)
    | split
    | intro _
    | dsimp only

theorem sync0_fr : ∀ a0, Keeps 0x5801414400000205822002203ee12200000053be7fd5f8 a0 (sync0 a0) := by
  intros; unfold sync0
  (try dsimp only)
  repeat' first
    | with_reducible exact Keeps.refl _ _
    | (with_reducible apply Keeps.step (applyOutputs_fr ..); decide)
    | (with_reducible apply Keeps.step (latchInputs_fr ..); decide)
    | (with_reducible apply Keeps.step (modNet_fr ..); decide)
    | (with_reducible apply Keeps.step (pwrRecompute_fr ..); decide)
    | split
    | intro _
    | dsimp only

theorem execSync0Edge_fr : ∀ a0 t, (execSync0Edge a0) = .next t → Keeps 0x5801414400000205822002203ee12200000053be7fd5f8 a0 t := by
  intros; rename_i h; unfold execSync0Edge at h; replace h := Host.Outcome.next.inj h; subst h
  (try dsimp only)
  repeat' first
    | with_reducible exact Keeps.refl _ _
    | (with_reducible apply Keeps.step (sync0_fr ..); decide)
    | split
    | intro _
    | dsimp only

theorem execSync0Missing_fr : ∀ a0 t, (execSync0Missing a0) = .next t → Keeps 0x10000000000000000000000c0000000000280011440 a0 t := by
  intros; rename_i h; unfold execSync0Missing at h; replace h := Host.Outcome.next.inj h; subst h
  (try dsimp only)
  repeat' first
    | with_reducible exact Keeps.refl _ _
    | (with_reducible apply Keeps.step (modNet_fr ..); decide)
    | (with_reducible apply Keeps.step (raise_fr ..); decide)
    | split
    | intro _
    | dsimp only

theorem foeError_fr : ∀ a0 a1, Keeps 0x10000000000000000000000c0000000000280011440 a1 (foeError a0 a1) := by
  intros; unfold foeError
  (try dsimp only)
  repeat' first
    | with_reducible exact Keeps.refl _ _
    | (with_reducible apply Keeps.step (modNet_fr ..); decide)
    | (with_reducible apply Keeps.step (raise_fr ..); decide)
    | split
    | intro _
    | dsimp only

theorem foeDone_fr : ∀ a0 a1 a2, Keeps 0x10000000000000000000000c0000000000280011440 a2 (foeDone a0 a1 a2) := by
  intros; unfold foeDone
  (try dsimp only)
  repeat' first
    | with_reducible exact Keeps.refl _ _
    | (with_reducible apply Keeps.step (modNet_fr ..); decide)
    | (with_reducible apply Keeps.step (raise_fr ..); decide)
    | split
    | intro _
    | dsimp only

theorem firmwareWrite_fr : ∀ a0 a1 a2, Keeps 0x10000000000000000000000c00000000002c0011440 a2 (firmwareWrite a0 a1 a2) := by
  intros; unfold firmwareWrite
  (try dsimp only)
  repeat' first
    | with_reducible exact Keeps.refl _ _
    | (with_reducible apply Keeps.step (foeDone_fr ..); decide)
    | (with_reducible apply Keeps.step (foeError_fr ..); decide)
    | (with_reducible apply Keeps.step (imageEnd_fr ..); decide)
    | (with_reducible apply Keeps.step (Keeps.snd (by assumption) (imageEnd_fr ..)); decide)
    | (with_reducible apply Keeps.step (imageStore_fr ..); decide)
    | (with_reducible apply Keeps.step (modNet_fr ..); decide)
    | split
    | intro _
    | dsimp only

theorem execRz2440FwWrite_fr : ∀ a0 a1 a2 a3 a4 t, (execRz2440FwWrite a0 a1 a2 a3 a4) = .next t → Keeps 0x10000000000000000000000c00000000002c0011440 a4 t := by
  intros; rename_i h; unfold execRz2440FwWrite at h; replace h := Host.Outcome.next.inj h; subst h
  (try dsimp only)
  repeat' first
    | with_reducible exact Keeps.refl _ _
    | (with_reducible apply Keeps.step (demandWake_fr ..); decide)
    | (with_reducible apply Keeps.step (firmwareWrite_fr ..); decide)
    | (with_reducible apply Keeps.step (foeError_fr ..); decide)
    | split
    | intro _
    | dsimp only

theorem foeOpenError_fr : ∀ a0, Keeps 0x10000000000000000000000c0000000000280011444 a0 (foeOpenError a0) := by
  intros; unfold foeOpenError
  (try dsimp only)
  repeat' first
    | with_reducible exact Keeps.refl _ _
    | (with_reducible apply Keeps.step (foeError_fr ..); decide)
    | (with_reducible apply Keeps.step (freeDrawn_fr ..); decide)
    | split
    | intro _
    | dsimp only

theorem foeRead_fr : ∀ a0 a1 a2, Keeps 0x10000000000000000000000c0000000000280011444 a2 (foeRead a0 a1 a2) := by
  intros; unfold foeRead
  (try dsimp only)
  repeat' first
    | with_reducible exact Keeps.refl _ _
    | (with_reducible apply Keeps.step (demandWake_fr ..); decide)
    | (with_reducible apply Keeps.step (foeDone_fr ..); decide)
    | (with_reducible apply Keeps.step (foeError_fr ..); decide)
    | (with_reducible apply Keeps.step (foeOpenError_fr ..); decide)
    | split
    | intro _
    | dsimp only

theorem execTympanJnlRead_fr : ∀ a0 a1 t, (execTympanJnlRead a0 a1) = .next t → Keeps 0x10000000000000000000000c0000000000280011444 a1 t := by
  intros; rename_i h; unfold execTympanJnlRead at h; replace h := Host.Outcome.next.inj h; subst h
  (try dsimp only)
  repeat' first
    | with_reducible exact Keeps.refl _ _
    | (with_reducible apply Keeps.step (foeRead_fr ..); decide)
    | split
    | intro _
    | dsimp only

theorem execEventsLogRead_fr : ∀ a0 a1 t, (execEventsLogRead a0 a1) = .next t → Keeps 0x10000000000000000000000c0000000000280011444 a1 t := by
  intros; rename_i h; unfold execEventsLogRead at h; replace h := Host.Outcome.next.inj h; subst h
  (try dsimp only)
  repeat' first
    | with_reducible exact Keeps.refl _ _
    | (with_reducible apply Keeps.step (foeRead_fr ..); decide)
    | split
    | intro _
    | dsimp only

theorem execStationAddressWrite_fr : ∀ a0 a1 t, (execStationAddressWrite a0 a1) = .next t → Keeps 0x400 a1 t := by
  intros; rename_i h; unfold execStationAddressWrite at h; replace h := Host.Outcome.next.inj h; subst h
  (try dsimp only)
  repeat' first
    | with_reducible exact Keeps.refl _ _
    | (with_reducible apply Keeps.step (modNet_fr ..); decide)
    | split
    | intro _
    | dsimp only

theorem resetRegister_fr : ∀ a0 a1, Keeps 0x10000060000000000000000c0000000007ffffffff8 a1 (resetRegister a0 a1) := by
  intros; unfold resetRegister
  (try dsimp only)
  repeat' first
    | with_reducible exact Keeps.refl _ _
    | (with_reducible apply Keeps.step (modNet_fr ..); decide)
    | (with_reducible apply Keeps.step (doReset_fr _ _ _ ?_) ?_ ?_; decide; decide)
    | split
    | intro _
    | dsimp only

theorem execNetReset_fr : ∀ a0 a1 t, (execNetReset a0 a1) = .next t → Keeps 0x10000060000000000000000c0000000007ffffffff8 a1 t := by
  intros; rename_i h; unfold execNetReset at h; replace h := Host.Outcome.next.inj h; subst h
  (try dsimp only)
  repeat' first
    | with_reducible exact Keeps.refl _ _
    | (with_reducible apply Keeps.step (resetRegister_fr ..); decide)
    | split
    | intro _
    | dsimp only

theorem execMiiLinkChange_fr : ∀ a0 a1 a2 t, (execMiiLinkChange a0 a1 a2) = .next t → Keeps 0x10000000000000000000000c0000000000280011440 a2 t := by
  intros; rename_i h; unfold execMiiLinkChange at h; replace h := Host.Outcome.next.inj h; subst h
  (try dsimp only)
  repeat' first
    | with_reducible exact Keeps.refl _ _
    | (with_reducible apply Keeps.step (modNet_fr ..); decide)
    | (with_reducible apply Keeps.step (raise_fr ..); decide)
    | split
    | intro _
    | dsimp only

theorem smActivate_fr : ∀ a0 a1 a2, Keeps 0x400 a2 (smActivate a0 a1 a2) := by
  intros; unfold smActivate
  (try dsimp only)
  repeat' first
    | with_reducible exact Keeps.refl _ _
    | (with_reducible apply Keeps.step (modNet_fr ..); decide)
    | split
    | intro _
    | dsimp only

theorem escWrite_fr : ∀ a0 a1 a2, Keeps 0x10004060000010000000000c0000000007ffffffff8 a2 (escWrite a0 a1 a2) := by
  intros; unfold escWrite
  (try dsimp only)
  repeat' first
    | with_reducible exact Keeps.refl _ _
    | (with_reducible apply Keeps.step (modNet_fr ..); decide)
    | (with_reducible apply Keeps.step (pwrRecompute_fr ..); decide)
    | (with_reducible apply Keeps.step (resetRegister_fr ..); decide)
    | (with_reducible apply Keeps.step (smActivate_fr ..); decide)
    | split
    | intro _
    | dsimp only

theorem execEscRegisterWrite_fr : ∀ a0 a1 a2 t, (execEscRegisterWrite a0 a1 a2) = .next t → Keeps 0x10004060000010000000000c0000000007ffffffff8 a2 t := by
  intros; rename_i h; unfold execEscRegisterWrite at h; replace h := Host.Outcome.next.inj h; subst h
  (try dsimp only)
  repeat' first
    | with_reducible exact Keeps.refl _ _
    | (with_reducible apply Keeps.step (escWrite_fr ..); decide)
    | split
    | intro _
    | dsimp only

/-! ### Machine/Registers.lean -/

theorem flushMsix_fr : ∀ a0, Keeps 0x1000 a0 (flushMsix a0) := by
  intros; unfold flushMsix
  (try dsimp only)
  repeat' first
    | with_reducible exact Keeps.refl _ _
    | split
    | intro _
    | dsimp only
    | (with_reducible apply Keeps.own_pcie; rfl; rfl; rfl; decide)
    | (with_reducible apply Keeps.own_msix; rfl; rfl; decide)
    | (with_reducible apply Keeps.own_hostWrites; rfl; rfl; rfl; decide)
    | (with_reducible apply Keeps.upd_pcie; decide; decide; decide)

theorem msixWrite_fr : ∀ a0 a1 a2, Keeps 0x1800 a2 (msixWrite a0 a1 a2) := by
  intros; unfold msixWrite
  (try dsimp only)
  repeat' first
    | with_reducible exact Keeps.refl _ _
    | (with_reducible apply Keeps.step (flushMsix_fr ..); decide)
    | split
    | intro _
    | dsimp only
    | (with_reducible apply Keeps.own_pcie; rfl; rfl; rfl; decide)
    | (with_reducible apply Keeps.own_msix; rfl; rfl; decide)
    | (with_reducible apply Keeps.own_hostWrites; rfl; rfl; rfl; decide)
    | (with_reducible apply Keeps.upd_pcie; decide; decide; decide)

theorem windowStart_fr : ∀ a0 a1, Keeps 0x7ffffffffffffffffffffffffffffffffffffffffffffc a1 (windowStart a0 a1) := by
  intros; unfold windowStart
  (try dsimp only)
  repeat' first
    | with_reducible exact Keeps.refl _ _
    | (with_reducible apply Keeps.step (viaWindow_fr ..); decide)
    | split
    | intro _
    | dsimp only

theorem windowDone_fr : ∀ a0, Keeps 0x10004000000010000000000c0000000000380011840 a0 (windowDone a0) := by
  intros; unfold windowDone
  (try dsimp only)
  repeat' first
    | with_reducible exact Keeps.refl _ _
    | (with_reducible apply Keeps.step (pwrRecompute_fr ..); decide)
    | (with_reducible apply Keeps.step (raise_fr ..); decide)
    | split
    | intro _
    | dsimp only
    | (with_reducible apply Keeps.own_pcie; rfl; rfl; rfl; decide)
    | (with_reducible apply Keeps.own_msix; rfl; rfl; decide)
    | (with_reducible apply Keeps.own_hostWrites; rfl; rfl; rfl; decide)
    | (with_reducible apply Keeps.upd_pcie; decide; decide; decide)

theorem windowRegWrite_fr : ∀ a0 a1 a2 a3, Keeps 0x7ffffffffffffffffffffffffffffffffffffffffffffc a3 (windowRegWrite a0 a1 a2 a3) := by
  intros; unfold windowRegWrite
  (try dsimp only)
  repeat' first
    | with_reducible exact Keeps.refl _ _
    | (with_reducible apply Keeps.step (windowStart_fr ..); decide)
    | split
    | intro _
    | dsimp only
    | (with_reducible apply Keeps.own_pcie; rfl; rfl; rfl; decide)
    | (with_reducible apply Keeps.own_msix; rfl; rfl; decide)
    | (with_reducible apply Keeps.own_hostWrites; rfl; rfl; rfl; decide)
    | (with_reducible apply Keeps.upd_pcie; decide; decide; decide)

theorem bar2Write_fr : ∀ a0 a1 a2 a3, Keeps 0x7ffffffffffffffffffffffffffffffffffffffffffffc a3 (bar2Write a0 a1 a2 a3) := by
  intros; unfold bar2Write
  (try dsimp only)
  repeat' first
    | with_reducible exact Keeps.refl _ _
    | (with_reducible apply Keeps.step (windowRegWrite_fr ..); decide)
    | with_reducible apply Keeps.eachDo
    | split
    | intro _
    | dsimp only
    | (with_reducible apply Keeps.own_pcie; rfl; rfl; rfl; decide)
    | (with_reducible apply Keeps.own_msix; rfl; rfl; decide)
    | (with_reducible apply Keeps.own_hostWrites; rfl; rfl; rfl; decide)
    | (with_reducible apply Keeps.upd_pcie; decide; decide; decide)

theorem bar0Snapshot_fr : ∀ a0 a1 a2, Keeps 0xc00000 a2 (bar0Snapshot a0 a1 a2) := by
  intros; unfold bar0Snapshot
  (try dsimp only)
  repeat' first
    | with_reducible exact Keeps.refl _ _
    | split
    | intro _
    | dsimp only
    | (with_reducible apply Keeps.upd_time; decide)
    | (with_reducible apply Keeps.upd_web; decide)

theorem ringWrite_fr : ∀ a0 a1 a2 a3, Keeps 0x100840000000180200000bec04002000013dc3ff1c8 a3 (ringWrite a0 a1 a2 a3) := by
  intros; unfold ringWrite
  (try dsimp only)
  repeat' first
    | with_reducible exact Keeps.refl _ _
    | (with_reducible apply Keeps.step (controlWrite_fr ..); decide)
    | (with_reducible apply Keeps.step (modRing_fr ..); decide)
    | split
    | intro _
    | dsimp only

theorem bar0Write_fr : ∀ a0 a1 a2 a3, Keeps 0x1801108500003081b0600000bec04002030013fefff9f8 a3 (bar0Write a0 a1 a2 a3) := by
  intros; unfold bar0Write
  (try dsimp only)
  repeat' first
    | with_reducible exact Keeps.refl _ _
    | (with_reducible apply Keeps.step (clearCycling_fr ..); decide)
    | (with_reducible apply Keeps.step (commitCamera_fr ..); decide)
    | (with_reducible apply Keeps.step (Keeps.snd (by assumption) (commitCamera_fr ..)); decide)
    | (with_reducible apply Keeps.step (commitMotion_fr ..); decide)
    | (with_reducible apply Keeps.step (Keeps.snd (by assumption) (commitMotion_fr ..)); decide)
    | (with_reducible apply Keeps.step (commitPlaten_fr ..); decide)
    | (with_reducible apply Keeps.step (Keeps.snd (by assumption) (commitPlaten_fr ..)); decide)
    | (with_reducible apply Keeps.step (hostPush_fr ..); decide)
    | (with_reducible apply Keeps.step (Keeps.snd (by assumption) (hostPush_fr ..)); decide)
    | (with_reducible apply Keeps.step (latchSlot_fr ..); decide)
    | (with_reducible apply Keeps.step (msixWrite_fr ..); decide)
    | (with_reducible apply Keeps.step (ringWrite_fr ..); decide)
    | split
    | intro _
    | dsimp only
    | (with_reducible apply Keeps.upd_time; decide)

theorem bar4Write_fr : ∀ a0 a1 a2, Keeps 0x10000000000000000000000c000000000028001d040 a2 (bar4Write a0 a1 a2) := by
  intros; unfold bar4Write
  (try dsimp only)
  repeat' first
    | with_reducible exact Keeps.refl _ _
    | (with_reducible apply Keeps.step (doorbell_fr ..); decide)
    | split
    | intro _
    | dsimp only

theorem setRead_fr : ∀ a0 a1, Keeps 0x800 a1 (setRead a0 a1) := by
  intros; unfold setRead
  (try dsimp only)
  repeat' first
    | with_reducible exact Keeps.refl _ _
    | split
    | intro _
    | dsimp only
    | (with_reducible apply Keeps.own_pcie; rfl; rfl; rfl; decide)
    | (with_reducible apply Keeps.own_msix; rfl; rfl; decide)
    | (with_reducible apply Keeps.own_hostWrites; rfl; rfl; rfl; decide)
    | (with_reducible apply Keeps.upd_pcie; decide; decide; decide)

theorem registerAccess_fr : ∀ a0 a1 a2 a3 a4, Keeps 0x7ffffffffffffffffffffffffffffffffffffffffffffc a4 (registerAccess a0 a1 a2 a3 a4) := by
  intros; unfold registerAccess
  (try dsimp only)
  repeat' first
    | with_reducible exact Keeps.refl _ _
    | (with_reducible apply Keeps.step (bar0Snapshot_fr ..); decide)
    | (with_reducible apply Keeps.step (bar0Write_fr ..); decide)
    | (with_reducible apply Keeps.step (bar2Write_fr ..); decide)
    | (with_reducible apply Keeps.step (bar4Write_fr ..); decide)
    | (with_reducible apply Keeps.step (pwrRecompute_fr ..); decide)
    | (with_reducible apply Keeps.step (setRead_fr ..); decide)
    | split
    | intro _
    | dsimp only

theorem execRegisterWrite_fr : ∀ a0 a1 a2 a3 a4 t, (execRegisterWrite a0 a1 a2 a3 a4) = .next t → Keeps 0x7ffffffffffffffffffffffffffffffffffffffffffffc a4 t := by
  intros; rename_i h; unfold execRegisterWrite at h; replace h := Host.Outcome.next.inj h; subst h
  (try dsimp only)
  repeat' first
    | with_reducible exact Keeps.refl _ _
    | (with_reducible apply Keeps.step (registerAccess_fr ..); decide)
    | (with_reducible apply Keeps.barAccess (fun _ => Keeps.mono (demandWake_fr ..) (by decide)) ?_ (by decide) (by decide) ?_)
    | split
    | intro _
    | dsimp only

theorem execWinRead_fr : ∀ a0 t, (execWinRead a0) = .next t → Keeps 0x7ffffffffffffffffffffffffffffffffffffffffffffc a0 t := by
  intros; rename_i h; unfold execWinRead at h; replace h := Host.Outcome.next.inj h; subst h
  (try dsimp only)
  repeat' first
    | with_reducible exact Keeps.refl _ _
    | (with_reducible apply Keeps.step (windowStart_fr ..); decide)
    | split
    | intro _
    | dsimp only

theorem execWinWrite_fr : ∀ a0 t, (execWinWrite a0) = .next t → Keeps 0x7ffffffffffffffffffffffffffffffffffffffffffffc a0 t := by
  intros; rename_i h; unfold execWinWrite at h; replace h := Host.Outcome.next.inj h; subst h
  (try dsimp only)
  repeat' first
    | with_reducible exact Keeps.refl _ _
    | (with_reducible apply Keeps.step (windowStart_fr ..); decide)
    | split
    | intro _
    | dsimp only

theorem execWinRequestDone_fr : ∀ a0 t, (execWinRequestDone a0) = .next t → Keeps 0x10004000000010000000000c0000000000380011840 a0 t := by
  intros; rename_i h; unfold execWinRequestDone at h; replace h := Host.Outcome.next.inj h; subst h
  (try dsimp only)
  repeat' first
    | with_reducible exact Keeps.refl _ _
    | (with_reducible apply Keeps.step (windowDone_fr ..); decide)
    | split
    | intro _
    | dsimp only

theorem execPlatCommit_fr : ∀ a0 a1 a2 t, (execPlatCommit a0 a1 a2) = .next t → Keeps 0x7ffffffffffffffffffffffffffffffffffffffffffffc a2 t := by
  intros; rename_i h; unfold execPlatCommit at h; replace h := Host.Outcome.next.inj h; subst h
  (try dsimp only)
  repeat' first
    | with_reducible exact Keeps.refl _ _
    | (with_reducible apply Keeps.step (bar0Write_fr ..); decide)
    | (with_reducible apply Keeps.step (objectWrite_fr ..); decide)
    | (with_reducible apply Keeps.barAccess (fun _ => Keeps.mono (demandWake_fr ..) (by decide)) ?_ (by decide) (by decide) ?_)
    | split
    | intro _
    | dsimp only

theorem execCamCommit_fr : ∀ a0 a1 a2 t, (execCamCommit a0 a1 a2) = .next t → Keeps 0x7ffffffffffffffffffffffffffffffffffffffffffffc a2 t := by
  intros; rename_i h; unfold execCamCommit at h; replace h := Host.Outcome.next.inj h; subst h
  (try dsimp only)
  repeat' first
    | with_reducible exact Keeps.refl _ _
    | (with_reducible apply Keeps.step (bar0Write_fr ..); decide)
    | (with_reducible apply Keeps.step (objectWrite_fr ..); decide)
    | (with_reducible apply Keeps.barAccess (fun _ => Keeps.mono (demandWake_fr ..) (by decide)) ?_ (by decide) (by decide) ?_)
    | split
    | intro _
    | dsimp only

theorem execMotCommit_fr : ∀ a0 a1 a2 t, (execMotCommit a0 a1 a2) = .next t → Keeps 0x7ffffffffffffffffffffffffffffffffffffffffffffc a2 t := by
  intros; rename_i h; unfold execMotCommit at h; replace h := Host.Outcome.next.inj h; subst h
  (try dsimp only)
  repeat' first
    | with_reducible exact Keeps.refl _ _
    | (with_reducible apply Keeps.step (bar0Write_fr ..); decide)
    | (with_reducible apply Keeps.step (objectWrite_fr ..); decide)
    | (with_reducible apply Keeps.barAccess (fun _ => Keeps.mono (demandWake_fr ..) (by decide)) ?_ (by decide) (by decide) ?_)
    | split
    | intro _
    | dsimp only

theorem objectPush_fr : ∀ a0 a1 a2, Keeps 0x7ffffffffffffffffffffffffffffffffffffffffffffc a2 (objectPush a0 a1 a2) := by
  intros; unfold objectPush
  (try dsimp only)
  repeat' first
    | with_reducible exact Keeps.refl _ _
    | (with_reducible apply Keeps.step (viaMailbox_fr ..); decide)
    | (with_reducible apply Keeps.step (viaWindow_fr ..); decide)
    | split
    | intro _
    | dsimp only

theorem execDispPush_fr : ∀ a0 a1 a2 a3 t, (execDispPush a0 a1 a2 a3) = .next t → Keeps 0x7ffffffffffffffffffffffffffffffffffffffffffffc a3 t := by
  intros; rename_i h; unfold execDispPush at h; replace h := Host.Outcome.next.inj h; subst h
  (try dsimp only)
  repeat' first
    | with_reducible exact Keeps.refl _ _
    | (with_reducible apply Keeps.step (bar0Write_fr ..); decide)
    | (with_reducible apply Keeps.step (objectPush_fr ..); decide)
    | (with_reducible apply Keeps.barAccess (fun _ => Keeps.mono (demandWake_fr ..) (by decide)) ?_ (by decide) (by decide) ?_)
    | split
    | intro _
    | dsimp only

theorem heldOutcome_fr : ∀ c s t, heldOutcome c s = .next t → Keeps 0x7ffffffffffffffffffffffffffffffffffffffffffffc s t := by
  intro c s t h
  cases c
  case registerWrite => exact (execRegisterWrite_fr _ _ _ _ _ _ h).mono (by decide)
  case doorbellWrite => exact (execDoorbellWrite_fr _ _ _ _ h).mono (by decide)
  case ringEnable => exact (execRingEnable_fr _ _ _ h).mono (by decide)
  case ringDisable => exact (execRingDisable_fr _ _ _ h).mono (by decide)
  case ringStop => exact (execRingStop_fr _ _ _ h).mono (by decide)
  case ringResume => exact (execRingResume_fr _ _ _ h).mono (by decide)
  case ringSkip => exact (execRingSkip_fr _ _ _ h).mono (by decide)
  case ringAbort => exact (execRingAbort_fr _ _ _ h).mono (by decide)
  case platCommit => exact (execPlatCommit_fr _ _ _ _ h).mono (by decide)
  case camCommit => exact (execCamCommit_fr _ _ _ _ h).mono (by decide)
  case motCommit => exact (execMotCommit_fr _ _ _ _ h).mono (by decide)
  case dispPush => exact (execDispPush_fr _ _ _ _ _ h).mono (by decide)
  all_goals
    cases (show Host.Outcome.next s = Host.Outcome.next t from h)
    exact Keeps.refl _ _

theorem heldAccess_fr : ∀ c s, Keeps 0x7ffffffffffffffffffffffffffffffffffffffffffffc s (heldAccess c s) := by
  intro c s; unfold heldAccess
  split
  next t h => exact (heldOutcome_fr _ _ _ h).mono (by decide)
  all_goals exact Keeps.refl _ _

theorem heldAccesses_fr : ∀ a0, Keeps 0x7ffffffffffffffffffffffffffffffffffffffffffffc a0 (heldAccesses a0) := by
  intros; unfold heldAccesses
  (try dsimp only)
  repeat' first
    | with_reducible exact Keeps.refl _ _
    | (with_reducible apply Keeps.step (drain_fr ..); decide)
    | (with_reducible apply Keeps.step (heldAccess_fr ..); decide)
    | (with_reducible apply Keeps.step (modPwr_fr ..); decide)
    | with_reducible apply Keeps.eachDo
    | split
    | intro _
    | dsimp only

theorem execPowerEntryComplete_fr : ∀ a0 t, (execPowerEntryComplete a0) = .next t → Keeps 0x1100400000001006000203ec0000002007fbffffff8 a0 t := by
  intros; rename_i h; unfold execPowerEntryComplete at h; replace h := Host.Outcome.next.inj h; subst h
  (try dsimp only)
  repeat' first
    | with_reducible exact Keeps.refl _ _
    | (with_reducible apply Keeps.step (demandWake_fr ..); decide)
    | (with_reducible apply Keeps.step (dispDiscard_fr ..); decide)
    | (with_reducible apply Keeps.step (enterSelfRefresh_fr ..); decide)
    | (with_reducible apply Keeps.step (modPwr_fr ..); decide)
    | (with_reducible apply Keeps.step (pwrRecompute_fr ..); decide)
    | (with_reducible apply Keeps.step (setPower_fr ..); decide)
    | (with_reducible apply Keeps.step (sleepEntry_fr ..); decide)
    | split
    | intro _
    | dsimp only

theorem execPowerExitComplete_fr : ∀ a0 a1 t, (execPowerExitComplete a0 a1) = .next t → Keeps 0x7ffffffffffffffffffffffffffffffffffffffffffffc a1 t := by
  intros; rename_i h; unfold execPowerExitComplete at h; replace h := Host.Outcome.next.inj h; subst h
  (try dsimp only)
  repeat' first
    | with_reducible exact Keeps.refl _ _
    | (with_reducible apply Keeps.step (exitSelfRefresh_fr ..); decide)
    | (with_reducible apply Keeps.step (heldAccesses_fr ..); decide)
    | (with_reducible apply Keeps.step (modPwr_fr ..); decide)
    | (with_reducible apply Keeps.step (pwrRecompute_fr ..); decide)
    | (with_reducible apply Keeps.step (setPower_fr ..); decide)
    | (with_reducible apply Keeps.step (sleepExit_fr ..); decide)
    | (with_reducible apply Keeps.step (startPanel_fr ..); decide)
    | (with_reducible apply Keeps.step (waitingReset_fr ..); decide)
    | split
    | intro _
    | dsimp only



theorem execFreezeEnd_fr : ∀ a0 t, (execFreezeEnd a0) = .next t → Keeps 0x10000000000000000000000c0000000002280711040 a0 t := by
  intros; rename_i h; unfold execFreezeEnd at h; replace h := Host.Outcome.next.inj h; subst h
  (try dsimp only)
  repeat' first
    | with_reducible exact Keeps.refl _ _
    | (with_reducible apply Keeps.step (endFreeze_fr ..); decide)
    | (with_reducible apply Keeps.step (linkChecks_fr ..); decide)
    | with_reducible apply Keeps.whenDo
    | split
    | intro _
    | dsimp only

/-! ### Machine/Pcie.lean -/

theorem cfgWrite_fr : ∀ a0 a1 a2, Keeps 0x1000000000000002000003ec00000000037da1bfbc0 a2 (cfgWrite a0 a1 a2) := by
  intros; unfold cfgWrite modPcie
  (try dsimp only)
  repeat' first
    | with_reducible exact Keeps.refl _ _
    | (with_reducible apply Keeps.step (flushMsix_fr ..); decide)
    | (with_reducible apply Keeps.step (hotAsserted_fr ..); decide)
    | split
    | intro _
    | dsimp only
    | (with_reducible apply Keeps.own_pcie; rfl; rfl; rfl; decide)
    | (with_reducible apply Keeps.upd_pcie; decide; decide; decide)
    | (with_reducible apply Keeps.own_pcie; rfl; rfl; rfl; decide)
    | (with_reducible apply Keeps.upd_pcie; decide; decide; decide)

theorem execPciConfigAccess_fr : ∀ a0 a1 a2 t, (execPciConfigAccess a0 a1 a2) = .next t → Keeps 0x1000400000001002000003ec00000000037da1bfbc4 a2 t := by
  intros; rename_i h; unfold execPciConfigAccess at h; replace h := Host.Outcome.next.inj h; subst h
  (try dsimp only)
  repeat' first
    | with_reducible exact Keeps.refl _ _
    | (with_reducible apply Keeps.step (cfgWrite_fr ..); decide)
    | (with_reducible apply Keeps.step (freeDrawn_fr ..); decide)
    | (with_reducible apply Keeps.step (pwrRecompute_fr ..); decide)
    | (with_reducible apply Keeps.step (setRead_fr ..); decide)
    | split
    | intro _
    | dsimp only

theorem execPcieLinkUp_fr : ∀ a0 a1 a2 t, (execPcieLinkUp a0 a1 a2) = .next t → Keeps 0x10004000000010000000000c0000000000780011840 a2 t := by
  intros; rename_i h; unfold execPcieLinkUp at h; replace h := Host.Outcome.next.inj h; subst h
  (try unfold modPcie)
  (try dsimp only)
  repeat' first
    | with_reducible exact Keeps.refl _ _
    | (with_reducible apply Keeps.step (flushMsix_fr ..); decide)
    | (with_reducible apply Keeps.step (pwrRecompute_fr ..); decide)
    | (with_reducible apply Keeps.step (raise_fr ..); decide)
    | split
    | intro _
    | dsimp only
    | (with_reducible apply Keeps.upd_clk; decide)
    | (with_reducible apply Keeps.own_clk_pcie; rfl; rfl; rfl; decide; decide)
    | (with_reducible apply Keeps.own_pcie; rfl; rfl; rfl; decide)
    | (with_reducible apply Keeps.upd_pcie; decide; decide; decide)
    | (with_reducible apply Keeps.own_pcie; rfl; rfl; rfl; decide)
    | (with_reducible apply Keeps.upd_pcie; decide; decide; decide)

theorem execPmeTurnOff_fr : ∀ a0 t, (execPmeTurnOff a0) = .next t → Keeps 0x10004000000010000000000c0000000000380011840 a0 t := by
  intros; rename_i h; unfold execPmeTurnOff at h; replace h := Host.Outcome.next.inj h; subst h
  (try unfold modPcie)
  (try dsimp only)
  repeat' first
    | with_reducible exact Keeps.refl _ _
    | (with_reducible apply Keeps.step (pwrRecompute_fr ..); decide)
    | split
    | intro _
    | dsimp only
    | (with_reducible apply Keeps.own_pcie; rfl; rfl; rfl; decide)
    | (with_reducible apply Keeps.upd_pcie; decide; decide; decide)
    | (with_reducible apply Keeps.own_pcie; rfl; rfl; rfl; decide)
    | (with_reducible apply Keeps.upd_pcie; decide; decide; decide)

theorem execPcieAerError_fr : ∀ a0 a1 t, (execPcieAerError a0 a1) = .next t → Keeps 0x10000000000000000000000c0000000000280011840 a1 t := by
  intros; rename_i h; unfold execPcieAerError at h; replace h := Host.Outcome.next.inj h; subst h
  (try unfold modPcie)
  (try dsimp only)
  repeat' first
    | with_reducible exact Keeps.refl _ _
    | (with_reducible apply Keeps.step (raise_fr ..); decide)
    | split
    | intro _
    | dsimp only
    | (with_reducible apply Keeps.own_pcie; rfl; rfl; rfl; decide)
    | (with_reducible apply Keeps.upd_pcie; decide; decide; decide)
    | (with_reducible apply Keeps.own_pcie; rfl; rfl; rfl; decide)
    | (with_reducible apply Keeps.upd_pcie; decide; decide; decide)

/-! ### Machine/Tick.lean -/

theorem locTick_fr : ∀ a0, Keeps 0x10004000000010000000000c0000000000398051042 a0 (locTick a0) := by
  intros; unfold locTick
  (try dsimp only)
  repeat' first
    | with_reducible exact Keeps.refl _ _
    | (with_reducible apply Keeps.step (dramTick_fr ..); decide)
    | (with_reducible apply Keeps.step (lateNotices_fr ..); decide)
    | (with_reducible apply Keeps.step (pwrRecompute_fr ..); decide)
    | split
    | intro _
    | dsimp only
    | (with_reducible apply Keeps.upd_loc; decide)

end Sys2Proof.Machine
end

