-- ==== Sys2Proof/Laws/State.lean ====
section
/-! SUPPORT. Laws/State.lean: what each update of one component leaves: every other field of the state, one lemma per
field and update, and every object's value. -/

namespace Sys2Proof.Machine

/-! `State.setO` -/

@[simp] theorem State.setO_pending (k v : Nat) (s : State) : (State.setO k v s).pending = s.pending := rfl
@[simp] theorem State.setO_loc (k v : Nat) (s : State) : (State.setO k v s).loc = s.loc := rfl
@[simp] theorem State.setO_freeCtr (k v : Nat) (s : State) : (State.setO k v s).freeCtr = s.freeCtr := rfl
@[simp] theorem State.setO_dom (k v : Nat) (s : State) : (State.setO k v s).dom = s.dom := rfl
@[simp] theorem State.setO_live (k v : Nat) (s : State) : (State.setO k v s).live = s.live := rfl
@[simp] theorem State.setO_liveDom (k v : Nat) (s : State) : (State.setO k v s).liveDom = s.liveDom := rfl
@[simp] theorem State.setO_dev (k v : Nat) (s : State) : (State.setO k v s).dev = s.dev := rfl
@[simp] theorem State.setO_ledgers (k v : Nat) (s : State) : (State.setO k v s).ledgers = s.ledgers := rfl
@[simp] theorem State.setO_srv (k v : Nat) (s : State) : (State.setO k v s).srv = s.srv := rfl
@[simp] theorem State.setO_net (k v : Nat) (s : State) : (State.setO k v s).net = s.net := rfl
@[simp] theorem State.setO_pcie (k v : Nat) (s : State) : (State.setO k v s).pcie = s.pcie := rfl
@[simp] theorem State.setO_rings (k v : Nat) (s : State) : (State.setO k v s).rings = s.rings := rfl
@[simp] theorem State.setO_egress (k v : Nat) (s : State) : (State.setO k v s).egress = s.egress := rfl
@[simp] theorem State.setO_gal (k v : Nat) (s : State) : (State.setO k v s).gal = s.gal := rfl
@[simp] theorem State.setO_formes (k v : Nat) (s : State) : (State.setO k v s).formes = s.formes := rfl
@[simp] theorem State.setO_comp (k v : Nat) (s : State) : (State.setO k v s).comp = s.comp := rfl
@[simp] theorem State.setO_plat (k v : Nat) (s : State) : (State.setO k v s).plat = s.plat := rfl
@[simp] theorem State.setO_ports (k v : Nat) (s : State) : (State.setO k v s).ports = s.ports := rfl
@[simp] theorem State.setO_web (k v : Nat) (s : State) : (State.setO k v s).web = s.web := rfl
@[simp] theorem State.setO_time (k v : Nat) (s : State) : (State.setO k v s).time = s.time := rfl
@[simp] theorem State.setO_pace (k v : Nat) (s : State) : (State.setO k v s).pace = s.pace := rfl
@[simp] theorem State.setO_cams (k v : Nat) (s : State) : (State.setO k v s).cams = s.cams := rfl
@[simp] theorem State.setO_prf (k v : Nat) (s : State) : (State.setO k v s).prf = s.prf := rfl
@[simp] theorem State.setO_ddr (k v : Nat) (s : State) : (State.setO k v s).ddr = s.ddr := rfl
@[simp] theorem State.setO_axes (k v : Nat) (s : State) : (State.setO k v s).axes = s.axes := rfl
@[simp] theorem State.setO_boot (k v : Nat) (s : State) : (State.setO k v s).boot = s.boot := rfl
@[simp] theorem State.setO_tymp (k v : Nat) (s : State) : (State.setO k v s).tymp = s.tymp := rfl
@[simp] theorem State.setO_pwr (k v : Nat) (s : State) : (State.setO k v s).pwr = s.pwr := rfl
@[simp] theorem State.setO_clk (k v : Nat) (s : State) : (State.setO k v s).clk = s.clk := rfl
@[simp] theorem State.setO_sec (k v : Nat) (s : State) : (State.setO k v s).sec = s.sec := rfl
@[simp] theorem State.setO_disp (k v : Nat) (s : State) : (State.setO k v s).disp = s.disp := rfl
@[simp] theorem State.setO_pins (k v : Nat) (s : State) : (State.setO k v s).pins = s.pins := rfl

/-! `State.setI` -/

@[simp] theorem State.setI_pending (k : Nat) (v : Int) (s : State) : (State.setI k v s).pending = s.pending := rfl
@[simp] theorem State.setI_loc (k : Nat) (v : Int) (s : State) : (State.setI k v s).loc = s.loc := rfl
@[simp] theorem State.setI_freeCtr (k : Nat) (v : Int) (s : State) : (State.setI k v s).freeCtr = s.freeCtr := rfl
@[simp] theorem State.setI_dom (k : Nat) (v : Int) (s : State) : (State.setI k v s).dom = s.dom := rfl
@[simp] theorem State.setI_live (k : Nat) (v : Int) (s : State) : (State.setI k v s).live = s.live := rfl
@[simp] theorem State.setI_liveDom (k : Nat) (v : Int) (s : State) : (State.setI k v s).liveDom = s.liveDom := rfl
@[simp] theorem State.setI_dev (k : Nat) (v : Int) (s : State) : (State.setI k v s).dev = s.dev := rfl
@[simp] theorem State.setI_ledgers (k : Nat) (v : Int) (s : State) : (State.setI k v s).ledgers = s.ledgers := rfl
@[simp] theorem State.setI_srv (k : Nat) (v : Int) (s : State) : (State.setI k v s).srv = s.srv := rfl
@[simp] theorem State.setI_net (k : Nat) (v : Int) (s : State) : (State.setI k v s).net = s.net := rfl
@[simp] theorem State.setI_pcie (k : Nat) (v : Int) (s : State) : (State.setI k v s).pcie = s.pcie := rfl
@[simp] theorem State.setI_rings (k : Nat) (v : Int) (s : State) : (State.setI k v s).rings = s.rings := rfl
@[simp] theorem State.setI_egress (k : Nat) (v : Int) (s : State) : (State.setI k v s).egress = s.egress := rfl
@[simp] theorem State.setI_gal (k : Nat) (v : Int) (s : State) : (State.setI k v s).gal = s.gal := rfl
@[simp] theorem State.setI_formes (k : Nat) (v : Int) (s : State) : (State.setI k v s).formes = s.formes := rfl
@[simp] theorem State.setI_comp (k : Nat) (v : Int) (s : State) : (State.setI k v s).comp = s.comp := rfl
@[simp] theorem State.setI_plat (k : Nat) (v : Int) (s : State) : (State.setI k v s).plat = s.plat := rfl
@[simp] theorem State.setI_ports (k : Nat) (v : Int) (s : State) : (State.setI k v s).ports = s.ports := rfl
@[simp] theorem State.setI_web (k : Nat) (v : Int) (s : State) : (State.setI k v s).web = s.web := rfl
@[simp] theorem State.setI_time (k : Nat) (v : Int) (s : State) : (State.setI k v s).time = s.time := rfl
@[simp] theorem State.setI_pace (k : Nat) (v : Int) (s : State) : (State.setI k v s).pace = s.pace := rfl
@[simp] theorem State.setI_cams (k : Nat) (v : Int) (s : State) : (State.setI k v s).cams = s.cams := rfl
@[simp] theorem State.setI_prf (k : Nat) (v : Int) (s : State) : (State.setI k v s).prf = s.prf := rfl
@[simp] theorem State.setI_ddr (k : Nat) (v : Int) (s : State) : (State.setI k v s).ddr = s.ddr := rfl
@[simp] theorem State.setI_axes (k : Nat) (v : Int) (s : State) : (State.setI k v s).axes = s.axes := rfl
@[simp] theorem State.setI_boot (k : Nat) (v : Int) (s : State) : (State.setI k v s).boot = s.boot := rfl
@[simp] theorem State.setI_tymp (k : Nat) (v : Int) (s : State) : (State.setI k v s).tymp = s.tymp := rfl
@[simp] theorem State.setI_pwr (k : Nat) (v : Int) (s : State) : (State.setI k v s).pwr = s.pwr := rfl
@[simp] theorem State.setI_clk (k : Nat) (v : Int) (s : State) : (State.setI k v s).clk = s.clk := rfl
@[simp] theorem State.setI_sec (k : Nat) (v : Int) (s : State) : (State.setI k v s).sec = s.sec := rfl
@[simp] theorem State.setI_disp (k : Nat) (v : Int) (s : State) : (State.setI k v s).disp = s.disp := rfl
@[simp] theorem State.setI_pins (k : Nat) (v : Int) (s : State) : (State.setI k v s).pins = s.pins := rfl

/-! `State.setB` -/

@[simp] theorem State.setB_pending (k : Nat) (v : Bool) (s : State) : (State.setB k v s).pending = s.pending := rfl
@[simp] theorem State.setB_loc (k : Nat) (v : Bool) (s : State) : (State.setB k v s).loc = s.loc := rfl
@[simp] theorem State.setB_freeCtr (k : Nat) (v : Bool) (s : State) : (State.setB k v s).freeCtr = s.freeCtr := rfl
@[simp] theorem State.setB_dom (k : Nat) (v : Bool) (s : State) : (State.setB k v s).dom = s.dom := rfl
@[simp] theorem State.setB_live (k : Nat) (v : Bool) (s : State) : (State.setB k v s).live = s.live := rfl
@[simp] theorem State.setB_liveDom (k : Nat) (v : Bool) (s : State) : (State.setB k v s).liveDom = s.liveDom := rfl
@[simp] theorem State.setB_dev (k : Nat) (v : Bool) (s : State) : (State.setB k v s).dev = s.dev := rfl
@[simp] theorem State.setB_ledgers (k : Nat) (v : Bool) (s : State) : (State.setB k v s).ledgers = s.ledgers := rfl
@[simp] theorem State.setB_srv (k : Nat) (v : Bool) (s : State) : (State.setB k v s).srv = s.srv := rfl
@[simp] theorem State.setB_net (k : Nat) (v : Bool) (s : State) : (State.setB k v s).net = s.net := rfl
@[simp] theorem State.setB_pcie (k : Nat) (v : Bool) (s : State) : (State.setB k v s).pcie = s.pcie := rfl
@[simp] theorem State.setB_rings (k : Nat) (v : Bool) (s : State) : (State.setB k v s).rings = s.rings := rfl
@[simp] theorem State.setB_egress (k : Nat) (v : Bool) (s : State) : (State.setB k v s).egress = s.egress := rfl
@[simp] theorem State.setB_gal (k : Nat) (v : Bool) (s : State) : (State.setB k v s).gal = s.gal := rfl
@[simp] theorem State.setB_formes (k : Nat) (v : Bool) (s : State) : (State.setB k v s).formes = s.formes := rfl
@[simp] theorem State.setB_comp (k : Nat) (v : Bool) (s : State) : (State.setB k v s).comp = s.comp := rfl
@[simp] theorem State.setB_plat (k : Nat) (v : Bool) (s : State) : (State.setB k v s).plat = s.plat := rfl
@[simp] theorem State.setB_ports (k : Nat) (v : Bool) (s : State) : (State.setB k v s).ports = s.ports := rfl
@[simp] theorem State.setB_web (k : Nat) (v : Bool) (s : State) : (State.setB k v s).web = s.web := rfl
@[simp] theorem State.setB_time (k : Nat) (v : Bool) (s : State) : (State.setB k v s).time = s.time := rfl
@[simp] theorem State.setB_pace (k : Nat) (v : Bool) (s : State) : (State.setB k v s).pace = s.pace := rfl
@[simp] theorem State.setB_cams (k : Nat) (v : Bool) (s : State) : (State.setB k v s).cams = s.cams := rfl
@[simp] theorem State.setB_prf (k : Nat) (v : Bool) (s : State) : (State.setB k v s).prf = s.prf := rfl
@[simp] theorem State.setB_ddr (k : Nat) (v : Bool) (s : State) : (State.setB k v s).ddr = s.ddr := rfl
@[simp] theorem State.setB_axes (k : Nat) (v : Bool) (s : State) : (State.setB k v s).axes = s.axes := rfl
@[simp] theorem State.setB_boot (k : Nat) (v : Bool) (s : State) : (State.setB k v s).boot = s.boot := rfl
@[simp] theorem State.setB_tymp (k : Nat) (v : Bool) (s : State) : (State.setB k v s).tymp = s.tymp := rfl
@[simp] theorem State.setB_pwr (k : Nat) (v : Bool) (s : State) : (State.setB k v s).pwr = s.pwr := rfl
@[simp] theorem State.setB_clk (k : Nat) (v : Bool) (s : State) : (State.setB k v s).clk = s.clk := rfl
@[simp] theorem State.setB_sec (k : Nat) (v : Bool) (s : State) : (State.setB k v s).sec = s.sec := rfl
@[simp] theorem State.setB_disp (k : Nat) (v : Bool) (s : State) : (State.setB k v s).disp = s.disp := rfl
@[simp] theorem State.setB_pins (k : Nat) (v : Bool) (s : State) : (State.setB k v s).pins = s.pins := rfl

/-! `State.bump` -/

@[simp] theorem State.bump_pending (k : Nat) (s : State) : (State.bump k s).pending = s.pending := rfl
@[simp] theorem State.bump_loc (k : Nat) (s : State) : (State.bump k s).loc = s.loc := rfl
@[simp] theorem State.bump_freeCtr (k : Nat) (s : State) : (State.bump k s).freeCtr = s.freeCtr := rfl
@[simp] theorem State.bump_dom (k : Nat) (s : State) : (State.bump k s).dom = s.dom := rfl
@[simp] theorem State.bump_live (k : Nat) (s : State) : (State.bump k s).live = s.live := rfl
@[simp] theorem State.bump_liveDom (k : Nat) (s : State) : (State.bump k s).liveDom = s.liveDom := rfl
@[simp] theorem State.bump_dev (k : Nat) (s : State) : (State.bump k s).dev = s.dev := rfl
@[simp] theorem State.bump_ledgers (k : Nat) (s : State) : (State.bump k s).ledgers = s.ledgers := rfl
@[simp] theorem State.bump_srv (k : Nat) (s : State) : (State.bump k s).srv = s.srv := rfl
@[simp] theorem State.bump_net (k : Nat) (s : State) : (State.bump k s).net = s.net := rfl
@[simp] theorem State.bump_pcie (k : Nat) (s : State) : (State.bump k s).pcie = s.pcie := rfl
@[simp] theorem State.bump_rings (k : Nat) (s : State) : (State.bump k s).rings = s.rings := rfl
@[simp] theorem State.bump_egress (k : Nat) (s : State) : (State.bump k s).egress = s.egress := rfl
@[simp] theorem State.bump_gal (k : Nat) (s : State) : (State.bump k s).gal = s.gal := rfl
@[simp] theorem State.bump_formes (k : Nat) (s : State) : (State.bump k s).formes = s.formes := rfl
@[simp] theorem State.bump_comp (k : Nat) (s : State) : (State.bump k s).comp = s.comp := rfl
@[simp] theorem State.bump_plat (k : Nat) (s : State) : (State.bump k s).plat = s.plat := rfl
@[simp] theorem State.bump_ports (k : Nat) (s : State) : (State.bump k s).ports = s.ports := rfl
@[simp] theorem State.bump_web (k : Nat) (s : State) : (State.bump k s).web = s.web := rfl
@[simp] theorem State.bump_time (k : Nat) (s : State) : (State.bump k s).time = s.time := rfl
@[simp] theorem State.bump_pace (k : Nat) (s : State) : (State.bump k s).pace = s.pace := rfl
@[simp] theorem State.bump_cams (k : Nat) (s : State) : (State.bump k s).cams = s.cams := rfl
@[simp] theorem State.bump_prf (k : Nat) (s : State) : (State.bump k s).prf = s.prf := rfl
@[simp] theorem State.bump_ddr (k : Nat) (s : State) : (State.bump k s).ddr = s.ddr := rfl
@[simp] theorem State.bump_axes (k : Nat) (s : State) : (State.bump k s).axes = s.axes := rfl
@[simp] theorem State.bump_boot (k : Nat) (s : State) : (State.bump k s).boot = s.boot := rfl
@[simp] theorem State.bump_tymp (k : Nat) (s : State) : (State.bump k s).tymp = s.tymp := rfl
@[simp] theorem State.bump_pwr (k : Nat) (s : State) : (State.bump k s).pwr = s.pwr := rfl
@[simp] theorem State.bump_clk (k : Nat) (s : State) : (State.bump k s).clk = s.clk := rfl
@[simp] theorem State.bump_sec (k : Nat) (s : State) : (State.bump k s).sec = s.sec := rfl
@[simp] theorem State.bump_disp (k : Nat) (s : State) : (State.bump k s).disp = s.disp := rfl
@[simp] theorem State.bump_pins (k : Nat) (s : State) : (State.bump k s).pins = s.pins := rfl

/-! `State.bumpN` -/

@[simp] theorem State.bumpN_pending (k v : Nat) (s : State) : (State.bumpN k v s).pending = s.pending := rfl
@[simp] theorem State.bumpN_loc (k v : Nat) (s : State) : (State.bumpN k v s).loc = s.loc := rfl
@[simp] theorem State.bumpN_freeCtr (k v : Nat) (s : State) : (State.bumpN k v s).freeCtr = s.freeCtr := rfl
@[simp] theorem State.bumpN_dom (k v : Nat) (s : State) : (State.bumpN k v s).dom = s.dom := rfl
@[simp] theorem State.bumpN_live (k v : Nat) (s : State) : (State.bumpN k v s).live = s.live := rfl
@[simp] theorem State.bumpN_liveDom (k v : Nat) (s : State) : (State.bumpN k v s).liveDom = s.liveDom := rfl
@[simp] theorem State.bumpN_dev (k v : Nat) (s : State) : (State.bumpN k v s).dev = s.dev := rfl
@[simp] theorem State.bumpN_ledgers (k v : Nat) (s : State) : (State.bumpN k v s).ledgers = s.ledgers := rfl
@[simp] theorem State.bumpN_srv (k v : Nat) (s : State) : (State.bumpN k v s).srv = s.srv := rfl
@[simp] theorem State.bumpN_net (k v : Nat) (s : State) : (State.bumpN k v s).net = s.net := rfl
@[simp] theorem State.bumpN_pcie (k v : Nat) (s : State) : (State.bumpN k v s).pcie = s.pcie := rfl
@[simp] theorem State.bumpN_rings (k v : Nat) (s : State) : (State.bumpN k v s).rings = s.rings := rfl
@[simp] theorem State.bumpN_egress (k v : Nat) (s : State) : (State.bumpN k v s).egress = s.egress := rfl
@[simp] theorem State.bumpN_gal (k v : Nat) (s : State) : (State.bumpN k v s).gal = s.gal := rfl
@[simp] theorem State.bumpN_formes (k v : Nat) (s : State) : (State.bumpN k v s).formes = s.formes := rfl
@[simp] theorem State.bumpN_comp (k v : Nat) (s : State) : (State.bumpN k v s).comp = s.comp := rfl
@[simp] theorem State.bumpN_plat (k v : Nat) (s : State) : (State.bumpN k v s).plat = s.plat := rfl
@[simp] theorem State.bumpN_ports (k v : Nat) (s : State) : (State.bumpN k v s).ports = s.ports := rfl
@[simp] theorem State.bumpN_web (k v : Nat) (s : State) : (State.bumpN k v s).web = s.web := rfl
@[simp] theorem State.bumpN_time (k v : Nat) (s : State) : (State.bumpN k v s).time = s.time := rfl
@[simp] theorem State.bumpN_pace (k v : Nat) (s : State) : (State.bumpN k v s).pace = s.pace := rfl
@[simp] theorem State.bumpN_cams (k v : Nat) (s : State) : (State.bumpN k v s).cams = s.cams := rfl
@[simp] theorem State.bumpN_prf (k v : Nat) (s : State) : (State.bumpN k v s).prf = s.prf := rfl
@[simp] theorem State.bumpN_ddr (k v : Nat) (s : State) : (State.bumpN k v s).ddr = s.ddr := rfl
@[simp] theorem State.bumpN_axes (k v : Nat) (s : State) : (State.bumpN k v s).axes = s.axes := rfl
@[simp] theorem State.bumpN_boot (k v : Nat) (s : State) : (State.bumpN k v s).boot = s.boot := rfl
@[simp] theorem State.bumpN_tymp (k v : Nat) (s : State) : (State.bumpN k v s).tymp = s.tymp := rfl
@[simp] theorem State.bumpN_pwr (k v : Nat) (s : State) : (State.bumpN k v s).pwr = s.pwr := rfl
@[simp] theorem State.bumpN_clk (k v : Nat) (s : State) : (State.bumpN k v s).clk = s.clk := rfl
@[simp] theorem State.bumpN_sec (k v : Nat) (s : State) : (State.bumpN k v s).sec = s.sec := rfl
@[simp] theorem State.bumpN_disp (k v : Nat) (s : State) : (State.bumpN k v s).disp = s.disp := rfl
@[simp] theorem State.bumpN_pins (k v : Nat) (s : State) : (State.bumpN k v s).pins = s.pins := rfl

/-! `State.setL` -/

@[simp] theorem State.setL_pending (k v : Nat) (s : State) : (State.setL k v s).pending = s.pending := rfl
@[simp] theorem State.setL_loc (k v : Nat) (s : State) : (State.setL k v s).loc = s.loc := rfl
@[simp] theorem State.setL_freeCtr (k v : Nat) (s : State) : (State.setL k v s).freeCtr = s.freeCtr := rfl
@[simp] theorem State.setL_od (k v : Nat) (s : State) : (State.setL k v s).od = s.od := rfl
@[simp] theorem State.setL_dom (k v : Nat) (s : State) : (State.setL k v s).dom = s.dom := rfl
@[simp] theorem State.setL_liveDom (k v : Nat) (s : State) : (State.setL k v s).liveDom = s.liveDom := rfl
@[simp] theorem State.setL_dev (k v : Nat) (s : State) : (State.setL k v s).dev = s.dev := rfl
@[simp] theorem State.setL_ledgers (k v : Nat) (s : State) : (State.setL k v s).ledgers = s.ledgers := rfl
@[simp] theorem State.setL_srv (k v : Nat) (s : State) : (State.setL k v s).srv = s.srv := rfl
@[simp] theorem State.setL_net (k v : Nat) (s : State) : (State.setL k v s).net = s.net := rfl
@[simp] theorem State.setL_pcie (k v : Nat) (s : State) : (State.setL k v s).pcie = s.pcie := rfl
@[simp] theorem State.setL_rings (k v : Nat) (s : State) : (State.setL k v s).rings = s.rings := rfl
@[simp] theorem State.setL_egress (k v : Nat) (s : State) : (State.setL k v s).egress = s.egress := rfl
@[simp] theorem State.setL_gal (k v : Nat) (s : State) : (State.setL k v s).gal = s.gal := rfl
@[simp] theorem State.setL_formes (k v : Nat) (s : State) : (State.setL k v s).formes = s.formes := rfl
@[simp] theorem State.setL_comp (k v : Nat) (s : State) : (State.setL k v s).comp = s.comp := rfl
@[simp] theorem State.setL_plat (k v : Nat) (s : State) : (State.setL k v s).plat = s.plat := rfl
@[simp] theorem State.setL_ports (k v : Nat) (s : State) : (State.setL k v s).ports = s.ports := rfl
@[simp] theorem State.setL_web (k v : Nat) (s : State) : (State.setL k v s).web = s.web := rfl
@[simp] theorem State.setL_time (k v : Nat) (s : State) : (State.setL k v s).time = s.time := rfl
@[simp] theorem State.setL_pace (k v : Nat) (s : State) : (State.setL k v s).pace = s.pace := rfl
@[simp] theorem State.setL_cams (k v : Nat) (s : State) : (State.setL k v s).cams = s.cams := rfl
@[simp] theorem State.setL_prf (k v : Nat) (s : State) : (State.setL k v s).prf = s.prf := rfl
@[simp] theorem State.setL_ddr (k v : Nat) (s : State) : (State.setL k v s).ddr = s.ddr := rfl
@[simp] theorem State.setL_axes (k v : Nat) (s : State) : (State.setL k v s).axes = s.axes := rfl
@[simp] theorem State.setL_boot (k v : Nat) (s : State) : (State.setL k v s).boot = s.boot := rfl
@[simp] theorem State.setL_tymp (k v : Nat) (s : State) : (State.setL k v s).tymp = s.tymp := rfl
@[simp] theorem State.setL_pwr (k v : Nat) (s : State) : (State.setL k v s).pwr = s.pwr := rfl
@[simp] theorem State.setL_clk (k v : Nat) (s : State) : (State.setL k v s).clk = s.clk := rfl
@[simp] theorem State.setL_sec (k v : Nat) (s : State) : (State.setL k v s).sec = s.sec := rfl
@[simp] theorem State.setL_disp (k v : Nat) (s : State) : (State.setL k v s).disp = s.disp := rfl
@[simp] theorem State.setL_pins (k v : Nat) (s : State) : (State.setL k v s).pins = s.pins := rfl
@[simp] theorem State.setL_o (k v : Nat) (s : State) (j : Nat) : (State.setL k v s).o j = s.o j := rfl
@[simp] theorem State.setL_ob (k v : Nat) (s : State) (j : Nat) : (State.setL k v s).ob j = s.ob j := rfl
@[simp] theorem State.setL_oi (k v : Nat) (s : State) (j : Nat) : (State.setL k v s).oi j = s.oi j := rfl

/-! `moveLedger` -/

@[simp] theorem moveLedger_pending (k a b : Fin 7) (n : Nat) (s : State) : (moveLedger k a b n s).pending = s.pending := rfl
@[simp] theorem moveLedger_loc (k a b : Fin 7) (n : Nat) (s : State) : (moveLedger k a b n s).loc = s.loc := rfl
@[simp] theorem moveLedger_freeCtr (k a b : Fin 7) (n : Nat) (s : State) : (moveLedger k a b n s).freeCtr = s.freeCtr := rfl
@[simp] theorem moveLedger_od (k a b : Fin 7) (n : Nat) (s : State) : (moveLedger k a b n s).od = s.od := rfl
@[simp] theorem moveLedger_dom (k a b : Fin 7) (n : Nat) (s : State) : (moveLedger k a b n s).dom = s.dom := rfl
@[simp] theorem moveLedger_live (k a b : Fin 7) (n : Nat) (s : State) : (moveLedger k a b n s).live = s.live := rfl
@[simp] theorem moveLedger_liveDom (k a b : Fin 7) (n : Nat) (s : State) : (moveLedger k a b n s).liveDom = s.liveDom := rfl
@[simp] theorem moveLedger_dev (k a b : Fin 7) (n : Nat) (s : State) : (moveLedger k a b n s).dev = s.dev := rfl
@[simp] theorem moveLedger_srv (k a b : Fin 7) (n : Nat) (s : State) : (moveLedger k a b n s).srv = s.srv := rfl
@[simp] theorem moveLedger_net (k a b : Fin 7) (n : Nat) (s : State) : (moveLedger k a b n s).net = s.net := rfl
@[simp] theorem moveLedger_pcie (k a b : Fin 7) (n : Nat) (s : State) : (moveLedger k a b n s).pcie = s.pcie := rfl
@[simp] theorem moveLedger_rings (k a b : Fin 7) (n : Nat) (s : State) : (moveLedger k a b n s).rings = s.rings := rfl
@[simp] theorem moveLedger_egress (k a b : Fin 7) (n : Nat) (s : State) : (moveLedger k a b n s).egress = s.egress := rfl
@[simp] theorem moveLedger_gal (k a b : Fin 7) (n : Nat) (s : State) : (moveLedger k a b n s).gal = s.gal := rfl
@[simp] theorem moveLedger_formes (k a b : Fin 7) (n : Nat) (s : State) : (moveLedger k a b n s).formes = s.formes := rfl
@[simp] theorem moveLedger_comp (k a b : Fin 7) (n : Nat) (s : State) : (moveLedger k a b n s).comp = s.comp := rfl
@[simp] theorem moveLedger_plat (k a b : Fin 7) (n : Nat) (s : State) : (moveLedger k a b n s).plat = s.plat := rfl
@[simp] theorem moveLedger_ports (k a b : Fin 7) (n : Nat) (s : State) : (moveLedger k a b n s).ports = s.ports := rfl
@[simp] theorem moveLedger_web (k a b : Fin 7) (n : Nat) (s : State) : (moveLedger k a b n s).web = s.web := rfl
@[simp] theorem moveLedger_time (k a b : Fin 7) (n : Nat) (s : State) : (moveLedger k a b n s).time = s.time := rfl
@[simp] theorem moveLedger_pace (k a b : Fin 7) (n : Nat) (s : State) : (moveLedger k a b n s).pace = s.pace := rfl
@[simp] theorem moveLedger_cams (k a b : Fin 7) (n : Nat) (s : State) : (moveLedger k a b n s).cams = s.cams := rfl
@[simp] theorem moveLedger_prf (k a b : Fin 7) (n : Nat) (s : State) : (moveLedger k a b n s).prf = s.prf := rfl
@[simp] theorem moveLedger_ddr (k a b : Fin 7) (n : Nat) (s : State) : (moveLedger k a b n s).ddr = s.ddr := rfl
@[simp] theorem moveLedger_axes (k a b : Fin 7) (n : Nat) (s : State) : (moveLedger k a b n s).axes = s.axes := rfl
@[simp] theorem moveLedger_boot (k a b : Fin 7) (n : Nat) (s : State) : (moveLedger k a b n s).boot = s.boot := rfl
@[simp] theorem moveLedger_tymp (k a b : Fin 7) (n : Nat) (s : State) : (moveLedger k a b n s).tymp = s.tymp := rfl
@[simp] theorem moveLedger_pwr (k a b : Fin 7) (n : Nat) (s : State) : (moveLedger k a b n s).pwr = s.pwr := rfl
@[simp] theorem moveLedger_clk (k a b : Fin 7) (n : Nat) (s : State) : (moveLedger k a b n s).clk = s.clk := rfl
@[simp] theorem moveLedger_sec (k a b : Fin 7) (n : Nat) (s : State) : (moveLedger k a b n s).sec = s.sec := rfl
@[simp] theorem moveLedger_disp (k a b : Fin 7) (n : Nat) (s : State) : (moveLedger k a b n s).disp = s.disp := rfl
@[simp] theorem moveLedger_pins (k a b : Fin 7) (n : Nat) (s : State) : (moveLedger k a b n s).pins = s.pins := rfl
@[simp] theorem moveLedger_o (k a b : Fin 7) (n : Nat) (s : State) (j : Nat) : (moveLedger k a b n s).o j = s.o j := rfl
@[simp] theorem moveLedger_ob (k a b : Fin 7) (n : Nat) (s : State) (j : Nat) : (moveLedger k a b n s).ob j = s.ob j := rfl
@[simp] theorem moveLedger_oi (k a b : Fin 7) (n : Nat) (s : State) (j : Nat) : (moveLedger k a b n s).oi j = s.oi j := rfl

/-! `modForme` -/

@[simp] theorem modForme_pending (f : Nat) (g : Forme → Forme) (s : State) : (modForme f g s).pending = s.pending := rfl
@[simp] theorem modForme_loc (f : Nat) (g : Forme → Forme) (s : State) : (modForme f g s).loc = s.loc := rfl
@[simp] theorem modForme_freeCtr (f : Nat) (g : Forme → Forme) (s : State) : (modForme f g s).freeCtr = s.freeCtr := rfl
@[simp] theorem modForme_od (f : Nat) (g : Forme → Forme) (s : State) : (modForme f g s).od = s.od := rfl
@[simp] theorem modForme_dom (f : Nat) (g : Forme → Forme) (s : State) : (modForme f g s).dom = s.dom := rfl
@[simp] theorem modForme_live (f : Nat) (g : Forme → Forme) (s : State) : (modForme f g s).live = s.live := rfl
@[simp] theorem modForme_liveDom (f : Nat) (g : Forme → Forme) (s : State) : (modForme f g s).liveDom = s.liveDom := rfl
@[simp] theorem modForme_dev (f : Nat) (g : Forme → Forme) (s : State) : (modForme f g s).dev = s.dev := rfl
@[simp] theorem modForme_ledgers (f : Nat) (g : Forme → Forme) (s : State) : (modForme f g s).ledgers = s.ledgers := rfl
@[simp] theorem modForme_srv (f : Nat) (g : Forme → Forme) (s : State) : (modForme f g s).srv = s.srv := rfl
@[simp] theorem modForme_net (f : Nat) (g : Forme → Forme) (s : State) : (modForme f g s).net = s.net := rfl
@[simp] theorem modForme_pcie (f : Nat) (g : Forme → Forme) (s : State) : (modForme f g s).pcie = s.pcie := rfl
@[simp] theorem modForme_rings (f : Nat) (g : Forme → Forme) (s : State) : (modForme f g s).rings = s.rings := rfl
@[simp] theorem modForme_egress (f : Nat) (g : Forme → Forme) (s : State) : (modForme f g s).egress = s.egress := rfl
@[simp] theorem modForme_gal (f : Nat) (g : Forme → Forme) (s : State) : (modForme f g s).gal = s.gal := rfl
@[simp] theorem modForme_comp (f : Nat) (g : Forme → Forme) (s : State) : (modForme f g s).comp = s.comp := rfl
@[simp] theorem modForme_plat (f : Nat) (g : Forme → Forme) (s : State) : (modForme f g s).plat = s.plat := rfl
@[simp] theorem modForme_ports (f : Nat) (g : Forme → Forme) (s : State) : (modForme f g s).ports = s.ports := rfl
@[simp] theorem modForme_web (f : Nat) (g : Forme → Forme) (s : State) : (modForme f g s).web = s.web := rfl
@[simp] theorem modForme_time (f : Nat) (g : Forme → Forme) (s : State) : (modForme f g s).time = s.time := rfl
@[simp] theorem modForme_pace (f : Nat) (g : Forme → Forme) (s : State) : (modForme f g s).pace = s.pace := rfl
@[simp] theorem modForme_cams (f : Nat) (g : Forme → Forme) (s : State) : (modForme f g s).cams = s.cams := rfl
@[simp] theorem modForme_prf (f : Nat) (g : Forme → Forme) (s : State) : (modForme f g s).prf = s.prf := rfl
@[simp] theorem modForme_ddr (f : Nat) (g : Forme → Forme) (s : State) : (modForme f g s).ddr = s.ddr := rfl
@[simp] theorem modForme_axes (f : Nat) (g : Forme → Forme) (s : State) : (modForme f g s).axes = s.axes := rfl
@[simp] theorem modForme_boot (f : Nat) (g : Forme → Forme) (s : State) : (modForme f g s).boot = s.boot := rfl
@[simp] theorem modForme_tymp (f : Nat) (g : Forme → Forme) (s : State) : (modForme f g s).tymp = s.tymp := rfl
@[simp] theorem modForme_pwr (f : Nat) (g : Forme → Forme) (s : State) : (modForme f g s).pwr = s.pwr := rfl
@[simp] theorem modForme_clk (f : Nat) (g : Forme → Forme) (s : State) : (modForme f g s).clk = s.clk := rfl
@[simp] theorem modForme_sec (f : Nat) (g : Forme → Forme) (s : State) : (modForme f g s).sec = s.sec := rfl
@[simp] theorem modForme_disp (f : Nat) (g : Forme → Forme) (s : State) : (modForme f g s).disp = s.disp := rfl
@[simp] theorem modForme_pins (f : Nat) (g : Forme → Forme) (s : State) : (modForme f g s).pins = s.pins := rfl
@[simp] theorem modForme_o (f : Nat) (g : Forme → Forme) (s : State) (j : Nat) : (modForme f g s).o j = s.o j := rfl
@[simp] theorem modForme_ob (f : Nat) (g : Forme → Forme) (s : State) (j : Nat) : (modForme f g s).ob j = s.ob j := rfl
@[simp] theorem modForme_oi (f : Nat) (g : Forme → Forme) (s : State) (j : Nat) : (modForme f g s).oi j = s.oi j := rfl

/-! `modRing` -/

@[simp] theorem modRing_pending (r : Nat) (g : Ring → Ring) (s : State) : (modRing r g s).pending = s.pending := rfl
@[simp] theorem modRing_loc (r : Nat) (g : Ring → Ring) (s : State) : (modRing r g s).loc = s.loc := rfl
@[simp] theorem modRing_freeCtr (r : Nat) (g : Ring → Ring) (s : State) : (modRing r g s).freeCtr = s.freeCtr := rfl
@[simp] theorem modRing_od (r : Nat) (g : Ring → Ring) (s : State) : (modRing r g s).od = s.od := rfl
@[simp] theorem modRing_dom (r : Nat) (g : Ring → Ring) (s : State) : (modRing r g s).dom = s.dom := rfl
@[simp] theorem modRing_live (r : Nat) (g : Ring → Ring) (s : State) : (modRing r g s).live = s.live := rfl
@[simp] theorem modRing_liveDom (r : Nat) (g : Ring → Ring) (s : State) : (modRing r g s).liveDom = s.liveDom := rfl
@[simp] theorem modRing_dev (r : Nat) (g : Ring → Ring) (s : State) : (modRing r g s).dev = s.dev := rfl
@[simp] theorem modRing_ledgers (r : Nat) (g : Ring → Ring) (s : State) : (modRing r g s).ledgers = s.ledgers := rfl
@[simp] theorem modRing_srv (r : Nat) (g : Ring → Ring) (s : State) : (modRing r g s).srv = s.srv := rfl
@[simp] theorem modRing_net (r : Nat) (g : Ring → Ring) (s : State) : (modRing r g s).net = s.net := rfl
@[simp] theorem modRing_pcie (r : Nat) (g : Ring → Ring) (s : State) : (modRing r g s).pcie = s.pcie := rfl
@[simp] theorem modRing_egress (r : Nat) (g : Ring → Ring) (s : State) : (modRing r g s).egress = s.egress := rfl
@[simp] theorem modRing_gal (r : Nat) (g : Ring → Ring) (s : State) : (modRing r g s).gal = s.gal := rfl
@[simp] theorem modRing_formes (r : Nat) (g : Ring → Ring) (s : State) : (modRing r g s).formes = s.formes := rfl
@[simp] theorem modRing_comp (r : Nat) (g : Ring → Ring) (s : State) : (modRing r g s).comp = s.comp := rfl
@[simp] theorem modRing_plat (r : Nat) (g : Ring → Ring) (s : State) : (modRing r g s).plat = s.plat := rfl
@[simp] theorem modRing_ports (r : Nat) (g : Ring → Ring) (s : State) : (modRing r g s).ports = s.ports := rfl
@[simp] theorem modRing_web (r : Nat) (g : Ring → Ring) (s : State) : (modRing r g s).web = s.web := rfl
@[simp] theorem modRing_time (r : Nat) (g : Ring → Ring) (s : State) : (modRing r g s).time = s.time := rfl
@[simp] theorem modRing_pace (r : Nat) (g : Ring → Ring) (s : State) : (modRing r g s).pace = s.pace := rfl
@[simp] theorem modRing_cams (r : Nat) (g : Ring → Ring) (s : State) : (modRing r g s).cams = s.cams := rfl
@[simp] theorem modRing_prf (r : Nat) (g : Ring → Ring) (s : State) : (modRing r g s).prf = s.prf := rfl
@[simp] theorem modRing_ddr (r : Nat) (g : Ring → Ring) (s : State) : (modRing r g s).ddr = s.ddr := rfl
@[simp] theorem modRing_axes (r : Nat) (g : Ring → Ring) (s : State) : (modRing r g s).axes = s.axes := rfl
@[simp] theorem modRing_boot (r : Nat) (g : Ring → Ring) (s : State) : (modRing r g s).boot = s.boot := rfl
@[simp] theorem modRing_tymp (r : Nat) (g : Ring → Ring) (s : State) : (modRing r g s).tymp = s.tymp := rfl
@[simp] theorem modRing_pwr (r : Nat) (g : Ring → Ring) (s : State) : (modRing r g s).pwr = s.pwr := rfl
@[simp] theorem modRing_clk (r : Nat) (g : Ring → Ring) (s : State) : (modRing r g s).clk = s.clk := rfl
@[simp] theorem modRing_sec (r : Nat) (g : Ring → Ring) (s : State) : (modRing r g s).sec = s.sec := rfl
@[simp] theorem modRing_disp (r : Nat) (g : Ring → Ring) (s : State) : (modRing r g s).disp = s.disp := rfl
@[simp] theorem modRing_pins (r : Nat) (g : Ring → Ring) (s : State) : (modRing r g s).pins = s.pins := rfl
@[simp] theorem modRing_o (r : Nat) (g : Ring → Ring) (s : State) (j : Nat) : (modRing r g s).o j = s.o j := rfl
@[simp] theorem modRing_ob (r : Nat) (g : Ring → Ring) (s : State) (j : Nat) : (modRing r g s).ob j = s.ob j := rfl
@[simp] theorem modRing_oi (r : Nat) (g : Ring → Ring) (s : State) (j : Nat) : (modRing r g s).oi j = s.oi j := rfl

/-! `modXfer` -/

@[simp] theorem modXfer_pending (r : Nat) (g : Xfer → Xfer) (s : State) : (modXfer r g s).pending = s.pending := rfl
@[simp] theorem modXfer_loc (r : Nat) (g : Xfer → Xfer) (s : State) : (modXfer r g s).loc = s.loc := rfl
@[simp] theorem modXfer_freeCtr (r : Nat) (g : Xfer → Xfer) (s : State) : (modXfer r g s).freeCtr = s.freeCtr := rfl
@[simp] theorem modXfer_od (r : Nat) (g : Xfer → Xfer) (s : State) : (modXfer r g s).od = s.od := rfl
@[simp] theorem modXfer_dom (r : Nat) (g : Xfer → Xfer) (s : State) : (modXfer r g s).dom = s.dom := rfl
@[simp] theorem modXfer_live (r : Nat) (g : Xfer → Xfer) (s : State) : (modXfer r g s).live = s.live := rfl
@[simp] theorem modXfer_liveDom (r : Nat) (g : Xfer → Xfer) (s : State) : (modXfer r g s).liveDom = s.liveDom := rfl
@[simp] theorem modXfer_dev (r : Nat) (g : Xfer → Xfer) (s : State) : (modXfer r g s).dev = s.dev := rfl
@[simp] theorem modXfer_ledgers (r : Nat) (g : Xfer → Xfer) (s : State) : (modXfer r g s).ledgers = s.ledgers := rfl
@[simp] theorem modXfer_srv (r : Nat) (g : Xfer → Xfer) (s : State) : (modXfer r g s).srv = s.srv := rfl
@[simp] theorem modXfer_net (r : Nat) (g : Xfer → Xfer) (s : State) : (modXfer r g s).net = s.net := rfl
@[simp] theorem modXfer_pcie (r : Nat) (g : Xfer → Xfer) (s : State) : (modXfer r g s).pcie = s.pcie := rfl
@[simp] theorem modXfer_egress (r : Nat) (g : Xfer → Xfer) (s : State) : (modXfer r g s).egress = s.egress := rfl
@[simp] theorem modXfer_gal (r : Nat) (g : Xfer → Xfer) (s : State) : (modXfer r g s).gal = s.gal := rfl
@[simp] theorem modXfer_formes (r : Nat) (g : Xfer → Xfer) (s : State) : (modXfer r g s).formes = s.formes := rfl
@[simp] theorem modXfer_comp (r : Nat) (g : Xfer → Xfer) (s : State) : (modXfer r g s).comp = s.comp := rfl
@[simp] theorem modXfer_plat (r : Nat) (g : Xfer → Xfer) (s : State) : (modXfer r g s).plat = s.plat := rfl
@[simp] theorem modXfer_ports (r : Nat) (g : Xfer → Xfer) (s : State) : (modXfer r g s).ports = s.ports := rfl
@[simp] theorem modXfer_web (r : Nat) (g : Xfer → Xfer) (s : State) : (modXfer r g s).web = s.web := rfl
@[simp] theorem modXfer_time (r : Nat) (g : Xfer → Xfer) (s : State) : (modXfer r g s).time = s.time := rfl
@[simp] theorem modXfer_pace (r : Nat) (g : Xfer → Xfer) (s : State) : (modXfer r g s).pace = s.pace := rfl
@[simp] theorem modXfer_cams (r : Nat) (g : Xfer → Xfer) (s : State) : (modXfer r g s).cams = s.cams := rfl
@[simp] theorem modXfer_prf (r : Nat) (g : Xfer → Xfer) (s : State) : (modXfer r g s).prf = s.prf := rfl
@[simp] theorem modXfer_ddr (r : Nat) (g : Xfer → Xfer) (s : State) : (modXfer r g s).ddr = s.ddr := rfl
@[simp] theorem modXfer_axes (r : Nat) (g : Xfer → Xfer) (s : State) : (modXfer r g s).axes = s.axes := rfl
@[simp] theorem modXfer_boot (r : Nat) (g : Xfer → Xfer) (s : State) : (modXfer r g s).boot = s.boot := rfl
@[simp] theorem modXfer_tymp (r : Nat) (g : Xfer → Xfer) (s : State) : (modXfer r g s).tymp = s.tymp := rfl
@[simp] theorem modXfer_pwr (r : Nat) (g : Xfer → Xfer) (s : State) : (modXfer r g s).pwr = s.pwr := rfl
@[simp] theorem modXfer_clk (r : Nat) (g : Xfer → Xfer) (s : State) : (modXfer r g s).clk = s.clk := rfl
@[simp] theorem modXfer_sec (r : Nat) (g : Xfer → Xfer) (s : State) : (modXfer r g s).sec = s.sec := rfl
@[simp] theorem modXfer_disp (r : Nat) (g : Xfer → Xfer) (s : State) : (modXfer r g s).disp = s.disp := rfl
@[simp] theorem modXfer_pins (r : Nat) (g : Xfer → Xfer) (s : State) : (modXfer r g s).pins = s.pins := rfl
@[simp] theorem modXfer_o (r : Nat) (g : Xfer → Xfer) (s : State) (j : Nat) : (modXfer r g s).o j = s.o j := rfl
@[simp] theorem modXfer_ob (r : Nat) (g : Xfer → Xfer) (s : State) (j : Nat) : (modXfer r g s).ob j = s.ob j := rfl
@[simp] theorem modXfer_oi (r : Nat) (g : Xfer → Xfer) (s : State) (j : Nat) : (modXfer r g s).oi j = s.oi j := rfl

/-! `modStream` -/

@[simp] theorem modStream_pending (f h : Nat) (g : Stream → Stream) (s : State) : (modStream f h g s).pending = s.pending := rfl
@[simp] theorem modStream_loc (f h : Nat) (g : Stream → Stream) (s : State) : (modStream f h g s).loc = s.loc := rfl
@[simp] theorem modStream_freeCtr (f h : Nat) (g : Stream → Stream) (s : State) : (modStream f h g s).freeCtr = s.freeCtr := rfl
@[simp] theorem modStream_od (f h : Nat) (g : Stream → Stream) (s : State) : (modStream f h g s).od = s.od := rfl
@[simp] theorem modStream_dom (f h : Nat) (g : Stream → Stream) (s : State) : (modStream f h g s).dom = s.dom := rfl
@[simp] theorem modStream_live (f h : Nat) (g : Stream → Stream) (s : State) : (modStream f h g s).live = s.live := rfl
@[simp] theorem modStream_liveDom (f h : Nat) (g : Stream → Stream) (s : State) : (modStream f h g s).liveDom = s.liveDom := rfl
@[simp] theorem modStream_dev (f h : Nat) (g : Stream → Stream) (s : State) : (modStream f h g s).dev = s.dev := rfl
@[simp] theorem modStream_ledgers (f h : Nat) (g : Stream → Stream) (s : State) : (modStream f h g s).ledgers = s.ledgers := rfl
@[simp] theorem modStream_srv (f h : Nat) (g : Stream → Stream) (s : State) : (modStream f h g s).srv = s.srv := rfl
@[simp] theorem modStream_net (f h : Nat) (g : Stream → Stream) (s : State) : (modStream f h g s).net = s.net := rfl
@[simp] theorem modStream_pcie (f h : Nat) (g : Stream → Stream) (s : State) : (modStream f h g s).pcie = s.pcie := rfl
@[simp] theorem modStream_rings (f h : Nat) (g : Stream → Stream) (s : State) : (modStream f h g s).rings = s.rings := rfl
@[simp] theorem modStream_egress (f h : Nat) (g : Stream → Stream) (s : State) : (modStream f h g s).egress = s.egress := rfl
@[simp] theorem modStream_formes (f h : Nat) (g : Stream → Stream) (s : State) : (modStream f h g s).formes = s.formes := rfl
@[simp] theorem modStream_comp (f h : Nat) (g : Stream → Stream) (s : State) : (modStream f h g s).comp = s.comp := rfl
@[simp] theorem modStream_plat (f h : Nat) (g : Stream → Stream) (s : State) : (modStream f h g s).plat = s.plat := rfl
@[simp] theorem modStream_ports (f h : Nat) (g : Stream → Stream) (s : State) : (modStream f h g s).ports = s.ports := rfl
@[simp] theorem modStream_web (f h : Nat) (g : Stream → Stream) (s : State) : (modStream f h g s).web = s.web := rfl
@[simp] theorem modStream_time (f h : Nat) (g : Stream → Stream) (s : State) : (modStream f h g s).time = s.time := rfl
@[simp] theorem modStream_pace (f h : Nat) (g : Stream → Stream) (s : State) : (modStream f h g s).pace = s.pace := rfl
@[simp] theorem modStream_cams (f h : Nat) (g : Stream → Stream) (s : State) : (modStream f h g s).cams = s.cams := rfl
@[simp] theorem modStream_prf (f h : Nat) (g : Stream → Stream) (s : State) : (modStream f h g s).prf = s.prf := rfl
@[simp] theorem modStream_ddr (f h : Nat) (g : Stream → Stream) (s : State) : (modStream f h g s).ddr = s.ddr := rfl
@[simp] theorem modStream_axes (f h : Nat) (g : Stream → Stream) (s : State) : (modStream f h g s).axes = s.axes := rfl
@[simp] theorem modStream_boot (f h : Nat) (g : Stream → Stream) (s : State) : (modStream f h g s).boot = s.boot := rfl
@[simp] theorem modStream_tymp (f h : Nat) (g : Stream → Stream) (s : State) : (modStream f h g s).tymp = s.tymp := rfl
@[simp] theorem modStream_pwr (f h : Nat) (g : Stream → Stream) (s : State) : (modStream f h g s).pwr = s.pwr := rfl
@[simp] theorem modStream_clk (f h : Nat) (g : Stream → Stream) (s : State) : (modStream f h g s).clk = s.clk := rfl
@[simp] theorem modStream_sec (f h : Nat) (g : Stream → Stream) (s : State) : (modStream f h g s).sec = s.sec := rfl
@[simp] theorem modStream_disp (f h : Nat) (g : Stream → Stream) (s : State) : (modStream f h g s).disp = s.disp := rfl
@[simp] theorem modStream_pins (f h : Nat) (g : Stream → Stream) (s : State) : (modStream f h g s).pins = s.pins := rfl
@[simp] theorem modStream_o (f h : Nat) (g : Stream → Stream) (s : State) (j : Nat) : (modStream f h g s).o j = s.o j := rfl
@[simp] theorem modStream_ob (f h : Nat) (g : Stream → Stream) (s : State) (j : Nat) : (modStream f h g s).ob j = s.ob j := rfl
@[simp] theorem modStream_oi (f h : Nat) (g : Stream → Stream) (s : State) (j : Nat) : (modStream f h g s).oi j = s.oi j := rfl

/-! `modLane` -/

@[simp] theorem modLane_pending (h : Nat) (g : Lane → Lane) (s : State) : (modLane h g s).pending = s.pending := rfl
@[simp] theorem modLane_loc (h : Nat) (g : Lane → Lane) (s : State) : (modLane h g s).loc = s.loc := rfl
@[simp] theorem modLane_freeCtr (h : Nat) (g : Lane → Lane) (s : State) : (modLane h g s).freeCtr = s.freeCtr := rfl
@[simp] theorem modLane_od (h : Nat) (g : Lane → Lane) (s : State) : (modLane h g s).od = s.od := rfl
@[simp] theorem modLane_dom (h : Nat) (g : Lane → Lane) (s : State) : (modLane h g s).dom = s.dom := rfl
@[simp] theorem modLane_live (h : Nat) (g : Lane → Lane) (s : State) : (modLane h g s).live = s.live := rfl
@[simp] theorem modLane_liveDom (h : Nat) (g : Lane → Lane) (s : State) : (modLane h g s).liveDom = s.liveDom := rfl
@[simp] theorem modLane_dev (h : Nat) (g : Lane → Lane) (s : State) : (modLane h g s).dev = s.dev := rfl
@[simp] theorem modLane_ledgers (h : Nat) (g : Lane → Lane) (s : State) : (modLane h g s).ledgers = s.ledgers := rfl
@[simp] theorem modLane_srv (h : Nat) (g : Lane → Lane) (s : State) : (modLane h g s).srv = s.srv := rfl
@[simp] theorem modLane_net (h : Nat) (g : Lane → Lane) (s : State) : (modLane h g s).net = s.net := rfl
@[simp] theorem modLane_pcie (h : Nat) (g : Lane → Lane) (s : State) : (modLane h g s).pcie = s.pcie := rfl
@[simp] theorem modLane_rings (h : Nat) (g : Lane → Lane) (s : State) : (modLane h g s).rings = s.rings := rfl
@[simp] theorem modLane_egress (h : Nat) (g : Lane → Lane) (s : State) : (modLane h g s).egress = s.egress := rfl
@[simp] theorem modLane_gal (h : Nat) (g : Lane → Lane) (s : State) : (modLane h g s).gal = s.gal := rfl
@[simp] theorem modLane_formes (h : Nat) (g : Lane → Lane) (s : State) : (modLane h g s).formes = s.formes := rfl
@[simp] theorem modLane_plat (h : Nat) (g : Lane → Lane) (s : State) : (modLane h g s).plat = s.plat := rfl
@[simp] theorem modLane_ports (h : Nat) (g : Lane → Lane) (s : State) : (modLane h g s).ports = s.ports := rfl
@[simp] theorem modLane_web (h : Nat) (g : Lane → Lane) (s : State) : (modLane h g s).web = s.web := rfl
@[simp] theorem modLane_time (h : Nat) (g : Lane → Lane) (s : State) : (modLane h g s).time = s.time := rfl
@[simp] theorem modLane_pace (h : Nat) (g : Lane → Lane) (s : State) : (modLane h g s).pace = s.pace := rfl
@[simp] theorem modLane_cams (h : Nat) (g : Lane → Lane) (s : State) : (modLane h g s).cams = s.cams := rfl
@[simp] theorem modLane_prf (h : Nat) (g : Lane → Lane) (s : State) : (modLane h g s).prf = s.prf := rfl
@[simp] theorem modLane_ddr (h : Nat) (g : Lane → Lane) (s : State) : (modLane h g s).ddr = s.ddr := rfl
@[simp] theorem modLane_axes (h : Nat) (g : Lane → Lane) (s : State) : (modLane h g s).axes = s.axes := rfl
@[simp] theorem modLane_boot (h : Nat) (g : Lane → Lane) (s : State) : (modLane h g s).boot = s.boot := rfl
@[simp] theorem modLane_tymp (h : Nat) (g : Lane → Lane) (s : State) : (modLane h g s).tymp = s.tymp := rfl
@[simp] theorem modLane_pwr (h : Nat) (g : Lane → Lane) (s : State) : (modLane h g s).pwr = s.pwr := rfl
@[simp] theorem modLane_clk (h : Nat) (g : Lane → Lane) (s : State) : (modLane h g s).clk = s.clk := rfl
@[simp] theorem modLane_sec (h : Nat) (g : Lane → Lane) (s : State) : (modLane h g s).sec = s.sec := rfl
@[simp] theorem modLane_disp (h : Nat) (g : Lane → Lane) (s : State) : (modLane h g s).disp = s.disp := rfl
@[simp] theorem modLane_pins (h : Nat) (g : Lane → Lane) (s : State) : (modLane h g s).pins = s.pins := rfl
@[simp] theorem modLane_o (h : Nat) (g : Lane → Lane) (s : State) (j : Nat) : (modLane h g s).o j = s.o j := rfl
@[simp] theorem modLane_ob (h : Nat) (g : Lane → Lane) (s : State) (j : Nat) : (modLane h g s).ob j = s.ob j := rfl
@[simp] theorem modLane_oi (h : Nat) (g : Lane → Lane) (s : State) (j : Nat) : (modLane h g s).oi j = s.oi j := rfl

/-! `modSeqr` -/

@[simp] theorem modSeqr_pending (h : Nat) (g : Seqr → Seqr) (s : State) : (modSeqr h g s).pending = s.pending := rfl
@[simp] theorem modSeqr_loc (h : Nat) (g : Seqr → Seqr) (s : State) : (modSeqr h g s).loc = s.loc := rfl
@[simp] theorem modSeqr_freeCtr (h : Nat) (g : Seqr → Seqr) (s : State) : (modSeqr h g s).freeCtr = s.freeCtr := rfl
@[simp] theorem modSeqr_od (h : Nat) (g : Seqr → Seqr) (s : State) : (modSeqr h g s).od = s.od := rfl
@[simp] theorem modSeqr_dom (h : Nat) (g : Seqr → Seqr) (s : State) : (modSeqr h g s).dom = s.dom := rfl
@[simp] theorem modSeqr_live (h : Nat) (g : Seqr → Seqr) (s : State) : (modSeqr h g s).live = s.live := rfl
@[simp] theorem modSeqr_liveDom (h : Nat) (g : Seqr → Seqr) (s : State) : (modSeqr h g s).liveDom = s.liveDom := rfl
@[simp] theorem modSeqr_dev (h : Nat) (g : Seqr → Seqr) (s : State) : (modSeqr h g s).dev = s.dev := rfl
@[simp] theorem modSeqr_ledgers (h : Nat) (g : Seqr → Seqr) (s : State) : (modSeqr h g s).ledgers = s.ledgers := rfl
@[simp] theorem modSeqr_srv (h : Nat) (g : Seqr → Seqr) (s : State) : (modSeqr h g s).srv = s.srv := rfl
@[simp] theorem modSeqr_net (h : Nat) (g : Seqr → Seqr) (s : State) : (modSeqr h g s).net = s.net := rfl
@[simp] theorem modSeqr_pcie (h : Nat) (g : Seqr → Seqr) (s : State) : (modSeqr h g s).pcie = s.pcie := rfl
@[simp] theorem modSeqr_rings (h : Nat) (g : Seqr → Seqr) (s : State) : (modSeqr h g s).rings = s.rings := rfl
@[simp] theorem modSeqr_egress (h : Nat) (g : Seqr → Seqr) (s : State) : (modSeqr h g s).egress = s.egress := rfl
@[simp] theorem modSeqr_gal (h : Nat) (g : Seqr → Seqr) (s : State) : (modSeqr h g s).gal = s.gal := rfl
@[simp] theorem modSeqr_formes (h : Nat) (g : Seqr → Seqr) (s : State) : (modSeqr h g s).formes = s.formes := rfl
@[simp] theorem modSeqr_comp (h : Nat) (g : Seqr → Seqr) (s : State) : (modSeqr h g s).comp = s.comp := rfl
@[simp] theorem modSeqr_ports (h : Nat) (g : Seqr → Seqr) (s : State) : (modSeqr h g s).ports = s.ports := rfl
@[simp] theorem modSeqr_web (h : Nat) (g : Seqr → Seqr) (s : State) : (modSeqr h g s).web = s.web := rfl
@[simp] theorem modSeqr_time (h : Nat) (g : Seqr → Seqr) (s : State) : (modSeqr h g s).time = s.time := rfl
@[simp] theorem modSeqr_pace (h : Nat) (g : Seqr → Seqr) (s : State) : (modSeqr h g s).pace = s.pace := rfl
@[simp] theorem modSeqr_cams (h : Nat) (g : Seqr → Seqr) (s : State) : (modSeqr h g s).cams = s.cams := rfl
@[simp] theorem modSeqr_prf (h : Nat) (g : Seqr → Seqr) (s : State) : (modSeqr h g s).prf = s.prf := rfl
@[simp] theorem modSeqr_ddr (h : Nat) (g : Seqr → Seqr) (s : State) : (modSeqr h g s).ddr = s.ddr := rfl
@[simp] theorem modSeqr_axes (h : Nat) (g : Seqr → Seqr) (s : State) : (modSeqr h g s).axes = s.axes := rfl
@[simp] theorem modSeqr_boot (h : Nat) (g : Seqr → Seqr) (s : State) : (modSeqr h g s).boot = s.boot := rfl
@[simp] theorem modSeqr_tymp (h : Nat) (g : Seqr → Seqr) (s : State) : (modSeqr h g s).tymp = s.tymp := rfl
@[simp] theorem modSeqr_pwr (h : Nat) (g : Seqr → Seqr) (s : State) : (modSeqr h g s).pwr = s.pwr := rfl
@[simp] theorem modSeqr_clk (h : Nat) (g : Seqr → Seqr) (s : State) : (modSeqr h g s).clk = s.clk := rfl
@[simp] theorem modSeqr_sec (h : Nat) (g : Seqr → Seqr) (s : State) : (modSeqr h g s).sec = s.sec := rfl
@[simp] theorem modSeqr_disp (h : Nat) (g : Seqr → Seqr) (s : State) : (modSeqr h g s).disp = s.disp := rfl
@[simp] theorem modSeqr_pins (h : Nat) (g : Seqr → Seqr) (s : State) : (modSeqr h g s).pins = s.pins := rfl
@[simp] theorem modSeqr_o (h : Nat) (g : Seqr → Seqr) (s : State) (j : Nat) : (modSeqr h g s).o j = s.o j := rfl
@[simp] theorem modSeqr_ob (h : Nat) (g : Seqr → Seqr) (s : State) (j : Nat) : (modSeqr h g s).ob j = s.ob j := rfl
@[simp] theorem modSeqr_oi (h : Nat) (g : Seqr → Seqr) (s : State) (j : Nat) : (modSeqr h g s).oi j = s.oi j := rfl

/-! `modPort` -/

@[simp] theorem modPort_pending (h : Nat) (g : Port → Port) (s : State) : (modPort h g s).pending = s.pending := rfl
@[simp] theorem modPort_loc (h : Nat) (g : Port → Port) (s : State) : (modPort h g s).loc = s.loc := rfl
@[simp] theorem modPort_freeCtr (h : Nat) (g : Port → Port) (s : State) : (modPort h g s).freeCtr = s.freeCtr := rfl
@[simp] theorem modPort_od (h : Nat) (g : Port → Port) (s : State) : (modPort h g s).od = s.od := rfl
@[simp] theorem modPort_dom (h : Nat) (g : Port → Port) (s : State) : (modPort h g s).dom = s.dom := rfl
@[simp] theorem modPort_live (h : Nat) (g : Port → Port) (s : State) : (modPort h g s).live = s.live := rfl
@[simp] theorem modPort_liveDom (h : Nat) (g : Port → Port) (s : State) : (modPort h g s).liveDom = s.liveDom := rfl
@[simp] theorem modPort_dev (h : Nat) (g : Port → Port) (s : State) : (modPort h g s).dev = s.dev := rfl
@[simp] theorem modPort_ledgers (h : Nat) (g : Port → Port) (s : State) : (modPort h g s).ledgers = s.ledgers := rfl
@[simp] theorem modPort_srv (h : Nat) (g : Port → Port) (s : State) : (modPort h g s).srv = s.srv := rfl
@[simp] theorem modPort_net (h : Nat) (g : Port → Port) (s : State) : (modPort h g s).net = s.net := rfl
@[simp] theorem modPort_pcie (h : Nat) (g : Port → Port) (s : State) : (modPort h g s).pcie = s.pcie := rfl
@[simp] theorem modPort_rings (h : Nat) (g : Port → Port) (s : State) : (modPort h g s).rings = s.rings := rfl
@[simp] theorem modPort_egress (h : Nat) (g : Port → Port) (s : State) : (modPort h g s).egress = s.egress := rfl
@[simp] theorem modPort_gal (h : Nat) (g : Port → Port) (s : State) : (modPort h g s).gal = s.gal := rfl
@[simp] theorem modPort_formes (h : Nat) (g : Port → Port) (s : State) : (modPort h g s).formes = s.formes := rfl
@[simp] theorem modPort_comp (h : Nat) (g : Port → Port) (s : State) : (modPort h g s).comp = s.comp := rfl
@[simp] theorem modPort_plat (h : Nat) (g : Port → Port) (s : State) : (modPort h g s).plat = s.plat := rfl
@[simp] theorem modPort_web (h : Nat) (g : Port → Port) (s : State) : (modPort h g s).web = s.web := rfl
@[simp] theorem modPort_time (h : Nat) (g : Port → Port) (s : State) : (modPort h g s).time = s.time := rfl
@[simp] theorem modPort_pace (h : Nat) (g : Port → Port) (s : State) : (modPort h g s).pace = s.pace := rfl
@[simp] theorem modPort_cams (h : Nat) (g : Port → Port) (s : State) : (modPort h g s).cams = s.cams := rfl
@[simp] theorem modPort_prf (h : Nat) (g : Port → Port) (s : State) : (modPort h g s).prf = s.prf := rfl
@[simp] theorem modPort_ddr (h : Nat) (g : Port → Port) (s : State) : (modPort h g s).ddr = s.ddr := rfl
@[simp] theorem modPort_axes (h : Nat) (g : Port → Port) (s : State) : (modPort h g s).axes = s.axes := rfl
@[simp] theorem modPort_boot (h : Nat) (g : Port → Port) (s : State) : (modPort h g s).boot = s.boot := rfl
@[simp] theorem modPort_tymp (h : Nat) (g : Port → Port) (s : State) : (modPort h g s).tymp = s.tymp := rfl
@[simp] theorem modPort_pwr (h : Nat) (g : Port → Port) (s : State) : (modPort h g s).pwr = s.pwr := rfl
@[simp] theorem modPort_clk (h : Nat) (g : Port → Port) (s : State) : (modPort h g s).clk = s.clk := rfl
@[simp] theorem modPort_sec (h : Nat) (g : Port → Port) (s : State) : (modPort h g s).sec = s.sec := rfl
@[simp] theorem modPort_disp (h : Nat) (g : Port → Port) (s : State) : (modPort h g s).disp = s.disp := rfl
@[simp] theorem modPort_pins (h : Nat) (g : Port → Port) (s : State) : (modPort h g s).pins = s.pins := rfl
@[simp] theorem modPort_o (h : Nat) (g : Port → Port) (s : State) (j : Nat) : (modPort h g s).o j = s.o j := rfl
@[simp] theorem modPort_ob (h : Nat) (g : Port → Port) (s : State) (j : Nat) : (modPort h g s).ob j = s.ob j := rfl
@[simp] theorem modPort_oi (h : Nat) (g : Port → Port) (s : State) (j : Nat) : (modPort h g s).oi j = s.oi j := rfl

/-! `modTymp` -/

@[simp] theorem modTymp_pending (f : Tymp → Tymp) (s : State) : (modTymp f s).pending = s.pending := rfl
@[simp] theorem modTymp_loc (f : Tymp → Tymp) (s : State) : (modTymp f s).loc = s.loc := rfl
@[simp] theorem modTymp_freeCtr (f : Tymp → Tymp) (s : State) : (modTymp f s).freeCtr = s.freeCtr := rfl
@[simp] theorem modTymp_od (f : Tymp → Tymp) (s : State) : (modTymp f s).od = s.od := rfl
@[simp] theorem modTymp_dom (f : Tymp → Tymp) (s : State) : (modTymp f s).dom = s.dom := rfl
@[simp] theorem modTymp_live (f : Tymp → Tymp) (s : State) : (modTymp f s).live = s.live := rfl
@[simp] theorem modTymp_liveDom (f : Tymp → Tymp) (s : State) : (modTymp f s).liveDom = s.liveDom := rfl
@[simp] theorem modTymp_dev (f : Tymp → Tymp) (s : State) : (modTymp f s).dev = s.dev := rfl
@[simp] theorem modTymp_ledgers (f : Tymp → Tymp) (s : State) : (modTymp f s).ledgers = s.ledgers := rfl
@[simp] theorem modTymp_srv (f : Tymp → Tymp) (s : State) : (modTymp f s).srv = s.srv := rfl
@[simp] theorem modTymp_net (f : Tymp → Tymp) (s : State) : (modTymp f s).net = s.net := rfl
@[simp] theorem modTymp_pcie (f : Tymp → Tymp) (s : State) : (modTymp f s).pcie = s.pcie := rfl
@[simp] theorem modTymp_rings (f : Tymp → Tymp) (s : State) : (modTymp f s).rings = s.rings := rfl
@[simp] theorem modTymp_egress (f : Tymp → Tymp) (s : State) : (modTymp f s).egress = s.egress := rfl
@[simp] theorem modTymp_gal (f : Tymp → Tymp) (s : State) : (modTymp f s).gal = s.gal := rfl
@[simp] theorem modTymp_formes (f : Tymp → Tymp) (s : State) : (modTymp f s).formes = s.formes := rfl
@[simp] theorem modTymp_comp (f : Tymp → Tymp) (s : State) : (modTymp f s).comp = s.comp := rfl
@[simp] theorem modTymp_plat (f : Tymp → Tymp) (s : State) : (modTymp f s).plat = s.plat := rfl
@[simp] theorem modTymp_ports (f : Tymp → Tymp) (s : State) : (modTymp f s).ports = s.ports := rfl
@[simp] theorem modTymp_web (f : Tymp → Tymp) (s : State) : (modTymp f s).web = s.web := rfl
@[simp] theorem modTymp_time (f : Tymp → Tymp) (s : State) : (modTymp f s).time = s.time := rfl
@[simp] theorem modTymp_pace (f : Tymp → Tymp) (s : State) : (modTymp f s).pace = s.pace := rfl
@[simp] theorem modTymp_cams (f : Tymp → Tymp) (s : State) : (modTymp f s).cams = s.cams := rfl
@[simp] theorem modTymp_prf (f : Tymp → Tymp) (s : State) : (modTymp f s).prf = s.prf := rfl
@[simp] theorem modTymp_ddr (f : Tymp → Tymp) (s : State) : (modTymp f s).ddr = s.ddr := rfl
@[simp] theorem modTymp_axes (f : Tymp → Tymp) (s : State) : (modTymp f s).axes = s.axes := rfl
@[simp] theorem modTymp_boot (f : Tymp → Tymp) (s : State) : (modTymp f s).boot = s.boot := rfl
@[simp] theorem modTymp_pwr (f : Tymp → Tymp) (s : State) : (modTymp f s).pwr = s.pwr := rfl
@[simp] theorem modTymp_clk (f : Tymp → Tymp) (s : State) : (modTymp f s).clk = s.clk := rfl
@[simp] theorem modTymp_sec (f : Tymp → Tymp) (s : State) : (modTymp f s).sec = s.sec := rfl
@[simp] theorem modTymp_disp (f : Tymp → Tymp) (s : State) : (modTymp f s).disp = s.disp := rfl
@[simp] theorem modTymp_pins (f : Tymp → Tymp) (s : State) : (modTymp f s).pins = s.pins := rfl
@[simp] theorem modTymp_o (f : Tymp → Tymp) (s : State) (j : Nat) : (modTymp f s).o j = s.o j := rfl
@[simp] theorem modTymp_ob (f : Tymp → Tymp) (s : State) (j : Nat) : (modTymp f s).ob j = s.ob j := rfl
@[simp] theorem modTymp_oi (f : Tymp → Tymp) (s : State) (j : Nat) : (modTymp f s).oi j = s.oi j := rfl

/-! `modAxis` -/

@[simp] theorem modAxis_pending (a : Nat) (f : Axis → Axis) (s : State) : (modAxis a f s).pending = s.pending := rfl
@[simp] theorem modAxis_loc (a : Nat) (f : Axis → Axis) (s : State) : (modAxis a f s).loc = s.loc := rfl
@[simp] theorem modAxis_freeCtr (a : Nat) (f : Axis → Axis) (s : State) : (modAxis a f s).freeCtr = s.freeCtr := rfl
@[simp] theorem modAxis_od (a : Nat) (f : Axis → Axis) (s : State) : (modAxis a f s).od = s.od := rfl
@[simp] theorem modAxis_dom (a : Nat) (f : Axis → Axis) (s : State) : (modAxis a f s).dom = s.dom := rfl
@[simp] theorem modAxis_live (a : Nat) (f : Axis → Axis) (s : State) : (modAxis a f s).live = s.live := rfl
@[simp] theorem modAxis_liveDom (a : Nat) (f : Axis → Axis) (s : State) : (modAxis a f s).liveDom = s.liveDom := rfl
@[simp] theorem modAxis_dev (a : Nat) (f : Axis → Axis) (s : State) : (modAxis a f s).dev = s.dev := rfl
@[simp] theorem modAxis_ledgers (a : Nat) (f : Axis → Axis) (s : State) : (modAxis a f s).ledgers = s.ledgers := rfl
@[simp] theorem modAxis_srv (a : Nat) (f : Axis → Axis) (s : State) : (modAxis a f s).srv = s.srv := rfl
@[simp] theorem modAxis_net (a : Nat) (f : Axis → Axis) (s : State) : (modAxis a f s).net = s.net := rfl
@[simp] theorem modAxis_pcie (a : Nat) (f : Axis → Axis) (s : State) : (modAxis a f s).pcie = s.pcie := rfl
@[simp] theorem modAxis_rings (a : Nat) (f : Axis → Axis) (s : State) : (modAxis a f s).rings = s.rings := rfl
@[simp] theorem modAxis_egress (a : Nat) (f : Axis → Axis) (s : State) : (modAxis a f s).egress = s.egress := rfl
@[simp] theorem modAxis_gal (a : Nat) (f : Axis → Axis) (s : State) : (modAxis a f s).gal = s.gal := rfl
@[simp] theorem modAxis_formes (a : Nat) (f : Axis → Axis) (s : State) : (modAxis a f s).formes = s.formes := rfl
@[simp] theorem modAxis_comp (a : Nat) (f : Axis → Axis) (s : State) : (modAxis a f s).comp = s.comp := rfl
@[simp] theorem modAxis_plat (a : Nat) (f : Axis → Axis) (s : State) : (modAxis a f s).plat = s.plat := rfl
@[simp] theorem modAxis_ports (a : Nat) (f : Axis → Axis) (s : State) : (modAxis a f s).ports = s.ports := rfl
@[simp] theorem modAxis_web (a : Nat) (f : Axis → Axis) (s : State) : (modAxis a f s).web = s.web := rfl
@[simp] theorem modAxis_time (a : Nat) (f : Axis → Axis) (s : State) : (modAxis a f s).time = s.time := rfl
@[simp] theorem modAxis_pace (a : Nat) (f : Axis → Axis) (s : State) : (modAxis a f s).pace = s.pace := rfl
@[simp] theorem modAxis_cams (a : Nat) (f : Axis → Axis) (s : State) : (modAxis a f s).cams = s.cams := rfl
@[simp] theorem modAxis_prf (a : Nat) (f : Axis → Axis) (s : State) : (modAxis a f s).prf = s.prf := rfl
@[simp] theorem modAxis_ddr (a : Nat) (f : Axis → Axis) (s : State) : (modAxis a f s).ddr = s.ddr := rfl
@[simp] theorem modAxis_boot (a : Nat) (f : Axis → Axis) (s : State) : (modAxis a f s).boot = s.boot := rfl
@[simp] theorem modAxis_tymp (a : Nat) (f : Axis → Axis) (s : State) : (modAxis a f s).tymp = s.tymp := rfl
@[simp] theorem modAxis_pwr (a : Nat) (f : Axis → Axis) (s : State) : (modAxis a f s).pwr = s.pwr := rfl
@[simp] theorem modAxis_clk (a : Nat) (f : Axis → Axis) (s : State) : (modAxis a f s).clk = s.clk := rfl
@[simp] theorem modAxis_sec (a : Nat) (f : Axis → Axis) (s : State) : (modAxis a f s).sec = s.sec := rfl
@[simp] theorem modAxis_disp (a : Nat) (f : Axis → Axis) (s : State) : (modAxis a f s).disp = s.disp := rfl
@[simp] theorem modAxis_pins (a : Nat) (f : Axis → Axis) (s : State) : (modAxis a f s).pins = s.pins := rfl
@[simp] theorem modAxis_o (a : Nat) (f : Axis → Axis) (s : State) (j : Nat) : (modAxis a f s).o j = s.o j := rfl
@[simp] theorem modAxis_ob (a : Nat) (f : Axis → Axis) (s : State) (j : Nat) : (modAxis a f s).ob j = s.ob j := rfl
@[simp] theorem modAxis_oi (a : Nat) (f : Axis → Axis) (s : State) (j : Nat) : (modAxis a f s).oi j = s.oi j := rfl

/-! `modCam` -/

@[simp] theorem modCam_pending (p : Nat) (g : Cam → Cam) (s : State) : (modCam p g s).pending = s.pending := rfl
@[simp] theorem modCam_loc (p : Nat) (g : Cam → Cam) (s : State) : (modCam p g s).loc = s.loc := rfl
@[simp] theorem modCam_freeCtr (p : Nat) (g : Cam → Cam) (s : State) : (modCam p g s).freeCtr = s.freeCtr := rfl
@[simp] theorem modCam_od (p : Nat) (g : Cam → Cam) (s : State) : (modCam p g s).od = s.od := rfl
@[simp] theorem modCam_dom (p : Nat) (g : Cam → Cam) (s : State) : (modCam p g s).dom = s.dom := rfl
@[simp] theorem modCam_live (p : Nat) (g : Cam → Cam) (s : State) : (modCam p g s).live = s.live := rfl
@[simp] theorem modCam_liveDom (p : Nat) (g : Cam → Cam) (s : State) : (modCam p g s).liveDom = s.liveDom := rfl
@[simp] theorem modCam_dev (p : Nat) (g : Cam → Cam) (s : State) : (modCam p g s).dev = s.dev := rfl
@[simp] theorem modCam_ledgers (p : Nat) (g : Cam → Cam) (s : State) : (modCam p g s).ledgers = s.ledgers := rfl
@[simp] theorem modCam_srv (p : Nat) (g : Cam → Cam) (s : State) : (modCam p g s).srv = s.srv := rfl
@[simp] theorem modCam_net (p : Nat) (g : Cam → Cam) (s : State) : (modCam p g s).net = s.net := rfl
@[simp] theorem modCam_pcie (p : Nat) (g : Cam → Cam) (s : State) : (modCam p g s).pcie = s.pcie := rfl
@[simp] theorem modCam_rings (p : Nat) (g : Cam → Cam) (s : State) : (modCam p g s).rings = s.rings := rfl
@[simp] theorem modCam_egress (p : Nat) (g : Cam → Cam) (s : State) : (modCam p g s).egress = s.egress := rfl
@[simp] theorem modCam_gal (p : Nat) (g : Cam → Cam) (s : State) : (modCam p g s).gal = s.gal := rfl
@[simp] theorem modCam_formes (p : Nat) (g : Cam → Cam) (s : State) : (modCam p g s).formes = s.formes := rfl
@[simp] theorem modCam_comp (p : Nat) (g : Cam → Cam) (s : State) : (modCam p g s).comp = s.comp := rfl
@[simp] theorem modCam_plat (p : Nat) (g : Cam → Cam) (s : State) : (modCam p g s).plat = s.plat := rfl
@[simp] theorem modCam_ports (p : Nat) (g : Cam → Cam) (s : State) : (modCam p g s).ports = s.ports := rfl
@[simp] theorem modCam_web (p : Nat) (g : Cam → Cam) (s : State) : (modCam p g s).web = s.web := rfl
@[simp] theorem modCam_time (p : Nat) (g : Cam → Cam) (s : State) : (modCam p g s).time = s.time := rfl
@[simp] theorem modCam_pace (p : Nat) (g : Cam → Cam) (s : State) : (modCam p g s).pace = s.pace := rfl
@[simp] theorem modCam_prf (p : Nat) (g : Cam → Cam) (s : State) : (modCam p g s).prf = s.prf := rfl
@[simp] theorem modCam_ddr (p : Nat) (g : Cam → Cam) (s : State) : (modCam p g s).ddr = s.ddr := rfl
@[simp] theorem modCam_axes (p : Nat) (g : Cam → Cam) (s : State) : (modCam p g s).axes = s.axes := rfl
@[simp] theorem modCam_boot (p : Nat) (g : Cam → Cam) (s : State) : (modCam p g s).boot = s.boot := rfl
@[simp] theorem modCam_tymp (p : Nat) (g : Cam → Cam) (s : State) : (modCam p g s).tymp = s.tymp := rfl
@[simp] theorem modCam_pwr (p : Nat) (g : Cam → Cam) (s : State) : (modCam p g s).pwr = s.pwr := rfl
@[simp] theorem modCam_clk (p : Nat) (g : Cam → Cam) (s : State) : (modCam p g s).clk = s.clk := rfl
@[simp] theorem modCam_sec (p : Nat) (g : Cam → Cam) (s : State) : (modCam p g s).sec = s.sec := rfl
@[simp] theorem modCam_disp (p : Nat) (g : Cam → Cam) (s : State) : (modCam p g s).disp = s.disp := rfl
@[simp] theorem modCam_pins (p : Nat) (g : Cam → Cam) (s : State) : (modCam p g s).pins = s.pins := rfl
@[simp] theorem modCam_o (p : Nat) (g : Cam → Cam) (s : State) (j : Nat) : (modCam p g s).o j = s.o j := rfl
@[simp] theorem modCam_ob (p : Nat) (g : Cam → Cam) (s : State) (j : Nat) : (modCam p g s).ob j = s.ob j := rfl
@[simp] theorem modCam_oi (p : Nat) (g : Cam → Cam) (s : State) (j : Nat) : (modCam p g s).oi j = s.oi j := rfl

/-! `modPrf` -/

@[simp] theorem modPrf_pending (p : Nat) (g : PrfLane → PrfLane) (s : State) : (modPrf p g s).pending = s.pending := rfl
@[simp] theorem modPrf_loc (p : Nat) (g : PrfLane → PrfLane) (s : State) : (modPrf p g s).loc = s.loc := rfl
@[simp] theorem modPrf_freeCtr (p : Nat) (g : PrfLane → PrfLane) (s : State) : (modPrf p g s).freeCtr = s.freeCtr := rfl
@[simp] theorem modPrf_od (p : Nat) (g : PrfLane → PrfLane) (s : State) : (modPrf p g s).od = s.od := rfl
@[simp] theorem modPrf_dom (p : Nat) (g : PrfLane → PrfLane) (s : State) : (modPrf p g s).dom = s.dom := rfl
@[simp] theorem modPrf_live (p : Nat) (g : PrfLane → PrfLane) (s : State) : (modPrf p g s).live = s.live := rfl
@[simp] theorem modPrf_liveDom (p : Nat) (g : PrfLane → PrfLane) (s : State) : (modPrf p g s).liveDom = s.liveDom := rfl
@[simp] theorem modPrf_dev (p : Nat) (g : PrfLane → PrfLane) (s : State) : (modPrf p g s).dev = s.dev := rfl
@[simp] theorem modPrf_ledgers (p : Nat) (g : PrfLane → PrfLane) (s : State) : (modPrf p g s).ledgers = s.ledgers := rfl
@[simp] theorem modPrf_srv (p : Nat) (g : PrfLane → PrfLane) (s : State) : (modPrf p g s).srv = s.srv := rfl
@[simp] theorem modPrf_net (p : Nat) (g : PrfLane → PrfLane) (s : State) : (modPrf p g s).net = s.net := rfl
@[simp] theorem modPrf_pcie (p : Nat) (g : PrfLane → PrfLane) (s : State) : (modPrf p g s).pcie = s.pcie := rfl
@[simp] theorem modPrf_rings (p : Nat) (g : PrfLane → PrfLane) (s : State) : (modPrf p g s).rings = s.rings := rfl
@[simp] theorem modPrf_egress (p : Nat) (g : PrfLane → PrfLane) (s : State) : (modPrf p g s).egress = s.egress := rfl
@[simp] theorem modPrf_gal (p : Nat) (g : PrfLane → PrfLane) (s : State) : (modPrf p g s).gal = s.gal := rfl
@[simp] theorem modPrf_formes (p : Nat) (g : PrfLane → PrfLane) (s : State) : (modPrf p g s).formes = s.formes := rfl
@[simp] theorem modPrf_comp (p : Nat) (g : PrfLane → PrfLane) (s : State) : (modPrf p g s).comp = s.comp := rfl
@[simp] theorem modPrf_plat (p : Nat) (g : PrfLane → PrfLane) (s : State) : (modPrf p g s).plat = s.plat := rfl
@[simp] theorem modPrf_ports (p : Nat) (g : PrfLane → PrfLane) (s : State) : (modPrf p g s).ports = s.ports := rfl
@[simp] theorem modPrf_web (p : Nat) (g : PrfLane → PrfLane) (s : State) : (modPrf p g s).web = s.web := rfl
@[simp] theorem modPrf_time (p : Nat) (g : PrfLane → PrfLane) (s : State) : (modPrf p g s).time = s.time := rfl
@[simp] theorem modPrf_pace (p : Nat) (g : PrfLane → PrfLane) (s : State) : (modPrf p g s).pace = s.pace := rfl
@[simp] theorem modPrf_cams (p : Nat) (g : PrfLane → PrfLane) (s : State) : (modPrf p g s).cams = s.cams := rfl
@[simp] theorem modPrf_ddr (p : Nat) (g : PrfLane → PrfLane) (s : State) : (modPrf p g s).ddr = s.ddr := rfl
@[simp] theorem modPrf_axes (p : Nat) (g : PrfLane → PrfLane) (s : State) : (modPrf p g s).axes = s.axes := rfl
@[simp] theorem modPrf_boot (p : Nat) (g : PrfLane → PrfLane) (s : State) : (modPrf p g s).boot = s.boot := rfl
@[simp] theorem modPrf_tymp (p : Nat) (g : PrfLane → PrfLane) (s : State) : (modPrf p g s).tymp = s.tymp := rfl
@[simp] theorem modPrf_pwr (p : Nat) (g : PrfLane → PrfLane) (s : State) : (modPrf p g s).pwr = s.pwr := rfl
@[simp] theorem modPrf_clk (p : Nat) (g : PrfLane → PrfLane) (s : State) : (modPrf p g s).clk = s.clk := rfl
@[simp] theorem modPrf_sec (p : Nat) (g : PrfLane → PrfLane) (s : State) : (modPrf p g s).sec = s.sec := rfl
@[simp] theorem modPrf_disp (p : Nat) (g : PrfLane → PrfLane) (s : State) : (modPrf p g s).disp = s.disp := rfl
@[simp] theorem modPrf_pins (p : Nat) (g : PrfLane → PrfLane) (s : State) : (modPrf p g s).pins = s.pins := rfl
@[simp] theorem modPrf_o (p : Nat) (g : PrfLane → PrfLane) (s : State) (j : Nat) : (modPrf p g s).o j = s.o j := rfl
@[simp] theorem modPrf_ob (p : Nat) (g : PrfLane → PrfLane) (s : State) (j : Nat) : (modPrf p g s).ob j = s.ob j := rfl
@[simp] theorem modPrf_oi (p : Nat) (g : PrfLane → PrfLane) (s : State) (j : Nat) : (modPrf p g s).oi j = s.oi j := rfl

/-! `modPace` -/

@[simp] theorem modPace_pending (f : Pace → Pace) (s : State) : (modPace f s).pending = s.pending := rfl
@[simp] theorem modPace_loc (f : Pace → Pace) (s : State) : (modPace f s).loc = s.loc := rfl
@[simp] theorem modPace_freeCtr (f : Pace → Pace) (s : State) : (modPace f s).freeCtr = s.freeCtr := rfl
@[simp] theorem modPace_od (f : Pace → Pace) (s : State) : (modPace f s).od = s.od := rfl
@[simp] theorem modPace_dom (f : Pace → Pace) (s : State) : (modPace f s).dom = s.dom := rfl
@[simp] theorem modPace_live (f : Pace → Pace) (s : State) : (modPace f s).live = s.live := rfl
@[simp] theorem modPace_liveDom (f : Pace → Pace) (s : State) : (modPace f s).liveDom = s.liveDom := rfl
@[simp] theorem modPace_dev (f : Pace → Pace) (s : State) : (modPace f s).dev = s.dev := rfl
@[simp] theorem modPace_ledgers (f : Pace → Pace) (s : State) : (modPace f s).ledgers = s.ledgers := rfl
@[simp] theorem modPace_srv (f : Pace → Pace) (s : State) : (modPace f s).srv = s.srv := rfl
@[simp] theorem modPace_net (f : Pace → Pace) (s : State) : (modPace f s).net = s.net := rfl
@[simp] theorem modPace_pcie (f : Pace → Pace) (s : State) : (modPace f s).pcie = s.pcie := rfl
@[simp] theorem modPace_rings (f : Pace → Pace) (s : State) : (modPace f s).rings = s.rings := rfl
@[simp] theorem modPace_egress (f : Pace → Pace) (s : State) : (modPace f s).egress = s.egress := rfl
@[simp] theorem modPace_gal (f : Pace → Pace) (s : State) : (modPace f s).gal = s.gal := rfl
@[simp] theorem modPace_formes (f : Pace → Pace) (s : State) : (modPace f s).formes = s.formes := rfl
@[simp] theorem modPace_comp (f : Pace → Pace) (s : State) : (modPace f s).comp = s.comp := rfl
@[simp] theorem modPace_plat (f : Pace → Pace) (s : State) : (modPace f s).plat = s.plat := rfl
@[simp] theorem modPace_ports (f : Pace → Pace) (s : State) : (modPace f s).ports = s.ports := rfl
@[simp] theorem modPace_web (f : Pace → Pace) (s : State) : (modPace f s).web = s.web := rfl
@[simp] theorem modPace_time (f : Pace → Pace) (s : State) : (modPace f s).time = s.time := rfl
@[simp] theorem modPace_cams (f : Pace → Pace) (s : State) : (modPace f s).cams = s.cams := rfl
@[simp] theorem modPace_prf (f : Pace → Pace) (s : State) : (modPace f s).prf = s.prf := rfl
@[simp] theorem modPace_ddr (f : Pace → Pace) (s : State) : (modPace f s).ddr = s.ddr := rfl
@[simp] theorem modPace_axes (f : Pace → Pace) (s : State) : (modPace f s).axes = s.axes := rfl
@[simp] theorem modPace_boot (f : Pace → Pace) (s : State) : (modPace f s).boot = s.boot := rfl
@[simp] theorem modPace_tymp (f : Pace → Pace) (s : State) : (modPace f s).tymp = s.tymp := rfl
@[simp] theorem modPace_pwr (f : Pace → Pace) (s : State) : (modPace f s).pwr = s.pwr := rfl
@[simp] theorem modPace_clk (f : Pace → Pace) (s : State) : (modPace f s).clk = s.clk := rfl
@[simp] theorem modPace_sec (f : Pace → Pace) (s : State) : (modPace f s).sec = s.sec := rfl
@[simp] theorem modPace_disp (f : Pace → Pace) (s : State) : (modPace f s).disp = s.disp := rfl
@[simp] theorem modPace_pins (f : Pace → Pace) (s : State) : (modPace f s).pins = s.pins := rfl
@[simp] theorem modPace_o (f : Pace → Pace) (s : State) (j : Nat) : (modPace f s).o j = s.o j := rfl
@[simp] theorem modPace_ob (f : Pace → Pace) (s : State) (j : Nat) : (modPace f s).ob j = s.ob j := rfl
@[simp] theorem modPace_oi (f : Pace → Pace) (s : State) (j : Nat) : (modPace f s).oi j = s.oi j := rfl

/-! `modDisp` -/

@[simp] theorem modDisp_pending (f : Disp → Disp) (s : State) : (modDisp f s).pending = s.pending := rfl
@[simp] theorem modDisp_loc (f : Disp → Disp) (s : State) : (modDisp f s).loc = s.loc := rfl
@[simp] theorem modDisp_freeCtr (f : Disp → Disp) (s : State) : (modDisp f s).freeCtr = s.freeCtr := rfl
@[simp] theorem modDisp_od (f : Disp → Disp) (s : State) : (modDisp f s).od = s.od := rfl
@[simp] theorem modDisp_dom (f : Disp → Disp) (s : State) : (modDisp f s).dom = s.dom := rfl
@[simp] theorem modDisp_live (f : Disp → Disp) (s : State) : (modDisp f s).live = s.live := rfl
@[simp] theorem modDisp_liveDom (f : Disp → Disp) (s : State) : (modDisp f s).liveDom = s.liveDom := rfl
@[simp] theorem modDisp_dev (f : Disp → Disp) (s : State) : (modDisp f s).dev = s.dev := rfl
@[simp] theorem modDisp_ledgers (f : Disp → Disp) (s : State) : (modDisp f s).ledgers = s.ledgers := rfl
@[simp] theorem modDisp_srv (f : Disp → Disp) (s : State) : (modDisp f s).srv = s.srv := rfl
@[simp] theorem modDisp_net (f : Disp → Disp) (s : State) : (modDisp f s).net = s.net := rfl
@[simp] theorem modDisp_pcie (f : Disp → Disp) (s : State) : (modDisp f s).pcie = s.pcie := rfl
@[simp] theorem modDisp_rings (f : Disp → Disp) (s : State) : (modDisp f s).rings = s.rings := rfl
@[simp] theorem modDisp_egress (f : Disp → Disp) (s : State) : (modDisp f s).egress = s.egress := rfl
@[simp] theorem modDisp_gal (f : Disp → Disp) (s : State) : (modDisp f s).gal = s.gal := rfl
@[simp] theorem modDisp_formes (f : Disp → Disp) (s : State) : (modDisp f s).formes = s.formes := rfl
@[simp] theorem modDisp_comp (f : Disp → Disp) (s : State) : (modDisp f s).comp = s.comp := rfl
@[simp] theorem modDisp_plat (f : Disp → Disp) (s : State) : (modDisp f s).plat = s.plat := rfl
@[simp] theorem modDisp_ports (f : Disp → Disp) (s : State) : (modDisp f s).ports = s.ports := rfl
@[simp] theorem modDisp_web (f : Disp → Disp) (s : State) : (modDisp f s).web = s.web := rfl
@[simp] theorem modDisp_time (f : Disp → Disp) (s : State) : (modDisp f s).time = s.time := rfl
@[simp] theorem modDisp_pace (f : Disp → Disp) (s : State) : (modDisp f s).pace = s.pace := rfl
@[simp] theorem modDisp_cams (f : Disp → Disp) (s : State) : (modDisp f s).cams = s.cams := rfl
@[simp] theorem modDisp_prf (f : Disp → Disp) (s : State) : (modDisp f s).prf = s.prf := rfl
@[simp] theorem modDisp_ddr (f : Disp → Disp) (s : State) : (modDisp f s).ddr = s.ddr := rfl
@[simp] theorem modDisp_axes (f : Disp → Disp) (s : State) : (modDisp f s).axes = s.axes := rfl
@[simp] theorem modDisp_boot (f : Disp → Disp) (s : State) : (modDisp f s).boot = s.boot := rfl
@[simp] theorem modDisp_tymp (f : Disp → Disp) (s : State) : (modDisp f s).tymp = s.tymp := rfl
@[simp] theorem modDisp_pwr (f : Disp → Disp) (s : State) : (modDisp f s).pwr = s.pwr := rfl
@[simp] theorem modDisp_clk (f : Disp → Disp) (s : State) : (modDisp f s).clk = s.clk := rfl
@[simp] theorem modDisp_sec (f : Disp → Disp) (s : State) : (modDisp f s).sec = s.sec := rfl
@[simp] theorem modDisp_pins (f : Disp → Disp) (s : State) : (modDisp f s).pins = s.pins := rfl
@[simp] theorem modDisp_o (f : Disp → Disp) (s : State) (j : Nat) : (modDisp f s).o j = s.o j := rfl
@[simp] theorem modDisp_ob (f : Disp → Disp) (s : State) (j : Nat) : (modDisp f s).ob j = s.ob j := rfl
@[simp] theorem modDisp_oi (f : Disp → Disp) (s : State) (j : Nat) : (modDisp f s).oi j = s.oi j := rfl

/-! `modChannel` -/

@[simp] theorem modChannel_pending (c : Nat) (f : Channel → Channel) (s : State) : (modChannel c f s).pending = s.pending := rfl
@[simp] theorem modChannel_loc (c : Nat) (f : Channel → Channel) (s : State) : (modChannel c f s).loc = s.loc := rfl
@[simp] theorem modChannel_freeCtr (c : Nat) (f : Channel → Channel) (s : State) : (modChannel c f s).freeCtr = s.freeCtr := rfl
@[simp] theorem modChannel_od (c : Nat) (f : Channel → Channel) (s : State) : (modChannel c f s).od = s.od := rfl
@[simp] theorem modChannel_dom (c : Nat) (f : Channel → Channel) (s : State) : (modChannel c f s).dom = s.dom := rfl
@[simp] theorem modChannel_live (c : Nat) (f : Channel → Channel) (s : State) : (modChannel c f s).live = s.live := rfl
@[simp] theorem modChannel_liveDom (c : Nat) (f : Channel → Channel) (s : State) : (modChannel c f s).liveDom = s.liveDom := rfl
@[simp] theorem modChannel_dev (c : Nat) (f : Channel → Channel) (s : State) : (modChannel c f s).dev = s.dev := rfl
@[simp] theorem modChannel_ledgers (c : Nat) (f : Channel → Channel) (s : State) : (modChannel c f s).ledgers = s.ledgers := rfl
@[simp] theorem modChannel_srv (c : Nat) (f : Channel → Channel) (s : State) : (modChannel c f s).srv = s.srv := rfl
@[simp] theorem modChannel_net (c : Nat) (f : Channel → Channel) (s : State) : (modChannel c f s).net = s.net := rfl
@[simp] theorem modChannel_pcie (c : Nat) (f : Channel → Channel) (s : State) : (modChannel c f s).pcie = s.pcie := rfl
@[simp] theorem modChannel_rings (c : Nat) (f : Channel → Channel) (s : State) : (modChannel c f s).rings = s.rings := rfl
@[simp] theorem modChannel_egress (c : Nat) (f : Channel → Channel) (s : State) : (modChannel c f s).egress = s.egress := rfl
@[simp] theorem modChannel_gal (c : Nat) (f : Channel → Channel) (s : State) : (modChannel c f s).gal = s.gal := rfl
@[simp] theorem modChannel_formes (c : Nat) (f : Channel → Channel) (s : State) : (modChannel c f s).formes = s.formes := rfl
@[simp] theorem modChannel_comp (c : Nat) (f : Channel → Channel) (s : State) : (modChannel c f s).comp = s.comp := rfl
@[simp] theorem modChannel_plat (c : Nat) (f : Channel → Channel) (s : State) : (modChannel c f s).plat = s.plat := rfl
@[simp] theorem modChannel_ports (c : Nat) (f : Channel → Channel) (s : State) : (modChannel c f s).ports = s.ports := rfl
@[simp] theorem modChannel_web (c : Nat) (f : Channel → Channel) (s : State) : (modChannel c f s).web = s.web := rfl
@[simp] theorem modChannel_time (c : Nat) (f : Channel → Channel) (s : State) : (modChannel c f s).time = s.time := rfl
@[simp] theorem modChannel_pace (c : Nat) (f : Channel → Channel) (s : State) : (modChannel c f s).pace = s.pace := rfl
@[simp] theorem modChannel_cams (c : Nat) (f : Channel → Channel) (s : State) : (modChannel c f s).cams = s.cams := rfl
@[simp] theorem modChannel_prf (c : Nat) (f : Channel → Channel) (s : State) : (modChannel c f s).prf = s.prf := rfl
@[simp] theorem modChannel_axes (c : Nat) (f : Channel → Channel) (s : State) : (modChannel c f s).axes = s.axes := rfl
@[simp] theorem modChannel_boot (c : Nat) (f : Channel → Channel) (s : State) : (modChannel c f s).boot = s.boot := rfl
@[simp] theorem modChannel_tymp (c : Nat) (f : Channel → Channel) (s : State) : (modChannel c f s).tymp = s.tymp := rfl
@[simp] theorem modChannel_pwr (c : Nat) (f : Channel → Channel) (s : State) : (modChannel c f s).pwr = s.pwr := rfl
@[simp] theorem modChannel_clk (c : Nat) (f : Channel → Channel) (s : State) : (modChannel c f s).clk = s.clk := rfl
@[simp] theorem modChannel_sec (c : Nat) (f : Channel → Channel) (s : State) : (modChannel c f s).sec = s.sec := rfl
@[simp] theorem modChannel_disp (c : Nat) (f : Channel → Channel) (s : State) : (modChannel c f s).disp = s.disp := rfl
@[simp] theorem modChannel_pins (c : Nat) (f : Channel → Channel) (s : State) : (modChannel c f s).pins = s.pins := rfl
@[simp] theorem modChannel_o (c : Nat) (f : Channel → Channel) (s : State) (j : Nat) : (modChannel c f s).o j = s.o j := rfl
@[simp] theorem modChannel_ob (c : Nat) (f : Channel → Channel) (s : State) (j : Nat) : (modChannel c f s).ob j = s.ob j := rfl
@[simp] theorem modChannel_oi (c : Nat) (f : Channel → Channel) (s : State) (j : Nat) : (modChannel c f s).oi j = s.oi j := rfl

/-! `modPwr` -/

@[simp] theorem modPwr_pending (f : Pwr → Pwr) (s : State) : (modPwr f s).pending = s.pending := rfl
@[simp] theorem modPwr_loc (f : Pwr → Pwr) (s : State) : (modPwr f s).loc = s.loc := rfl
@[simp] theorem modPwr_freeCtr (f : Pwr → Pwr) (s : State) : (modPwr f s).freeCtr = s.freeCtr := rfl
@[simp] theorem modPwr_od (f : Pwr → Pwr) (s : State) : (modPwr f s).od = s.od := rfl
@[simp] theorem modPwr_dom (f : Pwr → Pwr) (s : State) : (modPwr f s).dom = s.dom := rfl
@[simp] theorem modPwr_live (f : Pwr → Pwr) (s : State) : (modPwr f s).live = s.live := rfl
@[simp] theorem modPwr_liveDom (f : Pwr → Pwr) (s : State) : (modPwr f s).liveDom = s.liveDom := rfl
@[simp] theorem modPwr_dev (f : Pwr → Pwr) (s : State) : (modPwr f s).dev = s.dev := rfl
@[simp] theorem modPwr_ledgers (f : Pwr → Pwr) (s : State) : (modPwr f s).ledgers = s.ledgers := rfl
@[simp] theorem modPwr_srv (f : Pwr → Pwr) (s : State) : (modPwr f s).srv = s.srv := rfl
@[simp] theorem modPwr_net (f : Pwr → Pwr) (s : State) : (modPwr f s).net = s.net := rfl
@[simp] theorem modPwr_pcie (f : Pwr → Pwr) (s : State) : (modPwr f s).pcie = s.pcie := rfl
@[simp] theorem modPwr_rings (f : Pwr → Pwr) (s : State) : (modPwr f s).rings = s.rings := rfl
@[simp] theorem modPwr_egress (f : Pwr → Pwr) (s : State) : (modPwr f s).egress = s.egress := rfl
@[simp] theorem modPwr_gal (f : Pwr → Pwr) (s : State) : (modPwr f s).gal = s.gal := rfl
@[simp] theorem modPwr_formes (f : Pwr → Pwr) (s : State) : (modPwr f s).formes = s.formes := rfl
@[simp] theorem modPwr_comp (f : Pwr → Pwr) (s : State) : (modPwr f s).comp = s.comp := rfl
@[simp] theorem modPwr_plat (f : Pwr → Pwr) (s : State) : (modPwr f s).plat = s.plat := rfl
@[simp] theorem modPwr_ports (f : Pwr → Pwr) (s : State) : (modPwr f s).ports = s.ports := rfl
@[simp] theorem modPwr_web (f : Pwr → Pwr) (s : State) : (modPwr f s).web = s.web := rfl
@[simp] theorem modPwr_time (f : Pwr → Pwr) (s : State) : (modPwr f s).time = s.time := rfl
@[simp] theorem modPwr_pace (f : Pwr → Pwr) (s : State) : (modPwr f s).pace = s.pace := rfl
@[simp] theorem modPwr_cams (f : Pwr → Pwr) (s : State) : (modPwr f s).cams = s.cams := rfl
@[simp] theorem modPwr_prf (f : Pwr → Pwr) (s : State) : (modPwr f s).prf = s.prf := rfl
@[simp] theorem modPwr_ddr (f : Pwr → Pwr) (s : State) : (modPwr f s).ddr = s.ddr := rfl
@[simp] theorem modPwr_axes (f : Pwr → Pwr) (s : State) : (modPwr f s).axes = s.axes := rfl
@[simp] theorem modPwr_boot (f : Pwr → Pwr) (s : State) : (modPwr f s).boot = s.boot := rfl
@[simp] theorem modPwr_tymp (f : Pwr → Pwr) (s : State) : (modPwr f s).tymp = s.tymp := rfl
@[simp] theorem modPwr_clk (f : Pwr → Pwr) (s : State) : (modPwr f s).clk = s.clk := rfl
@[simp] theorem modPwr_sec (f : Pwr → Pwr) (s : State) : (modPwr f s).sec = s.sec := rfl
@[simp] theorem modPwr_disp (f : Pwr → Pwr) (s : State) : (modPwr f s).disp = s.disp := rfl
@[simp] theorem modPwr_pins (f : Pwr → Pwr) (s : State) : (modPwr f s).pins = s.pins := rfl
@[simp] theorem modPwr_o (f : Pwr → Pwr) (s : State) (j : Nat) : (modPwr f s).o j = s.o j := rfl
@[simp] theorem modPwr_ob (f : Pwr → Pwr) (s : State) (j : Nat) : (modPwr f s).ob j = s.ob j := rfl
@[simp] theorem modPwr_oi (f : Pwr → Pwr) (s : State) (j : Nat) : (modPwr f s).oi j = s.oi j := rfl

/-! `modBoot` -/

@[simp] theorem modBoot_pending (f : Boot → Boot) (s : State) : (modBoot f s).pending = s.pending := rfl
@[simp] theorem modBoot_loc (f : Boot → Boot) (s : State) : (modBoot f s).loc = s.loc := rfl
@[simp] theorem modBoot_freeCtr (f : Boot → Boot) (s : State) : (modBoot f s).freeCtr = s.freeCtr := rfl
@[simp] theorem modBoot_od (f : Boot → Boot) (s : State) : (modBoot f s).od = s.od := rfl
@[simp] theorem modBoot_dom (f : Boot → Boot) (s : State) : (modBoot f s).dom = s.dom := rfl
@[simp] theorem modBoot_live (f : Boot → Boot) (s : State) : (modBoot f s).live = s.live := rfl
@[simp] theorem modBoot_liveDom (f : Boot → Boot) (s : State) : (modBoot f s).liveDom = s.liveDom := rfl
@[simp] theorem modBoot_dev (f : Boot → Boot) (s : State) : (modBoot f s).dev = s.dev := rfl
@[simp] theorem modBoot_ledgers (f : Boot → Boot) (s : State) : (modBoot f s).ledgers = s.ledgers := rfl
@[simp] theorem modBoot_srv (f : Boot → Boot) (s : State) : (modBoot f s).srv = s.srv := rfl
@[simp] theorem modBoot_net (f : Boot → Boot) (s : State) : (modBoot f s).net = s.net := rfl
@[simp] theorem modBoot_pcie (f : Boot → Boot) (s : State) : (modBoot f s).pcie = s.pcie := rfl
@[simp] theorem modBoot_rings (f : Boot → Boot) (s : State) : (modBoot f s).rings = s.rings := rfl
@[simp] theorem modBoot_egress (f : Boot → Boot) (s : State) : (modBoot f s).egress = s.egress := rfl
@[simp] theorem modBoot_gal (f : Boot → Boot) (s : State) : (modBoot f s).gal = s.gal := rfl
@[simp] theorem modBoot_formes (f : Boot → Boot) (s : State) : (modBoot f s).formes = s.formes := rfl
@[simp] theorem modBoot_comp (f : Boot → Boot) (s : State) : (modBoot f s).comp = s.comp := rfl
@[simp] theorem modBoot_plat (f : Boot → Boot) (s : State) : (modBoot f s).plat = s.plat := rfl
@[simp] theorem modBoot_ports (f : Boot → Boot) (s : State) : (modBoot f s).ports = s.ports := rfl
@[simp] theorem modBoot_web (f : Boot → Boot) (s : State) : (modBoot f s).web = s.web := rfl
@[simp] theorem modBoot_time (f : Boot → Boot) (s : State) : (modBoot f s).time = s.time := rfl
@[simp] theorem modBoot_pace (f : Boot → Boot) (s : State) : (modBoot f s).pace = s.pace := rfl
@[simp] theorem modBoot_cams (f : Boot → Boot) (s : State) : (modBoot f s).cams = s.cams := rfl
@[simp] theorem modBoot_prf (f : Boot → Boot) (s : State) : (modBoot f s).prf = s.prf := rfl
@[simp] theorem modBoot_ddr (f : Boot → Boot) (s : State) : (modBoot f s).ddr = s.ddr := rfl
@[simp] theorem modBoot_axes (f : Boot → Boot) (s : State) : (modBoot f s).axes = s.axes := rfl
@[simp] theorem modBoot_tymp (f : Boot → Boot) (s : State) : (modBoot f s).tymp = s.tymp := rfl
@[simp] theorem modBoot_pwr (f : Boot → Boot) (s : State) : (modBoot f s).pwr = s.pwr := rfl
@[simp] theorem modBoot_clk (f : Boot → Boot) (s : State) : (modBoot f s).clk = s.clk := rfl
@[simp] theorem modBoot_sec (f : Boot → Boot) (s : State) : (modBoot f s).sec = s.sec := rfl
@[simp] theorem modBoot_disp (f : Boot → Boot) (s : State) : (modBoot f s).disp = s.disp := rfl
@[simp] theorem modBoot_pins (f : Boot → Boot) (s : State) : (modBoot f s).pins = s.pins := rfl
@[simp] theorem modBoot_o (f : Boot → Boot) (s : State) (j : Nat) : (modBoot f s).o j = s.o j := rfl
@[simp] theorem modBoot_ob (f : Boot → Boot) (s : State) (j : Nat) : (modBoot f s).ob j = s.ob j := rfl
@[simp] theorem modBoot_oi (f : Boot → Boot) (s : State) (j : Nat) : (modBoot f s).oi j = s.oi j := rfl

/-! `modSec` -/

@[simp] theorem modSec_pending (f : Sec → Sec) (s : State) : (modSec f s).pending = s.pending := rfl
@[simp] theorem modSec_loc (f : Sec → Sec) (s : State) : (modSec f s).loc = s.loc := rfl
@[simp] theorem modSec_freeCtr (f : Sec → Sec) (s : State) : (modSec f s).freeCtr = s.freeCtr := rfl
@[simp] theorem modSec_od (f : Sec → Sec) (s : State) : (modSec f s).od = s.od := rfl
@[simp] theorem modSec_dom (f : Sec → Sec) (s : State) : (modSec f s).dom = s.dom := rfl
@[simp] theorem modSec_live (f : Sec → Sec) (s : State) : (modSec f s).live = s.live := rfl
@[simp] theorem modSec_liveDom (f : Sec → Sec) (s : State) : (modSec f s).liveDom = s.liveDom := rfl
@[simp] theorem modSec_dev (f : Sec → Sec) (s : State) : (modSec f s).dev = s.dev := rfl
@[simp] theorem modSec_ledgers (f : Sec → Sec) (s : State) : (modSec f s).ledgers = s.ledgers := rfl
@[simp] theorem modSec_srv (f : Sec → Sec) (s : State) : (modSec f s).srv = s.srv := rfl
@[simp] theorem modSec_net (f : Sec → Sec) (s : State) : (modSec f s).net = s.net := rfl
@[simp] theorem modSec_pcie (f : Sec → Sec) (s : State) : (modSec f s).pcie = s.pcie := rfl
@[simp] theorem modSec_rings (f : Sec → Sec) (s : State) : (modSec f s).rings = s.rings := rfl
@[simp] theorem modSec_egress (f : Sec → Sec) (s : State) : (modSec f s).egress = s.egress := rfl
@[simp] theorem modSec_gal (f : Sec → Sec) (s : State) : (modSec f s).gal = s.gal := rfl
@[simp] theorem modSec_formes (f : Sec → Sec) (s : State) : (modSec f s).formes = s.formes := rfl
@[simp] theorem modSec_comp (f : Sec → Sec) (s : State) : (modSec f s).comp = s.comp := rfl
@[simp] theorem modSec_plat (f : Sec → Sec) (s : State) : (modSec f s).plat = s.plat := rfl
@[simp] theorem modSec_ports (f : Sec → Sec) (s : State) : (modSec f s).ports = s.ports := rfl
@[simp] theorem modSec_web (f : Sec → Sec) (s : State) : (modSec f s).web = s.web := rfl
@[simp] theorem modSec_time (f : Sec → Sec) (s : State) : (modSec f s).time = s.time := rfl
@[simp] theorem modSec_pace (f : Sec → Sec) (s : State) : (modSec f s).pace = s.pace := rfl
@[simp] theorem modSec_cams (f : Sec → Sec) (s : State) : (modSec f s).cams = s.cams := rfl
@[simp] theorem modSec_prf (f : Sec → Sec) (s : State) : (modSec f s).prf = s.prf := rfl
@[simp] theorem modSec_ddr (f : Sec → Sec) (s : State) : (modSec f s).ddr = s.ddr := rfl
@[simp] theorem modSec_axes (f : Sec → Sec) (s : State) : (modSec f s).axes = s.axes := rfl
@[simp] theorem modSec_boot (f : Sec → Sec) (s : State) : (modSec f s).boot = s.boot := rfl
@[simp] theorem modSec_tymp (f : Sec → Sec) (s : State) : (modSec f s).tymp = s.tymp := rfl
@[simp] theorem modSec_pwr (f : Sec → Sec) (s : State) : (modSec f s).pwr = s.pwr := rfl
@[simp] theorem modSec_clk (f : Sec → Sec) (s : State) : (modSec f s).clk = s.clk := rfl
@[simp] theorem modSec_disp (f : Sec → Sec) (s : State) : (modSec f s).disp = s.disp := rfl
@[simp] theorem modSec_pins (f : Sec → Sec) (s : State) : (modSec f s).pins = s.pins := rfl
@[simp] theorem modSec_o (f : Sec → Sec) (s : State) (j : Nat) : (modSec f s).o j = s.o j := rfl
@[simp] theorem modSec_ob (f : Sec → Sec) (s : State) (j : Nat) : (modSec f s).ob j = s.ob j := rfl
@[simp] theorem modSec_oi (f : Sec → Sec) (s : State) (j : Nat) : (modSec f s).oi j = s.oi j := rfl

/-! `modNet` -/

@[simp] theorem modNet_pending (f : Net → Net) (s : State) : (modNet f s).pending = s.pending := rfl
@[simp] theorem modNet_loc (f : Net → Net) (s : State) : (modNet f s).loc = s.loc := rfl
@[simp] theorem modNet_freeCtr (f : Net → Net) (s : State) : (modNet f s).freeCtr = s.freeCtr := rfl
@[simp] theorem modNet_od (f : Net → Net) (s : State) : (modNet f s).od = s.od := rfl
@[simp] theorem modNet_dom (f : Net → Net) (s : State) : (modNet f s).dom = s.dom := rfl
@[simp] theorem modNet_live (f : Net → Net) (s : State) : (modNet f s).live = s.live := rfl
@[simp] theorem modNet_liveDom (f : Net → Net) (s : State) : (modNet f s).liveDom = s.liveDom := rfl
@[simp] theorem modNet_dev (f : Net → Net) (s : State) : (modNet f s).dev = s.dev := rfl
@[simp] theorem modNet_ledgers (f : Net → Net) (s : State) : (modNet f s).ledgers = s.ledgers := rfl
@[simp] theorem modNet_srv (f : Net → Net) (s : State) : (modNet f s).srv = s.srv := rfl
@[simp] theorem modNet_pcie (f : Net → Net) (s : State) : (modNet f s).pcie = s.pcie := rfl
@[simp] theorem modNet_rings (f : Net → Net) (s : State) : (modNet f s).rings = s.rings := rfl
@[simp] theorem modNet_egress (f : Net → Net) (s : State) : (modNet f s).egress = s.egress := rfl
@[simp] theorem modNet_gal (f : Net → Net) (s : State) : (modNet f s).gal = s.gal := rfl
@[simp] theorem modNet_formes (f : Net → Net) (s : State) : (modNet f s).formes = s.formes := rfl
@[simp] theorem modNet_comp (f : Net → Net) (s : State) : (modNet f s).comp = s.comp := rfl
@[simp] theorem modNet_plat (f : Net → Net) (s : State) : (modNet f s).plat = s.plat := rfl
@[simp] theorem modNet_ports (f : Net → Net) (s : State) : (modNet f s).ports = s.ports := rfl
@[simp] theorem modNet_web (f : Net → Net) (s : State) : (modNet f s).web = s.web := rfl
@[simp] theorem modNet_time (f : Net → Net) (s : State) : (modNet f s).time = s.time := rfl
@[simp] theorem modNet_pace (f : Net → Net) (s : State) : (modNet f s).pace = s.pace := rfl
@[simp] theorem modNet_cams (f : Net → Net) (s : State) : (modNet f s).cams = s.cams := rfl
@[simp] theorem modNet_prf (f : Net → Net) (s : State) : (modNet f s).prf = s.prf := rfl
@[simp] theorem modNet_ddr (f : Net → Net) (s : State) : (modNet f s).ddr = s.ddr := rfl
@[simp] theorem modNet_axes (f : Net → Net) (s : State) : (modNet f s).axes = s.axes := rfl
@[simp] theorem modNet_boot (f : Net → Net) (s : State) : (modNet f s).boot = s.boot := rfl
@[simp] theorem modNet_tymp (f : Net → Net) (s : State) : (modNet f s).tymp = s.tymp := rfl
@[simp] theorem modNet_pwr (f : Net → Net) (s : State) : (modNet f s).pwr = s.pwr := rfl
@[simp] theorem modNet_clk (f : Net → Net) (s : State) : (modNet f s).clk = s.clk := rfl
@[simp] theorem modNet_sec (f : Net → Net) (s : State) : (modNet f s).sec = s.sec := rfl
@[simp] theorem modNet_disp (f : Net → Net) (s : State) : (modNet f s).disp = s.disp := rfl
@[simp] theorem modNet_pins (f : Net → Net) (s : State) : (modNet f s).pins = s.pins := rfl
@[simp] theorem modNet_o (f : Net → Net) (s : State) (j : Nat) : (modNet f s).o j = s.o j := rfl
@[simp] theorem modNet_ob (f : Net → Net) (s : State) (j : Nat) : (modNet f s).ob j = s.ob j := rfl
@[simp] theorem modNet_oi (f : Net → Net) (s : State) (j : Nat) : (modNet f s).oi j = s.oi j := rfl

/-! `modPcie` -/

@[simp] theorem modPcie_pending (f : Pcie → Pcie) (s : State) : (modPcie f s).pending = s.pending := rfl
@[simp] theorem modPcie_loc (f : Pcie → Pcie) (s : State) : (modPcie f s).loc = s.loc := rfl
@[simp] theorem modPcie_freeCtr (f : Pcie → Pcie) (s : State) : (modPcie f s).freeCtr = s.freeCtr := rfl
@[simp] theorem modPcie_od (f : Pcie → Pcie) (s : State) : (modPcie f s).od = s.od := rfl
@[simp] theorem modPcie_dom (f : Pcie → Pcie) (s : State) : (modPcie f s).dom = s.dom := rfl
@[simp] theorem modPcie_live (f : Pcie → Pcie) (s : State) : (modPcie f s).live = s.live := rfl
@[simp] theorem modPcie_liveDom (f : Pcie → Pcie) (s : State) : (modPcie f s).liveDom = s.liveDom := rfl
@[simp] theorem modPcie_dev (f : Pcie → Pcie) (s : State) : (modPcie f s).dev = s.dev := rfl
@[simp] theorem modPcie_ledgers (f : Pcie → Pcie) (s : State) : (modPcie f s).ledgers = s.ledgers := rfl
@[simp] theorem modPcie_srv (f : Pcie → Pcie) (s : State) : (modPcie f s).srv = s.srv := rfl
@[simp] theorem modPcie_net (f : Pcie → Pcie) (s : State) : (modPcie f s).net = s.net := rfl
@[simp] theorem modPcie_rings (f : Pcie → Pcie) (s : State) : (modPcie f s).rings = s.rings := rfl
@[simp] theorem modPcie_egress (f : Pcie → Pcie) (s : State) : (modPcie f s).egress = s.egress := rfl
@[simp] theorem modPcie_gal (f : Pcie → Pcie) (s : State) : (modPcie f s).gal = s.gal := rfl
@[simp] theorem modPcie_formes (f : Pcie → Pcie) (s : State) : (modPcie f s).formes = s.formes := rfl
@[simp] theorem modPcie_comp (f : Pcie → Pcie) (s : State) : (modPcie f s).comp = s.comp := rfl
@[simp] theorem modPcie_plat (f : Pcie → Pcie) (s : State) : (modPcie f s).plat = s.plat := rfl
@[simp] theorem modPcie_ports (f : Pcie → Pcie) (s : State) : (modPcie f s).ports = s.ports := rfl
@[simp] theorem modPcie_web (f : Pcie → Pcie) (s : State) : (modPcie f s).web = s.web := rfl
@[simp] theorem modPcie_time (f : Pcie → Pcie) (s : State) : (modPcie f s).time = s.time := rfl
@[simp] theorem modPcie_pace (f : Pcie → Pcie) (s : State) : (modPcie f s).pace = s.pace := rfl
@[simp] theorem modPcie_cams (f : Pcie → Pcie) (s : State) : (modPcie f s).cams = s.cams := rfl
@[simp] theorem modPcie_prf (f : Pcie → Pcie) (s : State) : (modPcie f s).prf = s.prf := rfl
@[simp] theorem modPcie_ddr (f : Pcie → Pcie) (s : State) : (modPcie f s).ddr = s.ddr := rfl
@[simp] theorem modPcie_axes (f : Pcie → Pcie) (s : State) : (modPcie f s).axes = s.axes := rfl
@[simp] theorem modPcie_boot (f : Pcie → Pcie) (s : State) : (modPcie f s).boot = s.boot := rfl
@[simp] theorem modPcie_tymp (f : Pcie → Pcie) (s : State) : (modPcie f s).tymp = s.tymp := rfl
@[simp] theorem modPcie_pwr (f : Pcie → Pcie) (s : State) : (modPcie f s).pwr = s.pwr := rfl
@[simp] theorem modPcie_clk (f : Pcie → Pcie) (s : State) : (modPcie f s).clk = s.clk := rfl
@[simp] theorem modPcie_sec (f : Pcie → Pcie) (s : State) : (modPcie f s).sec = s.sec := rfl
@[simp] theorem modPcie_disp (f : Pcie → Pcie) (s : State) : (modPcie f s).disp = s.disp := rfl
@[simp] theorem modPcie_pins (f : Pcie → Pcie) (s : State) : (modPcie f s).pins = s.pins := rfl
@[simp] theorem modPcie_o (f : Pcie → Pcie) (s : State) (j : Nat) : (modPcie f s).o j = s.o j := rfl
@[simp] theorem modPcie_ob (f : Pcie → Pcie) (s : State) (j : Nat) : (modPcie f s).ob j = s.ob j := rfl
@[simp] theorem modPcie_oi (f : Pcie → Pcie) (s : State) (j : Nat) : (modPcie f s).oi j = s.oi j := rfl

/-! What each update does to its own component. -/

@[simp] theorem modTymp_own (f : Tymp → Tymp) (s : State) : (modTymp f s).tymp = f s.tymp := rfl
@[simp] theorem modPace_own (f : Pace → Pace) (s : State) : (modPace f s).pace = f s.pace := rfl
@[simp] theorem modDisp_own (f : Disp → Disp) (s : State) : (modDisp f s).disp = f s.disp := rfl
@[simp] theorem modPwr_own (f : Pwr → Pwr) (s : State) : (modPwr f s).pwr = f s.pwr := rfl
@[simp] theorem modBoot_own (f : Boot → Boot) (s : State) : (modBoot f s).boot = f s.boot := rfl
@[simp] theorem modSec_own (f : Sec → Sec) (s : State) : (modSec f s).sec = f s.sec := rfl
@[simp] theorem modNet_own (f : Net → Net) (s : State) : (modNet f s).net = f s.net := rfl
@[simp] theorem modPcie_own (f : Pcie → Pcie) (s : State) : (modPcie f s).pcie = f s.pcie := rfl
@[simp] theorem modForme_own (f : Nat) (g : Forme → Forme) (s : State) : (modForme f g s).formes = vmodN s.formes f g := rfl
@[simp] theorem modRing_own (r : Nat) (g : Ring → Ring) (s : State) : (modRing r g s).rings = vmodN s.rings r g := rfl
@[simp] theorem modPort_own (h : Nat) (g : Port → Port) (s : State) : (modPort h g s).ports = vmodN s.ports h g := rfl
@[simp] theorem modAxis_own (a : Nat) (f : Axis → Axis) (s : State) : (modAxis a f s).axes = vmodN s.axes a f := rfl
@[simp] theorem modLane_own (h : Nat) (g : Lane → Lane) (s : State) :
    (modLane h g s).comp = { s.comp with lanes := vmodN s.comp.lanes h g } := rfl
@[simp] theorem modSeqr_own (h : Nat) (g : Seqr → Seqr) (s : State) :
    (modSeqr h g s).plat = { s.plat with heads := vmodN s.plat.heads h g } := rfl
@[simp] theorem modPrf_own (p : Nat) (g : PrfLane → PrfLane) (s : State) :
    (modPrf p g s).prf = { s.prf with lanes := vmodN s.prf.lanes p g } := rfl
@[simp] theorem modChannel_own (c : Nat) (f : Channel → Channel) (s : State) :
    (modChannel c f s).ddr = { s.ddr with channels := vmodN s.ddr.channels c f } := rfl
@[simp] theorem modCam_own (p : Nat) (g : Cam → Cam) (s : State) : (modCam p g s).cams = vmodN s.cams p g := rfl

end Sys2Proof.Machine
end

