-- ==== Sys2Proof/Laws/Ops.lean ====
section
/-! SUPPORT. Laws/Ops.lean: what the shared operations leave unchanged, field by field (from their frames). -/

namespace Sys2Proof.Machine

theorem Part.same_pcie_linkUp {s t : State} (h : Part.pcie.same s t) : t.pcie.linkUp = s.pcie.linkUp := by
  have := congrArg Pcie.linkUp h; exact this
theorem Part.same_pcie_width {s t : State} (h : Part.pcie.same s t) : t.pcie.width = s.pcie.width := by
  have := congrArg Pcie.width h; exact this
theorem Part.same_pcie_speed {s t : State} (h : Part.pcie.same s t) : t.pcie.speed = s.pcie.speed := by
  have := congrArg Pcie.speed h; exact this
theorem Part.same_pcie_trained {s t : State} (h : Part.pcie.same s t) : t.pcie.trained = s.pcie.trained := by
  have := congrArg Pcie.trained h; exact this
theorem Part.same_pcie_d3hot {s t : State} (h : Part.pcie.same s t) : t.pcie.d3hot = s.pcie.d3hot := by
  have := congrArg Pcie.d3hot h; exact this
theorem Part.same_pcie_l23 {s t : State} (h : Part.pcie.same s t) : t.pcie.l23 = s.pcie.l23 := by
  have := congrArg Pcie.l23 h; exact this
theorem Part.same_pcie_perst {s t : State} (h : Part.pcie.same s t) : t.pcie.perst = s.pcie.perst := by
  have := congrArg Pcie.perst h; exact this
theorem Part.same_pcie_command {s t : State} (h : Part.pcie.same s t) : t.pcie.command = s.pcie.command := by
  have := congrArg Pcie.command h; exact this
theorem Part.same_pcie_bars {s t : State} (h : Part.pcie.same s t) : t.pcie.bars = s.pcie.bars := by
  have := congrArg Pcie.bars h; exact this
theorem Part.same_pcie_devCtl {s t : State} (h : Part.pcie.same s t) : t.pcie.devCtl = s.pcie.devCtl := by
  have := congrArg Pcie.devCtl h; exact this
theorem Part.same_pcie_devCtl2 {s t : State} (h : Part.pcie.same s t) : t.pcie.devCtl2 = s.pcie.devCtl2 := by
  have := congrArg Pcie.devCtl2 h; exact this
theorem Part.same_pcie_aer {s t : State} (h : Part.pcie.same s t) : t.pcie.aer = s.pcie.aer := by
  have := congrArg Pcie.aer h; exact this
theorem Part.same_pcie_msixCtl {s t : State} (h : Part.pcie.same s t) : t.pcie.msixCtl = s.pcie.msixCtl := by
  have := congrArg Pcie.msixCtl h; exact this
theorem Part.same_pcie_msixTable {s t : State} (h : Part.pcie.same s t) : t.pcie.msixTable = s.pcie.msixTable := by
  have := congrArg Pcie.msixTable h; exact this
theorem Part.same_pcie_winAddr {s t : State} (h : Part.pcie.same s t) : t.pcie.winAddr = s.pcie.winAddr := by
  have := congrArg Pcie.winAddr h; exact this
theorem Part.same_pcie_winLength {s t : State} (h : Part.pcie.same s t) : t.pcie.winLength = s.pcie.winLength := by
  have := congrArg Pcie.winLength h; exact this
theorem Part.same_pcie_winOffset {s t : State} (h : Part.pcie.same s t) : t.pcie.winOffset = s.pcie.winOffset := by
  have := congrArg Pcie.winOffset h; exact this
theorem Part.same_pcie_winBusy {s t : State} (h : Part.pcie.same s t) : t.pcie.winBusy = s.pcie.winBusy := by
  have := congrArg Pcie.winBusy h; exact this
theorem Part.same_pcie_winWrite {s t : State} (h : Part.pcie.same s t) : t.pcie.winWrite = s.pcie.winWrite := by
  have := congrArg Pcie.winWrite h; exact this
theorem Part.same_pcie_winLost {s t : State} (h : Part.pcie.same s t) : t.pcie.winLost = s.pcie.winLost := by
  have := congrArg Pcie.winLost h; exact this
theorem Part.same_pcie_winDone {s t : State} (h : Part.pcie.same s t) : t.pcie.winDone = s.pcie.winDone := by
  have := congrArg Pcie.winDone h; exact this
theorem Part.same_pcie_winCollision {s t : State} (h : Part.pcie.same s t) : t.pcie.winCollision = s.pcie.winCollision := by
  have := congrArg Pcie.winCollision h; exact this
theorem Part.same_pcie_winStatus {s t : State} (h : Part.pcie.same s t) : t.pcie.winStatus = s.pcie.winStatus := by
  have := congrArg Pcie.winStatus h; exact this
theorem Part.same_pcie_winBuf {s t : State} (h : Part.pcie.same s t) : t.pcie.winBuf = s.pcie.winBuf := by
  have := congrArg Pcie.winBuf h; exact this
theorem Part.same_pcie_winResult {s t : State} (h : Part.pcie.same s t) : t.pcie.winResult = s.pcie.winResult := by
  have := congrArg Pcie.winResult h; exact this
theorem Part.same_pcie_readData {s t : State} (h : Part.pcie.same s t) : t.pcie.readData = s.pcie.readData := by
  have := congrArg Pcie.readData h; exact this
theorem Part.same_pwr_state {s t : State} (h : Part.pwr.same s t) : t.pwr.state = s.pwr.state := by
  have := congrArg Pwr.state h; exact this
theorem Part.same_pwr_nextEvent {s t : State} (h : Part.pwr.same s t) : t.pwr.nextEvent = s.pwr.nextEvent := by
  have := congrArg Pwr.nextEvent h; exact this
theorem Part.same_pwr_since {s t : State} (h : Part.pwr.same s t) : t.pwr.since = s.pwr.since := by
  have := congrArg Pwr.since h; exact this
theorem Part.same_pwr_resid {s t : State} (h : Part.pwr.same s t) : t.pwr.resid = s.pwr.resid := by
  have := congrArg Pwr.resid h; exact this
theorem Part.same_pwr_tempArmed {s t : State} (h : Part.pwr.same s t) : t.pwr.tempArmed = s.pwr.tempArmed := by
  have := congrArg Pwr.tempArmed h; exact this
theorem Part.same_pwr_driftArmed {s t : State} (h : Part.pwr.same s t) : t.pwr.driftArmed = s.pwr.driftArmed := by
  have := congrArg Pwr.driftArmed h; exact this
theorem Part.same_pwr_resetWaiting {s t : State} (h : Part.pwr.same s t) : t.pwr.resetWaiting = s.pwr.resetWaiting := by
  have := congrArg Pwr.resetWaiting h; exact this
theorem Part.same_pwr_restartWaiting {s t : State} (h : Part.pwr.same s t) : t.pwr.restartWaiting = s.pwr.restartWaiting := by
  have := congrArg Pwr.restartWaiting h; exact this

theorem Ddr.eq_of_parts {s t : State} (h : Part.ddr.same s t) (h' : Part.mem.same s t) : t.ddr = s.ddr := by
  simp only [Part.same] at h h'
  generalize t.ddr = x at h h' ⊢; cases x
  generalize s.ddr = y at h h' ⊢; cases y
  simp_all

theorem Keeps.o_all {m : Nat} {s t : State} (a : Keeps m s t) (h : m < 2 ^ 38) (k : Nat) : t.o k = s.o k := by
  refine a.2 k fun f hf => ?_
  have : m < 2 ^ (Place.objects f).num := Nat.lt_of_lt_of_le h (Nat.pow_le_pow_right (by decide) (by show 38 ≤ 38 + _; omega))
  rw [Nat.testBit_lt_two_pow this] at hf; cases hf

theorem not_event_bits {k : Nat} (h : k ∉ eventKeys) : ¬ Fam.EVENT_BITS.has k := by
  rintro ⟨n, rfl⟩
  have : n % 2 = 0 ∨ n % 2 = 1 := by omega
  simp only [eventKeys, OD.EVENT_BITS, List.mem_cons, not_or] at h
  rcases this with e | e <;> rw [e] at h
  · exact h.1 rfl
  · exact h.2.1 rfl

/-! `raise` -/

@[simp] theorem raise_pending (ev param : Nat) (s : State) : (raise ev param s).pending = s.pending := (raise_fr ev param s).1 .queue rfl
@[simp] theorem raise_loc (ev param : Nat) (s : State) : (raise ev param s).loc = s.loc := (raise_fr ev param s).1 .loc rfl
@[simp] theorem raise_freeCtr (ev param : Nat) (s : State) : (raise ev param s).freeCtr = s.freeCtr := (raise_fr ev param s).1 .free rfl
@[simp] theorem raise_dom (ev param : Nat) (s : State) : (raise ev param s).dom = s.dom := (raise_fr ev param s).1 .dom rfl
@[simp] theorem raise_live (ev param : Nat) (s : State) : (raise ev param s).live = s.live := (raise_fr ev param s).1 .live rfl
@[simp] theorem raise_liveDom (ev param : Nat) (s : State) : (raise ev param s).liveDom = s.liveDom := (raise_fr ev param s).1 .liveDom rfl
@[simp] theorem raise_ledgers (ev param : Nat) (s : State) : (raise ev param s).ledgers = s.ledgers := (raise_fr ev param s).1 .ledgers rfl
@[simp] theorem raise_srv (ev param : Nat) (s : State) : (raise ev param s).srv = s.srv := (raise_fr ev param s).1 .srv rfl
@[simp] theorem raise_net (ev param : Nat) (s : State) : (raise ev param s).net = s.net := (raise_fr ev param s).1 .net rfl
@[simp] theorem raise_rings (ev param : Nat) (s : State) : (raise ev param s).rings = s.rings := (raise_fr ev param s).1 .rings rfl
@[simp] theorem raise_gal (ev param : Nat) (s : State) : (raise ev param s).gal = s.gal := (raise_fr ev param s).1 .gal rfl
@[simp] theorem raise_formes (ev param : Nat) (s : State) : (raise ev param s).formes = s.formes := (raise_fr ev param s).1 .formes rfl
@[simp] theorem raise_comp (ev param : Nat) (s : State) : (raise ev param s).comp = s.comp := (raise_fr ev param s).1 .comp rfl
@[simp] theorem raise_plat (ev param : Nat) (s : State) : (raise ev param s).plat = s.plat := (raise_fr ev param s).1 .plat rfl
@[simp] theorem raise_ports (ev param : Nat) (s : State) : (raise ev param s).ports = s.ports := (raise_fr ev param s).1 .ports rfl
@[simp] theorem raise_web (ev param : Nat) (s : State) : (raise ev param s).web = s.web := (raise_fr ev param s).1 .web rfl
@[simp] theorem raise_time (ev param : Nat) (s : State) : (raise ev param s).time = s.time := (raise_fr ev param s).1 .time rfl
@[simp] theorem raise_pace (ev param : Nat) (s : State) : (raise ev param s).pace = s.pace := (raise_fr ev param s).1 .pace rfl
@[simp] theorem raise_cams (ev param : Nat) (s : State) : (raise ev param s).cams = s.cams := (raise_fr ev param s).1 .cams rfl
@[simp] theorem raise_prf (ev param : Nat) (s : State) : (raise ev param s).prf = s.prf := (raise_fr ev param s).1 .prf rfl
@[simp] theorem raise_axes (ev param : Nat) (s : State) : (raise ev param s).axes = s.axes := (raise_fr ev param s).1 .axes rfl
@[simp] theorem raise_boot (ev param : Nat) (s : State) : (raise ev param s).boot = s.boot := (raise_fr ev param s).1 .boot rfl
@[simp] theorem raise_clk (ev param : Nat) (s : State) : (raise ev param s).clk = s.clk := (raise_fr ev param s).1 .clk rfl
@[simp] theorem raise_sec (ev param : Nat) (s : State) : (raise ev param s).sec = s.sec := (raise_fr ev param s).1 .sec rfl
@[simp] theorem raise_disp (ev param : Nat) (s : State) : (raise ev param s).disp = s.disp := (raise_fr ev param s).1 .disp rfl
@[simp] theorem raise_pins (ev param : Nat) (s : State) : (raise ev param s).pins = s.pins := (raise_fr ev param s).1 .pins rfl
@[simp] theorem raise_dev_ledgerHalt (ev param : Nat) (s : State) : (raise ev param s).dev.ledgerHalt = s.dev.ledgerHalt := ((raise_fr ev param s).1 .dev rfl).1
@[simp] theorem raise_dev_offFired (ev param : Nat) (s : State) : (raise ev param s).dev.offFired = s.dev.offFired := ((raise_fr ev param s).1 .dev rfl).2
@[simp] theorem raise_pcie_linkUp (ev param : Nat) (s : State) : (raise ev param s).pcie.linkUp = s.pcie.linkUp := Part.same_pcie_linkUp ((raise_fr ev param s).1 .pcie rfl)
@[simp] theorem raise_pcie_width (ev param : Nat) (s : State) : (raise ev param s).pcie.width = s.pcie.width := Part.same_pcie_width ((raise_fr ev param s).1 .pcie rfl)
@[simp] theorem raise_pcie_speed (ev param : Nat) (s : State) : (raise ev param s).pcie.speed = s.pcie.speed := Part.same_pcie_speed ((raise_fr ev param s).1 .pcie rfl)
@[simp] theorem raise_pcie_trained (ev param : Nat) (s : State) : (raise ev param s).pcie.trained = s.pcie.trained := Part.same_pcie_trained ((raise_fr ev param s).1 .pcie rfl)
@[simp] theorem raise_pcie_d3hot (ev param : Nat) (s : State) : (raise ev param s).pcie.d3hot = s.pcie.d3hot := Part.same_pcie_d3hot ((raise_fr ev param s).1 .pcie rfl)
@[simp] theorem raise_pcie_l23 (ev param : Nat) (s : State) : (raise ev param s).pcie.l23 = s.pcie.l23 := Part.same_pcie_l23 ((raise_fr ev param s).1 .pcie rfl)
@[simp] theorem raise_pcie_perst (ev param : Nat) (s : State) : (raise ev param s).pcie.perst = s.pcie.perst := Part.same_pcie_perst ((raise_fr ev param s).1 .pcie rfl)
@[simp] theorem raise_pcie_command (ev param : Nat) (s : State) : (raise ev param s).pcie.command = s.pcie.command := Part.same_pcie_command ((raise_fr ev param s).1 .pcie rfl)
@[simp] theorem raise_pcie_bars (ev param : Nat) (s : State) : (raise ev param s).pcie.bars = s.pcie.bars := Part.same_pcie_bars ((raise_fr ev param s).1 .pcie rfl)
@[simp] theorem raise_pcie_devCtl (ev param : Nat) (s : State) : (raise ev param s).pcie.devCtl = s.pcie.devCtl := Part.same_pcie_devCtl ((raise_fr ev param s).1 .pcie rfl)
@[simp] theorem raise_pcie_devCtl2 (ev param : Nat) (s : State) : (raise ev param s).pcie.devCtl2 = s.pcie.devCtl2 := Part.same_pcie_devCtl2 ((raise_fr ev param s).1 .pcie rfl)
@[simp] theorem raise_pcie_aer (ev param : Nat) (s : State) : (raise ev param s).pcie.aer = s.pcie.aer := Part.same_pcie_aer ((raise_fr ev param s).1 .pcie rfl)
@[simp] theorem raise_pcie_msixCtl (ev param : Nat) (s : State) : (raise ev param s).pcie.msixCtl = s.pcie.msixCtl := Part.same_pcie_msixCtl ((raise_fr ev param s).1 .pcie rfl)
@[simp] theorem raise_pcie_msixTable (ev param : Nat) (s : State) : (raise ev param s).pcie.msixTable = s.pcie.msixTable := Part.same_pcie_msixTable ((raise_fr ev param s).1 .pcie rfl)
@[simp] theorem raise_pcie_winAddr (ev param : Nat) (s : State) : (raise ev param s).pcie.winAddr = s.pcie.winAddr := Part.same_pcie_winAddr ((raise_fr ev param s).1 .pcie rfl)
@[simp] theorem raise_pcie_winLength (ev param : Nat) (s : State) : (raise ev param s).pcie.winLength = s.pcie.winLength := Part.same_pcie_winLength ((raise_fr ev param s).1 .pcie rfl)
@[simp] theorem raise_pcie_winOffset (ev param : Nat) (s : State) : (raise ev param s).pcie.winOffset = s.pcie.winOffset := Part.same_pcie_winOffset ((raise_fr ev param s).1 .pcie rfl)
@[simp] theorem raise_pcie_winBusy (ev param : Nat) (s : State) : (raise ev param s).pcie.winBusy = s.pcie.winBusy := Part.same_pcie_winBusy ((raise_fr ev param s).1 .pcie rfl)
@[simp] theorem raise_pcie_winWrite (ev param : Nat) (s : State) : (raise ev param s).pcie.winWrite = s.pcie.winWrite := Part.same_pcie_winWrite ((raise_fr ev param s).1 .pcie rfl)
@[simp] theorem raise_pcie_winLost (ev param : Nat) (s : State) : (raise ev param s).pcie.winLost = s.pcie.winLost := Part.same_pcie_winLost ((raise_fr ev param s).1 .pcie rfl)
@[simp] theorem raise_pcie_winDone (ev param : Nat) (s : State) : (raise ev param s).pcie.winDone = s.pcie.winDone := Part.same_pcie_winDone ((raise_fr ev param s).1 .pcie rfl)
@[simp] theorem raise_pcie_winCollision (ev param : Nat) (s : State) : (raise ev param s).pcie.winCollision = s.pcie.winCollision := Part.same_pcie_winCollision ((raise_fr ev param s).1 .pcie rfl)
@[simp] theorem raise_pcie_winStatus (ev param : Nat) (s : State) : (raise ev param s).pcie.winStatus = s.pcie.winStatus := Part.same_pcie_winStatus ((raise_fr ev param s).1 .pcie rfl)
@[simp] theorem raise_pcie_winBuf (ev param : Nat) (s : State) : (raise ev param s).pcie.winBuf = s.pcie.winBuf := Part.same_pcie_winBuf ((raise_fr ev param s).1 .pcie rfl)
@[simp] theorem raise_pcie_winResult (ev param : Nat) (s : State) : (raise ev param s).pcie.winResult = s.pcie.winResult := Part.same_pcie_winResult ((raise_fr ev param s).1 .pcie rfl)
@[simp] theorem raise_pcie_readData (ev param : Nat) (s : State) : (raise ev param s).pcie.readData = s.pcie.readData := Part.same_pcie_readData ((raise_fr ev param s).1 .pcie rfl)
@[simp] theorem raise_pcie_hostAccess (ev param : Nat) (s : State) : (raise ev param s).pcie.hostAccess = s.pcie.hostAccess := (raise_fr ev param s).1 .hostWrites rfl
@[simp] theorem raise_pwr_state (ev param : Nat) (s : State) : (raise ev param s).pwr.state = s.pwr.state := Part.same_pwr_state ((raise_fr ev param s).1 .pwr rfl)
@[simp] theorem raise_pwr_nextEvent (ev param : Nat) (s : State) : (raise ev param s).pwr.nextEvent = s.pwr.nextEvent := Part.same_pwr_nextEvent ((raise_fr ev param s).1 .pwr rfl)
@[simp] theorem raise_pwr_since (ev param : Nat) (s : State) : (raise ev param s).pwr.since = s.pwr.since := Part.same_pwr_since ((raise_fr ev param s).1 .pwr rfl)
@[simp] theorem raise_pwr_resid (ev param : Nat) (s : State) : (raise ev param s).pwr.resid = s.pwr.resid := Part.same_pwr_resid ((raise_fr ev param s).1 .pwr rfl)
@[simp] theorem raise_pwr_tempArmed (ev param : Nat) (s : State) : (raise ev param s).pwr.tempArmed = s.pwr.tempArmed := Part.same_pwr_tempArmed ((raise_fr ev param s).1 .pwr rfl)
@[simp] theorem raise_pwr_driftArmed (ev param : Nat) (s : State) : (raise ev param s).pwr.driftArmed = s.pwr.driftArmed := Part.same_pwr_driftArmed ((raise_fr ev param s).1 .pwr rfl)
@[simp] theorem raise_pwr_resetWaiting (ev param : Nat) (s : State) : (raise ev param s).pwr.resetWaiting = s.pwr.resetWaiting := Part.same_pwr_resetWaiting ((raise_fr ev param s).1 .pwr rfl)
@[simp] theorem raise_pwr_restartWaiting (ev param : Nat) (s : State) : (raise ev param s).pwr.restartWaiting = s.pwr.restartWaiting := Part.same_pwr_restartWaiting ((raise_fr ev param s).1 .pwr rfl)
@[simp] theorem raise_ddr_mem (ev param : Nat) (s : State) : (raise ev param s).ddr.mem = s.ddr.mem := (raise_fr ev param s).1 .mem rfl
@[simp] theorem raise_ddr (ev param : Nat) (s : State) : (raise ev param s).ddr = s.ddr := Ddr.eq_of_parts ((raise_fr ev param s).1 .ddr rfl) ((raise_fr ev param s).1 .mem rfl)
theorem raise_o (ev param : Nat) (s : State) {k : Nat} (hk : k ∉ eventKeys) : (raise ev param s).o k = s.o k := by
  refine (raise_fr ev param s).2 k fun f hf => ?_
  cases f with
  | EVENT_BITS => exact not_event_bits hk
  | EVENT_LOG_DROPPED => intro e; subst e; exact hk (by decide)
  | TRACE_DROPPED => intro e; subst e; exact hk (by decide)
  | _ => exact absurd hf (by decide)

/-! `raiseX` -/

@[simp] theorem raiseX_pending (ev param x10 x18 x20 : Nat) (s : State) : (raiseX ev param x10 x18 x20 s).pending = s.pending := (raiseX_fr ev param x10 x18 x20 s).1 .queue rfl
@[simp] theorem raiseX_loc (ev param x10 x18 x20 : Nat) (s : State) : (raiseX ev param x10 x18 x20 s).loc = s.loc := (raiseX_fr ev param x10 x18 x20 s).1 .loc rfl
@[simp] theorem raiseX_freeCtr (ev param x10 x18 x20 : Nat) (s : State) : (raiseX ev param x10 x18 x20 s).freeCtr = s.freeCtr := (raiseX_fr ev param x10 x18 x20 s).1 .free rfl
@[simp] theorem raiseX_dom (ev param x10 x18 x20 : Nat) (s : State) : (raiseX ev param x10 x18 x20 s).dom = s.dom := (raiseX_fr ev param x10 x18 x20 s).1 .dom rfl
@[simp] theorem raiseX_live (ev param x10 x18 x20 : Nat) (s : State) : (raiseX ev param x10 x18 x20 s).live = s.live := (raiseX_fr ev param x10 x18 x20 s).1 .live rfl
@[simp] theorem raiseX_liveDom (ev param x10 x18 x20 : Nat) (s : State) : (raiseX ev param x10 x18 x20 s).liveDom = s.liveDom := (raiseX_fr ev param x10 x18 x20 s).1 .liveDom rfl
@[simp] theorem raiseX_ledgers (ev param x10 x18 x20 : Nat) (s : State) : (raiseX ev param x10 x18 x20 s).ledgers = s.ledgers := (raiseX_fr ev param x10 x18 x20 s).1 .ledgers rfl
@[simp] theorem raiseX_srv (ev param x10 x18 x20 : Nat) (s : State) : (raiseX ev param x10 x18 x20 s).srv = s.srv := (raiseX_fr ev param x10 x18 x20 s).1 .srv rfl
@[simp] theorem raiseX_net (ev param x10 x18 x20 : Nat) (s : State) : (raiseX ev param x10 x18 x20 s).net = s.net := (raiseX_fr ev param x10 x18 x20 s).1 .net rfl
@[simp] theorem raiseX_rings (ev param x10 x18 x20 : Nat) (s : State) : (raiseX ev param x10 x18 x20 s).rings = s.rings := (raiseX_fr ev param x10 x18 x20 s).1 .rings rfl
@[simp] theorem raiseX_gal (ev param x10 x18 x20 : Nat) (s : State) : (raiseX ev param x10 x18 x20 s).gal = s.gal := (raiseX_fr ev param x10 x18 x20 s).1 .gal rfl
@[simp] theorem raiseX_formes (ev param x10 x18 x20 : Nat) (s : State) : (raiseX ev param x10 x18 x20 s).formes = s.formes := (raiseX_fr ev param x10 x18 x20 s).1 .formes rfl
@[simp] theorem raiseX_comp (ev param x10 x18 x20 : Nat) (s : State) : (raiseX ev param x10 x18 x20 s).comp = s.comp := (raiseX_fr ev param x10 x18 x20 s).1 .comp rfl
@[simp] theorem raiseX_plat (ev param x10 x18 x20 : Nat) (s : State) : (raiseX ev param x10 x18 x20 s).plat = s.plat := (raiseX_fr ev param x10 x18 x20 s).1 .plat rfl
@[simp] theorem raiseX_ports (ev param x10 x18 x20 : Nat) (s : State) : (raiseX ev param x10 x18 x20 s).ports = s.ports := (raiseX_fr ev param x10 x18 x20 s).1 .ports rfl
@[simp] theorem raiseX_web (ev param x10 x18 x20 : Nat) (s : State) : (raiseX ev param x10 x18 x20 s).web = s.web := (raiseX_fr ev param x10 x18 x20 s).1 .web rfl
@[simp] theorem raiseX_time (ev param x10 x18 x20 : Nat) (s : State) : (raiseX ev param x10 x18 x20 s).time = s.time := (raiseX_fr ev param x10 x18 x20 s).1 .time rfl
@[simp] theorem raiseX_pace (ev param x10 x18 x20 : Nat) (s : State) : (raiseX ev param x10 x18 x20 s).pace = s.pace := (raiseX_fr ev param x10 x18 x20 s).1 .pace rfl
@[simp] theorem raiseX_cams (ev param x10 x18 x20 : Nat) (s : State) : (raiseX ev param x10 x18 x20 s).cams = s.cams := (raiseX_fr ev param x10 x18 x20 s).1 .cams rfl
@[simp] theorem raiseX_prf (ev param x10 x18 x20 : Nat) (s : State) : (raiseX ev param x10 x18 x20 s).prf = s.prf := (raiseX_fr ev param x10 x18 x20 s).1 .prf rfl
@[simp] theorem raiseX_axes (ev param x10 x18 x20 : Nat) (s : State) : (raiseX ev param x10 x18 x20 s).axes = s.axes := (raiseX_fr ev param x10 x18 x20 s).1 .axes rfl
@[simp] theorem raiseX_boot (ev param x10 x18 x20 : Nat) (s : State) : (raiseX ev param x10 x18 x20 s).boot = s.boot := (raiseX_fr ev param x10 x18 x20 s).1 .boot rfl
@[simp] theorem raiseX_clk (ev param x10 x18 x20 : Nat) (s : State) : (raiseX ev param x10 x18 x20 s).clk = s.clk := (raiseX_fr ev param x10 x18 x20 s).1 .clk rfl
@[simp] theorem raiseX_sec (ev param x10 x18 x20 : Nat) (s : State) : (raiseX ev param x10 x18 x20 s).sec = s.sec := (raiseX_fr ev param x10 x18 x20 s).1 .sec rfl
@[simp] theorem raiseX_disp (ev param x10 x18 x20 : Nat) (s : State) : (raiseX ev param x10 x18 x20 s).disp = s.disp := (raiseX_fr ev param x10 x18 x20 s).1 .disp rfl
@[simp] theorem raiseX_pins (ev param x10 x18 x20 : Nat) (s : State) : (raiseX ev param x10 x18 x20 s).pins = s.pins := (raiseX_fr ev param x10 x18 x20 s).1 .pins rfl
@[simp] theorem raiseX_dev_ledgerHalt (ev param x10 x18 x20 : Nat) (s : State) : (raiseX ev param x10 x18 x20 s).dev.ledgerHalt = s.dev.ledgerHalt := ((raiseX_fr ev param x10 x18 x20 s).1 .dev rfl).1
@[simp] theorem raiseX_dev_offFired (ev param x10 x18 x20 : Nat) (s : State) : (raiseX ev param x10 x18 x20 s).dev.offFired = s.dev.offFired := ((raiseX_fr ev param x10 x18 x20 s).1 .dev rfl).2
@[simp] theorem raiseX_pcie_linkUp (ev param x10 x18 x20 : Nat) (s : State) : (raiseX ev param x10 x18 x20 s).pcie.linkUp = s.pcie.linkUp := Part.same_pcie_linkUp ((raiseX_fr ev param x10 x18 x20 s).1 .pcie rfl)
@[simp] theorem raiseX_pcie_width (ev param x10 x18 x20 : Nat) (s : State) : (raiseX ev param x10 x18 x20 s).pcie.width = s.pcie.width := Part.same_pcie_width ((raiseX_fr ev param x10 x18 x20 s).1 .pcie rfl)
@[simp] theorem raiseX_pcie_speed (ev param x10 x18 x20 : Nat) (s : State) : (raiseX ev param x10 x18 x20 s).pcie.speed = s.pcie.speed := Part.same_pcie_speed ((raiseX_fr ev param x10 x18 x20 s).1 .pcie rfl)
@[simp] theorem raiseX_pcie_trained (ev param x10 x18 x20 : Nat) (s : State) : (raiseX ev param x10 x18 x20 s).pcie.trained = s.pcie.trained := Part.same_pcie_trained ((raiseX_fr ev param x10 x18 x20 s).1 .pcie rfl)
@[simp] theorem raiseX_pcie_d3hot (ev param x10 x18 x20 : Nat) (s : State) : (raiseX ev param x10 x18 x20 s).pcie.d3hot = s.pcie.d3hot := Part.same_pcie_d3hot ((raiseX_fr ev param x10 x18 x20 s).1 .pcie rfl)
@[simp] theorem raiseX_pcie_l23 (ev param x10 x18 x20 : Nat) (s : State) : (raiseX ev param x10 x18 x20 s).pcie.l23 = s.pcie.l23 := Part.same_pcie_l23 ((raiseX_fr ev param x10 x18 x20 s).1 .pcie rfl)
@[simp] theorem raiseX_pcie_perst (ev param x10 x18 x20 : Nat) (s : State) : (raiseX ev param x10 x18 x20 s).pcie.perst = s.pcie.perst := Part.same_pcie_perst ((raiseX_fr ev param x10 x18 x20 s).1 .pcie rfl)
@[simp] theorem raiseX_pcie_command (ev param x10 x18 x20 : Nat) (s : State) : (raiseX ev param x10 x18 x20 s).pcie.command = s.pcie.command := Part.same_pcie_command ((raiseX_fr ev param x10 x18 x20 s).1 .pcie rfl)
@[simp] theorem raiseX_pcie_bars (ev param x10 x18 x20 : Nat) (s : State) : (raiseX ev param x10 x18 x20 s).pcie.bars = s.pcie.bars := Part.same_pcie_bars ((raiseX_fr ev param x10 x18 x20 s).1 .pcie rfl)
@[simp] theorem raiseX_pcie_devCtl (ev param x10 x18 x20 : Nat) (s : State) : (raiseX ev param x10 x18 x20 s).pcie.devCtl = s.pcie.devCtl := Part.same_pcie_devCtl ((raiseX_fr ev param x10 x18 x20 s).1 .pcie rfl)
@[simp] theorem raiseX_pcie_devCtl2 (ev param x10 x18 x20 : Nat) (s : State) : (raiseX ev param x10 x18 x20 s).pcie.devCtl2 = s.pcie.devCtl2 := Part.same_pcie_devCtl2 ((raiseX_fr ev param x10 x18 x20 s).1 .pcie rfl)
@[simp] theorem raiseX_pcie_aer (ev param x10 x18 x20 : Nat) (s : State) : (raiseX ev param x10 x18 x20 s).pcie.aer = s.pcie.aer := Part.same_pcie_aer ((raiseX_fr ev param x10 x18 x20 s).1 .pcie rfl)
@[simp] theorem raiseX_pcie_msixCtl (ev param x10 x18 x20 : Nat) (s : State) : (raiseX ev param x10 x18 x20 s).pcie.msixCtl = s.pcie.msixCtl := Part.same_pcie_msixCtl ((raiseX_fr ev param x10 x18 x20 s).1 .pcie rfl)
@[simp] theorem raiseX_pcie_msixTable (ev param x10 x18 x20 : Nat) (s : State) : (raiseX ev param x10 x18 x20 s).pcie.msixTable = s.pcie.msixTable := Part.same_pcie_msixTable ((raiseX_fr ev param x10 x18 x20 s).1 .pcie rfl)
@[simp] theorem raiseX_pcie_winAddr (ev param x10 x18 x20 : Nat) (s : State) : (raiseX ev param x10 x18 x20 s).pcie.winAddr = s.pcie.winAddr := Part.same_pcie_winAddr ((raiseX_fr ev param x10 x18 x20 s).1 .pcie rfl)
@[simp] theorem raiseX_pcie_winLength (ev param x10 x18 x20 : Nat) (s : State) : (raiseX ev param x10 x18 x20 s).pcie.winLength = s.pcie.winLength := Part.same_pcie_winLength ((raiseX_fr ev param x10 x18 x20 s).1 .pcie rfl)
@[simp] theorem raiseX_pcie_winOffset (ev param x10 x18 x20 : Nat) (s : State) : (raiseX ev param x10 x18 x20 s).pcie.winOffset = s.pcie.winOffset := Part.same_pcie_winOffset ((raiseX_fr ev param x10 x18 x20 s).1 .pcie rfl)
@[simp] theorem raiseX_pcie_winBusy (ev param x10 x18 x20 : Nat) (s : State) : (raiseX ev param x10 x18 x20 s).pcie.winBusy = s.pcie.winBusy := Part.same_pcie_winBusy ((raiseX_fr ev param x10 x18 x20 s).1 .pcie rfl)
@[simp] theorem raiseX_pcie_winWrite (ev param x10 x18 x20 : Nat) (s : State) : (raiseX ev param x10 x18 x20 s).pcie.winWrite = s.pcie.winWrite := Part.same_pcie_winWrite ((raiseX_fr ev param x10 x18 x20 s).1 .pcie rfl)
@[simp] theorem raiseX_pcie_winLost (ev param x10 x18 x20 : Nat) (s : State) : (raiseX ev param x10 x18 x20 s).pcie.winLost = s.pcie.winLost := Part.same_pcie_winLost ((raiseX_fr ev param x10 x18 x20 s).1 .pcie rfl)
@[simp] theorem raiseX_pcie_winDone (ev param x10 x18 x20 : Nat) (s : State) : (raiseX ev param x10 x18 x20 s).pcie.winDone = s.pcie.winDone := Part.same_pcie_winDone ((raiseX_fr ev param x10 x18 x20 s).1 .pcie rfl)
@[simp] theorem raiseX_pcie_winCollision (ev param x10 x18 x20 : Nat) (s : State) : (raiseX ev param x10 x18 x20 s).pcie.winCollision = s.pcie.winCollision := Part.same_pcie_winCollision ((raiseX_fr ev param x10 x18 x20 s).1 .pcie rfl)
@[simp] theorem raiseX_pcie_winStatus (ev param x10 x18 x20 : Nat) (s : State) : (raiseX ev param x10 x18 x20 s).pcie.winStatus = s.pcie.winStatus := Part.same_pcie_winStatus ((raiseX_fr ev param x10 x18 x20 s).1 .pcie rfl)
@[simp] theorem raiseX_pcie_winBuf (ev param x10 x18 x20 : Nat) (s : State) : (raiseX ev param x10 x18 x20 s).pcie.winBuf = s.pcie.winBuf := Part.same_pcie_winBuf ((raiseX_fr ev param x10 x18 x20 s).1 .pcie rfl)
@[simp] theorem raiseX_pcie_winResult (ev param x10 x18 x20 : Nat) (s : State) : (raiseX ev param x10 x18 x20 s).pcie.winResult = s.pcie.winResult := Part.same_pcie_winResult ((raiseX_fr ev param x10 x18 x20 s).1 .pcie rfl)
@[simp] theorem raiseX_pcie_readData (ev param x10 x18 x20 : Nat) (s : State) : (raiseX ev param x10 x18 x20 s).pcie.readData = s.pcie.readData := Part.same_pcie_readData ((raiseX_fr ev param x10 x18 x20 s).1 .pcie rfl)
@[simp] theorem raiseX_pcie_hostAccess (ev param x10 x18 x20 : Nat) (s : State) : (raiseX ev param x10 x18 x20 s).pcie.hostAccess = s.pcie.hostAccess := (raiseX_fr ev param x10 x18 x20 s).1 .hostWrites rfl
@[simp] theorem raiseX_pwr_state (ev param x10 x18 x20 : Nat) (s : State) : (raiseX ev param x10 x18 x20 s).pwr.state = s.pwr.state := Part.same_pwr_state ((raiseX_fr ev param x10 x18 x20 s).1 .pwr rfl)
@[simp] theorem raiseX_pwr_nextEvent (ev param x10 x18 x20 : Nat) (s : State) : (raiseX ev param x10 x18 x20 s).pwr.nextEvent = s.pwr.nextEvent := Part.same_pwr_nextEvent ((raiseX_fr ev param x10 x18 x20 s).1 .pwr rfl)
@[simp] theorem raiseX_pwr_since (ev param x10 x18 x20 : Nat) (s : State) : (raiseX ev param x10 x18 x20 s).pwr.since = s.pwr.since := Part.same_pwr_since ((raiseX_fr ev param x10 x18 x20 s).1 .pwr rfl)
@[simp] theorem raiseX_pwr_resid (ev param x10 x18 x20 : Nat) (s : State) : (raiseX ev param x10 x18 x20 s).pwr.resid = s.pwr.resid := Part.same_pwr_resid ((raiseX_fr ev param x10 x18 x20 s).1 .pwr rfl)
@[simp] theorem raiseX_pwr_tempArmed (ev param x10 x18 x20 : Nat) (s : State) : (raiseX ev param x10 x18 x20 s).pwr.tempArmed = s.pwr.tempArmed := Part.same_pwr_tempArmed ((raiseX_fr ev param x10 x18 x20 s).1 .pwr rfl)
@[simp] theorem raiseX_pwr_driftArmed (ev param x10 x18 x20 : Nat) (s : State) : (raiseX ev param x10 x18 x20 s).pwr.driftArmed = s.pwr.driftArmed := Part.same_pwr_driftArmed ((raiseX_fr ev param x10 x18 x20 s).1 .pwr rfl)
@[simp] theorem raiseX_pwr_resetWaiting (ev param x10 x18 x20 : Nat) (s : State) : (raiseX ev param x10 x18 x20 s).pwr.resetWaiting = s.pwr.resetWaiting := Part.same_pwr_resetWaiting ((raiseX_fr ev param x10 x18 x20 s).1 .pwr rfl)
@[simp] theorem raiseX_pwr_restartWaiting (ev param x10 x18 x20 : Nat) (s : State) : (raiseX ev param x10 x18 x20 s).pwr.restartWaiting = s.pwr.restartWaiting := Part.same_pwr_restartWaiting ((raiseX_fr ev param x10 x18 x20 s).1 .pwr rfl)
@[simp] theorem raiseX_ddr_mem (ev param x10 x18 x20 : Nat) (s : State) : (raiseX ev param x10 x18 x20 s).ddr.mem = s.ddr.mem := (raiseX_fr ev param x10 x18 x20 s).1 .mem rfl
@[simp] theorem raiseX_ddr (ev param x10 x18 x20 : Nat) (s : State) : (raiseX ev param x10 x18 x20 s).ddr = s.ddr := Ddr.eq_of_parts ((raiseX_fr ev param x10 x18 x20 s).1 .ddr rfl) ((raiseX_fr ev param x10 x18 x20 s).1 .mem rfl)
theorem raiseX_o (ev param x10 x18 x20 : Nat) (s : State) {k : Nat} (hk : k ∉ eventKeys) : (raiseX ev param x10 x18 x20 s).o k = s.o k := by
  refine (raiseX_fr ev param x10 x18 x20 s).2 k fun f hf => ?_
  cases f with
  | EVENT_BITS => exact not_event_bits hk
  | EVENT_LOG_DROPPED => intro e; subst e; exact hk (by decide)
  | TRACE_DROPPED => intro e; subst e; exact hk (by decide)
  | _ => exact absurd hf (by decide)

/-! `demandWake` -/

@[simp] theorem demandWake_pending (s : State) : (demandWake s).pending = s.pending := (demandWake_fr s).1 .queue rfl
@[simp] theorem demandWake_loc (s : State) : (demandWake s).loc = s.loc := (demandWake_fr s).1 .loc rfl
@[simp] theorem demandWake_freeCtr (s : State) : (demandWake s).freeCtr = s.freeCtr := (demandWake_fr s).1 .free rfl
@[simp] theorem demandWake_dom (s : State) : (demandWake s).dom = s.dom := (demandWake_fr s).1 .dom rfl
@[simp] theorem demandWake_live (s : State) : (demandWake s).live = s.live := (demandWake_fr s).1 .live rfl
@[simp] theorem demandWake_liveDom (s : State) : (demandWake s).liveDom = s.liveDom := (demandWake_fr s).1 .liveDom rfl
@[simp] theorem demandWake_ledgers (s : State) : (demandWake s).ledgers = s.ledgers := (demandWake_fr s).1 .ledgers rfl
@[simp] theorem demandWake_srv (s : State) : (demandWake s).srv = s.srv := (demandWake_fr s).1 .srv rfl
@[simp] theorem demandWake_net (s : State) : (demandWake s).net = s.net := (demandWake_fr s).1 .net rfl
@[simp] theorem demandWake_rings (s : State) : (demandWake s).rings = s.rings := (demandWake_fr s).1 .rings rfl
@[simp] theorem demandWake_gal (s : State) : (demandWake s).gal = s.gal := (demandWake_fr s).1 .gal rfl
@[simp] theorem demandWake_formes (s : State) : (demandWake s).formes = s.formes := (demandWake_fr s).1 .formes rfl
@[simp] theorem demandWake_comp (s : State) : (demandWake s).comp = s.comp := (demandWake_fr s).1 .comp rfl
@[simp] theorem demandWake_plat (s : State) : (demandWake s).plat = s.plat := (demandWake_fr s).1 .plat rfl
@[simp] theorem demandWake_ports (s : State) : (demandWake s).ports = s.ports := (demandWake_fr s).1 .ports rfl
@[simp] theorem demandWake_web (s : State) : (demandWake s).web = s.web := (demandWake_fr s).1 .web rfl
@[simp] theorem demandWake_time (s : State) : (demandWake s).time = s.time := (demandWake_fr s).1 .time rfl
@[simp] theorem demandWake_pace (s : State) : (demandWake s).pace = s.pace := (demandWake_fr s).1 .pace rfl
@[simp] theorem demandWake_cams (s : State) : (demandWake s).cams = s.cams := (demandWake_fr s).1 .cams rfl
@[simp] theorem demandWake_prf (s : State) : (demandWake s).prf = s.prf := (demandWake_fr s).1 .prf rfl
@[simp] theorem demandWake_axes (s : State) : (demandWake s).axes = s.axes := (demandWake_fr s).1 .axes rfl
@[simp] theorem demandWake_boot (s : State) : (demandWake s).boot = s.boot := (demandWake_fr s).1 .boot rfl
@[simp] theorem demandWake_tymp (s : State) : (demandWake s).tymp = s.tymp := (demandWake_fr s).1 .tymp rfl
@[simp] theorem demandWake_clk (s : State) : (demandWake s).clk = s.clk := (demandWake_fr s).1 .clk rfl
@[simp] theorem demandWake_sec (s : State) : (demandWake s).sec = s.sec := (demandWake_fr s).1 .sec rfl
@[simp] theorem demandWake_disp (s : State) : (demandWake s).disp = s.disp := (demandWake_fr s).1 .disp rfl
@[simp] theorem demandWake_pins (s : State) : (demandWake s).pins = s.pins := (demandWake_fr s).1 .pins rfl
@[simp] theorem demandWake_dev_evLog (s : State) : (demandWake s).dev.evLog = s.dev.evLog := ((demandWake_fr s).1 .log rfl).1
@[simp] theorem demandWake_dev_ledgerHalt (s : State) : (demandWake s).dev.ledgerHalt = s.dev.ledgerHalt := ((demandWake_fr s).1 .dev rfl).1
@[simp] theorem demandWake_dev_offFired (s : State) : (demandWake s).dev.offFired = s.dev.offFired := ((demandWake_fr s).1 .dev rfl).2
@[simp] theorem demandWake_pcie_linkUp (s : State) : (demandWake s).pcie.linkUp = s.pcie.linkUp := Part.same_pcie_linkUp ((demandWake_fr s).1 .pcie rfl)
@[simp] theorem demandWake_pcie_width (s : State) : (demandWake s).pcie.width = s.pcie.width := Part.same_pcie_width ((demandWake_fr s).1 .pcie rfl)
@[simp] theorem demandWake_pcie_speed (s : State) : (demandWake s).pcie.speed = s.pcie.speed := Part.same_pcie_speed ((demandWake_fr s).1 .pcie rfl)
@[simp] theorem demandWake_pcie_trained (s : State) : (demandWake s).pcie.trained = s.pcie.trained := Part.same_pcie_trained ((demandWake_fr s).1 .pcie rfl)
@[simp] theorem demandWake_pcie_d3hot (s : State) : (demandWake s).pcie.d3hot = s.pcie.d3hot := Part.same_pcie_d3hot ((demandWake_fr s).1 .pcie rfl)
@[simp] theorem demandWake_pcie_l23 (s : State) : (demandWake s).pcie.l23 = s.pcie.l23 := Part.same_pcie_l23 ((demandWake_fr s).1 .pcie rfl)
@[simp] theorem demandWake_pcie_perst (s : State) : (demandWake s).pcie.perst = s.pcie.perst := Part.same_pcie_perst ((demandWake_fr s).1 .pcie rfl)
@[simp] theorem demandWake_pcie_command (s : State) : (demandWake s).pcie.command = s.pcie.command := Part.same_pcie_command ((demandWake_fr s).1 .pcie rfl)
@[simp] theorem demandWake_pcie_bars (s : State) : (demandWake s).pcie.bars = s.pcie.bars := Part.same_pcie_bars ((demandWake_fr s).1 .pcie rfl)
@[simp] theorem demandWake_pcie_devCtl (s : State) : (demandWake s).pcie.devCtl = s.pcie.devCtl := Part.same_pcie_devCtl ((demandWake_fr s).1 .pcie rfl)
@[simp] theorem demandWake_pcie_devCtl2 (s : State) : (demandWake s).pcie.devCtl2 = s.pcie.devCtl2 := Part.same_pcie_devCtl2 ((demandWake_fr s).1 .pcie rfl)
@[simp] theorem demandWake_pcie_aer (s : State) : (demandWake s).pcie.aer = s.pcie.aer := Part.same_pcie_aer ((demandWake_fr s).1 .pcie rfl)
@[simp] theorem demandWake_pcie_msixCtl (s : State) : (demandWake s).pcie.msixCtl = s.pcie.msixCtl := Part.same_pcie_msixCtl ((demandWake_fr s).1 .pcie rfl)
@[simp] theorem demandWake_pcie_msixTable (s : State) : (demandWake s).pcie.msixTable = s.pcie.msixTable := Part.same_pcie_msixTable ((demandWake_fr s).1 .pcie rfl)
@[simp] theorem demandWake_pcie_winAddr (s : State) : (demandWake s).pcie.winAddr = s.pcie.winAddr := Part.same_pcie_winAddr ((demandWake_fr s).1 .pcie rfl)
@[simp] theorem demandWake_pcie_winLength (s : State) : (demandWake s).pcie.winLength = s.pcie.winLength := Part.same_pcie_winLength ((demandWake_fr s).1 .pcie rfl)
@[simp] theorem demandWake_pcie_winOffset (s : State) : (demandWake s).pcie.winOffset = s.pcie.winOffset := Part.same_pcie_winOffset ((demandWake_fr s).1 .pcie rfl)
@[simp] theorem demandWake_pcie_winBusy (s : State) : (demandWake s).pcie.winBusy = s.pcie.winBusy := Part.same_pcie_winBusy ((demandWake_fr s).1 .pcie rfl)
@[simp] theorem demandWake_pcie_winWrite (s : State) : (demandWake s).pcie.winWrite = s.pcie.winWrite := Part.same_pcie_winWrite ((demandWake_fr s).1 .pcie rfl)
@[simp] theorem demandWake_pcie_winLost (s : State) : (demandWake s).pcie.winLost = s.pcie.winLost := Part.same_pcie_winLost ((demandWake_fr s).1 .pcie rfl)
@[simp] theorem demandWake_pcie_winDone (s : State) : (demandWake s).pcie.winDone = s.pcie.winDone := Part.same_pcie_winDone ((demandWake_fr s).1 .pcie rfl)
@[simp] theorem demandWake_pcie_winCollision (s : State) : (demandWake s).pcie.winCollision = s.pcie.winCollision := Part.same_pcie_winCollision ((demandWake_fr s).1 .pcie rfl)
@[simp] theorem demandWake_pcie_winStatus (s : State) : (demandWake s).pcie.winStatus = s.pcie.winStatus := Part.same_pcie_winStatus ((demandWake_fr s).1 .pcie rfl)
@[simp] theorem demandWake_pcie_winBuf (s : State) : (demandWake s).pcie.winBuf = s.pcie.winBuf := Part.same_pcie_winBuf ((demandWake_fr s).1 .pcie rfl)
@[simp] theorem demandWake_pcie_winResult (s : State) : (demandWake s).pcie.winResult = s.pcie.winResult := Part.same_pcie_winResult ((demandWake_fr s).1 .pcie rfl)
@[simp] theorem demandWake_pcie_readData (s : State) : (demandWake s).pcie.readData = s.pcie.readData := Part.same_pcie_readData ((demandWake_fr s).1 .pcie rfl)
@[simp] theorem demandWake_pcie_hostAccess (s : State) : (demandWake s).pcie.hostAccess = s.pcie.hostAccess := (demandWake_fr s).1 .hostWrites rfl
@[simp] theorem demandWake_pwr_state (s : State) : (demandWake s).pwr.state = s.pwr.state := Part.same_pwr_state ((demandWake_fr s).1 .pwr rfl)
@[simp] theorem demandWake_pwr_nextEvent (s : State) : (demandWake s).pwr.nextEvent = s.pwr.nextEvent := Part.same_pwr_nextEvent ((demandWake_fr s).1 .pwr rfl)
@[simp] theorem demandWake_pwr_since (s : State) : (demandWake s).pwr.since = s.pwr.since := Part.same_pwr_since ((demandWake_fr s).1 .pwr rfl)
@[simp] theorem demandWake_pwr_resid (s : State) : (demandWake s).pwr.resid = s.pwr.resid := Part.same_pwr_resid ((demandWake_fr s).1 .pwr rfl)
@[simp] theorem demandWake_pwr_tempArmed (s : State) : (demandWake s).pwr.tempArmed = s.pwr.tempArmed := Part.same_pwr_tempArmed ((demandWake_fr s).1 .pwr rfl)
@[simp] theorem demandWake_pwr_driftArmed (s : State) : (demandWake s).pwr.driftArmed = s.pwr.driftArmed := Part.same_pwr_driftArmed ((demandWake_fr s).1 .pwr rfl)
@[simp] theorem demandWake_pwr_resetWaiting (s : State) : (demandWake s).pwr.resetWaiting = s.pwr.resetWaiting := Part.same_pwr_resetWaiting ((demandWake_fr s).1 .pwr rfl)
@[simp] theorem demandWake_pwr_restartWaiting (s : State) : (demandWake s).pwr.restartWaiting = s.pwr.restartWaiting := Part.same_pwr_restartWaiting ((demandWake_fr s).1 .pwr rfl)
@[simp] theorem demandWake_ddr_mem (s : State) : (demandWake s).ddr.mem = s.ddr.mem := (demandWake_fr s).1 .mem rfl
@[simp] theorem demandWake_ddr (s : State) : (demandWake s).ddr = s.ddr := Ddr.eq_of_parts ((demandWake_fr s).1 .ddr rfl) ((demandWake_fr s).1 .mem rfl)
@[simp] theorem demandWake_o (s : State) (k : Nat) : (demandWake s).o k = s.o k :=
  (demandWake_fr s).o_all (by decide) k
@[simp] theorem demandWake_ob (s : State) (k : Nat) : (demandWake s).ob k = s.ob k := by unfold State.ob; rw [demandWake_o]

/-! `pwrRecompute` -/

@[simp] theorem pwrRecompute_pending (s : State) : (pwrRecompute s).pending = s.pending := (pwrRecompute_fr s).1 .queue rfl
@[simp] theorem pwrRecompute_loc (s : State) : (pwrRecompute s).loc = s.loc := (pwrRecompute_fr s).1 .loc rfl
@[simp] theorem pwrRecompute_freeCtr (s : State) : (pwrRecompute s).freeCtr = s.freeCtr := (pwrRecompute_fr s).1 .free rfl
@[simp] theorem pwrRecompute_dom (s : State) : (pwrRecompute s).dom = s.dom := (pwrRecompute_fr s).1 .dom rfl
@[simp] theorem pwrRecompute_live (s : State) : (pwrRecompute s).live = s.live := (pwrRecompute_fr s).1 .live rfl
@[simp] theorem pwrRecompute_liveDom (s : State) : (pwrRecompute s).liveDom = s.liveDom := (pwrRecompute_fr s).1 .liveDom rfl
@[simp] theorem pwrRecompute_ledgers (s : State) : (pwrRecompute s).ledgers = s.ledgers := (pwrRecompute_fr s).1 .ledgers rfl
@[simp] theorem pwrRecompute_srv (s : State) : (pwrRecompute s).srv = s.srv := (pwrRecompute_fr s).1 .srv rfl
@[simp] theorem pwrRecompute_net (s : State) : (pwrRecompute s).net = s.net := (pwrRecompute_fr s).1 .net rfl
@[simp] theorem pwrRecompute_rings (s : State) : (pwrRecompute s).rings = s.rings := (pwrRecompute_fr s).1 .rings rfl
@[simp] theorem pwrRecompute_gal (s : State) : (pwrRecompute s).gal = s.gal := (pwrRecompute_fr s).1 .gal rfl
@[simp] theorem pwrRecompute_formes (s : State) : (pwrRecompute s).formes = s.formes := (pwrRecompute_fr s).1 .formes rfl
@[simp] theorem pwrRecompute_comp (s : State) : (pwrRecompute s).comp = s.comp := (pwrRecompute_fr s).1 .comp rfl
@[simp] theorem pwrRecompute_plat (s : State) : (pwrRecompute s).plat = s.plat := (pwrRecompute_fr s).1 .plat rfl
@[simp] theorem pwrRecompute_ports (s : State) : (pwrRecompute s).ports = s.ports := (pwrRecompute_fr s).1 .ports rfl
@[simp] theorem pwrRecompute_web (s : State) : (pwrRecompute s).web = s.web := (pwrRecompute_fr s).1 .web rfl
@[simp] theorem pwrRecompute_time (s : State) : (pwrRecompute s).time = s.time := (pwrRecompute_fr s).1 .time rfl
@[simp] theorem pwrRecompute_pace (s : State) : (pwrRecompute s).pace = s.pace := (pwrRecompute_fr s).1 .pace rfl
@[simp] theorem pwrRecompute_cams (s : State) : (pwrRecompute s).cams = s.cams := (pwrRecompute_fr s).1 .cams rfl
@[simp] theorem pwrRecompute_prf (s : State) : (pwrRecompute s).prf = s.prf := (pwrRecompute_fr s).1 .prf rfl
@[simp] theorem pwrRecompute_axes (s : State) : (pwrRecompute s).axes = s.axes := (pwrRecompute_fr s).1 .axes rfl
@[simp] theorem pwrRecompute_boot (s : State) : (pwrRecompute s).boot = s.boot := (pwrRecompute_fr s).1 .boot rfl
@[simp] theorem pwrRecompute_clk (s : State) : (pwrRecompute s).clk = s.clk := (pwrRecompute_fr s).1 .clk rfl
@[simp] theorem pwrRecompute_sec (s : State) : (pwrRecompute s).sec = s.sec := (pwrRecompute_fr s).1 .sec rfl
@[simp] theorem pwrRecompute_disp (s : State) : (pwrRecompute s).disp = s.disp := (pwrRecompute_fr s).1 .disp rfl
@[simp] theorem pwrRecompute_pins (s : State) : (pwrRecompute s).pins = s.pins := (pwrRecompute_fr s).1 .pins rfl
@[simp] theorem pwrRecompute_dev_ledgerHalt (s : State) : (pwrRecompute s).dev.ledgerHalt = s.dev.ledgerHalt := ((pwrRecompute_fr s).1 .dev rfl).1
@[simp] theorem pwrRecompute_dev_offFired (s : State) : (pwrRecompute s).dev.offFired = s.dev.offFired := ((pwrRecompute_fr s).1 .dev rfl).2
@[simp] theorem pwrRecompute_pcie_linkUp (s : State) : (pwrRecompute s).pcie.linkUp = s.pcie.linkUp := Part.same_pcie_linkUp ((pwrRecompute_fr s).1 .pcie rfl)
@[simp] theorem pwrRecompute_pcie_width (s : State) : (pwrRecompute s).pcie.width = s.pcie.width := Part.same_pcie_width ((pwrRecompute_fr s).1 .pcie rfl)
@[simp] theorem pwrRecompute_pcie_speed (s : State) : (pwrRecompute s).pcie.speed = s.pcie.speed := Part.same_pcie_speed ((pwrRecompute_fr s).1 .pcie rfl)
@[simp] theorem pwrRecompute_pcie_trained (s : State) : (pwrRecompute s).pcie.trained = s.pcie.trained := Part.same_pcie_trained ((pwrRecompute_fr s).1 .pcie rfl)
@[simp] theorem pwrRecompute_pcie_d3hot (s : State) : (pwrRecompute s).pcie.d3hot = s.pcie.d3hot := Part.same_pcie_d3hot ((pwrRecompute_fr s).1 .pcie rfl)
@[simp] theorem pwrRecompute_pcie_l23 (s : State) : (pwrRecompute s).pcie.l23 = s.pcie.l23 := Part.same_pcie_l23 ((pwrRecompute_fr s).1 .pcie rfl)
@[simp] theorem pwrRecompute_pcie_perst (s : State) : (pwrRecompute s).pcie.perst = s.pcie.perst := Part.same_pcie_perst ((pwrRecompute_fr s).1 .pcie rfl)
@[simp] theorem pwrRecompute_pcie_command (s : State) : (pwrRecompute s).pcie.command = s.pcie.command := Part.same_pcie_command ((pwrRecompute_fr s).1 .pcie rfl)
@[simp] theorem pwrRecompute_pcie_bars (s : State) : (pwrRecompute s).pcie.bars = s.pcie.bars := Part.same_pcie_bars ((pwrRecompute_fr s).1 .pcie rfl)
@[simp] theorem pwrRecompute_pcie_devCtl (s : State) : (pwrRecompute s).pcie.devCtl = s.pcie.devCtl := Part.same_pcie_devCtl ((pwrRecompute_fr s).1 .pcie rfl)
@[simp] theorem pwrRecompute_pcie_devCtl2 (s : State) : (pwrRecompute s).pcie.devCtl2 = s.pcie.devCtl2 := Part.same_pcie_devCtl2 ((pwrRecompute_fr s).1 .pcie rfl)
@[simp] theorem pwrRecompute_pcie_aer (s : State) : (pwrRecompute s).pcie.aer = s.pcie.aer := Part.same_pcie_aer ((pwrRecompute_fr s).1 .pcie rfl)
@[simp] theorem pwrRecompute_pcie_msixCtl (s : State) : (pwrRecompute s).pcie.msixCtl = s.pcie.msixCtl := Part.same_pcie_msixCtl ((pwrRecompute_fr s).1 .pcie rfl)
@[simp] theorem pwrRecompute_pcie_msixTable (s : State) : (pwrRecompute s).pcie.msixTable = s.pcie.msixTable := Part.same_pcie_msixTable ((pwrRecompute_fr s).1 .pcie rfl)
@[simp] theorem pwrRecompute_pcie_winAddr (s : State) : (pwrRecompute s).pcie.winAddr = s.pcie.winAddr := Part.same_pcie_winAddr ((pwrRecompute_fr s).1 .pcie rfl)
@[simp] theorem pwrRecompute_pcie_winLength (s : State) : (pwrRecompute s).pcie.winLength = s.pcie.winLength := Part.same_pcie_winLength ((pwrRecompute_fr s).1 .pcie rfl)
@[simp] theorem pwrRecompute_pcie_winOffset (s : State) : (pwrRecompute s).pcie.winOffset = s.pcie.winOffset := Part.same_pcie_winOffset ((pwrRecompute_fr s).1 .pcie rfl)
@[simp] theorem pwrRecompute_pcie_winBusy (s : State) : (pwrRecompute s).pcie.winBusy = s.pcie.winBusy := Part.same_pcie_winBusy ((pwrRecompute_fr s).1 .pcie rfl)
@[simp] theorem pwrRecompute_pcie_winWrite (s : State) : (pwrRecompute s).pcie.winWrite = s.pcie.winWrite := Part.same_pcie_winWrite ((pwrRecompute_fr s).1 .pcie rfl)
@[simp] theorem pwrRecompute_pcie_winLost (s : State) : (pwrRecompute s).pcie.winLost = s.pcie.winLost := Part.same_pcie_winLost ((pwrRecompute_fr s).1 .pcie rfl)
@[simp] theorem pwrRecompute_pcie_winDone (s : State) : (pwrRecompute s).pcie.winDone = s.pcie.winDone := Part.same_pcie_winDone ((pwrRecompute_fr s).1 .pcie rfl)
@[simp] theorem pwrRecompute_pcie_winCollision (s : State) : (pwrRecompute s).pcie.winCollision = s.pcie.winCollision := Part.same_pcie_winCollision ((pwrRecompute_fr s).1 .pcie rfl)
@[simp] theorem pwrRecompute_pcie_winStatus (s : State) : (pwrRecompute s).pcie.winStatus = s.pcie.winStatus := Part.same_pcie_winStatus ((pwrRecompute_fr s).1 .pcie rfl)
@[simp] theorem pwrRecompute_pcie_winBuf (s : State) : (pwrRecompute s).pcie.winBuf = s.pcie.winBuf := Part.same_pcie_winBuf ((pwrRecompute_fr s).1 .pcie rfl)
@[simp] theorem pwrRecompute_pcie_winResult (s : State) : (pwrRecompute s).pcie.winResult = s.pcie.winResult := Part.same_pcie_winResult ((pwrRecompute_fr s).1 .pcie rfl)
@[simp] theorem pwrRecompute_pcie_readData (s : State) : (pwrRecompute s).pcie.readData = s.pcie.readData := Part.same_pcie_readData ((pwrRecompute_fr s).1 .pcie rfl)
@[simp] theorem pwrRecompute_pcie_hostAccess (s : State) : (pwrRecompute s).pcie.hostAccess = s.pcie.hostAccess := (pwrRecompute_fr s).1 .hostWrites rfl
@[simp] theorem pwrRecompute_ddr_mem (s : State) : (pwrRecompute s).ddr.mem = s.ddr.mem := (pwrRecompute_fr s).1 .mem rfl
@[simp] theorem pwrRecompute_ddr (s : State) : (pwrRecompute s).ddr = s.ddr := Ddr.eq_of_parts ((pwrRecompute_fr s).1 .ddr rfl) ((pwrRecompute_fr s).1 .mem rfl)
theorem pwrRecompute_o (s : State) {k : Nat} (hk : k ∉ eventKeys) (h0 : k ≠ OD.NEXT_SOURCE) (h1 : k ≠ OD.SLACK) : (pwrRecompute s).o k = s.o k := by
  refine (pwrRecompute_fr s).2 k fun f hf => ?_
  cases f with
  | EVENT_BITS => exact not_event_bits hk
  | EVENT_LOG_DROPPED => intro e; subst e; exact hk (by decide)
  | NEXT_SOURCE => exact h0
  | SLACK => exact h1
  | TRACE_DROPPED => intro e; subst e; exact hk (by decide)
  | _ => exact absurd hf (by decide)

/-! `answerTo` -/

@[simp] theorem answerTo_pending (path : Path) (a : Answer) (s : State) : (answerTo path a s).pending = s.pending := (answerTo_fr path a s).1 .queue rfl
@[simp] theorem answerTo_loc (path : Path) (a : Answer) (s : State) : (answerTo path a s).loc = s.loc := (answerTo_fr path a s).1 .loc rfl
@[simp] theorem answerTo_freeCtr (path : Path) (a : Answer) (s : State) : (answerTo path a s).freeCtr = s.freeCtr := (answerTo_fr path a s).1 .free rfl
@[simp] theorem answerTo_dom (path : Path) (a : Answer) (s : State) : (answerTo path a s).dom = s.dom := (answerTo_fr path a s).1 .dom rfl
@[simp] theorem answerTo_live (path : Path) (a : Answer) (s : State) : (answerTo path a s).live = s.live := (answerTo_fr path a s).1 .live rfl
@[simp] theorem answerTo_liveDom (path : Path) (a : Answer) (s : State) : (answerTo path a s).liveDom = s.liveDom := (answerTo_fr path a s).1 .liveDom rfl
@[simp] theorem answerTo_ledgers (path : Path) (a : Answer) (s : State) : (answerTo path a s).ledgers = s.ledgers := (answerTo_fr path a s).1 .ledgers rfl
@[simp] theorem answerTo_srv (path : Path) (a : Answer) (s : State) : (answerTo path a s).srv = s.srv := (answerTo_fr path a s).1 .srv rfl
@[simp] theorem answerTo_rings (path : Path) (a : Answer) (s : State) : (answerTo path a s).rings = s.rings := (answerTo_fr path a s).1 .rings rfl
@[simp] theorem answerTo_gal (path : Path) (a : Answer) (s : State) : (answerTo path a s).gal = s.gal := (answerTo_fr path a s).1 .gal rfl
@[simp] theorem answerTo_formes (path : Path) (a : Answer) (s : State) : (answerTo path a s).formes = s.formes := (answerTo_fr path a s).1 .formes rfl
@[simp] theorem answerTo_comp (path : Path) (a : Answer) (s : State) : (answerTo path a s).comp = s.comp := (answerTo_fr path a s).1 .comp rfl
@[simp] theorem answerTo_plat (path : Path) (a : Answer) (s : State) : (answerTo path a s).plat = s.plat := (answerTo_fr path a s).1 .plat rfl
@[simp] theorem answerTo_ports (path : Path) (a : Answer) (s : State) : (answerTo path a s).ports = s.ports := (answerTo_fr path a s).1 .ports rfl
@[simp] theorem answerTo_web (path : Path) (a : Answer) (s : State) : (answerTo path a s).web = s.web := (answerTo_fr path a s).1 .web rfl
@[simp] theorem answerTo_time (path : Path) (a : Answer) (s : State) : (answerTo path a s).time = s.time := (answerTo_fr path a s).1 .time rfl
@[simp] theorem answerTo_pace (path : Path) (a : Answer) (s : State) : (answerTo path a s).pace = s.pace := (answerTo_fr path a s).1 .pace rfl
@[simp] theorem answerTo_cams (path : Path) (a : Answer) (s : State) : (answerTo path a s).cams = s.cams := (answerTo_fr path a s).1 .cams rfl
@[simp] theorem answerTo_prf (path : Path) (a : Answer) (s : State) : (answerTo path a s).prf = s.prf := (answerTo_fr path a s).1 .prf rfl
@[simp] theorem answerTo_axes (path : Path) (a : Answer) (s : State) : (answerTo path a s).axes = s.axes := (answerTo_fr path a s).1 .axes rfl
@[simp] theorem answerTo_boot (path : Path) (a : Answer) (s : State) : (answerTo path a s).boot = s.boot := (answerTo_fr path a s).1 .boot rfl
@[simp] theorem answerTo_tymp (path : Path) (a : Answer) (s : State) : (answerTo path a s).tymp = s.tymp := (answerTo_fr path a s).1 .tymp rfl
@[simp] theorem answerTo_clk (path : Path) (a : Answer) (s : State) : (answerTo path a s).clk = s.clk := (answerTo_fr path a s).1 .clk rfl
@[simp] theorem answerTo_sec (path : Path) (a : Answer) (s : State) : (answerTo path a s).sec = s.sec := (answerTo_fr path a s).1 .sec rfl
@[simp] theorem answerTo_disp (path : Path) (a : Answer) (s : State) : (answerTo path a s).disp = s.disp := (answerTo_fr path a s).1 .disp rfl
@[simp] theorem answerTo_pins (path : Path) (a : Answer) (s : State) : (answerTo path a s).pins = s.pins := (answerTo_fr path a s).1 .pins rfl
@[simp] theorem answerTo_dev_evLog (path : Path) (a : Answer) (s : State) : (answerTo path a s).dev.evLog = s.dev.evLog := ((answerTo_fr path a s).1 .log rfl).1
@[simp] theorem answerTo_dev_ledgerHalt (path : Path) (a : Answer) (s : State) : (answerTo path a s).dev.ledgerHalt = s.dev.ledgerHalt := ((answerTo_fr path a s).1 .dev rfl).1
@[simp] theorem answerTo_dev_offFired (path : Path) (a : Answer) (s : State) : (answerTo path a s).dev.offFired = s.dev.offFired := ((answerTo_fr path a s).1 .dev rfl).2
@[simp] theorem answerTo_pcie_hostAccess (path : Path) (a : Answer) (s : State) : (answerTo path a s).pcie.hostAccess = s.pcie.hostAccess := (answerTo_fr path a s).1 .hostWrites rfl
@[simp] theorem answerTo_pwr_state (path : Path) (a : Answer) (s : State) : (answerTo path a s).pwr.state = s.pwr.state := Part.same_pwr_state ((answerTo_fr path a s).1 .pwr rfl)
@[simp] theorem answerTo_pwr_nextEvent (path : Path) (a : Answer) (s : State) : (answerTo path a s).pwr.nextEvent = s.pwr.nextEvent := Part.same_pwr_nextEvent ((answerTo_fr path a s).1 .pwr rfl)
@[simp] theorem answerTo_pwr_since (path : Path) (a : Answer) (s : State) : (answerTo path a s).pwr.since = s.pwr.since := Part.same_pwr_since ((answerTo_fr path a s).1 .pwr rfl)
@[simp] theorem answerTo_pwr_resid (path : Path) (a : Answer) (s : State) : (answerTo path a s).pwr.resid = s.pwr.resid := Part.same_pwr_resid ((answerTo_fr path a s).1 .pwr rfl)
@[simp] theorem answerTo_pwr_tempArmed (path : Path) (a : Answer) (s : State) : (answerTo path a s).pwr.tempArmed = s.pwr.tempArmed := Part.same_pwr_tempArmed ((answerTo_fr path a s).1 .pwr rfl)
@[simp] theorem answerTo_pwr_driftArmed (path : Path) (a : Answer) (s : State) : (answerTo path a s).pwr.driftArmed = s.pwr.driftArmed := Part.same_pwr_driftArmed ((answerTo_fr path a s).1 .pwr rfl)
@[simp] theorem answerTo_pwr_resetWaiting (path : Path) (a : Answer) (s : State) : (answerTo path a s).pwr.resetWaiting = s.pwr.resetWaiting := Part.same_pwr_resetWaiting ((answerTo_fr path a s).1 .pwr rfl)
@[simp] theorem answerTo_pwr_restartWaiting (path : Path) (a : Answer) (s : State) : (answerTo path a s).pwr.restartWaiting = s.pwr.restartWaiting := Part.same_pwr_restartWaiting ((answerTo_fr path a s).1 .pwr rfl)
@[simp] theorem answerTo_pwr_exiting (path : Path) (a : Answer) (s : State) : (answerTo path a s).pwr.exiting = s.pwr.exiting := ((answerTo_fr path a s).1 .wake rfl).1
@[simp] theorem answerTo_pwr_entering (path : Path) (a : Answer) (s : State) : (answerTo path a s).pwr.entering = s.pwr.entering := ((answerTo_fr path a s).1 .wake rfl).2
@[simp] theorem answerTo_ddr_mem (path : Path) (a : Answer) (s : State) : (answerTo path a s).ddr.mem = s.ddr.mem := (answerTo_fr path a s).1 .mem rfl
@[simp] theorem answerTo_ddr (path : Path) (a : Answer) (s : State) : (answerTo path a s).ddr = s.ddr := Ddr.eq_of_parts ((answerTo_fr path a s).1 .ddr rfl) ((answerTo_fr path a s).1 .mem rfl)
@[simp] theorem answerTo_o (path : Path) (a : Answer) (s : State) (k : Nat) : (answerTo path a s).o k = s.o k :=
  (answerTo_fr path a s).o_all (by decide) k
@[simp] theorem answerTo_ob (path : Path) (a : Answer) (s : State) (k : Nat) : (answerTo path a s).ob k = s.ob k := by unfold State.ob; rw [answerTo_o]

/-! `openRecord` -/

@[simp] theorem openRecord_pending (p : JPayload) (d : JDone) (s : State) : (openRecord p d s).pending = s.pending := (openRecord_fr p d s).1 .queue rfl
@[simp] theorem openRecord_loc (p : JPayload) (d : JDone) (s : State) : (openRecord p d s).loc = s.loc := (openRecord_fr p d s).1 .loc rfl
@[simp] theorem openRecord_freeCtr (p : JPayload) (d : JDone) (s : State) : (openRecord p d s).freeCtr = s.freeCtr := (openRecord_fr p d s).1 .free rfl
@[simp] theorem openRecord_dom (p : JPayload) (d : JDone) (s : State) : (openRecord p d s).dom = s.dom := (openRecord_fr p d s).1 .dom rfl
@[simp] theorem openRecord_live (p : JPayload) (d : JDone) (s : State) : (openRecord p d s).live = s.live := (openRecord_fr p d s).1 .live rfl
@[simp] theorem openRecord_liveDom (p : JPayload) (d : JDone) (s : State) : (openRecord p d s).liveDom = s.liveDom := (openRecord_fr p d s).1 .liveDom rfl
@[simp] theorem openRecord_ledgers (p : JPayload) (d : JDone) (s : State) : (openRecord p d s).ledgers = s.ledgers := (openRecord_fr p d s).1 .ledgers rfl
@[simp] theorem openRecord_srv (p : JPayload) (d : JDone) (s : State) : (openRecord p d s).srv = s.srv := (openRecord_fr p d s).1 .srv rfl
@[simp] theorem openRecord_net (p : JPayload) (d : JDone) (s : State) : (openRecord p d s).net = s.net := (openRecord_fr p d s).1 .net rfl
@[simp] theorem openRecord_rings (p : JPayload) (d : JDone) (s : State) : (openRecord p d s).rings = s.rings := (openRecord_fr p d s).1 .rings rfl
@[simp] theorem openRecord_gal (p : JPayload) (d : JDone) (s : State) : (openRecord p d s).gal = s.gal := (openRecord_fr p d s).1 .gal rfl
@[simp] theorem openRecord_formes (p : JPayload) (d : JDone) (s : State) : (openRecord p d s).formes = s.formes := (openRecord_fr p d s).1 .formes rfl
@[simp] theorem openRecord_comp (p : JPayload) (d : JDone) (s : State) : (openRecord p d s).comp = s.comp := (openRecord_fr p d s).1 .comp rfl
@[simp] theorem openRecord_plat (p : JPayload) (d : JDone) (s : State) : (openRecord p d s).plat = s.plat := (openRecord_fr p d s).1 .plat rfl
@[simp] theorem openRecord_ports (p : JPayload) (d : JDone) (s : State) : (openRecord p d s).ports = s.ports := (openRecord_fr p d s).1 .ports rfl
@[simp] theorem openRecord_web (p : JPayload) (d : JDone) (s : State) : (openRecord p d s).web = s.web := (openRecord_fr p d s).1 .web rfl
@[simp] theorem openRecord_time (p : JPayload) (d : JDone) (s : State) : (openRecord p d s).time = s.time := (openRecord_fr p d s).1 .time rfl
@[simp] theorem openRecord_pace (p : JPayload) (d : JDone) (s : State) : (openRecord p d s).pace = s.pace := (openRecord_fr p d s).1 .pace rfl
@[simp] theorem openRecord_cams (p : JPayload) (d : JDone) (s : State) : (openRecord p d s).cams = s.cams := (openRecord_fr p d s).1 .cams rfl
@[simp] theorem openRecord_prf (p : JPayload) (d : JDone) (s : State) : (openRecord p d s).prf = s.prf := (openRecord_fr p d s).1 .prf rfl
@[simp] theorem openRecord_axes (p : JPayload) (d : JDone) (s : State) : (openRecord p d s).axes = s.axes := (openRecord_fr p d s).1 .axes rfl
@[simp] theorem openRecord_boot (p : JPayload) (d : JDone) (s : State) : (openRecord p d s).boot = s.boot := (openRecord_fr p d s).1 .boot rfl
@[simp] theorem openRecord_clk (p : JPayload) (d : JDone) (s : State) : (openRecord p d s).clk = s.clk := (openRecord_fr p d s).1 .clk rfl
@[simp] theorem openRecord_sec (p : JPayload) (d : JDone) (s : State) : (openRecord p d s).sec = s.sec := (openRecord_fr p d s).1 .sec rfl
@[simp] theorem openRecord_disp (p : JPayload) (d : JDone) (s : State) : (openRecord p d s).disp = s.disp := (openRecord_fr p d s).1 .disp rfl
@[simp] theorem openRecord_pins (p : JPayload) (d : JDone) (s : State) : (openRecord p d s).pins = s.pins := (openRecord_fr p d s).1 .pins rfl
@[simp] theorem openRecord_dev_evLog (p : JPayload) (d : JDone) (s : State) : (openRecord p d s).dev.evLog = s.dev.evLog := ((openRecord_fr p d s).1 .log rfl).1
@[simp] theorem openRecord_dev_ledgerHalt (p : JPayload) (d : JDone) (s : State) : (openRecord p d s).dev.ledgerHalt = s.dev.ledgerHalt := ((openRecord_fr p d s).1 .dev rfl).1
@[simp] theorem openRecord_dev_offFired (p : JPayload) (d : JDone) (s : State) : (openRecord p d s).dev.offFired = s.dev.offFired := ((openRecord_fr p d s).1 .dev rfl).2
@[simp] theorem openRecord_pcie_linkUp (p : JPayload) (d : JDone) (s : State) : (openRecord p d s).pcie.linkUp = s.pcie.linkUp := Part.same_pcie_linkUp ((openRecord_fr p d s).1 .pcie rfl)
@[simp] theorem openRecord_pcie_width (p : JPayload) (d : JDone) (s : State) : (openRecord p d s).pcie.width = s.pcie.width := Part.same_pcie_width ((openRecord_fr p d s).1 .pcie rfl)
@[simp] theorem openRecord_pcie_speed (p : JPayload) (d : JDone) (s : State) : (openRecord p d s).pcie.speed = s.pcie.speed := Part.same_pcie_speed ((openRecord_fr p d s).1 .pcie rfl)
@[simp] theorem openRecord_pcie_trained (p : JPayload) (d : JDone) (s : State) : (openRecord p d s).pcie.trained = s.pcie.trained := Part.same_pcie_trained ((openRecord_fr p d s).1 .pcie rfl)
@[simp] theorem openRecord_pcie_d3hot (p : JPayload) (d : JDone) (s : State) : (openRecord p d s).pcie.d3hot = s.pcie.d3hot := Part.same_pcie_d3hot ((openRecord_fr p d s).1 .pcie rfl)
@[simp] theorem openRecord_pcie_l23 (p : JPayload) (d : JDone) (s : State) : (openRecord p d s).pcie.l23 = s.pcie.l23 := Part.same_pcie_l23 ((openRecord_fr p d s).1 .pcie rfl)
@[simp] theorem openRecord_pcie_perst (p : JPayload) (d : JDone) (s : State) : (openRecord p d s).pcie.perst = s.pcie.perst := Part.same_pcie_perst ((openRecord_fr p d s).1 .pcie rfl)
@[simp] theorem openRecord_pcie_command (p : JPayload) (d : JDone) (s : State) : (openRecord p d s).pcie.command = s.pcie.command := Part.same_pcie_command ((openRecord_fr p d s).1 .pcie rfl)
@[simp] theorem openRecord_pcie_bars (p : JPayload) (d : JDone) (s : State) : (openRecord p d s).pcie.bars = s.pcie.bars := Part.same_pcie_bars ((openRecord_fr p d s).1 .pcie rfl)
@[simp] theorem openRecord_pcie_devCtl (p : JPayload) (d : JDone) (s : State) : (openRecord p d s).pcie.devCtl = s.pcie.devCtl := Part.same_pcie_devCtl ((openRecord_fr p d s).1 .pcie rfl)
@[simp] theorem openRecord_pcie_devCtl2 (p : JPayload) (d : JDone) (s : State) : (openRecord p d s).pcie.devCtl2 = s.pcie.devCtl2 := Part.same_pcie_devCtl2 ((openRecord_fr p d s).1 .pcie rfl)
@[simp] theorem openRecord_pcie_aer (p : JPayload) (d : JDone) (s : State) : (openRecord p d s).pcie.aer = s.pcie.aer := Part.same_pcie_aer ((openRecord_fr p d s).1 .pcie rfl)
@[simp] theorem openRecord_pcie_msixCtl (p : JPayload) (d : JDone) (s : State) : (openRecord p d s).pcie.msixCtl = s.pcie.msixCtl := Part.same_pcie_msixCtl ((openRecord_fr p d s).1 .pcie rfl)
@[simp] theorem openRecord_pcie_msixTable (p : JPayload) (d : JDone) (s : State) : (openRecord p d s).pcie.msixTable = s.pcie.msixTable := Part.same_pcie_msixTable ((openRecord_fr p d s).1 .pcie rfl)
@[simp] theorem openRecord_pcie_winAddr (p : JPayload) (d : JDone) (s : State) : (openRecord p d s).pcie.winAddr = s.pcie.winAddr := Part.same_pcie_winAddr ((openRecord_fr p d s).1 .pcie rfl)
@[simp] theorem openRecord_pcie_winLength (p : JPayload) (d : JDone) (s : State) : (openRecord p d s).pcie.winLength = s.pcie.winLength := Part.same_pcie_winLength ((openRecord_fr p d s).1 .pcie rfl)
@[simp] theorem openRecord_pcie_winOffset (p : JPayload) (d : JDone) (s : State) : (openRecord p d s).pcie.winOffset = s.pcie.winOffset := Part.same_pcie_winOffset ((openRecord_fr p d s).1 .pcie rfl)
@[simp] theorem openRecord_pcie_winBusy (p : JPayload) (d : JDone) (s : State) : (openRecord p d s).pcie.winBusy = s.pcie.winBusy := Part.same_pcie_winBusy ((openRecord_fr p d s).1 .pcie rfl)
@[simp] theorem openRecord_pcie_winWrite (p : JPayload) (d : JDone) (s : State) : (openRecord p d s).pcie.winWrite = s.pcie.winWrite := Part.same_pcie_winWrite ((openRecord_fr p d s).1 .pcie rfl)
@[simp] theorem openRecord_pcie_winLost (p : JPayload) (d : JDone) (s : State) : (openRecord p d s).pcie.winLost = s.pcie.winLost := Part.same_pcie_winLost ((openRecord_fr p d s).1 .pcie rfl)
@[simp] theorem openRecord_pcie_winDone (p : JPayload) (d : JDone) (s : State) : (openRecord p d s).pcie.winDone = s.pcie.winDone := Part.same_pcie_winDone ((openRecord_fr p d s).1 .pcie rfl)
@[simp] theorem openRecord_pcie_winCollision (p : JPayload) (d : JDone) (s : State) : (openRecord p d s).pcie.winCollision = s.pcie.winCollision := Part.same_pcie_winCollision ((openRecord_fr p d s).1 .pcie rfl)
@[simp] theorem openRecord_pcie_winStatus (p : JPayload) (d : JDone) (s : State) : (openRecord p d s).pcie.winStatus = s.pcie.winStatus := Part.same_pcie_winStatus ((openRecord_fr p d s).1 .pcie rfl)
@[simp] theorem openRecord_pcie_winBuf (p : JPayload) (d : JDone) (s : State) : (openRecord p d s).pcie.winBuf = s.pcie.winBuf := Part.same_pcie_winBuf ((openRecord_fr p d s).1 .pcie rfl)
@[simp] theorem openRecord_pcie_winResult (p : JPayload) (d : JDone) (s : State) : (openRecord p d s).pcie.winResult = s.pcie.winResult := Part.same_pcie_winResult ((openRecord_fr p d s).1 .pcie rfl)
@[simp] theorem openRecord_pcie_readData (p : JPayload) (d : JDone) (s : State) : (openRecord p d s).pcie.readData = s.pcie.readData := Part.same_pcie_readData ((openRecord_fr p d s).1 .pcie rfl)
@[simp] theorem openRecord_pcie_hostAccess (p : JPayload) (d : JDone) (s : State) : (openRecord p d s).pcie.hostAccess = s.pcie.hostAccess := (openRecord_fr p d s).1 .hostWrites rfl
@[simp] theorem openRecord_pwr_state (p : JPayload) (d : JDone) (s : State) : (openRecord p d s).pwr.state = s.pwr.state := Part.same_pwr_state ((openRecord_fr p d s).1 .pwr rfl)
@[simp] theorem openRecord_pwr_nextEvent (p : JPayload) (d : JDone) (s : State) : (openRecord p d s).pwr.nextEvent = s.pwr.nextEvent := Part.same_pwr_nextEvent ((openRecord_fr p d s).1 .pwr rfl)
@[simp] theorem openRecord_pwr_since (p : JPayload) (d : JDone) (s : State) : (openRecord p d s).pwr.since = s.pwr.since := Part.same_pwr_since ((openRecord_fr p d s).1 .pwr rfl)
@[simp] theorem openRecord_pwr_resid (p : JPayload) (d : JDone) (s : State) : (openRecord p d s).pwr.resid = s.pwr.resid := Part.same_pwr_resid ((openRecord_fr p d s).1 .pwr rfl)
@[simp] theorem openRecord_pwr_tempArmed (p : JPayload) (d : JDone) (s : State) : (openRecord p d s).pwr.tempArmed = s.pwr.tempArmed := Part.same_pwr_tempArmed ((openRecord_fr p d s).1 .pwr rfl)
@[simp] theorem openRecord_pwr_driftArmed (p : JPayload) (d : JDone) (s : State) : (openRecord p d s).pwr.driftArmed = s.pwr.driftArmed := Part.same_pwr_driftArmed ((openRecord_fr p d s).1 .pwr rfl)
@[simp] theorem openRecord_pwr_resetWaiting (p : JPayload) (d : JDone) (s : State) : (openRecord p d s).pwr.resetWaiting = s.pwr.resetWaiting := Part.same_pwr_resetWaiting ((openRecord_fr p d s).1 .pwr rfl)
@[simp] theorem openRecord_pwr_restartWaiting (p : JPayload) (d : JDone) (s : State) : (openRecord p d s).pwr.restartWaiting = s.pwr.restartWaiting := Part.same_pwr_restartWaiting ((openRecord_fr p d s).1 .pwr rfl)
@[simp] theorem openRecord_pwr_exiting (p : JPayload) (d : JDone) (s : State) : (openRecord p d s).pwr.exiting = s.pwr.exiting := ((openRecord_fr p d s).1 .wake rfl).1
@[simp] theorem openRecord_pwr_entering (p : JPayload) (d : JDone) (s : State) : (openRecord p d s).pwr.entering = s.pwr.entering := ((openRecord_fr p d s).1 .wake rfl).2
@[simp] theorem openRecord_ddr_mem (p : JPayload) (d : JDone) (s : State) : (openRecord p d s).ddr.mem = s.ddr.mem := (openRecord_fr p d s).1 .mem rfl
@[simp] theorem openRecord_ddr (p : JPayload) (d : JDone) (s : State) : (openRecord p d s).ddr = s.ddr := Ddr.eq_of_parts ((openRecord_fr p d s).1 .ddr rfl) ((openRecord_fr p d s).1 .mem rfl)
@[simp] theorem openRecord_o (p : JPayload) (d : JDone) (s : State) (k : Nat) : (openRecord p d s).o k = s.o k :=
  (openRecord_fr p d s).o_all (by decide) k
@[simp] theorem openRecord_ob (p : JPayload) (d : JDone) (s : State) (k : Nat) : (openRecord p d s).ob k = s.ob k := by unfold State.ob; rw [openRecord_o]

/-! `setNegotiated` -/

@[simp] theorem setNegotiated_pending (entry vmax used : Nat) (s : State) : (setNegotiated entry vmax used s).pending = s.pending := (setNegotiated_fr entry vmax used s).1 .queue rfl
@[simp] theorem setNegotiated_loc (entry vmax used : Nat) (s : State) : (setNegotiated entry vmax used s).loc = s.loc := (setNegotiated_fr entry vmax used s).1 .loc rfl
@[simp] theorem setNegotiated_freeCtr (entry vmax used : Nat) (s : State) : (setNegotiated entry vmax used s).freeCtr = s.freeCtr := (setNegotiated_fr entry vmax used s).1 .free rfl
@[simp] theorem setNegotiated_dom (entry vmax used : Nat) (s : State) : (setNegotiated entry vmax used s).dom = s.dom := (setNegotiated_fr entry vmax used s).1 .dom rfl
@[simp] theorem setNegotiated_live (entry vmax used : Nat) (s : State) : (setNegotiated entry vmax used s).live = s.live := (setNegotiated_fr entry vmax used s).1 .live rfl
@[simp] theorem setNegotiated_liveDom (entry vmax used : Nat) (s : State) : (setNegotiated entry vmax used s).liveDom = s.liveDom := (setNegotiated_fr entry vmax used s).1 .liveDom rfl
@[simp] theorem setNegotiated_ledgers (entry vmax used : Nat) (s : State) : (setNegotiated entry vmax used s).ledgers = s.ledgers := (setNegotiated_fr entry vmax used s).1 .ledgers rfl
@[simp] theorem setNegotiated_srv (entry vmax used : Nat) (s : State) : (setNegotiated entry vmax used s).srv = s.srv := (setNegotiated_fr entry vmax used s).1 .srv rfl
@[simp] theorem setNegotiated_net (entry vmax used : Nat) (s : State) : (setNegotiated entry vmax used s).net = s.net := (setNegotiated_fr entry vmax used s).1 .net rfl
@[simp] theorem setNegotiated_rings (entry vmax used : Nat) (s : State) : (setNegotiated entry vmax used s).rings = s.rings := (setNegotiated_fr entry vmax used s).1 .rings rfl
@[simp] theorem setNegotiated_gal (entry vmax used : Nat) (s : State) : (setNegotiated entry vmax used s).gal = s.gal := (setNegotiated_fr entry vmax used s).1 .gal rfl
@[simp] theorem setNegotiated_formes (entry vmax used : Nat) (s : State) : (setNegotiated entry vmax used s).formes = s.formes := (setNegotiated_fr entry vmax used s).1 .formes rfl
@[simp] theorem setNegotiated_comp (entry vmax used : Nat) (s : State) : (setNegotiated entry vmax used s).comp = s.comp := (setNegotiated_fr entry vmax used s).1 .comp rfl
@[simp] theorem setNegotiated_plat (entry vmax used : Nat) (s : State) : (setNegotiated entry vmax used s).plat = s.plat := (setNegotiated_fr entry vmax used s).1 .plat rfl
@[simp] theorem setNegotiated_ports (entry vmax used : Nat) (s : State) : (setNegotiated entry vmax used s).ports = s.ports := (setNegotiated_fr entry vmax used s).1 .ports rfl
@[simp] theorem setNegotiated_web (entry vmax used : Nat) (s : State) : (setNegotiated entry vmax used s).web = s.web := (setNegotiated_fr entry vmax used s).1 .web rfl
@[simp] theorem setNegotiated_time (entry vmax used : Nat) (s : State) : (setNegotiated entry vmax used s).time = s.time := (setNegotiated_fr entry vmax used s).1 .time rfl
@[simp] theorem setNegotiated_pace (entry vmax used : Nat) (s : State) : (setNegotiated entry vmax used s).pace = s.pace := (setNegotiated_fr entry vmax used s).1 .pace rfl
@[simp] theorem setNegotiated_cams (entry vmax used : Nat) (s : State) : (setNegotiated entry vmax used s).cams = s.cams := (setNegotiated_fr entry vmax used s).1 .cams rfl
@[simp] theorem setNegotiated_prf (entry vmax used : Nat) (s : State) : (setNegotiated entry vmax used s).prf = s.prf := (setNegotiated_fr entry vmax used s).1 .prf rfl
@[simp] theorem setNegotiated_axes (entry vmax used : Nat) (s : State) : (setNegotiated entry vmax used s).axes = s.axes := (setNegotiated_fr entry vmax used s).1 .axes rfl
@[simp] theorem setNegotiated_boot (entry vmax used : Nat) (s : State) : (setNegotiated entry vmax used s).boot = s.boot := (setNegotiated_fr entry vmax used s).1 .boot rfl
@[simp] theorem setNegotiated_tymp (entry vmax used : Nat) (s : State) : (setNegotiated entry vmax used s).tymp = s.tymp := (setNegotiated_fr entry vmax used s).1 .tymp rfl
@[simp] theorem setNegotiated_clk (entry vmax used : Nat) (s : State) : (setNegotiated entry vmax used s).clk = s.clk := (setNegotiated_fr entry vmax used s).1 .clk rfl
@[simp] theorem setNegotiated_sec (entry vmax used : Nat) (s : State) : (setNegotiated entry vmax used s).sec = s.sec := (setNegotiated_fr entry vmax used s).1 .sec rfl
@[simp] theorem setNegotiated_disp (entry vmax used : Nat) (s : State) : (setNegotiated entry vmax used s).disp = s.disp := (setNegotiated_fr entry vmax used s).1 .disp rfl
@[simp] theorem setNegotiated_pins (entry vmax used : Nat) (s : State) : (setNegotiated entry vmax used s).pins = s.pins := (setNegotiated_fr entry vmax used s).1 .pins rfl
@[simp] theorem setNegotiated_dev_evLog (entry vmax used : Nat) (s : State) : (setNegotiated entry vmax used s).dev.evLog = s.dev.evLog := ((setNegotiated_fr entry vmax used s).1 .log rfl).1
@[simp] theorem setNegotiated_dev_ledgerHalt (entry vmax used : Nat) (s : State) : (setNegotiated entry vmax used s).dev.ledgerHalt = s.dev.ledgerHalt := ((setNegotiated_fr entry vmax used s).1 .dev rfl).1
@[simp] theorem setNegotiated_dev_offFired (entry vmax used : Nat) (s : State) : (setNegotiated entry vmax used s).dev.offFired = s.dev.offFired := ((setNegotiated_fr entry vmax used s).1 .dev rfl).2
@[simp] theorem setNegotiated_pcie_linkUp (entry vmax used : Nat) (s : State) : (setNegotiated entry vmax used s).pcie.linkUp = s.pcie.linkUp := Part.same_pcie_linkUp ((setNegotiated_fr entry vmax used s).1 .pcie rfl)
@[simp] theorem setNegotiated_pcie_width (entry vmax used : Nat) (s : State) : (setNegotiated entry vmax used s).pcie.width = s.pcie.width := Part.same_pcie_width ((setNegotiated_fr entry vmax used s).1 .pcie rfl)
@[simp] theorem setNegotiated_pcie_speed (entry vmax used : Nat) (s : State) : (setNegotiated entry vmax used s).pcie.speed = s.pcie.speed := Part.same_pcie_speed ((setNegotiated_fr entry vmax used s).1 .pcie rfl)
@[simp] theorem setNegotiated_pcie_trained (entry vmax used : Nat) (s : State) : (setNegotiated entry vmax used s).pcie.trained = s.pcie.trained := Part.same_pcie_trained ((setNegotiated_fr entry vmax used s).1 .pcie rfl)
@[simp] theorem setNegotiated_pcie_d3hot (entry vmax used : Nat) (s : State) : (setNegotiated entry vmax used s).pcie.d3hot = s.pcie.d3hot := Part.same_pcie_d3hot ((setNegotiated_fr entry vmax used s).1 .pcie rfl)
@[simp] theorem setNegotiated_pcie_l23 (entry vmax used : Nat) (s : State) : (setNegotiated entry vmax used s).pcie.l23 = s.pcie.l23 := Part.same_pcie_l23 ((setNegotiated_fr entry vmax used s).1 .pcie rfl)
@[simp] theorem setNegotiated_pcie_perst (entry vmax used : Nat) (s : State) : (setNegotiated entry vmax used s).pcie.perst = s.pcie.perst := Part.same_pcie_perst ((setNegotiated_fr entry vmax used s).1 .pcie rfl)
@[simp] theorem setNegotiated_pcie_command (entry vmax used : Nat) (s : State) : (setNegotiated entry vmax used s).pcie.command = s.pcie.command := Part.same_pcie_command ((setNegotiated_fr entry vmax used s).1 .pcie rfl)
@[simp] theorem setNegotiated_pcie_bars (entry vmax used : Nat) (s : State) : (setNegotiated entry vmax used s).pcie.bars = s.pcie.bars := Part.same_pcie_bars ((setNegotiated_fr entry vmax used s).1 .pcie rfl)
@[simp] theorem setNegotiated_pcie_devCtl (entry vmax used : Nat) (s : State) : (setNegotiated entry vmax used s).pcie.devCtl = s.pcie.devCtl := Part.same_pcie_devCtl ((setNegotiated_fr entry vmax used s).1 .pcie rfl)
@[simp] theorem setNegotiated_pcie_devCtl2 (entry vmax used : Nat) (s : State) : (setNegotiated entry vmax used s).pcie.devCtl2 = s.pcie.devCtl2 := Part.same_pcie_devCtl2 ((setNegotiated_fr entry vmax used s).1 .pcie rfl)
@[simp] theorem setNegotiated_pcie_aer (entry vmax used : Nat) (s : State) : (setNegotiated entry vmax used s).pcie.aer = s.pcie.aer := Part.same_pcie_aer ((setNegotiated_fr entry vmax used s).1 .pcie rfl)
@[simp] theorem setNegotiated_pcie_msixCtl (entry vmax used : Nat) (s : State) : (setNegotiated entry vmax used s).pcie.msixCtl = s.pcie.msixCtl := Part.same_pcie_msixCtl ((setNegotiated_fr entry vmax used s).1 .pcie rfl)
@[simp] theorem setNegotiated_pcie_msixTable (entry vmax used : Nat) (s : State) : (setNegotiated entry vmax used s).pcie.msixTable = s.pcie.msixTable := Part.same_pcie_msixTable ((setNegotiated_fr entry vmax used s).1 .pcie rfl)
@[simp] theorem setNegotiated_pcie_winAddr (entry vmax used : Nat) (s : State) : (setNegotiated entry vmax used s).pcie.winAddr = s.pcie.winAddr := Part.same_pcie_winAddr ((setNegotiated_fr entry vmax used s).1 .pcie rfl)
@[simp] theorem setNegotiated_pcie_winLength (entry vmax used : Nat) (s : State) : (setNegotiated entry vmax used s).pcie.winLength = s.pcie.winLength := Part.same_pcie_winLength ((setNegotiated_fr entry vmax used s).1 .pcie rfl)
@[simp] theorem setNegotiated_pcie_winOffset (entry vmax used : Nat) (s : State) : (setNegotiated entry vmax used s).pcie.winOffset = s.pcie.winOffset := Part.same_pcie_winOffset ((setNegotiated_fr entry vmax used s).1 .pcie rfl)
@[simp] theorem setNegotiated_pcie_winBusy (entry vmax used : Nat) (s : State) : (setNegotiated entry vmax used s).pcie.winBusy = s.pcie.winBusy := Part.same_pcie_winBusy ((setNegotiated_fr entry vmax used s).1 .pcie rfl)
@[simp] theorem setNegotiated_pcie_winWrite (entry vmax used : Nat) (s : State) : (setNegotiated entry vmax used s).pcie.winWrite = s.pcie.winWrite := Part.same_pcie_winWrite ((setNegotiated_fr entry vmax used s).1 .pcie rfl)
@[simp] theorem setNegotiated_pcie_winLost (entry vmax used : Nat) (s : State) : (setNegotiated entry vmax used s).pcie.winLost = s.pcie.winLost := Part.same_pcie_winLost ((setNegotiated_fr entry vmax used s).1 .pcie rfl)
@[simp] theorem setNegotiated_pcie_winDone (entry vmax used : Nat) (s : State) : (setNegotiated entry vmax used s).pcie.winDone = s.pcie.winDone := Part.same_pcie_winDone ((setNegotiated_fr entry vmax used s).1 .pcie rfl)
@[simp] theorem setNegotiated_pcie_winCollision (entry vmax used : Nat) (s : State) : (setNegotiated entry vmax used s).pcie.winCollision = s.pcie.winCollision := Part.same_pcie_winCollision ((setNegotiated_fr entry vmax used s).1 .pcie rfl)
@[simp] theorem setNegotiated_pcie_winStatus (entry vmax used : Nat) (s : State) : (setNegotiated entry vmax used s).pcie.winStatus = s.pcie.winStatus := Part.same_pcie_winStatus ((setNegotiated_fr entry vmax used s).1 .pcie rfl)
@[simp] theorem setNegotiated_pcie_winBuf (entry vmax used : Nat) (s : State) : (setNegotiated entry vmax used s).pcie.winBuf = s.pcie.winBuf := Part.same_pcie_winBuf ((setNegotiated_fr entry vmax used s).1 .pcie rfl)
@[simp] theorem setNegotiated_pcie_winResult (entry vmax used : Nat) (s : State) : (setNegotiated entry vmax used s).pcie.winResult = s.pcie.winResult := Part.same_pcie_winResult ((setNegotiated_fr entry vmax used s).1 .pcie rfl)
@[simp] theorem setNegotiated_pcie_readData (entry vmax used : Nat) (s : State) : (setNegotiated entry vmax used s).pcie.readData = s.pcie.readData := Part.same_pcie_readData ((setNegotiated_fr entry vmax used s).1 .pcie rfl)
@[simp] theorem setNegotiated_pcie_hostAccess (entry vmax used : Nat) (s : State) : (setNegotiated entry vmax used s).pcie.hostAccess = s.pcie.hostAccess := (setNegotiated_fr entry vmax used s).1 .hostWrites rfl
@[simp] theorem setNegotiated_pwr_state (entry vmax used : Nat) (s : State) : (setNegotiated entry vmax used s).pwr.state = s.pwr.state := Part.same_pwr_state ((setNegotiated_fr entry vmax used s).1 .pwr rfl)
@[simp] theorem setNegotiated_pwr_nextEvent (entry vmax used : Nat) (s : State) : (setNegotiated entry vmax used s).pwr.nextEvent = s.pwr.nextEvent := Part.same_pwr_nextEvent ((setNegotiated_fr entry vmax used s).1 .pwr rfl)
@[simp] theorem setNegotiated_pwr_since (entry vmax used : Nat) (s : State) : (setNegotiated entry vmax used s).pwr.since = s.pwr.since := Part.same_pwr_since ((setNegotiated_fr entry vmax used s).1 .pwr rfl)
@[simp] theorem setNegotiated_pwr_resid (entry vmax used : Nat) (s : State) : (setNegotiated entry vmax used s).pwr.resid = s.pwr.resid := Part.same_pwr_resid ((setNegotiated_fr entry vmax used s).1 .pwr rfl)
@[simp] theorem setNegotiated_pwr_tempArmed (entry vmax used : Nat) (s : State) : (setNegotiated entry vmax used s).pwr.tempArmed = s.pwr.tempArmed := Part.same_pwr_tempArmed ((setNegotiated_fr entry vmax used s).1 .pwr rfl)
@[simp] theorem setNegotiated_pwr_driftArmed (entry vmax used : Nat) (s : State) : (setNegotiated entry vmax used s).pwr.driftArmed = s.pwr.driftArmed := Part.same_pwr_driftArmed ((setNegotiated_fr entry vmax used s).1 .pwr rfl)
@[simp] theorem setNegotiated_pwr_resetWaiting (entry vmax used : Nat) (s : State) : (setNegotiated entry vmax used s).pwr.resetWaiting = s.pwr.resetWaiting := Part.same_pwr_resetWaiting ((setNegotiated_fr entry vmax used s).1 .pwr rfl)
@[simp] theorem setNegotiated_pwr_restartWaiting (entry vmax used : Nat) (s : State) : (setNegotiated entry vmax used s).pwr.restartWaiting = s.pwr.restartWaiting := Part.same_pwr_restartWaiting ((setNegotiated_fr entry vmax used s).1 .pwr rfl)
@[simp] theorem setNegotiated_pwr_exiting (entry vmax used : Nat) (s : State) : (setNegotiated entry vmax used s).pwr.exiting = s.pwr.exiting := ((setNegotiated_fr entry vmax used s).1 .wake rfl).1
@[simp] theorem setNegotiated_pwr_entering (entry vmax used : Nat) (s : State) : (setNegotiated entry vmax used s).pwr.entering = s.pwr.entering := ((setNegotiated_fr entry vmax used s).1 .wake rfl).2
@[simp] theorem setNegotiated_ddr_mem (entry vmax used : Nat) (s : State) : (setNegotiated entry vmax used s).ddr.mem = s.ddr.mem := (setNegotiated_fr entry vmax used s).1 .mem rfl
@[simp] theorem setNegotiated_ddr (entry vmax used : Nat) (s : State) : (setNegotiated entry vmax used s).ddr = s.ddr := Ddr.eq_of_parts ((setNegotiated_fr entry vmax used s).1 .ddr rfl) ((setNegotiated_fr entry vmax used s).1 .mem rfl)

/-! `takeCause` -/

@[simp] theorem takeCause_pending (b head : Nat) (s : State) : (takeCause b head s).pending = s.pending := (takeCause_fr b head s).1 .queue rfl
@[simp] theorem takeCause_loc (b head : Nat) (s : State) : (takeCause b head s).loc = s.loc := (takeCause_fr b head s).1 .loc rfl
@[simp] theorem takeCause_freeCtr (b head : Nat) (s : State) : (takeCause b head s).freeCtr = s.freeCtr := (takeCause_fr b head s).1 .free rfl
@[simp] theorem takeCause_dom (b head : Nat) (s : State) : (takeCause b head s).dom = s.dom := (takeCause_fr b head s).1 .dom rfl
@[simp] theorem takeCause_live (b head : Nat) (s : State) : (takeCause b head s).live = s.live := (takeCause_fr b head s).1 .live rfl
@[simp] theorem takeCause_liveDom (b head : Nat) (s : State) : (takeCause b head s).liveDom = s.liveDom := (takeCause_fr b head s).1 .liveDom rfl
@[simp] theorem takeCause_ledgers (b head : Nat) (s : State) : (takeCause b head s).ledgers = s.ledgers := (takeCause_fr b head s).1 .ledgers rfl
@[simp] theorem takeCause_srv (b head : Nat) (s : State) : (takeCause b head s).srv = s.srv := (takeCause_fr b head s).1 .srv rfl
@[simp] theorem takeCause_net (b head : Nat) (s : State) : (takeCause b head s).net = s.net := (takeCause_fr b head s).1 .net rfl
@[simp] theorem takeCause_rings (b head : Nat) (s : State) : (takeCause b head s).rings = s.rings := (takeCause_fr b head s).1 .rings rfl
@[simp] theorem takeCause_gal (b head : Nat) (s : State) : (takeCause b head s).gal = s.gal := (takeCause_fr b head s).1 .gal rfl
@[simp] theorem takeCause_formes (b head : Nat) (s : State) : (takeCause b head s).formes = s.formes := (takeCause_fr b head s).1 .formes rfl
@[simp] theorem takeCause_comp (b head : Nat) (s : State) : (takeCause b head s).comp = s.comp := (takeCause_fr b head s).1 .comp rfl
@[simp] theorem takeCause_ports (b head : Nat) (s : State) : (takeCause b head s).ports = s.ports := (takeCause_fr b head s).1 .ports rfl
@[simp] theorem takeCause_web (b head : Nat) (s : State) : (takeCause b head s).web = s.web := (takeCause_fr b head s).1 .web rfl
@[simp] theorem takeCause_time (b head : Nat) (s : State) : (takeCause b head s).time = s.time := (takeCause_fr b head s).1 .time rfl
@[simp] theorem takeCause_pace (b head : Nat) (s : State) : (takeCause b head s).pace = s.pace := (takeCause_fr b head s).1 .pace rfl
@[simp] theorem takeCause_cams (b head : Nat) (s : State) : (takeCause b head s).cams = s.cams := (takeCause_fr b head s).1 .cams rfl
@[simp] theorem takeCause_prf (b head : Nat) (s : State) : (takeCause b head s).prf = s.prf := (takeCause_fr b head s).1 .prf rfl
@[simp] theorem takeCause_axes (b head : Nat) (s : State) : (takeCause b head s).axes = s.axes := (takeCause_fr b head s).1 .axes rfl
@[simp] theorem takeCause_boot (b head : Nat) (s : State) : (takeCause b head s).boot = s.boot := (takeCause_fr b head s).1 .boot rfl
@[simp] theorem takeCause_tymp (b head : Nat) (s : State) : (takeCause b head s).tymp = s.tymp := (takeCause_fr b head s).1 .tymp rfl
@[simp] theorem takeCause_clk (b head : Nat) (s : State) : (takeCause b head s).clk = s.clk := (takeCause_fr b head s).1 .clk rfl
@[simp] theorem takeCause_sec (b head : Nat) (s : State) : (takeCause b head s).sec = s.sec := (takeCause_fr b head s).1 .sec rfl
@[simp] theorem takeCause_disp (b head : Nat) (s : State) : (takeCause b head s).disp = s.disp := (takeCause_fr b head s).1 .disp rfl
@[simp] theorem takeCause_pins (b head : Nat) (s : State) : (takeCause b head s).pins = s.pins := (takeCause_fr b head s).1 .pins rfl
@[simp] theorem takeCause_dev_evLog (b head : Nat) (s : State) : (takeCause b head s).dev.evLog = s.dev.evLog := ((takeCause_fr b head s).1 .log rfl).1
@[simp] theorem takeCause_dev_ledgerHalt (b head : Nat) (s : State) : (takeCause b head s).dev.ledgerHalt = s.dev.ledgerHalt := ((takeCause_fr b head s).1 .dev rfl).1
@[simp] theorem takeCause_dev_offFired (b head : Nat) (s : State) : (takeCause b head s).dev.offFired = s.dev.offFired := ((takeCause_fr b head s).1 .dev rfl).2
@[simp] theorem takeCause_pcie_linkUp (b head : Nat) (s : State) : (takeCause b head s).pcie.linkUp = s.pcie.linkUp := Part.same_pcie_linkUp ((takeCause_fr b head s).1 .pcie rfl)
@[simp] theorem takeCause_pcie_width (b head : Nat) (s : State) : (takeCause b head s).pcie.width = s.pcie.width := Part.same_pcie_width ((takeCause_fr b head s).1 .pcie rfl)
@[simp] theorem takeCause_pcie_speed (b head : Nat) (s : State) : (takeCause b head s).pcie.speed = s.pcie.speed := Part.same_pcie_speed ((takeCause_fr b head s).1 .pcie rfl)
@[simp] theorem takeCause_pcie_trained (b head : Nat) (s : State) : (takeCause b head s).pcie.trained = s.pcie.trained := Part.same_pcie_trained ((takeCause_fr b head s).1 .pcie rfl)
@[simp] theorem takeCause_pcie_d3hot (b head : Nat) (s : State) : (takeCause b head s).pcie.d3hot = s.pcie.d3hot := Part.same_pcie_d3hot ((takeCause_fr b head s).1 .pcie rfl)
@[simp] theorem takeCause_pcie_l23 (b head : Nat) (s : State) : (takeCause b head s).pcie.l23 = s.pcie.l23 := Part.same_pcie_l23 ((takeCause_fr b head s).1 .pcie rfl)
@[simp] theorem takeCause_pcie_perst (b head : Nat) (s : State) : (takeCause b head s).pcie.perst = s.pcie.perst := Part.same_pcie_perst ((takeCause_fr b head s).1 .pcie rfl)
@[simp] theorem takeCause_pcie_command (b head : Nat) (s : State) : (takeCause b head s).pcie.command = s.pcie.command := Part.same_pcie_command ((takeCause_fr b head s).1 .pcie rfl)
@[simp] theorem takeCause_pcie_bars (b head : Nat) (s : State) : (takeCause b head s).pcie.bars = s.pcie.bars := Part.same_pcie_bars ((takeCause_fr b head s).1 .pcie rfl)
@[simp] theorem takeCause_pcie_devCtl (b head : Nat) (s : State) : (takeCause b head s).pcie.devCtl = s.pcie.devCtl := Part.same_pcie_devCtl ((takeCause_fr b head s).1 .pcie rfl)
@[simp] theorem takeCause_pcie_devCtl2 (b head : Nat) (s : State) : (takeCause b head s).pcie.devCtl2 = s.pcie.devCtl2 := Part.same_pcie_devCtl2 ((takeCause_fr b head s).1 .pcie rfl)
@[simp] theorem takeCause_pcie_aer (b head : Nat) (s : State) : (takeCause b head s).pcie.aer = s.pcie.aer := Part.same_pcie_aer ((takeCause_fr b head s).1 .pcie rfl)
@[simp] theorem takeCause_pcie_msixCtl (b head : Nat) (s : State) : (takeCause b head s).pcie.msixCtl = s.pcie.msixCtl := Part.same_pcie_msixCtl ((takeCause_fr b head s).1 .pcie rfl)
@[simp] theorem takeCause_pcie_msixTable (b head : Nat) (s : State) : (takeCause b head s).pcie.msixTable = s.pcie.msixTable := Part.same_pcie_msixTable ((takeCause_fr b head s).1 .pcie rfl)
@[simp] theorem takeCause_pcie_winAddr (b head : Nat) (s : State) : (takeCause b head s).pcie.winAddr = s.pcie.winAddr := Part.same_pcie_winAddr ((takeCause_fr b head s).1 .pcie rfl)
@[simp] theorem takeCause_pcie_winLength (b head : Nat) (s : State) : (takeCause b head s).pcie.winLength = s.pcie.winLength := Part.same_pcie_winLength ((takeCause_fr b head s).1 .pcie rfl)
@[simp] theorem takeCause_pcie_winOffset (b head : Nat) (s : State) : (takeCause b head s).pcie.winOffset = s.pcie.winOffset := Part.same_pcie_winOffset ((takeCause_fr b head s).1 .pcie rfl)
@[simp] theorem takeCause_pcie_winBusy (b head : Nat) (s : State) : (takeCause b head s).pcie.winBusy = s.pcie.winBusy := Part.same_pcie_winBusy ((takeCause_fr b head s).1 .pcie rfl)
@[simp] theorem takeCause_pcie_winWrite (b head : Nat) (s : State) : (takeCause b head s).pcie.winWrite = s.pcie.winWrite := Part.same_pcie_winWrite ((takeCause_fr b head s).1 .pcie rfl)
@[simp] theorem takeCause_pcie_winLost (b head : Nat) (s : State) : (takeCause b head s).pcie.winLost = s.pcie.winLost := Part.same_pcie_winLost ((takeCause_fr b head s).1 .pcie rfl)
@[simp] theorem takeCause_pcie_winDone (b head : Nat) (s : State) : (takeCause b head s).pcie.winDone = s.pcie.winDone := Part.same_pcie_winDone ((takeCause_fr b head s).1 .pcie rfl)
@[simp] theorem takeCause_pcie_winCollision (b head : Nat) (s : State) : (takeCause b head s).pcie.winCollision = s.pcie.winCollision := Part.same_pcie_winCollision ((takeCause_fr b head s).1 .pcie rfl)
@[simp] theorem takeCause_pcie_winStatus (b head : Nat) (s : State) : (takeCause b head s).pcie.winStatus = s.pcie.winStatus := Part.same_pcie_winStatus ((takeCause_fr b head s).1 .pcie rfl)
@[simp] theorem takeCause_pcie_winBuf (b head : Nat) (s : State) : (takeCause b head s).pcie.winBuf = s.pcie.winBuf := Part.same_pcie_winBuf ((takeCause_fr b head s).1 .pcie rfl)
@[simp] theorem takeCause_pcie_winResult (b head : Nat) (s : State) : (takeCause b head s).pcie.winResult = s.pcie.winResult := Part.same_pcie_winResult ((takeCause_fr b head s).1 .pcie rfl)
@[simp] theorem takeCause_pcie_readData (b head : Nat) (s : State) : (takeCause b head s).pcie.readData = s.pcie.readData := Part.same_pcie_readData ((takeCause_fr b head s).1 .pcie rfl)
@[simp] theorem takeCause_pcie_hostAccess (b head : Nat) (s : State) : (takeCause b head s).pcie.hostAccess = s.pcie.hostAccess := (takeCause_fr b head s).1 .hostWrites rfl
@[simp] theorem takeCause_pwr_state (b head : Nat) (s : State) : (takeCause b head s).pwr.state = s.pwr.state := Part.same_pwr_state ((takeCause_fr b head s).1 .pwr rfl)
@[simp] theorem takeCause_pwr_nextEvent (b head : Nat) (s : State) : (takeCause b head s).pwr.nextEvent = s.pwr.nextEvent := Part.same_pwr_nextEvent ((takeCause_fr b head s).1 .pwr rfl)
@[simp] theorem takeCause_pwr_since (b head : Nat) (s : State) : (takeCause b head s).pwr.since = s.pwr.since := Part.same_pwr_since ((takeCause_fr b head s).1 .pwr rfl)
@[simp] theorem takeCause_pwr_resid (b head : Nat) (s : State) : (takeCause b head s).pwr.resid = s.pwr.resid := Part.same_pwr_resid ((takeCause_fr b head s).1 .pwr rfl)
@[simp] theorem takeCause_pwr_tempArmed (b head : Nat) (s : State) : (takeCause b head s).pwr.tempArmed = s.pwr.tempArmed := Part.same_pwr_tempArmed ((takeCause_fr b head s).1 .pwr rfl)
@[simp] theorem takeCause_pwr_driftArmed (b head : Nat) (s : State) : (takeCause b head s).pwr.driftArmed = s.pwr.driftArmed := Part.same_pwr_driftArmed ((takeCause_fr b head s).1 .pwr rfl)
@[simp] theorem takeCause_pwr_resetWaiting (b head : Nat) (s : State) : (takeCause b head s).pwr.resetWaiting = s.pwr.resetWaiting := Part.same_pwr_resetWaiting ((takeCause_fr b head s).1 .pwr rfl)
@[simp] theorem takeCause_pwr_restartWaiting (b head : Nat) (s : State) : (takeCause b head s).pwr.restartWaiting = s.pwr.restartWaiting := Part.same_pwr_restartWaiting ((takeCause_fr b head s).1 .pwr rfl)
@[simp] theorem takeCause_pwr_exiting (b head : Nat) (s : State) : (takeCause b head s).pwr.exiting = s.pwr.exiting := ((takeCause_fr b head s).1 .wake rfl).1
@[simp] theorem takeCause_pwr_entering (b head : Nat) (s : State) : (takeCause b head s).pwr.entering = s.pwr.entering := ((takeCause_fr b head s).1 .wake rfl).2
@[simp] theorem takeCause_ddr_mem (b head : Nat) (s : State) : (takeCause b head s).ddr.mem = s.ddr.mem := (takeCause_fr b head s).1 .mem rfl
@[simp] theorem takeCause_ddr (b head : Nat) (s : State) : (takeCause b head s).ddr = s.ddr := Ddr.eq_of_parts ((takeCause_fr b head s).1 .ddr rfl) ((takeCause_fr b head s).1 .mem rfl)
theorem takeCause_o (b head : Nat) (s : State) (k : Nat) : (takeCause b head s).o k = s.o k := by
  refine (takeCause_fr b head s).2 k fun f hf => ?_
  cases f with
  | _ => exact absurd hf (by decide)

/-! `portEvent` -/

@[simp] theorem portEvent_pending (ev arg h : Nat) (s : State) : (portEvent ev arg h s).pending = s.pending := (portEvent_fr ev arg h s).1 .queue rfl
@[simp] theorem portEvent_loc (ev arg h : Nat) (s : State) : (portEvent ev arg h s).loc = s.loc := (portEvent_fr ev arg h s).1 .loc rfl
@[simp] theorem portEvent_freeCtr (ev arg h : Nat) (s : State) : (portEvent ev arg h s).freeCtr = s.freeCtr := (portEvent_fr ev arg h s).1 .free rfl
@[simp] theorem portEvent_dom (ev arg h : Nat) (s : State) : (portEvent ev arg h s).dom = s.dom := (portEvent_fr ev arg h s).1 .dom rfl
@[simp] theorem portEvent_live (ev arg h : Nat) (s : State) : (portEvent ev arg h s).live = s.live := (portEvent_fr ev arg h s).1 .live rfl
@[simp] theorem portEvent_liveDom (ev arg h : Nat) (s : State) : (portEvent ev arg h s).liveDom = s.liveDom := (portEvent_fr ev arg h s).1 .liveDom rfl
@[simp] theorem portEvent_ledgers (ev arg h : Nat) (s : State) : (portEvent ev arg h s).ledgers = s.ledgers := (portEvent_fr ev arg h s).1 .ledgers rfl
@[simp] theorem portEvent_srv (ev arg h : Nat) (s : State) : (portEvent ev arg h s).srv = s.srv := (portEvent_fr ev arg h s).1 .srv rfl
@[simp] theorem portEvent_net (ev arg h : Nat) (s : State) : (portEvent ev arg h s).net = s.net := (portEvent_fr ev arg h s).1 .net rfl
@[simp] theorem portEvent_rings (ev arg h : Nat) (s : State) : (portEvent ev arg h s).rings = s.rings := (portEvent_fr ev arg h s).1 .rings rfl
@[simp] theorem portEvent_gal (ev arg h : Nat) (s : State) : (portEvent ev arg h s).gal = s.gal := (portEvent_fr ev arg h s).1 .gal rfl
@[simp] theorem portEvent_formes (ev arg h : Nat) (s : State) : (portEvent ev arg h s).formes = s.formes := (portEvent_fr ev arg h s).1 .formes rfl
@[simp] theorem portEvent_comp (ev arg h : Nat) (s : State) : (portEvent ev arg h s).comp = s.comp := (portEvent_fr ev arg h s).1 .comp rfl
@[simp] theorem portEvent_plat (ev arg h : Nat) (s : State) : (portEvent ev arg h s).plat = s.plat := (portEvent_fr ev arg h s).1 .plat rfl
@[simp] theorem portEvent_ports (ev arg h : Nat) (s : State) : (portEvent ev arg h s).ports = s.ports := (portEvent_fr ev arg h s).1 .ports rfl
@[simp] theorem portEvent_web (ev arg h : Nat) (s : State) : (portEvent ev arg h s).web = s.web := (portEvent_fr ev arg h s).1 .web rfl
@[simp] theorem portEvent_time (ev arg h : Nat) (s : State) : (portEvent ev arg h s).time = s.time := (portEvent_fr ev arg h s).1 .time rfl
@[simp] theorem portEvent_pace (ev arg h : Nat) (s : State) : (portEvent ev arg h s).pace = s.pace := (portEvent_fr ev arg h s).1 .pace rfl
@[simp] theorem portEvent_cams (ev arg h : Nat) (s : State) : (portEvent ev arg h s).cams = s.cams := (portEvent_fr ev arg h s).1 .cams rfl
@[simp] theorem portEvent_prf (ev arg h : Nat) (s : State) : (portEvent ev arg h s).prf = s.prf := (portEvent_fr ev arg h s).1 .prf rfl
@[simp] theorem portEvent_axes (ev arg h : Nat) (s : State) : (portEvent ev arg h s).axes = s.axes := (portEvent_fr ev arg h s).1 .axes rfl
@[simp] theorem portEvent_boot (ev arg h : Nat) (s : State) : (portEvent ev arg h s).boot = s.boot := (portEvent_fr ev arg h s).1 .boot rfl
@[simp] theorem portEvent_clk (ev arg h : Nat) (s : State) : (portEvent ev arg h s).clk = s.clk := (portEvent_fr ev arg h s).1 .clk rfl
@[simp] theorem portEvent_sec (ev arg h : Nat) (s : State) : (portEvent ev arg h s).sec = s.sec := (portEvent_fr ev arg h s).1 .sec rfl
@[simp] theorem portEvent_disp (ev arg h : Nat) (s : State) : (portEvent ev arg h s).disp = s.disp := (portEvent_fr ev arg h s).1 .disp rfl
@[simp] theorem portEvent_pins (ev arg h : Nat) (s : State) : (portEvent ev arg h s).pins = s.pins := (portEvent_fr ev arg h s).1 .pins rfl
@[simp] theorem portEvent_dev_ledgerHalt (ev arg h : Nat) (s : State) : (portEvent ev arg h s).dev.ledgerHalt = s.dev.ledgerHalt := ((portEvent_fr ev arg h s).1 .dev rfl).1
@[simp] theorem portEvent_dev_offFired (ev arg h : Nat) (s : State) : (portEvent ev arg h s).dev.offFired = s.dev.offFired := ((portEvent_fr ev arg h s).1 .dev rfl).2
@[simp] theorem portEvent_pcie_linkUp (ev arg h : Nat) (s : State) : (portEvent ev arg h s).pcie.linkUp = s.pcie.linkUp := Part.same_pcie_linkUp ((portEvent_fr ev arg h s).1 .pcie rfl)
@[simp] theorem portEvent_pcie_width (ev arg h : Nat) (s : State) : (portEvent ev arg h s).pcie.width = s.pcie.width := Part.same_pcie_width ((portEvent_fr ev arg h s).1 .pcie rfl)
@[simp] theorem portEvent_pcie_speed (ev arg h : Nat) (s : State) : (portEvent ev arg h s).pcie.speed = s.pcie.speed := Part.same_pcie_speed ((portEvent_fr ev arg h s).1 .pcie rfl)
@[simp] theorem portEvent_pcie_trained (ev arg h : Nat) (s : State) : (portEvent ev arg h s).pcie.trained = s.pcie.trained := Part.same_pcie_trained ((portEvent_fr ev arg h s).1 .pcie rfl)
@[simp] theorem portEvent_pcie_d3hot (ev arg h : Nat) (s : State) : (portEvent ev arg h s).pcie.d3hot = s.pcie.d3hot := Part.same_pcie_d3hot ((portEvent_fr ev arg h s).1 .pcie rfl)
@[simp] theorem portEvent_pcie_l23 (ev arg h : Nat) (s : State) : (portEvent ev arg h s).pcie.l23 = s.pcie.l23 := Part.same_pcie_l23 ((portEvent_fr ev arg h s).1 .pcie rfl)
@[simp] theorem portEvent_pcie_perst (ev arg h : Nat) (s : State) : (portEvent ev arg h s).pcie.perst = s.pcie.perst := Part.same_pcie_perst ((portEvent_fr ev arg h s).1 .pcie rfl)
@[simp] theorem portEvent_pcie_command (ev arg h : Nat) (s : State) : (portEvent ev arg h s).pcie.command = s.pcie.command := Part.same_pcie_command ((portEvent_fr ev arg h s).1 .pcie rfl)
@[simp] theorem portEvent_pcie_bars (ev arg h : Nat) (s : State) : (portEvent ev arg h s).pcie.bars = s.pcie.bars := Part.same_pcie_bars ((portEvent_fr ev arg h s).1 .pcie rfl)
@[simp] theorem portEvent_pcie_devCtl (ev arg h : Nat) (s : State) : (portEvent ev arg h s).pcie.devCtl = s.pcie.devCtl := Part.same_pcie_devCtl ((portEvent_fr ev arg h s).1 .pcie rfl)
@[simp] theorem portEvent_pcie_devCtl2 (ev arg h : Nat) (s : State) : (portEvent ev arg h s).pcie.devCtl2 = s.pcie.devCtl2 := Part.same_pcie_devCtl2 ((portEvent_fr ev arg h s).1 .pcie rfl)
@[simp] theorem portEvent_pcie_aer (ev arg h : Nat) (s : State) : (portEvent ev arg h s).pcie.aer = s.pcie.aer := Part.same_pcie_aer ((portEvent_fr ev arg h s).1 .pcie rfl)
@[simp] theorem portEvent_pcie_msixCtl (ev arg h : Nat) (s : State) : (portEvent ev arg h s).pcie.msixCtl = s.pcie.msixCtl := Part.same_pcie_msixCtl ((portEvent_fr ev arg h s).1 .pcie rfl)
@[simp] theorem portEvent_pcie_msixTable (ev arg h : Nat) (s : State) : (portEvent ev arg h s).pcie.msixTable = s.pcie.msixTable := Part.same_pcie_msixTable ((portEvent_fr ev arg h s).1 .pcie rfl)
@[simp] theorem portEvent_pcie_winAddr (ev arg h : Nat) (s : State) : (portEvent ev arg h s).pcie.winAddr = s.pcie.winAddr := Part.same_pcie_winAddr ((portEvent_fr ev arg h s).1 .pcie rfl)
@[simp] theorem portEvent_pcie_winLength (ev arg h : Nat) (s : State) : (portEvent ev arg h s).pcie.winLength = s.pcie.winLength := Part.same_pcie_winLength ((portEvent_fr ev arg h s).1 .pcie rfl)
@[simp] theorem portEvent_pcie_winOffset (ev arg h : Nat) (s : State) : (portEvent ev arg h s).pcie.winOffset = s.pcie.winOffset := Part.same_pcie_winOffset ((portEvent_fr ev arg h s).1 .pcie rfl)
@[simp] theorem portEvent_pcie_winBusy (ev arg h : Nat) (s : State) : (portEvent ev arg h s).pcie.winBusy = s.pcie.winBusy := Part.same_pcie_winBusy ((portEvent_fr ev arg h s).1 .pcie rfl)
@[simp] theorem portEvent_pcie_winWrite (ev arg h : Nat) (s : State) : (portEvent ev arg h s).pcie.winWrite = s.pcie.winWrite := Part.same_pcie_winWrite ((portEvent_fr ev arg h s).1 .pcie rfl)
@[simp] theorem portEvent_pcie_winLost (ev arg h : Nat) (s : State) : (portEvent ev arg h s).pcie.winLost = s.pcie.winLost := Part.same_pcie_winLost ((portEvent_fr ev arg h s).1 .pcie rfl)
@[simp] theorem portEvent_pcie_winDone (ev arg h : Nat) (s : State) : (portEvent ev arg h s).pcie.winDone = s.pcie.winDone := Part.same_pcie_winDone ((portEvent_fr ev arg h s).1 .pcie rfl)
@[simp] theorem portEvent_pcie_winCollision (ev arg h : Nat) (s : State) : (portEvent ev arg h s).pcie.winCollision = s.pcie.winCollision := Part.same_pcie_winCollision ((portEvent_fr ev arg h s).1 .pcie rfl)
@[simp] theorem portEvent_pcie_winStatus (ev arg h : Nat) (s : State) : (portEvent ev arg h s).pcie.winStatus = s.pcie.winStatus := Part.same_pcie_winStatus ((portEvent_fr ev arg h s).1 .pcie rfl)
@[simp] theorem portEvent_pcie_winBuf (ev arg h : Nat) (s : State) : (portEvent ev arg h s).pcie.winBuf = s.pcie.winBuf := Part.same_pcie_winBuf ((portEvent_fr ev arg h s).1 .pcie rfl)
@[simp] theorem portEvent_pcie_winResult (ev arg h : Nat) (s : State) : (portEvent ev arg h s).pcie.winResult = s.pcie.winResult := Part.same_pcie_winResult ((portEvent_fr ev arg h s).1 .pcie rfl)
@[simp] theorem portEvent_pcie_readData (ev arg h : Nat) (s : State) : (portEvent ev arg h s).pcie.readData = s.pcie.readData := Part.same_pcie_readData ((portEvent_fr ev arg h s).1 .pcie rfl)
@[simp] theorem portEvent_pcie_hostAccess (ev arg h : Nat) (s : State) : (portEvent ev arg h s).pcie.hostAccess = s.pcie.hostAccess := (portEvent_fr ev arg h s).1 .hostWrites rfl
@[simp] theorem portEvent_pwr_state (ev arg h : Nat) (s : State) : (portEvent ev arg h s).pwr.state = s.pwr.state := Part.same_pwr_state ((portEvent_fr ev arg h s).1 .pwr rfl)
@[simp] theorem portEvent_pwr_nextEvent (ev arg h : Nat) (s : State) : (portEvent ev arg h s).pwr.nextEvent = s.pwr.nextEvent := Part.same_pwr_nextEvent ((portEvent_fr ev arg h s).1 .pwr rfl)
@[simp] theorem portEvent_pwr_since (ev arg h : Nat) (s : State) : (portEvent ev arg h s).pwr.since = s.pwr.since := Part.same_pwr_since ((portEvent_fr ev arg h s).1 .pwr rfl)
@[simp] theorem portEvent_pwr_resid (ev arg h : Nat) (s : State) : (portEvent ev arg h s).pwr.resid = s.pwr.resid := Part.same_pwr_resid ((portEvent_fr ev arg h s).1 .pwr rfl)
@[simp] theorem portEvent_pwr_tempArmed (ev arg h : Nat) (s : State) : (portEvent ev arg h s).pwr.tempArmed = s.pwr.tempArmed := Part.same_pwr_tempArmed ((portEvent_fr ev arg h s).1 .pwr rfl)
@[simp] theorem portEvent_pwr_driftArmed (ev arg h : Nat) (s : State) : (portEvent ev arg h s).pwr.driftArmed = s.pwr.driftArmed := Part.same_pwr_driftArmed ((portEvent_fr ev arg h s).1 .pwr rfl)
@[simp] theorem portEvent_pwr_resetWaiting (ev arg h : Nat) (s : State) : (portEvent ev arg h s).pwr.resetWaiting = s.pwr.resetWaiting := Part.same_pwr_resetWaiting ((portEvent_fr ev arg h s).1 .pwr rfl)
@[simp] theorem portEvent_pwr_restartWaiting (ev arg h : Nat) (s : State) : (portEvent ev arg h s).pwr.restartWaiting = s.pwr.restartWaiting := Part.same_pwr_restartWaiting ((portEvent_fr ev arg h s).1 .pwr rfl)
@[simp] theorem portEvent_ddr_mem (ev arg h : Nat) (s : State) : (portEvent ev arg h s).ddr.mem = s.ddr.mem := (portEvent_fr ev arg h s).1 .mem rfl
@[simp] theorem portEvent_ddr (ev arg h : Nat) (s : State) : (portEvent ev arg h s).ddr = s.ddr := Ddr.eq_of_parts ((portEvent_fr ev arg h s).1 .ddr rfl) ((portEvent_fr ev arg h s).1 .mem rfl)
theorem portEvent_o (ev arg h : Nat) (s : State) {k : Nat} (hk : k ∉ eventKeys) : (portEvent ev arg h s).o k = s.o k := by
  refine (portEvent_fr ev arg h s).2 k fun f hf => ?_
  cases f with
  | EVENT_BITS => exact not_event_bits hk
  | EVENT_LOG_DROPPED => intro e; subst e; exact hk (by decide)
  | TRACE_DROPPED => intro e; subst e; exact hk (by decide)
  | _ => exact absurd hf (by decide)

/-! `dramWrite` -/

@[simp] theorem dramWrite_pending (a : Nat) (bs : List Byte) (s : State) : (dramWrite a bs s).pending = s.pending := (dramWrite_fr a bs s).1 .queue rfl
@[simp] theorem dramWrite_loc (a : Nat) (bs : List Byte) (s : State) : (dramWrite a bs s).loc = s.loc := (dramWrite_fr a bs s).1 .loc rfl
@[simp] theorem dramWrite_freeCtr (a : Nat) (bs : List Byte) (s : State) : (dramWrite a bs s).freeCtr = s.freeCtr := (dramWrite_fr a bs s).1 .free rfl
@[simp] theorem dramWrite_dom (a : Nat) (bs : List Byte) (s : State) : (dramWrite a bs s).dom = s.dom := (dramWrite_fr a bs s).1 .dom rfl
@[simp] theorem dramWrite_live (a : Nat) (bs : List Byte) (s : State) : (dramWrite a bs s).live = s.live := (dramWrite_fr a bs s).1 .live rfl
@[simp] theorem dramWrite_liveDom (a : Nat) (bs : List Byte) (s : State) : (dramWrite a bs s).liveDom = s.liveDom := (dramWrite_fr a bs s).1 .liveDom rfl
@[simp] theorem dramWrite_ledgers (a : Nat) (bs : List Byte) (s : State) : (dramWrite a bs s).ledgers = s.ledgers := (dramWrite_fr a bs s).1 .ledgers rfl
@[simp] theorem dramWrite_srv (a : Nat) (bs : List Byte) (s : State) : (dramWrite a bs s).srv = s.srv := (dramWrite_fr a bs s).1 .srv rfl
@[simp] theorem dramWrite_net (a : Nat) (bs : List Byte) (s : State) : (dramWrite a bs s).net = s.net := (dramWrite_fr a bs s).1 .net rfl
@[simp] theorem dramWrite_rings (a : Nat) (bs : List Byte) (s : State) : (dramWrite a bs s).rings = s.rings := (dramWrite_fr a bs s).1 .rings rfl
@[simp] theorem dramWrite_gal (a : Nat) (bs : List Byte) (s : State) : (dramWrite a bs s).gal = s.gal := (dramWrite_fr a bs s).1 .gal rfl
@[simp] theorem dramWrite_formes (a : Nat) (bs : List Byte) (s : State) : (dramWrite a bs s).formes = s.formes := (dramWrite_fr a bs s).1 .formes rfl
@[simp] theorem dramWrite_comp (a : Nat) (bs : List Byte) (s : State) : (dramWrite a bs s).comp = s.comp := (dramWrite_fr a bs s).1 .comp rfl
@[simp] theorem dramWrite_plat (a : Nat) (bs : List Byte) (s : State) : (dramWrite a bs s).plat = s.plat := (dramWrite_fr a bs s).1 .plat rfl
@[simp] theorem dramWrite_ports (a : Nat) (bs : List Byte) (s : State) : (dramWrite a bs s).ports = s.ports := (dramWrite_fr a bs s).1 .ports rfl
@[simp] theorem dramWrite_web (a : Nat) (bs : List Byte) (s : State) : (dramWrite a bs s).web = s.web := (dramWrite_fr a bs s).1 .web rfl
@[simp] theorem dramWrite_time (a : Nat) (bs : List Byte) (s : State) : (dramWrite a bs s).time = s.time := (dramWrite_fr a bs s).1 .time rfl
@[simp] theorem dramWrite_pace (a : Nat) (bs : List Byte) (s : State) : (dramWrite a bs s).pace = s.pace := (dramWrite_fr a bs s).1 .pace rfl
@[simp] theorem dramWrite_cams (a : Nat) (bs : List Byte) (s : State) : (dramWrite a bs s).cams = s.cams := (dramWrite_fr a bs s).1 .cams rfl
@[simp] theorem dramWrite_prf (a : Nat) (bs : List Byte) (s : State) : (dramWrite a bs s).prf = s.prf := (dramWrite_fr a bs s).1 .prf rfl
@[simp] theorem dramWrite_axes (a : Nat) (bs : List Byte) (s : State) : (dramWrite a bs s).axes = s.axes := (dramWrite_fr a bs s).1 .axes rfl
@[simp] theorem dramWrite_boot (a : Nat) (bs : List Byte) (s : State) : (dramWrite a bs s).boot = s.boot := (dramWrite_fr a bs s).1 .boot rfl
@[simp] theorem dramWrite_tymp (a : Nat) (bs : List Byte) (s : State) : (dramWrite a bs s).tymp = s.tymp := (dramWrite_fr a bs s).1 .tymp rfl
@[simp] theorem dramWrite_clk (a : Nat) (bs : List Byte) (s : State) : (dramWrite a bs s).clk = s.clk := (dramWrite_fr a bs s).1 .clk rfl
@[simp] theorem dramWrite_sec (a : Nat) (bs : List Byte) (s : State) : (dramWrite a bs s).sec = s.sec := (dramWrite_fr a bs s).1 .sec rfl
@[simp] theorem dramWrite_disp (a : Nat) (bs : List Byte) (s : State) : (dramWrite a bs s).disp = s.disp := (dramWrite_fr a bs s).1 .disp rfl
@[simp] theorem dramWrite_pins (a : Nat) (bs : List Byte) (s : State) : (dramWrite a bs s).pins = s.pins := (dramWrite_fr a bs s).1 .pins rfl
@[simp] theorem dramWrite_dev_evLog (a : Nat) (bs : List Byte) (s : State) : (dramWrite a bs s).dev.evLog = s.dev.evLog := ((dramWrite_fr a bs s).1 .log rfl).1
@[simp] theorem dramWrite_dev_ledgerHalt (a : Nat) (bs : List Byte) (s : State) : (dramWrite a bs s).dev.ledgerHalt = s.dev.ledgerHalt := ((dramWrite_fr a bs s).1 .dev rfl).1
@[simp] theorem dramWrite_dev_offFired (a : Nat) (bs : List Byte) (s : State) : (dramWrite a bs s).dev.offFired = s.dev.offFired := ((dramWrite_fr a bs s).1 .dev rfl).2
@[simp] theorem dramWrite_pcie_linkUp (a : Nat) (bs : List Byte) (s : State) : (dramWrite a bs s).pcie.linkUp = s.pcie.linkUp := Part.same_pcie_linkUp ((dramWrite_fr a bs s).1 .pcie rfl)
@[simp] theorem dramWrite_pcie_width (a : Nat) (bs : List Byte) (s : State) : (dramWrite a bs s).pcie.width = s.pcie.width := Part.same_pcie_width ((dramWrite_fr a bs s).1 .pcie rfl)
@[simp] theorem dramWrite_pcie_speed (a : Nat) (bs : List Byte) (s : State) : (dramWrite a bs s).pcie.speed = s.pcie.speed := Part.same_pcie_speed ((dramWrite_fr a bs s).1 .pcie rfl)
@[simp] theorem dramWrite_pcie_trained (a : Nat) (bs : List Byte) (s : State) : (dramWrite a bs s).pcie.trained = s.pcie.trained := Part.same_pcie_trained ((dramWrite_fr a bs s).1 .pcie rfl)
@[simp] theorem dramWrite_pcie_d3hot (a : Nat) (bs : List Byte) (s : State) : (dramWrite a bs s).pcie.d3hot = s.pcie.d3hot := Part.same_pcie_d3hot ((dramWrite_fr a bs s).1 .pcie rfl)
@[simp] theorem dramWrite_pcie_l23 (a : Nat) (bs : List Byte) (s : State) : (dramWrite a bs s).pcie.l23 = s.pcie.l23 := Part.same_pcie_l23 ((dramWrite_fr a bs s).1 .pcie rfl)
@[simp] theorem dramWrite_pcie_perst (a : Nat) (bs : List Byte) (s : State) : (dramWrite a bs s).pcie.perst = s.pcie.perst := Part.same_pcie_perst ((dramWrite_fr a bs s).1 .pcie rfl)
@[simp] theorem dramWrite_pcie_command (a : Nat) (bs : List Byte) (s : State) : (dramWrite a bs s).pcie.command = s.pcie.command := Part.same_pcie_command ((dramWrite_fr a bs s).1 .pcie rfl)
@[simp] theorem dramWrite_pcie_bars (a : Nat) (bs : List Byte) (s : State) : (dramWrite a bs s).pcie.bars = s.pcie.bars := Part.same_pcie_bars ((dramWrite_fr a bs s).1 .pcie rfl)
@[simp] theorem dramWrite_pcie_devCtl (a : Nat) (bs : List Byte) (s : State) : (dramWrite a bs s).pcie.devCtl = s.pcie.devCtl := Part.same_pcie_devCtl ((dramWrite_fr a bs s).1 .pcie rfl)
@[simp] theorem dramWrite_pcie_devCtl2 (a : Nat) (bs : List Byte) (s : State) : (dramWrite a bs s).pcie.devCtl2 = s.pcie.devCtl2 := Part.same_pcie_devCtl2 ((dramWrite_fr a bs s).1 .pcie rfl)
@[simp] theorem dramWrite_pcie_aer (a : Nat) (bs : List Byte) (s : State) : (dramWrite a bs s).pcie.aer = s.pcie.aer := Part.same_pcie_aer ((dramWrite_fr a bs s).1 .pcie rfl)
@[simp] theorem dramWrite_pcie_msixCtl (a : Nat) (bs : List Byte) (s : State) : (dramWrite a bs s).pcie.msixCtl = s.pcie.msixCtl := Part.same_pcie_msixCtl ((dramWrite_fr a bs s).1 .pcie rfl)
@[simp] theorem dramWrite_pcie_msixTable (a : Nat) (bs : List Byte) (s : State) : (dramWrite a bs s).pcie.msixTable = s.pcie.msixTable := Part.same_pcie_msixTable ((dramWrite_fr a bs s).1 .pcie rfl)
@[simp] theorem dramWrite_pcie_winAddr (a : Nat) (bs : List Byte) (s : State) : (dramWrite a bs s).pcie.winAddr = s.pcie.winAddr := Part.same_pcie_winAddr ((dramWrite_fr a bs s).1 .pcie rfl)
@[simp] theorem dramWrite_pcie_winLength (a : Nat) (bs : List Byte) (s : State) : (dramWrite a bs s).pcie.winLength = s.pcie.winLength := Part.same_pcie_winLength ((dramWrite_fr a bs s).1 .pcie rfl)
@[simp] theorem dramWrite_pcie_winOffset (a : Nat) (bs : List Byte) (s : State) : (dramWrite a bs s).pcie.winOffset = s.pcie.winOffset := Part.same_pcie_winOffset ((dramWrite_fr a bs s).1 .pcie rfl)
@[simp] theorem dramWrite_pcie_winBusy (a : Nat) (bs : List Byte) (s : State) : (dramWrite a bs s).pcie.winBusy = s.pcie.winBusy := Part.same_pcie_winBusy ((dramWrite_fr a bs s).1 .pcie rfl)
@[simp] theorem dramWrite_pcie_winWrite (a : Nat) (bs : List Byte) (s : State) : (dramWrite a bs s).pcie.winWrite = s.pcie.winWrite := Part.same_pcie_winWrite ((dramWrite_fr a bs s).1 .pcie rfl)
@[simp] theorem dramWrite_pcie_winLost (a : Nat) (bs : List Byte) (s : State) : (dramWrite a bs s).pcie.winLost = s.pcie.winLost := Part.same_pcie_winLost ((dramWrite_fr a bs s).1 .pcie rfl)
@[simp] theorem dramWrite_pcie_winDone (a : Nat) (bs : List Byte) (s : State) : (dramWrite a bs s).pcie.winDone = s.pcie.winDone := Part.same_pcie_winDone ((dramWrite_fr a bs s).1 .pcie rfl)
@[simp] theorem dramWrite_pcie_winCollision (a : Nat) (bs : List Byte) (s : State) : (dramWrite a bs s).pcie.winCollision = s.pcie.winCollision := Part.same_pcie_winCollision ((dramWrite_fr a bs s).1 .pcie rfl)
@[simp] theorem dramWrite_pcie_winStatus (a : Nat) (bs : List Byte) (s : State) : (dramWrite a bs s).pcie.winStatus = s.pcie.winStatus := Part.same_pcie_winStatus ((dramWrite_fr a bs s).1 .pcie rfl)
@[simp] theorem dramWrite_pcie_winBuf (a : Nat) (bs : List Byte) (s : State) : (dramWrite a bs s).pcie.winBuf = s.pcie.winBuf := Part.same_pcie_winBuf ((dramWrite_fr a bs s).1 .pcie rfl)
@[simp] theorem dramWrite_pcie_winResult (a : Nat) (bs : List Byte) (s : State) : (dramWrite a bs s).pcie.winResult = s.pcie.winResult := Part.same_pcie_winResult ((dramWrite_fr a bs s).1 .pcie rfl)
@[simp] theorem dramWrite_pcie_readData (a : Nat) (bs : List Byte) (s : State) : (dramWrite a bs s).pcie.readData = s.pcie.readData := Part.same_pcie_readData ((dramWrite_fr a bs s).1 .pcie rfl)
@[simp] theorem dramWrite_pcie_hostAccess (a : Nat) (bs : List Byte) (s : State) : (dramWrite a bs s).pcie.hostAccess = s.pcie.hostAccess := (dramWrite_fr a bs s).1 .hostWrites rfl
@[simp] theorem dramWrite_pwr_state (a : Nat) (bs : List Byte) (s : State) : (dramWrite a bs s).pwr.state = s.pwr.state := Part.same_pwr_state ((dramWrite_fr a bs s).1 .pwr rfl)
@[simp] theorem dramWrite_pwr_nextEvent (a : Nat) (bs : List Byte) (s : State) : (dramWrite a bs s).pwr.nextEvent = s.pwr.nextEvent := Part.same_pwr_nextEvent ((dramWrite_fr a bs s).1 .pwr rfl)
@[simp] theorem dramWrite_pwr_since (a : Nat) (bs : List Byte) (s : State) : (dramWrite a bs s).pwr.since = s.pwr.since := Part.same_pwr_since ((dramWrite_fr a bs s).1 .pwr rfl)
@[simp] theorem dramWrite_pwr_resid (a : Nat) (bs : List Byte) (s : State) : (dramWrite a bs s).pwr.resid = s.pwr.resid := Part.same_pwr_resid ((dramWrite_fr a bs s).1 .pwr rfl)
@[simp] theorem dramWrite_pwr_tempArmed (a : Nat) (bs : List Byte) (s : State) : (dramWrite a bs s).pwr.tempArmed = s.pwr.tempArmed := Part.same_pwr_tempArmed ((dramWrite_fr a bs s).1 .pwr rfl)
@[simp] theorem dramWrite_pwr_driftArmed (a : Nat) (bs : List Byte) (s : State) : (dramWrite a bs s).pwr.driftArmed = s.pwr.driftArmed := Part.same_pwr_driftArmed ((dramWrite_fr a bs s).1 .pwr rfl)
@[simp] theorem dramWrite_pwr_resetWaiting (a : Nat) (bs : List Byte) (s : State) : (dramWrite a bs s).pwr.resetWaiting = s.pwr.resetWaiting := Part.same_pwr_resetWaiting ((dramWrite_fr a bs s).1 .pwr rfl)
@[simp] theorem dramWrite_pwr_restartWaiting (a : Nat) (bs : List Byte) (s : State) : (dramWrite a bs s).pwr.restartWaiting = s.pwr.restartWaiting := Part.same_pwr_restartWaiting ((dramWrite_fr a bs s).1 .pwr rfl)
@[simp] theorem dramWrite_pwr_exiting (a : Nat) (bs : List Byte) (s : State) : (dramWrite a bs s).pwr.exiting = s.pwr.exiting := ((dramWrite_fr a bs s).1 .wake rfl).1
@[simp] theorem dramWrite_pwr_entering (a : Nat) (bs : List Byte) (s : State) : (dramWrite a bs s).pwr.entering = s.pwr.entering := ((dramWrite_fr a bs s).1 .wake rfl).2
@[simp] theorem dramWrite_o (a : Nat) (bs : List Byte) (s : State) (k : Nat) : (dramWrite a bs s).o k = s.o k :=
  (dramWrite_fr a bs s).o_all (by decide) k
@[simp] theorem dramWrite_ob (a : Nat) (bs : List Byte) (s : State) (k : Nat) : (dramWrite a bs s).ob k = s.ob k := by unfold State.ob; rw [dramWrite_o]

end Sys2Proof.Machine
end

