-- ==== Sys2Proof/Laws/Requests.lean ====
section
/-! SUPPORT. Laws/Requests.lean: what an object write and an object read over a path that is ready come to: the access of R52, then
the answer, then the power manager's recomputation. -/

namespace Sys2Proof.Machine
open Sys2Proof

/-- What the path's begin leaves. -/
theorem pathBegin_fr (path : Path) (w : Bool) (s : State) : Keeps 0x200000800 s (pathBegin path w s) := by
  cases path with
  | mailbox => exact (demandWake_fr s).mono (by decide)
  | window => exact Keeps.step (demandWake_fr _) (by decide) (Keeps.own_pcie rfl rfl rfl (by decide) (Keeps.refl _ _))

@[simp] theorem pathBegin_pending (path : Path) (w : Bool) (s : State) : (pathBegin path w s).pending = s.pending :=
  (pathBegin_fr path w s).1 .queue rfl
@[simp] theorem pathBegin_loc (path : Path) (w : Bool) (s : State) : (pathBegin path w s).loc = s.loc :=
  (pathBegin_fr path w s).1 .loc rfl
@[simp] theorem pathBegin_freeCtr (path : Path) (w : Bool) (s : State) : (pathBegin path w s).freeCtr = s.freeCtr :=
  (pathBegin_fr path w s).1 .free rfl
@[simp] theorem pathBegin_dom (path : Path) (w : Bool) (s : State) : (pathBegin path w s).dom = s.dom :=
  (pathBegin_fr path w s).1 .dom rfl
@[simp] theorem pathBegin_live (path : Path) (w : Bool) (s : State) : (pathBegin path w s).live = s.live :=
  (pathBegin_fr path w s).1 .live rfl
@[simp] theorem pathBegin_liveDom (path : Path) (w : Bool) (s : State) : (pathBegin path w s).liveDom = s.liveDom :=
  (pathBegin_fr path w s).1 .liveDom rfl
@[simp] theorem pathBegin_dev (path : Path) (w : Bool) (s : State) : (pathBegin path w s).dev = s.dev := by
  cases path <;> (unfold pathBegin demandWake; dsimp only; split <;> rfl)
@[simp] theorem pathBegin_ledgers (path : Path) (w : Bool) (s : State) : (pathBegin path w s).ledgers = s.ledgers :=
  (pathBegin_fr path w s).1 .ledgers rfl
@[simp] theorem pathBegin_srv (path : Path) (w : Bool) (s : State) : (pathBegin path w s).srv = s.srv :=
  (pathBegin_fr path w s).1 .srv rfl
@[simp] theorem pathBegin_net (path : Path) (w : Bool) (s : State) : (pathBegin path w s).net = s.net :=
  (pathBegin_fr path w s).1 .net rfl
@[simp] theorem pathBegin_rings (path : Path) (w : Bool) (s : State) : (pathBegin path w s).rings = s.rings :=
  (pathBegin_fr path w s).1 .rings rfl
@[simp] theorem pathBegin_egress (path : Path) (w : Bool) (s : State) : (pathBegin path w s).egress = s.egress := by
  cases path <;> (unfold pathBegin demandWake; dsimp only; split <;> rfl)
@[simp] theorem pathBegin_gal (path : Path) (w : Bool) (s : State) : (pathBegin path w s).gal = s.gal :=
  (pathBegin_fr path w s).1 .gal rfl
@[simp] theorem pathBegin_formes (path : Path) (w : Bool) (s : State) : (pathBegin path w s).formes = s.formes :=
  (pathBegin_fr path w s).1 .formes rfl
@[simp] theorem pathBegin_comp (path : Path) (w : Bool) (s : State) : (pathBegin path w s).comp = s.comp :=
  (pathBegin_fr path w s).1 .comp rfl
@[simp] theorem pathBegin_plat (path : Path) (w : Bool) (s : State) : (pathBegin path w s).plat = s.plat :=
  (pathBegin_fr path w s).1 .plat rfl
@[simp] theorem pathBegin_ports (path : Path) (w : Bool) (s : State) : (pathBegin path w s).ports = s.ports :=
  (pathBegin_fr path w s).1 .ports rfl
@[simp] theorem pathBegin_web (path : Path) (w : Bool) (s : State) : (pathBegin path w s).web = s.web :=
  (pathBegin_fr path w s).1 .web rfl
@[simp] theorem pathBegin_time (path : Path) (w : Bool) (s : State) : (pathBegin path w s).time = s.time :=
  (pathBegin_fr path w s).1 .time rfl
@[simp] theorem pathBegin_pace (path : Path) (w : Bool) (s : State) : (pathBegin path w s).pace = s.pace :=
  (pathBegin_fr path w s).1 .pace rfl
@[simp] theorem pathBegin_cams (path : Path) (w : Bool) (s : State) : (pathBegin path w s).cams = s.cams :=
  (pathBegin_fr path w s).1 .cams rfl
@[simp] theorem pathBegin_prf (path : Path) (w : Bool) (s : State) : (pathBegin path w s).prf = s.prf :=
  (pathBegin_fr path w s).1 .prf rfl
@[simp] theorem pathBegin_ddr (path : Path) (w : Bool) (s : State) : (pathBegin path w s).ddr = s.ddr := by
  cases path <;> (unfold pathBegin demandWake; dsimp only; split <;> rfl)
@[simp] theorem pathBegin_axes (path : Path) (w : Bool) (s : State) : (pathBegin path w s).axes = s.axes :=
  (pathBegin_fr path w s).1 .axes rfl
@[simp] theorem pathBegin_boot (path : Path) (w : Bool) (s : State) : (pathBegin path w s).boot = s.boot :=
  (pathBegin_fr path w s).1 .boot rfl
@[simp] theorem pathBegin_tymp (path : Path) (w : Bool) (s : State) : (pathBegin path w s).tymp = s.tymp :=
  (pathBegin_fr path w s).1 .tymp rfl
@[simp] theorem pathBegin_clk (path : Path) (w : Bool) (s : State) : (pathBegin path w s).clk = s.clk :=
  (pathBegin_fr path w s).1 .clk rfl
@[simp] theorem pathBegin_sec (path : Path) (w : Bool) (s : State) : (pathBegin path w s).sec = s.sec :=
  (pathBegin_fr path w s).1 .sec rfl
@[simp] theorem pathBegin_disp (path : Path) (w : Bool) (s : State) : (pathBegin path w s).disp = s.disp :=
  (pathBegin_fr path w s).1 .disp rfl
@[simp] theorem pathBegin_pins (path : Path) (w : Bool) (s : State) : (pathBegin path w s).pins = s.pins :=
  (pathBegin_fr path w s).1 .pins rfl
@[simp] theorem pathBegin_o (path : Path) (w : Bool) (s : State) (k : Nat) : (pathBegin path w s).o k = s.o k :=
  (pathBegin_fr path w s).o_all (by decide) k
@[simp] theorem pathBegin_ob (path : Path) (w : Bool) (s : State) (k : Nat) : (pathBegin path w s).ob k = s.ob k := by
  unfold State.ob; rw [pathBegin_o]
@[simp] theorem pathBegin_oi (path : Path) (w : Bool) (s : State) (k : Nat) : (pathBegin path w s).oi k = s.oi k := by
  unfold State.oi; rw [pathBegin_o]

/-- The request of a path as `objectWrite` makes it. -/
def writeReq (path : Path) (idx sub : Nat) (data : List Byte) : Req :=
  match path with
  | .mailbox => mailboxReq idx sub (.write data) true false data.length
  | .window => ⟨.window, idx, sub, .write data, 0, data.length, true, false⟩

theorem drainServer_nil (n : Nat) (s : State) (h : s.srv.waiting = []) : drainServer n s = s := by
  cases n with
  | zero => rfl
  | succ n =>
    have : nextWaiting s = none := by unfold nextWaiting; rw [h]; split <;> rfl
    unfold drainServer; rw [this]

theorem drain_nil (s : State) (h : s.srv.waiting = []) : drain s = s := drainServer_nil _ s h


theorem answerOwed_demandWake (path : Path) (s : State) : answerOwed path (demandWake s) = answerOwed path s := by
  unfold answerOwed; simp

/-- R415: in RUN and READY no subsystem lacks clocks or power. -/
theorem unitGated_on {s : State} (h : s.pwr.state < 2) (n : Nat) : unitGated n s = false := by
  have h4 : (s.pwr.state == 4) = false := by simp; omega
  have h2 : decide (2 ≤ s.pwr.state) = false := by simp; omega
  unfold unitGated; rw [h4, h2]; simp

theorem demandWake_state (s : State) : (demandWake s).pwr.state = s.pwr.state := by
  unfold demandWake; split <;> rfl

theorem mailboxToCome_demandWake (s : State) : mailboxToCome (demandWake s) = mailboxToCome s := by
  unfold mailboxToCome; rw [(demandWake_fr s).1 .queue rfl]

theorem awake_exiting {s : State} (h : awake s = true) : s.pwr.exiting = false := by
  unfold awake at h; simp only [Bool.and_eq_true, Bool.not_eq_true'] at h; exact h.1.2

/-- In RUN or READY, with no entry or exit, a demand changes nothing. -/
theorem demandWake_awake {s : State} (h : awake s = true) : demandWake s = s := by
  unfold awake at h
  simp only [Bool.and_eq_true, decide_eq_true_eq, Option.isNone_iff_eq_none] at h
  unfold demandWake
  rw [if_neg]
  rw [h.2]
  simp only [Option.isSome_none, Bool.false_eq_true, or_false]
  omega

/-- R48: a request that reaches an idle server is served at once. -/
theorem submit_idle (r : Req) (s : State) (hw : s.srv.waiting = []) (hb : s.srv.busy = false) (hp : s.boot.phase ≠ .starting)
    (ho : answerOwed r.path s = false) (hs : s.pwr.state < 2)
    (hm : r.path = .mailbox ∨ (mailboxToCome s = false ∧ awake s = true)) :
    submit r s = serveNow r (demandWake s) := by
  have e : { demandWake s with srv := { (demandWake s).srv with waiting := [] } } = demandWake s := by
    have : (demandWake s).srv.waiting = [] := by rw [demandWake_srv]; exact hw
    rw [← this]
  unfold submit drain
  dsimp only
  rw [demandWake_srv, hw]
  show drainServer 1 _ = _
  let t : State := { demandWake s with srv := { s.srv with waiting := [] ++ [((demandWake s).loc, r)] } }
  have hx : waitsExit r t = false := by
    have hg : ∀ n, unitGated n t = false := unitGated_on (by show (demandWake s).pwr.state < 2; rw [demandWake_state]; exact hs)
    unfold waitsExit
    split
    · next h => rcases hm with h' | h'
                · rw [h] at h'; cases h'
                · show (demandWake s).pwr.exiting = false
                  rw [demandWake_awake h'.2, awake_exiting h'.2]
    · exact hg _
    · exact hg _
    · rfl
  have hsv : servableNow ((demandWake s).loc, r) t = true := by
    have ha : answerOwed r.path t = false := by
      show answerOwed r.path (demandWake s) = false
      rw [answerOwed_demandWake, ho]
    unfold servableNow
    rw [ha, hx]
    simp [t]
  have hnext : nextWaiting t = some ((demandWake s).loc, r) := by
    unfold nextWaiting
    rw [if_neg (by show ¬ (s.srv.busy = true ∨ (demandWake s).boot.phase = _); simp [hb, hp])]
    have e : t.srv.waiting = [((demandWake s).loc, r)] := rfl
    rw [e, List.find?_cons, hsv]
    dsimp only
    rcases hm with h | h
    · rw [if_pos h]
    · split
      · rfl
      · rename_i hn
        have e2 : ([((demandWake s).loc, r)].find? fun q => q.1 == (demandWake s).loc && q.2.path == .mailbox &&
            servableNow q t) = none := by simp [hn]
        rw [e2]
        have h3 : mailboxToCome t = false := by
          show mailboxToCome (demandWake s) = false
          rw [mailboxToCome_demandWake]; exact h.1
        exact if_neg fun hc => absurd (h3.symm.trans hc.2) (by decide)
  unfold drainServer
  rw [hnext]
  dsimp only
  have er : ([] ++ [((demandWake s).loc, r)] : List (Nat × Req)).erase ((demandWake s).loc, r) = [] := by simp
  rw [er]
  have e2 : ({ demandWake s with srv := { waiting := [], segs := s.srv.segs, busy := s.srv.busy } } : State) = demandWake s := by
    rw [← e]; simp
  rw [e2]
  rfl

/-- A path that is ready serves an object write at once. -/
theorem objectWrite_ready {path : Path} {s : State} (h : pathReady path s) (idx sub : Nat) (data : List Byte) :
    objectWrite path idx sub data s = serveNow (writeReq path idx sub data) (pathBegin path true s) := by
  obtain ⟨⟨hf, hb, hi, hbo, hsub, hw, hs, hbusy, ho⟩, hp⟩ := h
  cases path with
  | mailbox =>
    show viaMailbox _ s = _
    unfold viaMailbox
    rw [if_neg (by simpa [pathFree] using hf), if_neg hbo]
    exact submit_idle _ s hw hbusy (by rw [hb]; simp) ho hp (.inl rfl)
  | window =>
    show viaWindow _ true s = _
    unfold viaWindow
    rw [if_neg (by simp [hf.1])]
    exact submit_idle _ _ hw hbusy (by show s.boot.phase ≠ _; rw [hb]; simp) ho hp (.inr hf.2.2.2)

theorem dropSeg_nil (path : Path) (s : State) (h : s.srv.segs = []) : dropSeg path s = s := by
  unfold dropSeg; rw [h]
  show ({ s with srv := { waiting := s.srv.waiting, segs := [], busy := s.srv.busy } } : State) = s
  rw [← h]

theorem segOf_nil (path : Path) (s : State) (h : s.srv.segs = []) : segOf path s = none := by
  unfold segOf; rw [h]; rfl

/-- A write request of a path without a segmented transfer. -/
theorem serve_write {path : Path} {s : State} (h : s.srv.segs = []) (idx sub : Nat) (data : List Byte) :
    serve (writeReq path idx sub data) s = writePiece (writeReq path idx sub data) data s := by
  cases path with
  | mailbox =>
    show writePiece _ data (if _ then _ else _) = _
    split
    · rw [dropSeg_nil _ _ h]
    · unfold leaveSeg; rw [segOf_nil _ _ h]
  | window =>
    show writePiece _ data (if _ then _ else _) = _
    rw [if_neg (by simp [writeReq])]
    unfold leaveSeg; rw [segOf_nil _ _ h]

theorem joinPieces_one (bs : List Byte) : joinPieces 0 bs.length [(0, bs)] = some bs := by
  unfold joinPieces
  have e : (List.range (bs.length - 0)).map (fun i => pieceByte (0 + i) [(0, bs)]) = bs.map some := by
    apply List.ext_getElem
    · simp
    · intro i h1 h2
      have hi : i < bs.length := by simpa using h2
      simp [pieceByte, hi]
  simp only [e]
  rw [if_pos (by simp)]
  simp [Function.comp_def]

/-- A whole value written over a ready path: the checks of R52 from check 7 on, and what the write does. -/
theorem writePiece_whole {path : Path} {s : State} {idx sub : Nat} {data : List Byte} {row : ObjRow}
    (hseg : s.srv.segs = []) (hidx : indexExists idx = true) (hrow : rowOf idx sub = some row) (hacc : row.acc ≠ .ro)
    (hst : stateRefuses path ⟨okey idx sub, row, data⟩ s = false) (hlen : data.length = row.ty.bytes) (hpos : data ≠ [])
    (hkey : okey idx sub ≠ OD.NOZZLE_TABLE) :
    writePiece (writeReq path idx sub data) data s =
      (writeAccess path false true true [⟨okey idx sub, row, data⟩] s).served := by
  have e1 : (writeReq path idx sub data).idx = idx := by cases path <;> rfl
  have e2 : (writeReq path idx sub data).sub = sub := by cases path <;> rfl
  have e3 : (writeReq path idx sub data).path = path := by cases path <;> rfl
  have e4 : (writeReq path idx sub data).last = true := by cases path <;> rfl
  have e5 : (writeReq path idx sub data).offset = 0 := by cases path <;> rfl
  unfold writePiece
  simp only [e1, e2, e3, e4, e5, hidx, hrow, hacc, hst, segOf_nil _ _ hseg, hlen]
  have hemp : data.isEmpty = false := by cases data <;> simp_all
  simp only [not_true_eq_false, if_false, Option.map_none, Option.getD_none, ite_self, Nat.zero_add, Nat.lt_irrefl,
    hemp, Bool.false_eq_true, false_and, or_self, ne_eq, and_false, Bool.true_or, if_true]
  unfold finishWrite
  simp only [e1, e2, e3, hkey, if_false, dropSeg_nil _ _ hseg, List.foldl_cons, List.foldl_nil, Nat.zero_add, Nat.zero_max]
  rw [joinPieces_one]
  simp only [hlen, beq_self_eq_true]

/-- An object write over a ready path that is carried out at once: its effect, the answer, the recomputation of R417. -/
theorem objectWrite_done {path : Path} {s u : State} {idx sub : Nat} {data : List Byte} {row : ObjRow}
    (h : pathReady path s) (hidx : indexExists idx = true) (hrow : rowOf idx sub = some row) (hacc : row.acc ≠ .ro)
    (hst : stateRefuses path ⟨okey idx sub, row, data⟩ (pathBegin path true s) = false)
    (hlen : data.length = row.ty.bytes) (hpos : data ≠ []) (hkey : okey idx sub ≠ OD.NOZZLE_TABLE)
    (hw : writeAccess path false true true [⟨okey idx sub, row, data⟩] (pathBegin path true s) = ⟨AB.ok, false, u⟩)
    (hu : u.boot.phase ≠ .starting) :
    objectWrite path idx sub data s = pwrRecompute (answerTo path (.done []) u) := by
  have e3 : (writeReq path idx sub data).path = path := by cases path <;> rfl
  have hseg : (pathBegin path true s).srv.segs = [] := by
    have := h.1.2.2.2.2.2.2.1
    rw [pathBegin_srv]; exact this
  rw [objectWrite_ready h]
  unfold serveNow
  rw [serve_write hseg, writePiece_whole hseg hidx hrow hacc hst hlen hpos hkey, hw]
  simp only [WriteResult.served, ne_eq, not_true_eq_false, if_false, Bool.false_eq_true, hu, e3]

/-- An object write over a ready path that is refused. -/
theorem objectWrite_refused {path : Path} {s u : State} {idx sub c : Nat} {data : List Byte} {row : ObjRow}
    (h : pathReady path s) (hidx : indexExists idx = true) (hrow : rowOf idx sub = some row) (hacc : row.acc ≠ .ro)
    (hst : stateRefuses path ⟨okey idx sub, row, data⟩ (pathBegin path true s) = false)
    (hlen : data.length = row.ty.bytes) (hpos : data ≠ []) (hkey : okey idx sub ≠ OD.NOZZLE_TABLE)
    (hw : writeAccess path false true true [⟨okey idx sub, row, data⟩] (pathBegin path true s) = ⟨c, false, u⟩) (hc : c ≠ AB.ok)
    (hu : u.boot.phase ≠ .starting) :
    objectWrite path idx sub data s = pwrRecompute (answerTo path (.abort c) u) := by
  have e3 : (writeReq path idx sub data).path = path := by cases path <;> rfl
  have hseg : (pathBegin path true s).srv.segs = [] := by
    have := h.1.2.2.2.2.2.2.1
    rw [pathBegin_srv]; exact this
  rw [objectWrite_ready h]
  unfold serveNow
  rw [serve_write hseg, writePiece_whole hseg hidx hrow hacc hst hlen hpos hkey, hw]
  simp only [WriteResult.served, ne_eq, hc, not_false_eq_true, if_true, refusedWith, hu, if_false, e3]

/-- The same for a write whose answer waits for a journal record. -/
theorem objectWrite_waits {path : Path} {s u : State} {idx sub : Nat} {data : List Byte} {row : ObjRow}
    (h : pathReady path s) (hidx : indexExists idx = true) (hrow : rowOf idx sub = some row) (hacc : row.acc ≠ .ro)
    (hst : stateRefuses path ⟨okey idx sub, row, data⟩ (pathBegin path true s) = false)
    (hlen : data.length = row.ty.bytes) (hpos : data ≠ []) (hkey : okey idx sub ≠ OD.NOZZLE_TABLE)
    (hw : writeAccess path false true true [⟨okey idx sub, row, data⟩] (pathBegin path true s) = ⟨AB.ok, true, u⟩)
    (hu : u.boot.phase ≠ .starting) :
    objectWrite path idx sub data s = pwrRecompute u := by
  have e3 : (writeReq path idx sub data).path = path := by cases path <;> rfl
  have hseg : (pathBegin path true s).srv.segs = [] := by
    have := h.1.2.2.2.2.2.2.1
    rw [pathBegin_srv]; exact this
  rw [objectWrite_ready h]
  unfold serveNow
  rw [serve_write hseg, writePiece_whole hseg hidx hrow hacc hst hlen hpos hkey, hw]
  simp only [WriteResult.served, ne_eq, not_true_eq_false, if_false, if_true, hu]

/-- The same for a write that resets the device: nobody is answered. -/
theorem objectWrite_resets {path : Path} {s : State} {idx sub : Nat} {data : List Byte} {row : ObjRow} {r : WriteResult}
    (h : pathReady path s) (hidx : indexExists idx = true) (hrow : rowOf idx sub = some row) (hacc : row.acc ≠ .ro)
    (hst : stateRefuses path ⟨okey idx sub, row, data⟩ (pathBegin path true s) = false)
    (hlen : data.length = row.ty.bytes) (hpos : data ≠ []) (hkey : okey idx sub ≠ OD.NOZZLE_TABLE)
    (hw : writeAccess path false true true [⟨okey idx sub, row, data⟩] (pathBegin path true s) = r)
    (hu : r.state.boot.phase = .starting) :
    objectWrite path idx sub data s = r.state := by
  have hseg : (pathBegin path true s).srv.segs = [] := by
    have := h.1.2.2.2.2.2.2.1
    rw [pathBegin_srv]; exact this
  rw [objectWrite_ready h]
  unfold serveNow
  rw [serve_write hseg, writePiece_whole hseg hidx hrow hacc hst hlen hpos hkey, hw]
  have e : r.served.state = r.state := by
    unfold WriteResult.served refusedWith; split
    · rfl
    · split <;> rfl
  simp only [e, hu, if_true]

/-! ### Commands among the objects -/

/-- The check of a complete access that starts a push leaves other accesses alone (R468). -/
theorem pushWaits_single (ws : List ObjWrite) (s : State) : pushWaits false ws s = false := rfl

/-- A write of a command object over a ready path that passes the checks comes to the command itself (R52). -/
theorem writeAccess_command {path : Path} {s : State} {w : ObjWrite} {r : Nat × State}
    (hst : stateRefuses path w s = false) (hr : rangeAbort false w [w] s = AB.ok) (hl : shadowLocked w.key s = false)
    (hsr : storeRefuses path w s = false) (hg : w.row.acc ≠ .g) (hj : w.row.cls ≠ .j)
    (ha : applyWrite path false w s = doneNow r) (hok : r.1 = AB.ok) :
    writeAccess path false true true [w] s = ⟨AB.ok, false, r.2⟩ := by
  unfold writeAccess checkWrites performWrites
  simp [hst, hr, hl, hsr, hg, hj, firstAbort, runWrites, ha, hok, doneNow, pushWaits_single]

/-- The same where the command refuses: the values stay, and what the refusal does remains. -/
theorem writeAccess_refused {path : Path} {s : State} {w : ObjWrite} {r : Nat × State}
    (hst : stateRefuses path w s = false) (hr : rangeAbort false w [w] s = AB.ok) (hl : shadowLocked w.key s = false)
    (hsr : storeRefuses path w s = false) (hg : w.row.acc ≠ .g) (hj : w.row.cls ≠ .j)
    (ha : applyWrite path false w s = doneNow r) (hok : r.1 ≠ AB.ok) :
    writeAccess path false true true [w] s = ⟨r.1, false, r.2⟩ := by
  unfold writeAccess checkWrites performWrites
  simp [hst, hr, hl, hsr, hg, hj, firstAbort, runWrites, ha, hok, doneNow, undoWrites, rawStore, eachDo, pushWaits_single]

theorem plain_own {key : Nat} (h : plainKey key = true) (s : State) : ownRefuses key s = false := by
  unfold plainKey at h
  simp only [Bool.and_eq_true, Bool.not_eq_true', Bool.or_eq_false_iff, beq_eq_false_iff_ne, ne_eq, bne_iff_ne] at h
  obtain ⟨⟨⟨⟨⟨⟨⟨⟨⟨h1, h2⟩, h3⟩, h4⟩, -⟩, -⟩, -⟩, -⟩, -⟩, -⟩ := h
  unfold ownRefuses
  rw [if_neg (by simp [h1.1.1, h1.1.2]), if_neg (by simp [h1.2])]
  split
  · rename_i hi
    have : formeField (key % 256) = false := by
      simpa [hi.1, hi.2] using h2
    rw [this]; rfl
  · split
    · rename_i u hu; rw [hu] at h4; cases h4
    · rfl

theorem plain_locked {key : Nat} (h : plainKey key = true) (s : State) : shadowLocked key s = false := by
  unfold plainKey at h
  simp only [Bool.and_eq_true, Bool.not_eq_true', Bool.or_eq_false_iff, beq_eq_false_iff_ne, ne_eq, bne_iff_ne] at h
  obtain ⟨⟨⟨⟨⟨-, h6⟩, -⟩, -⟩, -⟩, -⟩ := h
  unfold shadowLocked
  simp only [h6.1.1, h6.1.2, Bool.false_and, Bool.false_or]
  rw [h6.2]; rfl

theorem plain_range {key v : Nat} {row : ObjRow} {bs : List Byte} (h : plainKey key = true) (hg : row.acc ≠ .g)
    (hb : row.ty ≠ .bool) (hv : leNum bs = v) (hc : row.chk.ok v = true) (s : State) :
    rangeAbort false ⟨key, row, bs⟩ [⟨key, row, bs⟩] s = AB.ok := by
  unfold plainKey at h
  simp only [Bool.and_eq_true, Bool.not_eq_true', Bool.or_eq_false_iff, beq_eq_false_iff_ne, ne_eq, bne_iff_ne,
    List.contains_eq_mem, List.mem_cons, List.not_mem_nil, or_false, decide_eq_false_iff_not, not_or] at h
  obtain ⟨⟨⟨⟨⟨⟨⟨⟨⟨h1, h2⟩, h3⟩, h4⟩, h5⟩, h6⟩, h7⟩, h8⟩, h9⟩, h10⟩ := h
  have e1 : pdoAbort ⟨key, row, bs⟩ [⟨key, row, bs⟩] s = AB.ok := by
    unfold pdoAbort; simp [h5.1, h5.2]
  have e2 : rangeMeets ⟨key, row, bs⟩ [⟨key, row, bs⟩] s = true := by
    unfold rangeMeets
    simp only [h1, h7, h8, h9, h10, or_self, if_false, Bool.false_eq_true]
    have : ¬ (key = OD.EGRESS_AREA_BASE) := by
      intro e; have := h1.2; subst e; revert this; decide
    have : ¬ (key = OD.EGRESS_AREA_SIZE) := by
      intro e; have := h1.2; subst e; revert this; decide
    simp_all
  unfold rangeAbort
  simp only [e1, e2, hg, hb, ObjWrite.num, hv, hc]
  simp

theorem plain_store {key : Nat} {path : Path} {s : State} (h : plainKey key = true) (hseg : s.srv.segs = [])
    (hb : s.boot.subBusy = []) (row : ObjRow) (bs : List Byte) : storeRefuses path ⟨key, row, bs⟩ s = false := by
  unfold plainKey at h
  simp only [Bool.and_eq_true, Bool.not_eq_true', Bool.or_eq_false_iff, beq_eq_false_iff_ne, ne_eq, bne_iff_ne,
    List.contains_eq_mem, List.mem_cons, List.not_mem_nil, or_false, decide_eq_false_iff_not, not_or] at h
  obtain ⟨⟨⟨⟨-, h7⟩, -⟩, -⟩, -⟩ := h
  have ht : ∀ n, targetKey n ≠ some key := by
    intro n; unfold targetKey; split <;> intro e <;> simp_all
  have e : writtenElsewhere path key s = false := by
    unfold writtenElsewhere
    simp only [hseg, List.any_nil, Bool.false_or, Bool.or_eq_false_iff]
    refine ⟨by simp [h7.1], ?_⟩
    rw [List.any_eq_false]
    intro i _
    split
    · rename_i x _
      have := ht x.desc.target
      simp [this]
    · simp
  unfold storeRefuses
  simp only [e, hb, Bool.false_or]
  simp [h7.2.1]

theorem plain_state {key : Nat} {path : Path} {s : State} {row : ObjRow} (h : plainKey key = true)
    (hacc : row.acc = .wo ∨ row.acc = .rw) (hb : s.boot.phase = .ready) (hi : s.net.al ≠ .init) (hbo : s.net.al ≠ .boot)
    (bs : List Byte) (hcr : commandRefuses key (leNum bs) s = false) : stateRefuses path ⟨key, row, bs⟩ s = false := by
  unfold stateRefuses bareRefuses isBare
  have a : row.acc ≠ .rwp := by rcases hacc with e | e <;> rw [e] <;> decide
  have hcr' : commandRefuses key (ObjWrite.num ⟨key, row, bs⟩) s = false := hcr
  simp [hb, hi, hbo, a, plain_own h s, hcr']

/-- An object on which no unit acts at once is no command, so that no state refuses it as one. -/
theorem value_command {key : Nat} (h : valueKey key = true) (v : Nat) (s : State) : commandRefuses key v s = false := by
  unfold valueKey at h
  simp only [Bool.and_eq_true, Bool.not_eq_true', List.contains_eq_mem, List.mem_cons, List.not_mem_nil, or_false,
    decide_eq_false_iff_not, not_or] at h
  obtain ⟨⟨⟨⟨⟨⟨⟨-, h1⟩, h2⟩, h3⟩, h4⟩, h5⟩, h6⟩, -⟩ := h
  unfold commandRefuses
  dsimp only
  rw [if_neg h1, if_neg h2.2.2.2.1, if_neg fun c => h4 ⟨c.1, c.2.1, .inr c.2.2⟩,
    if_neg fun c => h5 ⟨c.1, c.2.1, .inr (.inr (.inr c.2.2))⟩, if_neg fun c => h6 ⟨c.1, c.2.1, .inr (.inl c.2.2)⟩,
    if_neg h2.2.2.2.2.2.2.1]

/-- A command object written over a ready path: the command, the answer, the recomputation of R417. -/
theorem command_done {path : Path} {s : State} {idx sub : Nat} {data : List Byte} {row : ObjRow} {r : Nat × State}
    (h : pathReady path s) (hidx : indexExists idx = true) (hrow : rowOf idx sub = some row)
    (hacc : row.acc = .wo ∨ row.acc = .rw) (hcls : row.cls ≠ .j) (hlen : data.length = row.ty.bytes) (hpos : data ≠ [])
    (hplain : plainKey (okey idx sub) = true) (hbool : row.ty ≠ .bool) (hc : row.chk.ok (leNum data) = true)
    (hcr : commandRefuses (okey idx sub) (leNum data) (pathBegin path true s) = false)
    (ha : applyWrite path false ⟨okey idx sub, row, data⟩ (pathBegin path true s) = doneNow r) (hok : r.1 = AB.ok)
    (hu : r.2.boot.phase ≠ .starting) :
    objectWrite path idx sub data s = pwrRecompute (answerTo path (.done []) r.2) := by
  obtain ⟨⟨hf, hb, hi, hbo, hsub, hw, hs, hbusy, ho⟩, hp⟩ := h
  have hg : row.acc ≠ .g := by rcases hacc with e | e <;> rw [e] <;> decide
  have hst : stateRefuses path ⟨okey idx sub, row, data⟩ (pathBegin path true s) = false :=
    plain_state hplain hacc (by rw [pathBegin_boot]; exact hb) (by rw [pathBegin_net]; exact hi) (by rw [pathBegin_net]; exact hbo) data hcr
  refine objectWrite_done ⟨⟨hf, hb, hi, hbo, hsub, hw, hs, hbusy, ho⟩, hp⟩ hidx hrow
    (by rcases hacc with e | e <;> rw [e] <;> decide) hst hlen hpos ?_ ?_ hu
  · intro e; rw [e] at hplain; revert hplain; decide
  · exact writeAccess_command hst (plain_range hplain hg hbool rfl hc _) (plain_locked hplain _)
      (plain_store hplain (by rw [pathBegin_srv]; exact hs) (by rw [pathBegin_boot]; exact hsub) _ _) hg hcls ha hok

/-- A command object written over a ready path whose command refuses. -/
theorem command_refused {path : Path} {s : State} {idx sub : Nat} {data : List Byte} {row : ObjRow} {r : Nat × State}
    (h : pathReady path s) (hidx : indexExists idx = true) (hrow : rowOf idx sub = some row)
    (hacc : row.acc = .wo ∨ row.acc = .rw) (hcls : row.cls ≠ .j) (hlen : data.length = row.ty.bytes) (hpos : data ≠ [])
    (hplain : plainKey (okey idx sub) = true) (hbool : row.ty ≠ .bool) (hc : row.chk.ok (leNum data) = true)
    (hcr : commandRefuses (okey idx sub) (leNum data) (pathBegin path true s) = false)
    (ha : applyWrite path false ⟨okey idx sub, row, data⟩ (pathBegin path true s) = doneNow r) (hok : r.1 ≠ AB.ok)
    (hu : r.2.boot.phase ≠ .starting) :
    objectWrite path idx sub data s = pwrRecompute (answerTo path (.abort r.1) r.2) := by
  obtain ⟨⟨hf, hb, hi, hbo, hsub, hw, hs, hbusy, ho⟩, hp⟩ := h
  have hg : row.acc ≠ .g := by rcases hacc with e | e <;> rw [e] <;> decide
  have hst : stateRefuses path ⟨okey idx sub, row, data⟩ (pathBegin path true s) = false :=
    plain_state hplain hacc (by rw [pathBegin_boot]; exact hb) (by rw [pathBegin_net]; exact hi) (by rw [pathBegin_net]; exact hbo) data hcr
  refine objectWrite_refused ⟨⟨hf, hb, hi, hbo, hsub, hw, hs, hbusy, ho⟩, hp⟩ hidx hrow
    (by rcases hacc with e | e <;> rw [e] <;> decide) hst hlen hpos ?_ ?_ hok hu
  · intro e; rw [e] at hplain; revert hplain; decide
  · exact writeAccess_refused hst (plain_range hplain hg hbool rfl hc _) (plain_locked hplain _)
      (plain_store hplain (by rw [pathBegin_srv]; exact hs) (by rw [pathBegin_boot]; exact hsub) _ _) hg hcls ha hok

/-- The answer given to a path that is being served. -/
theorem answered_pwr {path : Path} {a : Answer} {t : State} (h : answered path a t) : answered path a (pwrRecompute t) := by
  cases path with
  | mailbox => show (pwrRecompute t).net.answer = a; rw [(pwrRecompute_fr t).1 .net rfl]; exact h
  | window =>
    show (pwrRecompute t).pcie.winResult = some a
    have := congrArg Pcie.winResult (show _ = _ from (pwrRecompute_fr t).1 .pcie rfl)
    exact Eq.trans this h

theorem answered_answerTo {path : Path} {a : Answer} {t : State} (hb : path = .window → t.pcie.winBusy = true)
    (hr : path = .window → t.pcie.winResult = none) (hl : path = .window → t.pcie.winLost = false) :
    answered path a (answerTo path a t) := by
  cases path with
  | mailbox => rfl
  | window =>
    show (answerTo .window a t).pcie.winResult = some a
    unfold answerTo
    simp [hb rfl, hr rfl, hl rfl]

/-- The answer after a command that leaves the window alone. -/
theorem answered_of {path : Path} {a : Answer} {s t : State} (h : pathReady path s)
    (hb : t.pcie.winBusy = (pathBegin path true s).pcie.winBusy)
    (hr : t.pcie.winResult = (pathBegin path true s).pcie.winResult)
    (hl : t.pcie.winLost = (pathBegin path true s).pcie.winLost) :
    answered path a (pwrRecompute (answerTo path a t)) := by
  refine answered_pwr (answered_answerTo ?_ ?_ ?_) <;> intro e <;> subst e
  · rw [hb]; unfold pathBegin demandWake; dsimp only; split <;> rfl
  · rw [hr]; have := h.1.1.2.1; unfold pathBegin demandWake; dsimp only; split <;> exact this
  · rw [hl]; have := h.1.1.2.2.1; unfold pathBegin demandWake; dsimp only; split <;> exact this

/-- What every step of a repetition leaves, the repetition leaves. -/
theorem eachDo_same {β γ : Type} {P : State → γ} {l : List β} {f : β → State → State} (h : ∀ b y, P (f b y) = P y) (s : State) :
    P (eachDo l f s) = P s := by
  unfold eachDo
  induction l generalizing s with
  | nil => rfl
  | cons b l ih => rw [List.foldl_cons, ih]; exact h b s

end Sys2Proof.Machine
end

