-- ==== Sys2Proof/Machine/Pins.lean ====
section
/-! DEFINITION. Machine/Pins.lean: the levels of output pins that no other file gives (R450, R451, R460). The pins of the other groups
are in HeadLink (`Port.en`), Camera (`camRstN`), Display (`dispRstN`, `dsiLp11`), Motion (`Phase`), Time (`trigPin`) and Pace. -/

namespace Sys2Proof.Machine

/-- What an output is: a level, high impedance or differential 0, or lines that its standard drives. -/
inductive Drive where
  | low | high | idle | active
  deriving DecidableEq, Repr

/-- The owner of an output has clocks and power, and is out of its reset. -/
def outputOn (s : State) : Bool := s.boot.phase == .ready && decide (s.pwr.state ≤ 2)

/-- R450: DDR RESET_N: low until training has brought the devices up. -/
def ddrResetN (s : State) : Drive := if s.ddr.state = 0 then .low else .high

/-- R359, R450: CK of a DDR channel: stopped in reset, in self-refresh and in SLEEP. -/
def ddrCk (s : State) : Drive := if s.ddr.state = 0 ∨ s.ddr.state = 3 then .low else .active

/-- R450: PET: electrical idle while no link is up. -/
def pciePet (s : State) : Drive := if s.pcie.linkUp then .active else .idle

/-- R450: CLKREQ_N: released in reset, and while no link is up. -/
def clkreqN (s : State) : Drive := if s.pcie.linkUp then .active else .idle

/-- R326, R330, R450: MIRROR_TX: differential 0 in reset and in a role that sends no record. -/
def mirrorTx (s : State) : Drive :=
  if s.boot.phase = .ready ∧ s.pwr.state ≤ 3 ∧ ¬ s.boot.subBusy.contains 15 ∧ (s.pace.role = 1 ∨ s.pace.role = 2) then .active else .idle

/-- R331, R451: PACE_DE follows the driver enable; PACE_OUT and PACE_SYNC_OUT are driven with it. -/
def paceDe (s : State) : Drive := if s.pace.driving then .high else .low

/-- R75, R451: ETH_PHY_RST_N: low at POR, PIN and WDG until frames are forwarded. -/
def ethPhyRstN (s : State) : Drive := if s.net.forwarding then .high else .low

/-- R451: MII TXD and TX_EN, and MDC: low in reset. -/
def miiTx (s : State) : Drive := if s.net.forwarding then .active else .low

/-- R451: OSPI_RST_N: low at POR, PIN and WDG, until the start reads the flash. -/
def ospiRstN (s : State) : Drive := if s.boot.phase = .starting ∧ ¬ s.net.forwarding then .low else .high

/-- R451: ECAT_RUN_LED: low in reset. By the EtherCAT indicator rules it is off in INIT, on in OPERATIONAL and blinks in between, and
ECAT_ERR_LED blinks while an AL status code stands (PRESUMED, log entry 228). -/
def ecatRunLed (s : State) : Drive :=
  if s.boot.phase = .starting ∨ s.net.al = .init then .low else if s.net.al = .op then .high else .active
def ecatErrLed (s : State) : Drive := if s.boot.phase = .starting ∨ s.net.alStatus = 0 then .low else .active

/-- R451, R460: MOT_MCLK: it runs while MOT is powered, and is low until the root PLL has locked, in SLEEP and in bare-forme mode. -/
def motMclk (s : State) : Drive := if outputOn s ∧ s.clk.rootLock then .active else .low

/-- R451: TDO: high impedance but for the shift of an instruction. -/
def tdoIdle : Drive := .idle

end Sys2Proof.Machine
end

