-- ==== Sys2Proof/WellFormed.lean ====
section
/-! DEFINITION. WellFormed.lean: what a command's operands must satisfy to spell a happening of the hardware: the sizes
of the frames, descriptors and images that the rules give, and the ranges of the fields. The meanings are total and do
not rely on it; a statement that needs it says so. -/

namespace Sys2Proof

/-- R85: bytes of a BAR. -/
def barSpan : Bar → Nat
  | .bar0 => 0x400000
  | .bar2 => 0x1000000
  | .bar4 => 0x10000

/-- Data of a fixed length, if a read returned any. -/
def optLength (n : Nat) (bytes : Option (List Byte)) : Bool := bytes.all fun b => b.length == n

/-- R244: the fields of a TELEMETRY frame: a signed 16-bit reading and three unsigned ones. -/
def telemetryFits (t : Telemetry) : Bool :=
  decide (-32768 ≤ t.temp) && decide (t.temp < 32768) && decide (t.vhead < 65536) && decide (t.vlogic < 65536) &&
    decide (t.flags < 65536)

/-- R330: the fields of a mirror record: positions and lines of 64 bits, counts and a phase of 32. -/
def mirrorFits (r : MirrorRec) : Bool :=
  decide (r.pos < 2 ^ 64) && decide (r.hwl < 2 ^ 64) && decide (r.emuCount < 2 ^ 64) && decide (r.cycleLine < 2 ^ 64) &&
    decide (r.phase < 2 ^ 32) && decide (r.heldLine < 2 ^ 64)

/-- R343, R345: a request stays within one 64 B line; a read brings no data. -/
def requestFits (r : DramReq) : Bool :=
  if r.write then decide (1 ≤ r.data.length) && decide (r.address % 64 + r.data.length ≤ 64) else r.data.isEmpty

/-- R356, R362: an engine run's registers, with the bursts that come back otherwise. -/
def runFits (r : EngineRun) : Bool :=
  decide (r.mode ≤ 2) && decide (r.length < 2 ^ 24) && decide (r.addr < 2 ^ 32) && decide (r.pattern < 2 ^ 32) &&
    decide (r.invert < 2 ^ 16) && r.returned.all fun x => decide (x.1 < r.length) && decide (x.2.length = 64)

/-- R338, R339: mode registers of 8 bits, and a rank count that exists. -/
def deviceFits (d : DramDevice) : Bool :=
  [1, 2].contains d.ranks && decide (1 ≤ d.density) && decide (d.density < 256) && decide (d.vendor < 256)

/-- R354, R355: what a training reports: devices, engine runs, steps that exist, and at most 120 settings of a byte per channel. -/
def trainFits (t : TrainReport) : Bool :=
  decide (t.windows.length ≤ 480) && (t.windows.all fun w => decide (w.1 ≤ w.2) && decide (w.2 < 256)) &&
    t.devices.toList.all deviceFits && (t.quickRuns ++ t.runs).all runFits &&
    (t.failures.all fun f => decide (2 ≤ f.1) && decide (f.1 ≤ 7)) && decide (t.lastStep ≤ 8)

/-- R15, R52, R84 to R97, R241 to R249, R343: the operands of a command fit their fields. -/
def Instr.wf : Instr → Bool
  | .sm2Event outputs => decide (outputs.length ≤ 64)
  | .registerWrite bar offset size _ => decide (1 ≤ size) && decide (offset + size ≤ barSpan bar)
  | .pcieLinkUp width speed => [1, 2, 4, 8].contains width && decide (1 ≤ speed) && decide (speed ≤ 4)
  | .descriptorFetched _ bytes => optLength 32 bytes
  | .sgEntryRead _ bytes => optLength 16 bytes
  | .hostReadCompletion _ data => data.all fun d => !d.isEmpty && decide (d.length ≤ 4096)
  | .statusHello _ vmax => decide (1 ≤ vmax) && decide (vmax < 256)
  | .statusEcho _ roundTrip => decide (roundTrip < 2 ^ 32)
  | .dataFrame _ source chunk data =>
    decide (data.length = 64) && decide (chunk < if source = 0 then 4 else 32)
  | .telemetryFrame _ t => telemetryFits t
  | .pixelPacket _ _ payload _ _ => decide (payload.length < 65536)
  | .paceLinkHello _ vmax => decide (1 ≤ vmax) && decide (vmax < 256)
  | .mirrorRecord r => mirrorFits r
  | .dramRequest r => requestFits r
  | .start r => trainFits r.train
  | .powerExitComplete t => trainFits t
  | .scanRowAdvance rowsSent => decide (rowsSent ≤ 16384)
  | .cycle line _ => decide (line < 2 ^ 64)
  | .sdoUpload _ _ | .sdoDownload _ _ _ | .sdoSegment _ _ _ _ _ | .sdoSegmentTimeout _ | .completeAccess _ _ _ | .sdoInformation _
  | .rz2440FwWrite _ _ _ _ | .tympanJnlRead _ | .eventsLogRead _ | .alStateRequest _ | .preopAcknowledge
  | .processDataWatchdog | .sync0Edge | .sync0Missing | .stationAddressWrite _ | .netReset _ | .miiLinkChange _ _
  | .eventLogOverflow | .winRead | .winWrite | .winRequestDone | .pciConfigAccess _ _ | .pcieLinkDown | .hotReset _
  | .perstNEdge _ | .doorbellWrite _ _ | .ringEnable _ | .ringDisable _ | .ringStop _ | .ringResume _ | .ringAbort _
  | .ringSkip _ | .poolWaitEnd _ | .ductRingResumed _ | .hostWriteFailure _ | .pcieCompletionTimeout _
  | .retainedTransferResume _ | .descriptorComplete _ | .egressFlushExpiry _ | .lineDecode _ | .formeSubmit _ _
  | .formeAbort _ _ | .lineCompose _ | .reqSubmit _ | .rateClassRequest _ _ _ | .pageAccept | .compChangeFolded
  | .quadratureCount _ _ _ | .lineBoundary | .indexEdge _ | .stepPendingApply | .presetNow _ | .presetAtIndex _
  | .latch _ | .strobe | .clearCounters _ | .speedWindowClose | .webStopped | .emulatorCatchUp | .platCommit _ _
  | .holdCyclingClear | .holdNFall | .freezeEnd | .headDetect _ | .trainingAttemptEnd _ _ | .descReadTimeout _
  | .statusUpgradeAck _ | .upgradeTrainingEnd _ _ | .timeSetRepeat _ | .attachComplete _ | .detach _ | .slotSend _
  | .trimFrameSend _ | .ackFrame _ _ | .nakFrame _ _ | .resendTimeout _ | .doneFrame _ _ _ | .groupAckOverdue _
  | .tornFrame _ _ _ | .statusReady _ _ | .telemetryTimeout _ | .supplyFaultTimeout _ | .laneLockLost _
  | .backchannelSilence _ | .retrainAttemptEnd _ _ | .selftest _ _ | .statusSelftestDone _ _ | .frameStart _ | .frameEnd _
  | .otherPacket _ _ _ | .camCommit _ _ | .cciWriteComplete _ _ | .cciRead _ _ | .cciWrite _ _ | .camCciDone _ _ _
  | .streamingTimeout _ | .clkRefclkSwitch _ | .windowProcessed _ | .confirm _ _ | .compareMatch _ | .trigPulseEnd _
  | .captureEdge _ _ | .netPairSample _ | .paceLinkDown _ | .enum _ | .busy _ | .paceSyncIn | .heartbeatMiss | .quoinTake
  | .paceOutEnable | .takeoverHoldPulseEnd | .paceQuoinStuck | .standbyQuoinTimeout | .dramReadReturn _ _
  | .refreshDue _ _ | .mr4Poll _ _ | .driftTracking _ _ _ | .scrubRead _ | .move _ _ | .runSegments _ _ | .home _ _
  | .stop _ _ | .setPosition _ _ | .clearFault _ _ | .motCommit _ _ | .profileTick | .currentSample _ _ _
  | .chopOffTimeEnd _ _ | .senseTimeout _ _ | .faultInputLow _ | .holdDelayExpiry _ | .powerOnReset | .pinReset
  | .wdgReset _ | .cpuWatchdogWarn _ | .cpuFirmwareFault _ _ | .resetCommand _ | .subReset _ _ | .pwrSubResetDone
  | .startWatchdog | .activateA _ | .activateB _ | .restart _ | .journalFormat _ | .journalCommit | .tympCompactionDone
  | .scheduledWake | .sleepIdleExpiry | .pwrWakeLate _ | .pwrBrownoutWarn _ | .pwrBrownoutClear _ | .brownoutReset _
  | .crystalLoss _ | .ddrPllUnlock | .clkPcieRefLost | .clkPcieRefRestored | .junctionTempSample _
  | .guardedWrite _ _ _ _ | .consentMessage _ _ | .proposalExpiry | .idcode | .bypass | .sample _ | .debugInstruction _
  | .dispPush _ _ _ | .dispTeBlank | .dsi1TeEdge _ | .dispFrameDone | .panelInit | .cellRepush _ | .mirrorHeartbeat
  | .pmeTurnOff | .pcieAerError _ | .escRegisterWrite _ _ | .powerEntryComplete | .paceSyncPulseEnd => true

end Sys2Proof
end

