-- ==== Sys2Proof/Tests/Slice0.lean ====
section
/-! SUPPORT. Tests/Slice0.lean: tests of the model, each one step on a small state, and with them a state and operands that meet
the hypotheses of each statement. -/

namespace Sys2Proof.Tests
open Sys2Proof Sys2Proof.Machine

/- One theorem after the other: each asks the kernel to evaluate a step. -/
set_option Elab.async false

/-- The command answers a next state of which `p` holds. -/
def runs (c : Instr) (s : State) (p : State → Bool) : Bool :=
  match exec c s with
  | .next t => p t
  | _ => false

/-- A device that has started, in OPERATIONAL, with its mailbox enabled; it is waking, so that no recomputation of R417 runs. -/
def wReady : State :=
  { State.reset with
    boot := { State.reset.boot with phase := .ready }
    net := { State.reset.net with al := .op, smOn := Vector.replicate 2 true }
    plat := { State.reset.plat with initDone := true }
    pins := { State.reset.pins with holdN := true }
    time := { State.reset.time with pairs := [(0, 0)] }
    pwr := { State.reset.pwr with exiting := true } }

/-- Awake: neither an exit nor an entry is in progress. -/
def wAwake (s : State := wReady) : State := { s with pwr := { s.pwr with exiting := false } }

/-- Objects at values. -/
def wOd (kvs : List (Nat × Nat)) (s : State) : State := kvs.foldl (fun s kv => s.setO kv.1 kv.2) s
/-- Live values. -/
def wLive (kvs : List (Nat × Nat)) (s : State) : State := kvs.foldl (fun s kv => s.setL kv.1 kv.2) s
/-- Port 0 changed. -/
def wPort (g : Port → Port) (s : State) : State := { s with ports := s.ports.set 0 (g (s.ports.get 0)) }
/-- Camera 0 changed. -/
def wCam (g : Cam → Cam) (s : State) : State := { s with cams := s.cams.set 0 (g (s.cams.get 0)) }
/-- Axis 0 changed. -/
def wAxis (g : Axis → Axis) (s : State) : State := { s with axes := s.axes.set 0 (g (s.axes.get 0)) }
/-- A ring changed. -/
def wRing (r : Fin 128) (g : Ring → Ring) (s : State) : State := { s with rings := s.rings.set r (g (s.rings.get r)) }
/-- A forme context changed. -/
def wForme (f : Fin 256) (g : Forme → Forme) (s : State) : State := { s with formes := s.formes.set f (g (s.formes.get f)) }
/-- Only objects of the keys given differ. -/
def onlyKeys (ks : List Nat) (s t : State) : Bool := (s.od ++ t.od).all fun kv => ks.contains kv.1 || s.o kv.1 == t.o kv.1
/-- The rings beside one are as they were. -/
def otherRings (r : Fin 128) (s t : State) : Bool := s.rings.get (r + 1) == t.rings.get (r + 1) && s.rings.get (r - 1) == t.rings.get (r - 1)



def wTrain : State := wPort (fun p => { p with state := .training, en := true }) wReady

def wChunks : List (Nat × List Byte) := [(0, List.replicate 64 0#8), (1, List.replicate 64 0#8), (2, List.replicate 64 0#8)]

def wDesc : State := wPort (fun p => { p with state := .descriptor, en := true, vmax := 2 }) wReady

def wBody : List Byte :=
  leBytes 4 0x444C484F ++ leBytes 2 1 ++ leBytes 2 1 ++ leBytes 8 7 ++ leBytes 4 9 ++ leBytes 2 400 ++ leBytes 2 500 ++ leBytes 2 1000 ++
    leBytes 2 1000 ++ leBytes 4 0 ++ List.replicate 144 0#8 ++ leBytes 2 0 ++ leBytes 2 100 ++ List.replicate 72 0#8

def wDescriptor : List Byte := wBody ++ leBytes 4 (crc32 wBody)

def wLast : State := wPort (fun p => { p with chunks := [(0, wDescriptor.take 64), (1, (wDescriptor.drop 64).take 64), (2, (wDescriptor.drop 128).take 64)], lastSerial := some 7 }) wDesc

def wLast1 : State := wPort (fun p => { p with vmax := 1 }) wLast

def wUp : State := wPort (fun p => { p with state := .upgrade, fails := 2, en := true }) wReady

def wAttach : State := wPort (fun p => { p with chunks := p.chunks ++ [(3, (wDescriptor.drop 192).take 64)], aligned := true, version := 1, lastSerial := none }) wLast

def wSlots : State := wOd [(OD.EGRESS_AREA_SIZE, 0x100000)] wAttach

def wBoot : State := { wReady with net := { wReady.net with al := .boot } }

def wSeg : SegXfer := ⟨.mailbox, 0x3000, 1, true, 0, []⟩

def wKey : Nat := okey 0x2100 2

def wJrec : JRec := ⟨.objects false [(wKey, 4)], .answer .mailbox [(wKey, [4#8])]⟩

def wJ : State := { wReady with tymp := { wReady.tymp with state := 1, open_ := [wJrec] }, srv := { wReady.srv with busy := true } }

def wRow (key : Nat) : ObjRow := (rowOf (key / 256) (key % 256)).getD ⟨0, 0, 1, .u8, .ro, .v, 0, .any⟩

def wKeyed : State := { wReady with sec := { wReady.sec with keyLine := some 1, keyHost := some 2 }, tymp := { wReady.tymp with state := 1 } }

def wProp : State := wOd [(OD.PROPOSAL_ID, 3)] { wKeyed with sec := { wKeyed.sec with isOpen := true, target := 0x2A0001, value := [2#8], party := 1, challenge := 5, deadline := 4000000000, propLine := some 1, propHost := some 2 } }

def wRoute : State := wOd [(OD.ROUTE_LO EV.CPU_WATCHDOG_WARN, 0xFF), (OD.ROUTE_HI (EV.CPU_WATCHDOG_WARN - 128), 0xFF)] wReady

def wDrops : State := { wReady with dev := { wReady.dev with dropsSince := 70000 }, egress := wReady.egress.set 0 { wReady.egress.get 0 with stalled := true } }

def wMsg : List Byte := let h := leBytes 4 3 ++ leBytes 4 0 ++ leBytes 8 1
  h ++ consentTag 1 1 1 wProp

def wAl (a : AlState) : State := { wReady with net := { wReady.net with al := a } }

def wBare : State := { wReady with boot := { wReady.boot with phase := .bare } }

def wStart : State := { wReady with boot := { wReady.boot with phase := .starting } }

def wBareOp : State := { wBare with net := { wBare.net with al := .preop } }

def wPdo : State := wOd [(0x160000, 1)] wReady

def wDc (out : Option (List Byte)) : State := let s := wOd [(OD.SYNC_MODE_OUT, 2)] wPdo
  { s with net := { s.net with outputs := out } }

def wSeq (n : Nat) : State := { wReady with net := { wReady.net with resetSeq := n, station := 77 } }

def wWin (a l : Nat) : State := { wReady with pcie := { wReady.pcie with winAddr := a, winLength := l, winBuf := [(0, 4)] } }

def wBusy : State := { wReady with pcie := { wReady.pcie with winBusy := true, winResult := some (.done [7#8, 8#8]), winBuf := [(2, 9)] } }

def wPcie (g : Pcie → Pcie) : State := { wReady with pcie := g wReady.pcie }

def wLink : State := wPcie fun p => { p with perst := true, linkUp := true, width := 4, speed := 4, d3hot := true, command := 6, winBusy := true, winBuf := [(0, 1)], msixTable := [(0, 1)] }

/-- `hotFrom` over the objects stored. -/
def hotB (ks : List Nat) (s t : State) : Bool :=
  decide (t.rings = Vector.replicate 128 Ring.reset ∧ t.pcie.winBusy = false ∧ t.pcie.winBuf = [] ∧ t.pcie.msixTable = [] ∧
    t.pcie.command = 0 ∧ t.pcie.d3hot = false ∧ t.pcie.devCtl = Pcie.reset.devCtl ∧ t.web.hwl = s.web.hwl) && onlyKeys (eventKeys ++ ks) s t

def wRun (g : Ring → Ring) (r : Fin 128 := 112) (s : State := wReady) : State := wRing r (fun q => g { q with state := .running, sizeLog2 := 3, head := 65535, tail := 65535 }) s

def wDescOp (op : Nat) : Desc := { list := 0, total := 32, quiet := true, last := false, op := op, forme := 0, count := 1, offset := 0, tag := 9, target := 7, seq := 65535 }

def wXfer (op : Nat) : Xfer := { Xfer.fresh (wDescOp op) with started := true }

def wWith (x : Xfer) (r : Fin 128 := 112) : State := wRun (fun q => { q with xfer := some x, tail := 3 }) r

def wDescBytes (op total seq offset : Nat) : List Byte := leBytes 8 16 ++ leBytes 4 total ++ leBytes 4 (0x20000001 + 0x1000000 * op) ++ leBytes 8 offset ++ leBytes 4 9 ++ leBytes 4 ((if op = 1 then 0 else 0x70000) + seq)

def wFetch (r : Fin 128 := 112) : State := wRun (fun q => { q with tail := 3 }) r

def wStream : Stream := { Stream.fresh 0 0 with headerOk := true, delivered := 100, version := 1, pos := 48, bandLeft := 64, bandStart := 32, bandBytes := 100, blocks := [⟨0, 0, .filled⟩], firstFire := 64, endFire := 192 }

def wGal (st : Stream := wStream) (fs : FormeState := .armed) (s : State := wReady) : State :=
  let s := wForme 0 (fun f => { f with state := fs }) { s with gal := { s.gal with streams := [st] } }
  { s with comp := { s.comp with lanes := s.comp.lanes.set 0 { s.comp.lanes.get 0 with next := 64 } } }

def wGalRing (high : Nat) : State := wRun (fun q => { q with tail := 3, high := high }) 0 (wOd [(OD.GAL_AREA_SIZE, 0x100000), (OD.OHL_PORT_ENABLE 0, 1)] (wGal { wStream with blocks := [] } .loading))

def wPool (s : State) : State := { s with ledgers := s.ledgers.set 1 ⟨9000, (s.ledgers.get 1).held.set 0 9000⟩ }

def wWait (g : Ring → Ring) : State := wPool (wRing 0 (fun q => g { q with xfer := some (Xfer.fresh { wDescOp 1 with offset := 65536, target := 0 }) }) (wGalRing 48))

def wSg (len flags : Nat) : List Byte := leBytes 8 0x1000 ++ leBytes 4 len ++ leBytes 4 flags

def wDone (op : Nat) : Xfer := { wXfer op with entries := 1, sum := 32, moved := 32, gathered := List.replicate 32 7#8 }

def wRecs : Xfer := { wXfer 4 with records := 1, firstLoc := 0 }

def wEnt (st : Staging) : Xfer := { wXfer 2 with entry := some ⟨0x1000, 32, true, 16⟩, sum := 32, gathered := List.replicate 16 1#8, moved := 16, staging := st }

def wTok (free dec : Nat) (s : State) : State := { s with ledgers := s.ledgers.set 3 ⟨768, ((s.ledgers.get 3).held.set 0 free).set 1 dec⟩ }

def wLine : DecodedLine := ⟨64, 0, 0, 3 :: List.replicate 8191 0⟩

def wCompose : State := let s := wTok 767 1 wGal
  { s with comp := { s.comp with lanes := s.comp.lanes.set 0 { s.comp.lanes.get 0 with input := [wLine] } } }

def wSub : State := wOd [(OD.OHL_PORT_ENABLE 0, 1), (OD.FORME_LENGTH 255, 100), (OD.FORME_HEADS 255, 1), (OD.FORME_START 255, 1), (OD.FORME_CAUSE 255, 7)] wReady

def wF (st : FormeState) (held : Bool := false) : State := let s := wOd [(OD.HELD_LINE, 77)] (wForme 255 (fun f => { f with state := st }) wReady)
  { s with plat := { s.plat with held := held } }

def wSlots0 : State := wOd [(OD.EGRESS_AREA_SIZE, 0x100000)] wReady

def wReq : State := wOd [(OD.REQ_NOZZLE, 0), (OD.REQ_VALUE, 5), (OD.REQ_MASK, 0xFFFF), (OD.REQ_BAND, 0)] wSlots0

def wItems (l : List Pending) : State := { wSlots0 with comp := { wSlots0.comp with items := l } }

def wLoad : State := { wSlots0 with comp := { wSlots0.comp with load := some ⟨1024, [5, 6], 2, 0, none, none, true⟩ } }

def wWeb (g : Web → Web) (s : State := wReady) : State := { s with web := g s.web }

def wAt (hwl : Nat) (p : Rat) (s : State := wReady) : State := wWeb (fun w => { w with hwl := hwl, p := p, forward := p }) s

def wIdx : State := wOd [(OD.COUNTS_PER_REV, 100), (OD.INDEX_PHASE, 99)] (wWeb (fun w => { w with lastForward := true, edgesSeen := 1 }) (wAt 63 63))

def wSet : State := (List.range 32).foldl (fun s i => s.setDom (OD.ROTATION 0) i [BitVec.ofNat 8 i]) (wOd [(OD.RECIPE_SELECT 0, 0), (OD.RECIPE 0 0, 0xA00000), (OD.FIRE_WIDTH_MAX 0, 25)] wSlots0)

def wPlat (g : Plat → Plat) (s : State := wReady) : State := { s with plat := g s.plat }

def wHeld : State := wPlat (fun p => { p with held := true, forwardSeen := true, cause := 2, cycling := true }) (wOd [(OD.HELD_LINE, 1000), (OD.HOLD_CAUSE, 2)] (wWeb (fun w => { w with frozen := true }) { wReady with pins := { wReady.pins with holdN := false } }))

def wHalt : State := let s := wAt 63 64
  { s with dev := { s.dev with ledgerHalt := true } }

def wBody1 (slot : Nat) : Body := ⟨slot, 0, [⟨0, 0, [1, 2]⟩], [], 0, 400⟩

def wSlot (slot : Nat) (c : CreditAt) : HeldSlot := ⟨wBody1 slot, false, c, decide (c = .available), false⟩

def wUpP (g : Port → Port) : State := wPort (fun p => g { p with state := .ready, en := true, det := true, version := 1, v1 := true, aligned := true }) wReady

def wHold : State := wUpP fun p => { p with slots := [wSlot 7 .available, wSlot 8 .available] }

def wTrims : State := wUpP fun p => { p with trims := [⟨9, 1, 2, 3, 0, 0⟩, ⟨8, 1, 2, 3, 0, 0⟩] }

def wUnack : State := wUpP fun p => { p with unacked := [(65534, .command 1 0), (65535, .group 7 0)], slots := [wSlot 7 .inFlight] }

def wAtHead : State := wUpP fun p => { p with slots := [wSlot 7 .head, wSlot 8 .head] }

def wRetrain (n : Nat) : State := wUpP fun p => { p with state := .retrain, retrainFails := n }

def wSelf (chunks : Nat) (done : Bool) : State := wUpP fun p => { p with selftest := true, selfChunks := chunks, selfDone := done, selfFails := 9 }

def wCamOn : State := wOd [(OD.CAM_PORT_ENABLE 0, 1), (OD.WIDTH 0, 8), (OD.HEIGHT 0, 4), (OD.SET_ID 0, 7), (OD.FRAME_BUFFER_BYTES, 1024), (OD.PRF_AREA_BASE, 0x1000), (OD.INSTALLED_SIZE, 0x100000), (OD.DATA_TYPE 0, 0x2A), (OD.PAD_VALUE 0, 9), (OD.VIRTUAL_CHANNEL 0, 1), (OD.CCI_COUNT 0, 0), (OD.EGRESS_AREA_SIZE, 0x100000)] (wLive [(OD.WIDTH 0, 8), (OD.HEIGHT 0, 4), (OD.PAD_VALUE 0, 9), (OD.GAIN 0, 256)] { wReady with ddr := { wReady.ddr with state := 2 } })

def wBufs (n : Nat) (s : State := wCamOn) : State := { s with ledgers := s.ledgers.set 5 ⟨4, ((s.ledgers.get 5).held.set 0 n).set 1 (4 - n)⟩ }

def wFrame : FrameRec := { fsn := 5, flags := 0, fsLoc := 0, feLoc := 0, trigPos := 0, trigLoc := 0, strobeLoc := 0, buffer := 1, setId := 0, lines := 0, shortLines := 0, longLines := 0, padLines := 0, cutLines := 0, badLines := 0, width := 8, height := 4, valid := 0, saturated := 0, sum := [0, 0, 0, 0], count := [0, 0, 0, 0], minV := 1023, maxV := 0, stored := 3, validLens := [8, 8, 8] }

def wOpen (f : FrameRec := wFrame) : State := wCam (fun c => { c with frame := some f }) (wBufs 3)

def wPay : List Byte := [1#8, 2#8, 3#8, 4#8, 5#8]

def wCci (w : Bool := false) : State := wCam (fun c => { c with cciBusy := true, cciRead := true, commit := w, commitWaiting := w }) (wOd [(OD.CCI_STATUS 0, 1)] wCamOn)

def wToPrf (f : FrameRec) (s : State := wBufs 3) : State := wCam (fun c => { c with toPrf := [f] }) s

def wSummary : WindowSum := { base := 512, lines := 512, cols := [], tiles := [], torn := false, incomplete := false, slot := 0, params := [(OD.CAM_DISTANCE 0, 100), (OD.WINDOW_LINES, 512)], flat := [], offLine := 512, offsets := [], tookFrame := false }

def wMatch : State := let s := wOd [(OD.CAM_DISTANCE 0, 100), (OD.WINDOW_BASE, 0), (OD.WINDOW_LINES, 512)] (wToPrf { wFrame with trigPos := 612 * 65536 })
  { s with prf := { s.prf with lanes := s.prf.lanes.set 0 { s.prf.lanes.get 0 with summaries := [wSummary] } } }

def wFinding : Proposed := { port := 1, seq := 5, nozzle := 0, cls := 1, plane := 0, column := 0, strength := 1, fsn := 0, base := 0 }

def wCmp (dom target period : Nat) : State := wOd [(OD.CMP_ARM 15, 1), (OD.CMP_DOMAIN 15, dom), (OD.CMP_TARGET 15, target), (OD.CMP_PERIOD 15, period), (OD.TRIG_SOURCE 3, 15), (OD.TRIG_WIDTH 3, 5)] { wReady with loc := 1000 }

def wPairs : State := let s := wCmp 0 0 0
  { s with time := { s.time with pairs := [(0, 0)] } }

def wPace (g : Pace → Pace) (s : State := wReady) : State := { s with pace := g s.pace }

def wSkew (p : Rat) : State := wOd [(OD.SYNC_TOLERANCE, 65535)] (wAt 0 p)

def wPair (g : Pace → Pace) : State := wPace g (wOd [(OD.PARTNER_PRESENT, 1)] wReady)

def wRec : MirrorRec := { roleMaster := true, acting := true, pos := 0, hwl := 0, emuCount := 0, cycleLine := 8, phase := 0, locked := false, heldLine := 0, held := false, busyFlag := false, busyIn := false, ready := true, handback := false, crcOk := true }

def wDdr (g : Ddr → Ddr := fun d => d) : State := let s := wOd [(OD.INSTALLED_SIZE, 0x100000), (OD.RANKS, 1), (OD.DENSITY, 8), (OD.SCRUB_PERIOD, 1)] wReady
  { s with ddr := g { s.ddr with state := 2 } }

def wDreq (write : Bool) : DramReq := { requester := 2, address := 0xFFFFE, write := write, data := if write then [1#8, 2#8] else [] }

def wDreqW : DramReq := { requester := 2, address := 0xFFF84, write := true, data := [1#8, 2#8] }

def wRead (n : Nat) : DramReq := { requester := 2, address := 64, write := false, data := [BitVec.ofNat 8 n] }

def wQd : Queued := ⟨wRead 5, ⟨3, 0, 0, 0, 7⟩, false, false, [], 0⟩

def wRet (ecc : Bool) : State := wDdr fun d => { d with eccOn := ecc, channels := d.channels.set 3 { d.channels.get 3 with inFlight := [wRead 5] } }

/-- Banks 15 and 7 of channel 3, at a place of its rotation. -/
def wBanks (b b7 : Bank) (next : Nat) : State := wDdr fun d => { d with channels := d.channels.set 3 { d.channels.get 3 with banks := ((d.channels.get 3).banks.set 15 b).set 7 b7, refNext := next } }

def wBank (b : Bank) : State := wDdr fun d => { d with channels := d.channels.set 3 { d.channels.get 3 with banks := (d.channels.get 3).banks.set 15 b } }


def wMotOd : State := wLive [(OD.V_START 7, 5), (OD.SEG_FIRST 7, 1023), (OD.SEG_COUNT 7, 1)] (wOd [(OD.AXIS_ENABLE 7, 1), (OD.PRESS_CONTROL, 4), (OD.AXIS_TARGET 7, unsignedOf 32 (-3)), (OD.HOME_INPUT 7, 0), (OD.PRESET_POSITION 7, unsignedOf 32 (-9)), (OD.RUN_CURRENT 7, 5)] wReady)

def wMot (g : Axis → Axis := fun a => a) (s : State := wMotOd) : State := { s with axes := s.axes.set 7 (g { s.axes.get 7 with state := .idle, uncertain := false }) }

def wMotSet : State := wMot (fun a => a) (wOd [(OD.ISENSE_FULL_SCALE 7, 100), (OD.RUN_CURRENT 7, 5), (OD.STRONG_CURRENT 7, 6), (OD.HOLD_CURRENT 7, 1), (OD.V_START 7, 1), (OD.V_STOP 7, 1), (OD.V_BREAK 7, 2), (OD.V_MAX 7, 3), (OD.V_LIMIT 7, 4), (OD.SEG_FIRST 7, 1023), (OD.SEG_COUNT 7, 1), (OD.STRONG_SPEED 7, 0)] wMotOd)

def wGo (v : Rat) (goal : Int) : State := wMot (fun a => { a with state := .moving, v := v, target := goal }) (wLive [(OD.V_START 7, 5), (OD.V_MAX 7, 1000), (OD.V_BREAK 7, 1000), (OD.A1 7, 1000), (OD.A2 7, 1000), (OD.D1 7, 1000), (OD.D2 7, 1000)] wMotOd)

def wNext (s : State) : Rat × Rat × Rat × Rat :=
      let goal : Rat := (s.axes.get 7).target
      let pos : Rat := ((s.axes.get 7).x : Rat) / 2 ^ 32
      let v := limitSpeed 7 (absRat (s.axes.get 7).v) s
      let v' := limitSpeed 7 (nextSpeed 7 ((s.axes.get 7).braking || decide (absRat (goal - pos) ≤ brakeDistance 7 v s)) v s) s
      let d := (v + v') / 2 * tickSec
      (goal, pos, v', d)

def wSense (sw : Nat) (over_ : Bool) : State := wMot (fun a => { a with switchLoc := sw, phaseA := { a.phaseA with overNow := over_, legP := true, decay := true } }) (wOd [(OD.ISENSE_FULL_SCALE 7, 100), (OD.OVERCURRENT_LIMIT 7, 50), (OD.FAULT_INPUT 7, 3)] { wMotOd with loc := 1000 })

/-- Both bitstreams have shown one level for 94 bits: 1 in phase A, 0 in phase B. -/
def wSense1 : State :=
  let s := wSense 601 true
  { s with axes := s.axes.set 7 { s.axes.get 7 with phaseA := { (s.axes.get 7).phaseA with stream := List.replicate 94 true }, phaseB := { (s.axes.get 7).phaseB with stream := List.replicate 94 false } } }

/-- `resetFrom` over the objects stored. -/
def resetB (kind detail : Nat) (s t : State) : Bool :=
  decide (t.boot.phase = .starting ∧ t.o OD.RESET_KIND = kind ∧ t.o OD.RESET_DETAIL = detail ∧ t.loc = (if kind = 0 then 0 else s.loc) ∧
    t.pending = s.pending ∧ t.live = [] ∧ (t.formes.get 255).state = .empty ∧ t.plat.held = false ∧ (t.axes.get 7).state = .disabled ∧
    t.pins.holdN = false ∧ t.sec.unlocked = false ∧ t.tymp.objs = s.tymp.objs) &&
    (s.od ++ t.od).all fun kv => (eventKeys ++ [OD.RESET_KIND, OD.RESET_DETAIL, OD.BROWNOUTS, OD.CLOCK_FAILURES]).contains kv.1 ||
      t.o kv.1 == (if keptAtReset kind kv.1 then s.o kv.1 else dfltOf kv.1)

def wUsed : State := wLive [(OD.V_MAX 7, 3)] (wOd [(OD.WIDTH 0, 8), (OD.PRESET_LINE, 7), (0x210002, 4), (0x210001, 1), (0x210031, 5), (OD.QUAD_ERRORS, 9), (OD.FORME_LENGTH 255, 4)] ((wF .printing).setO OD.RESET_KIND 4))

def wLoc : State := { wUsed with loc := 12345, pwr := { wUsed.pwr with exiting := false } }

def wPwr (n : Nat) : State := { wLoc with pwr := { wLoc.pwr with state := n } }

def wTrain1 : TrainReport := { quickRuns := [], runs := (List.range 12).map fun i => ⟨Fin.ofNat 4 i, 0, 16384, 0, 1, 0, [0, 8, -8].getD (i / 4) 0, []⟩, failures := [], lastStep := 0, lastChannel := 0, time := 10, windows := [(0, 2)], devices := Vector.replicate 4 ⟨1, .x16, 16, 1⟩, drift := [] }

def wReport : StartReport := { pllLocks := true, flashAnswers := true, pairOk := Vector.replicate 2 true, tornTail := false, train := wTrain1, headSupplyOk := true, initOk := true, copyRead := none, elapsed := 3000, stopsIn := none, refBypass := false, testMode := false }

def wStarting (kind fails : Nat) : State := wOd [(OD.RESET_KIND, kind)] { State.reset with boot := { State.reset.boot with mirrorFails := fails, mirrorCause := 5 } }

def wBootJ : State := { wReady with tymp := { wReady.tymp with state := 1 }, boot := { wReady.boot with slots := #v[⟨.valid, 1, [], false⟩, ⟨.valid, 1, [], false⟩] } }

def wPw (n : Nat) (g : Pwr → Pwr := fun p => p) : State := { wReady with pwr := g { wReady.pwr with state := n, exiting := false }, ddr := { wReady.ddr with state := if n = 3 then 3 else 2 } }

def wSleep : State := let s := wOd [(OD.DEEPEST_STATE, 4)] (wPw 3)
  { s with net := { s.net with al := .preop } }

def wDisp (g : Disp → Disp := fun d => d) : State := let s := wOd [(OD.HOST_CELLS, 0xFFFFFE), (OD.LINE_MATCH, 63)] wReady
  { s with disp := g { s.disp with panelOn := true } }

def wPush : Push := ⟨[⟨0, 16, 0, 8⟩], false⟩

/-- MSI-X on, the link up and bus mastering on; ring 96 has reported its stall, and the event goes to vector 5. -/
def wMsix (mask : Nat) (g : Pcie → Pcie := fun p => p) : State :=
  let s := wOd [(OD.ROUTE_LO EV.CPU_WATCHDOG_WARN, 0x4500)] wDrops
  { s with
    dev := { s.dev with dropsSince := 0 }
    pcie := g { s.pcie with linkUp := true, command := 4, msixCtl := 0x8000, msixTable := [(23, mask)], msixPending := [9] } }

/-- A second entry in the output image: 8 bits of CAP_FILTER. -/
def wPdo2 : State := wOd [(0x160000, 2), (0x160002, 0x29000708)] wReady

/-- A firmware transfer of which one byte has come. -/
def wBoot1 : State := { wBoot with
  net := { wBoot.net with foe := some 1 }
  boot := { wBoot.boot with slots := Vector.replicate 2 ⟨.writing, 0, [1#8], false⟩ } }

/-- Line `n` falls due at a READY head 0 that holds its composed line, with a token in the lead, for an ARMED forme; the head's
running CRC is in the line's band. -/
def wQuiet (n : Nat) (rd : List (Nat × Int) := []) : State :=
  let s := wGal wStream .armed (wOd [(OD.LEAD_LOW, 1), (OD.TEMP_HARD 0, 800), (OD.TEMP_SOFT 0, 600)] (wAt (n - 1) n (wUpP fun p => p)))
  let s := { s with
    loc := 10
    plat := { s.plat with heads := (s.plat.heads.map fun (q : Seqr) => { q with nextSlot := n + 1 }).set 0 { s.plat.heads.get 0 with nextSlot := n, readings := rd, crc := some 0xFFFFFFFF, crcBand := n / 64 } }
    comp := { s.comp with lanes := s.comp.lanes.set 0 { s.comp.lanes.get 0 with next := n + 1, lead := [⟨n, some 0, [3], []⟩] } } }
  { s with ledgers := s.ledgers.set 3 ⟨768, ((s.ledgers.get 3).held.set 0 767).set 2 1⟩ }

/-- A forme on head 0, at the boundary of line 64. -/
def wEdge (st : FormeState) (start len : Nat) (str : Stream) : State :=
  let s := wAt 63 64
  wOd [(OD.PRESS_CONTROL, 7), (OD.FORME_HEADS 0, 1), (OD.FORME_START 0, start), (OD.FORME_LENGTH 0, len), (OD.LEAD_LOW, 0)]
    (wGal str st { s with plat := { s.plat with heads := s.plat.heads.map fun (q : Seqr) => { q with nextSlot := 65 } } })

/-- A finding of a missing nozzle in column 100, and a window by its confirm policy and threshold. -/
def wFound : Found := ⟨1, 0, 100, 100, 100, 5, false, true, 100⟩

/-- A window by its confirm policy and its threshold. -/
def wWindow (policy threshold : Nat) : WindowSum := { wSummary with params := [(OD.CONFIRM_POLICY, policy), (OD.ACT_THRESHOLD, threshold), (OD.STEP_MISSING, 7), (OD.LOOP_BANDS, 0)] }

/-- A trial of nozzle 25, without a further candidate. -/
def wTrial : Trial := { port := 0, cls := 1, plane := 0, column := 100, lead := 25, undo := 2048, band := 1, strength := 5, rest := [], waits := false }

/-- The trial alone is open. -/
def wTried : State := { wCamOn with prf := { wCamOn.prf with trials := [wTrial] } }

theorem test_HeadTrainsAndNamesItself_1 :
    (fun s : State => decide (ohlOn s = true ∧ (s.ports.get 0).state = .empty) && runs (.headDetect 0) s (fun t => decide ((t.ports.get 0).state = .training ∧ (t.ports.get 0).en = true ∧ (t.ports.get 0).det = true ∧ (t.ports.get 0).chunks = []))) (wPort (fun p => { p with state := .empty }) wReady) = true := by decide +kernel

theorem test_HeadTrainsAndNamesItself_2 :
    (fun s : State => decide (ohlOn s = true ∧ (s.ports.get 0).state = .training) && runs (.trainingAttemptEnd 0 true) s (fun t => decide (t.ports.get 0 = { s.ports.get 0 with fseq := 0, unacked := [] }))) (wTrain) = true := by decide +kernel

theorem test_HeadTrainsAndNamesItself_3 :
    (fun s : State => decide (ohlOn s = true ∧ (s.ports.get 0).state = .training ∧ (s.ports.get 0).fails < 2) && runs (.trainingAttemptEnd 0 false) s (fun t => decide (t.ports.get 0 = { s.ports.get 0 with fails := (s.ports.get 0).fails + 1 }))) (wTrain) = true := by decide +kernel

theorem test_HeadTrainsAndNamesItself_4 :
    (fun s : State => decide (ohlOn s = true ∧ (s.ports.get 0).state = .training ∧ 2 ≤ (s.ports.get 0).fails) && runs (.trainingAttemptEnd 0 false) s (fun t => decide ((t.ports.get 0).state = .fault ∧ (t.ports.get 0).en = false ∧ t.o (OD.OHL_FAULT_CAUSE 0) = 1))) (wPort (fun p => { p with fails := 2 }) wTrain) = true := by decide +kernel

theorem test_HeadTrainsAndNamesItself_5 :
    (fun s : State => decide (ohlOn s = true ∧ (s.ports.get 0).state = .training) && runs (.statusHello 0 2) s (fun t => decide ((t.ports.get 0).state = .descriptor ∧ (t.ports.get 0).vmax = 2 ∧ (t.ports.get 0).sent = (s.ports.get 0).sent ++ [.command 1 0]))) (wTrain) = true := by decide +kernel

theorem test_HeadTrainsAndNamesItself_6 :
    (fun s : State => decide (ohlOn s = true ∧ (s.ports.get 0).state = .descriptor ∧ (s.ports.get 0).version = 0 ∧ descriptorBytes { s.ports.get 0 with chunks := [(3, List.replicate 64 0#8)] } = none) && runs (.dataFrame 0 0 3 (List.replicate 64 0#8)) s (fun t => decide ((t.ports.get 0).chunks = [(3, List.replicate 64 0#8)] ∧ (t.ports.get 0).sent = [.command 1 0]))) (wDesc) = true := by decide +kernel

theorem test_HeadTrainsAndNamesItself_7 :
    (fun s : State => decide (ohlOn s = true ∧ (s.ports.get 0).state = .descriptor ∧ (s.ports.get 0).version = 0 ∧ ((s.ports.get 0).chunks.any fun x => x.1 == 1) = false ∧ ((s.ports.get 0).chunks.any fun x => x.1 == 0) = true) && runs (.descReadTimeout 0) s (fun t => decide ((t.ports.get 0).chunks = (s.ports.get 0).chunks ∧ (t.ports.get 0).sent = [.command 1 1]))) (wPort (fun p => { p with chunks := [(0, [])] }) wDesc) = true := by decide +kernel

theorem test_HeadTrainsAndNamesItself_8 :
    (fun s : State => decide (ohlOn s = true ∧ (s.ports.get 0).state = .descriptor ∧ (s.ports.get 0).version = 0 ∧ (descriptorBytes ((modPort 0 (fun p => { p with chunks := (p.chunks.filter fun c => c.1 != 3) ++ [(3, ((wDescriptor.drop 192).take 64))] }) s).ports.get 0)).map (fun d => descriptorCause 0 d (modPort 0 (fun p => { p with chunks := (p.chunks.filter fun c => c.1 != 3) ++ [(3, ((wDescriptor.drop 192).take 64))] }) s)) = some 0 ∧ min (s.o (OD.VERSION_LIMIT 0)) (s.ports.get 0).vmax < 2) && runs (.dataFrame 0 0 3 ((wDescriptor.drop 192).take 64)) s (fun t => decide ((t.ports.get 0).state = .descriptor ∧ (t.ports.get 0).version = 1 ∧ (t.ports.get 0).sent = (s.ports.get 0).sent ++ [.command 6 0]))) (wLast1) = true := by decide +kernel

theorem test_HeadTrainsAndNamesItself_9 :
    (fun s : State => decide (ohlOn s = true ∧ (s.ports.get 0).state = .descriptor ∧ (s.ports.get 0).version = 0 ∧ (descriptorBytes ((modPort 0 (fun p => { p with chunks := (p.chunks.filter fun c => c.1 != 3) ++ [(3, ((wDescriptor.drop 192).take 64))] }) s).ports.get 0)).map (fun d => descriptorCause 0 d (modPort 0 (fun p => { p with chunks := (p.chunks.filter fun c => c.1 != 3) ++ [(3, ((wDescriptor.drop 192).take 64))] }) s)) = some 0 ∧ 2 ≤ min (s.o (OD.VERSION_LIMIT 0)) (s.ports.get 0).vmax) && runs (.dataFrame 0 0 3 ((wDescriptor.drop 192).take 64)) s (fun t => decide ((t.ports.get 0).state = .upgrade ∧ (t.ports.get 0).sent = (s.ports.get 0).sent ++ [.command 3 2]))) (wLast) = true := by decide +kernel

theorem test_HeadTrainsAndNamesItself_10 :
    (fun s : State => decide (ohlOn s = true ∧ (s.ports.get 0).state = .descriptor ∧ (s.ports.get 0).version = 0 ∧ descriptorCause 0 (wDescriptor.take 192 ++ (List.replicate 60 0#8 ++ List.replicate 4 1#8)) s = 3 ∧ (s.ports.get 0).badReads < 2) && runs (.dataFrame 0 0 3 (List.replicate 60 0#8 ++ List.replicate 4 1#8)) s (fun t => decide ((t.ports.get 0).state = .descriptor ∧ (t.ports.get 0).chunks = [] ∧ (t.ports.get 0).sent = (s.ports.get 0).sent ++ [.command 1 0]))) (wLast) = true := by decide +kernel

theorem test_HeadTrainsAndNamesItself_11 :
    (fun s : State => decide (ohlOn s = true ∧ (s.ports.get 0).state = .descriptor ∧ (s.ports.get 0).version = 0 ∧ descriptorCause 0 (wDescriptor.take 192 ++ (List.replicate 60 0#8 ++ List.replicate 4 1#8)) s = 3 ∧ 2 ≤ (s.ports.get 0).badReads) && runs (.dataFrame 0 0 3 (List.replicate 60 0#8 ++ List.replicate 4 1#8)) s (fun t => decide ((t.ports.get 0).state = .fault ∧ (t.ports.get 0).en = false ∧ t.o (OD.OHL_FAULT_CAUSE 0) = 3))) (wPort (fun p => { p with badReads := 2 }) wLast) = true := by decide +kernel

theorem test_HeadAttachesAndDetaches_1 :
    (fun s : State => decide (ohlOn s = true ∧ (s.ports.get 0).state = .upgrade) && runs (.statusUpgradeAck 0) s (fun t => decide (t.ports.get 0 = { s.ports.get 0 with fails := 0, unacked := [] }))) (wUp) = true := by decide +kernel

theorem test_HeadAttachesAndDetaches_2 :
    (fun s : State => decide (ohlOn s = true ∧ (s.ports.get 0).state = .upgrade) && runs (.upgradeTrainingEnd 0 true) s (fun t => decide ((t.ports.get 0).state = .descriptor ∧ (t.ports.get 0).version = 2 ∧ (t.ports.get 0).sent = [.command 6 0]))) (wUp) = true := by decide +kernel

theorem test_HeadAttachesAndDetaches_3 :
    (fun s : State => decide (ohlOn s = true ∧ (s.ports.get 0).state = .upgrade ∧ 2 ≤ (s.ports.get 0).fails) && runs (.upgradeTrainingEnd 0 false) s (fun t => decide ((t.ports.get 0).state = .descriptor ∧ (t.ports.get 0).version = 1 ∧ (t.ports.get 0).sent = [.command 6 0]))) (wUp) = true := by decide +kernel

theorem test_HeadAttachesAndDetaches_4 :
    (fun s : State => decide (ohlOn s = true ∧ (s.ports.get 0).state = .descriptor ∧ (s.ports.get 0).version ≠ 0 ∧ (s.ports.get 0).aligned = false) && runs (.statusEcho 0 41) s (fun t => decide ((t.ports.get 0).aligned = true ∧ (t.ports.get 0).latency = 20 ∧ (t.ports.get 0).sent = [.command 2 20]))) (wPort (fun p => { p with version := 1 }) wDesc) = true := by decide +kernel

theorem test_HeadAttachesAndDetaches_5 :
    (fun s : State => decide (ohlOn s = true ∧ (s.ports.get 0).version = 1 ∧ (s.ports.get 0).aligned = true ∧ (s.ports.get 0).state ≠ .retrain) && runs (.timeSetRepeat 0) s (fun t => decide ((t.ports.get 0).sent = [.command 2 5]))) (wPort (fun p => { p with version := 1, aligned := true, latency := 5 }) wDesc) = true := by decide +kernel

theorem test_HeadAttachesAndDetaches_6 :
    (fun s : State => decide (ohlOn s = true ∧ (descriptorBytes (s.ports.get 0)).map List.length = some 256 ∧ (s.ports.get 0).state = .descriptor ∧ (s.ports.get 0).aligned = true ∧ loadsRecipes 0 wDescriptor s = true ∧ 7 ≤ changeSlots s)) (wSlots) = true := by decide +kernel

theorem test_HeadAttachesAndDetaches_7 :
    (fun s : State => decide (ohlOn s = true ∧ (s.ports.get 0).state ≠ .disabled) && runs (.detach 0) s (fun t => decide ((t.ports.get 0).state = .empty ∧ (t.ports.get 0).en = false ∧ (t.ports.get 0).det = false ∧ (t.ports.get 0).slots = [] ∧ t.o (OD.OHL_FAULT_CAUSE 0) = 0))) (wPort (fun p => { p with state := .ready, en := true, det := true }) wReady) = true := by decide +kernel

theorem test_EventsFollowTheirRoute_1 :
    (fun s : State => decide (bit (routeWord EV.CPU_WATCHDOG_WARN s) 15 = true ∧ s.dev.dropsSince = 0 ∧ logRoom s = true) && runs (.cpuWatchdogWarn 2) s (fun t => decide ((∃ r ∈ t.dev.evLog, r.event = EV.CPU_WATCHDOG_WARN ∧ r.param = 2 ∧ r.loc = s.loc ∧ r.x18 = webpOf s.web.p) ∧ t.boot = s.boot ∧ t.plat = s.plat))) (wReady) = true := by decide +kernel

theorem test_EventsFollowTheirRoute_2 :
    (fun s : State => decide (bit (routeWord EV.CPU_WATCHDOG_WARN s) 7 = true ∧ bits (routeWord EV.CPU_WATCHDOG_WARN s) 6 0 = 127) && runs (.cpuWatchdogWarn 2) s (fun t => decide (bit (t.o (OD.EVENT_BITS 1)) 63 = true))) (wRoute) = true := by decide +kernel

theorem test_EventsFollowTheirRoute_3 :
    (fun s : State => decide ((s.egress.get 0).stalled = true ∧ 0 < s.dev.dropsSince ∧ logRoom s = true ∧ bit (routeWord EV.EVENT_LOG_OVERFLOW s) 7 = false) && runs (.eventLogOverflow) s (fun t => decide (t.dev.dropsSince = 0 ∧ t.dev.evSeq = (s.dev.evSeq + 1) % 2 ^ 32 ∧ t.dev.evLog.length = s.dev.evLog.length + 1 ∧ t.od = s.od ∧ (∃ r ∈ t.dev.evLog, r.event = EV.EVENT_LOG_OVERFLOW ∧ r.param = min 65535 s.dev.dropsSince ∧ r.x10 = s.dev.dropsSince ∧ r.loc = s.loc)))) (wDrops) = true := by decide +kernel

theorem test_EventsFollowTheirRoute_5 :
    (fun s : State => decide (0 < s.dev.dropsSince ∧ logRoom s = true ∧ bit (routeWord EV.EVENT_LOG_OVERFLOW s) 7 = true ∧ bits (routeWord EV.EVENT_LOG_OVERFLOW s) 6 0 = 127) && runs (.eventLogOverflow) s (fun t => decide (t.dev.dropsSince = 0 ∧ bit (t.o (OD.EVENT_BITS 1)) 63 = true))) (wOd [(OD.ROUTE_LO EV.EVENT_LOG_OVERFLOW, 0xFF), (OD.ROUTE_HI (EV.EVENT_LOG_OVERFLOW - 128), 0xFF)] wDrops) = true := by decide +kernel

theorem test_EventsFollowTheirRoute_6 :
    (fun s : State => decide ((s.egress.get 0).stalled = true ∧ s.dev.dropsSince = 0 ∧ bits (routeWord EV.CPU_WATCHDOG_WARN s) 13 8 = 5 ∧ bit (routeWord EV.CPU_WATCHDOG_WARN s) 14 = true ∧ msixOn s = true ∧ msixMasked 5 s = false) && runs (.cpuWatchdogWarn 2) s (fun t => decide (t.pcie.msixSent = s.pcie.msixSent ++ [5] ∧ t.pcie.msixPending = [9]))) (wMsix 0) = true := by decide +kernel

theorem test_EventsFollowTheirRoute_7 :
    (fun s : State => decide ((s.egress.get 0).stalled = true ∧ s.dev.dropsSince = 0 ∧ bits (routeWord EV.CPU_WATCHDOG_WARN s) 13 8 = 5 ∧ bit (routeWord EV.CPU_WATCHDOG_WARN s) 14 = true ∧ msixOn s = true ∧ msixMasked 5 s = true) && runs (.cpuWatchdogWarn 2) s (fun t => decide (t.pcie.msixSent = s.pcie.msixSent ∧ 5 ∈ t.pcie.msixPending ∧ 9 ∈ t.pcie.msixPending))) (wMsix 1) = true := by decide +kernel

theorem test_EventsFollowTheirRoute_8 :
    (fun s : State => decide ((s.egress.get 0).stalled = true ∧ s.dev.dropsSince = 0 ∧ bits (routeWord EV.CPU_WATCHDOG_WARN s) 13 8 = 5 ∧ msixOn s = false) && runs (.cpuWatchdogWarn 2) s (fun t => decide (t.pcie = s.pcie))) (wMsix 0 fun p => { p with command := 0 }) = true := by decide +kernel

theorem test_EventsFollowTheirRoute_9 :
    (fun s : State => decide (awake s = true ∧ msixOn s = true ∧ bit s.pcie.msixCtl 14 = false ∧ 5 ∈ s.pcie.msixPending) && runs (.registerWrite .bar0 (0x4800C + 16 * 5) 4 (.write 0)) s (fun t => decide (5 ∈ t.pcie.msixSent ∧ 5 ∉ t.pcie.msixPending ∧ msixMasked 5 t = false))) (wAwake (wMsix 1 fun p => { p with msixPending := [5] })) = true := by decide +kernel

theorem test_EventsFollowTheirRoute_4 :
    (fun s : State => decide ((s.egress.get 0).stalled = true ∧ s.dev.dropsSince = 0) && runs (.eventLogOverflow) s (fun t => decide (t.od = s.od ∧ t.loc = s.loc))) ({ wDrops with dev := { wDrops.dev with dropsSince := 0 } }) = true := by decide +kernel

theorem test_SdoReadsAreAnswered_1 : pathReady .mailbox (wReady) ∧
    (fun s : State => decide (indexExists 0x2100 = true ∧ (∃ row ∈ rowOf 0x2100 2, row.acc ≠ .wo)) && runs (.sdoUpload 0x2100#16 2#8) s (fun t => decide (t.net.answer = .done [3#8] ∧ viewObject 0x2100 2 (demandWake s) = [3#8] ∧ t.dom = s.dom ∧ onlyKeys (servedKeys) s t = true))) (wReady) = true :=
  ⟨by unfold pathReady pathIdle pathFree; decide +kernel, by decide +kernel⟩

theorem test_SdoReadsAreAnswered_2 : pathReady .mailbox (wReady) ∧
    (fun s : State => decide (indexExists 0x1C12 = true ∧ (rowOf 0x1C12 1).isSome = true)) (wReady) = true :=
  ⟨by unfold pathReady pathIdle pathFree; decide +kernel, by decide +kernel⟩

theorem test_SdoReadsAreAnswered_3 : pathReady .mailbox (wReady) ∧
    (fun s : State => decide (indexExists 0x1C12 = true ∧ (rowOf 0x1C12 0).isSome = true)) (wReady) = true :=
  ⟨by unfold pathReady pathIdle pathFree; decide +kernel, by decide +kernel⟩

theorem test_SdoReadsAreAnswered_4 : pathReady .mailbox (wReady) ∧
    (fun s : State => decide (indexExists 0x2100 = true ∧ (∃ row ∈ rowOf 0x2100 3, row.acc ≠ .wo) ∧ isDomain (okey 0x2100 3) = false) && runs (.sdoSegment 0x2100#16 3#8 false [0#8, 0#8] true) s (fun t => decide (t.net.answer = .done [10#8, 0#8] ∧ (t.srv.segs = [] ↔ true = true) ∧ t.dom = s.dom ∧ onlyKeys (servedKeys) s t = true))) (wReady) = true :=
  ⟨by unfold pathReady pathIdle pathFree; decide +kernel, by decide +kernel⟩

theorem test_SdoReadsAreAnswered_5 : pathReady .mailbox (wReady) ∧
    (fun s : State => decide (indexExists 0x2100 = true ∧ (∃ row ∈ rowOf 0x2100 3, row.acc ≠ .wo) ∧ isDomain (okey 0x2100 3) = false) && runs (.sdoSegment 0x2100#16 3#8 false [0#8, 0#8] false) s (fun t => decide (t.net.answer = .done [10#8, 0#8] ∧ (t.srv.segs = [] ↔ false = true) ∧ t.dom = s.dom ∧ onlyKeys (servedKeys) s t = true))) (wReady) = true :=
  ⟨by unfold pathReady pathIdle pathFree; decide +kernel, by decide +kernel⟩

theorem test_SdoReadsAreAnswered_6 : pathReady .mailbox (wReady) ∧
    (fun s : State => decide (indexExists 0x2102 = false) && runs (.sdoUpload 0x2102#16 0#8) s (fun t => decide (t.net.answer = .abort 0x06020000))) (wReady) = true :=
  ⟨by unfold pathReady pathIdle pathFree; decide +kernel, by decide +kernel⟩

theorem test_SdoReadsAreAnswered_7 : pathReady .mailbox (wReady) ∧
    (fun s : State => decide (indexExists 0x2100 = true ∧ rowOf 0x2100 9 = none) && runs (.sdoUpload 0x2100#16 9#8) s (fun t => decide (t.net.answer = .abort 0x06090011))) (wReady) = true :=
  ⟨by unfold pathReady pathIdle pathFree; decide +kernel, by decide +kernel⟩

theorem test_SdoReadsAreAnswered_8 : pathReady .mailbox (wReady) ∧
    (fun s : State => decide (indexExists 0x2100 = true ∧ (∃ row ∈ rowOf 0x2100 0x22, row.acc = .wo)) && runs (.sdoUpload 0x2100#16 0x22#8) s (fun t => decide (t.net.answer = .abort 0x06010001))) (wReady) = true :=
  ⟨by unfold pathReady pathIdle pathFree; decide +kernel, by decide +kernel⟩

theorem test_SdoReadsAreAnswered_9 :
    (fun s : State => decide (mailboxOpen s = true ∧ s.net.al ≠ .boot ∧ s.srv.waiting = [] ∧ s.srv.busy = false ∧ s.boot.phase ≠ .starting ∧ answerOwed .mailbox s = false) && runs (.sdoInformation none) s (fun t => decide (t.od = s.od))) (wReady) = true := by decide +kernel

theorem test_SdoReadsAreAnswered_12 :
    (fun s : State => decide (mailboxOpen s = true ∧ s.net.al ≠ .boot ∧ s.srv.waiting = [] ∧ s.srv.busy = true) && runs (.sdoInformation none) s (fun t => decide (t.net = s.net))) ({ wReady with srv := { wReady.srv with busy := true } }) = true := by decide +kernel

theorem test_SdoReadsAreAnswered_10 :
    (fun s : State => decide (mailboxOpen s = true ∧ s.net.al = .boot) && runs (.sdoInformation none) s (fun t => decide (t.net.answer = .mailboxError 2))) (wBoot) = true := by decide +kernel

theorem test_SdoReadsAreAnswered_11 :
    (fun s : State => decide (mailboxOpen s = false) && runs (.sdoInformation none) s (fun t => decide (t.od = s.od ∧ t.loc = s.loc))) (State.reset) = true := by decide +kernel

theorem test_SdoWritesAreTakenOrRefused_1 : pathReady .mailbox (wReady) ∧
    (fun s : State => decide (indexExists 0x2100 = true ∧ (∃ row ∈ rowOf 0x2100 2, row.acc = .rw ∧ row.cls ≠ .j ∧ row.ty ≠ .bool ∧ row.ty.bytes = 1 ∧ row.chk.ok 4 = true) ∧ isDomain (okey 0x2100 2) = false ∧ valueKey (okey 0x2100 2) = true) && runs (.sdoDownload 0x2100#16 2#8 [4#8]) s (fun t => decide (t.net.answer = .done [] ∧ t.o (okey 0x2100 2) = 4 ∧ t.dom = s.dom ∧ onlyKeys (okey 0x2100 2 :: servedKeys) s t = true))) (wReady) = true :=
  ⟨by unfold pathReady pathIdle pathFree; decide +kernel, by decide +kernel⟩

theorem test_SdoWritesAreTakenOrRefused_2 : pathReady .mailbox (wReady) ∧
    (fun s : State => decide (indexExists 0x2102 = false) && runs (.sdoDownload 0x2102#16 0x00#8 [0#8]) s (fun t => decide (t.net.answer = .abort 0x06020000 ∧ onlyKeys (servedKeys) s t = true))) (wReady) = true :=
  ⟨by unfold pathReady pathIdle pathFree; decide +kernel, by decide +kernel⟩

theorem test_SdoWritesAreTakenOrRefused_3 : pathReady .mailbox (wReady) ∧
    (fun s : State => decide (indexExists 0x2100 = true ∧ rowOf 0x2100 9 = none) && runs (.sdoDownload 0x2100#16 0x09#8 [0#8]) s (fun t => decide (t.net.answer = .abort 0x06090011 ∧ onlyKeys (servedKeys) s t = true))) (wReady) = true :=
  ⟨by unfold pathReady pathIdle pathFree; decide +kernel, by decide +kernel⟩

theorem test_SdoWritesAreTakenOrRefused_4 : pathReady .mailbox (wReady) ∧
    (fun s : State => decide (indexExists 0x2100 = true ∧ (∃ row ∈ rowOf 0x2100 1, row.acc = .ro)) && runs (.sdoDownload 0x2100#16 0x01#8 [0#8]) s (fun t => decide (t.net.answer = .abort 0x06010002 ∧ onlyKeys (servedKeys) s t = true))) (wReady) = true :=
  ⟨by unfold pathReady pathIdle pathFree; decide +kernel, by decide +kernel⟩

theorem test_SdoWritesAreTakenOrRefused_5 : pathReady .mailbox (wReady) ∧
    (fun s : State => decide (indexExists 0x2100 = true ∧ (∃ row ∈ rowOf 0x2100 2, row.acc = .rw ∧ row.ty.bytes = 1) ∧ plainKey (okey 0x2100 2) = true ∧ isDomain (okey 0x2100 2) = false) && runs (.sdoDownload 0x2100#16 0x02#8 [0#8, 0#8]) s (fun t => decide (t.net.answer = .abort 0x06070010 ∧ onlyKeys (servedKeys) s t = true))) (wReady) = true :=
  ⟨by unfold pathReady pathIdle pathFree; decide +kernel, by decide +kernel⟩

theorem test_SdoWritesAreTakenOrRefused_6 : pathReady .mailbox (wReady) ∧
    (fun s : State => decide (indexExists 0x2100 = true ∧ (∃ row ∈ rowOf 0x2100 2, row.acc = .rw ∧ row.ty.bytes = 1 ∧ row.ty ≠ .bool ∧ row.chk.ok 5 = false) ∧ plainKey (okey 0x2100 2) = true ∧ isDomain (okey 0x2100 2) = false) && runs (.sdoDownload 0x2100#16 0x02#8 [5#8]) s (fun t => decide (t.net.answer = .abort 0x06090030 ∧ onlyKeys (servedKeys) s t = true))) (wReady) = true :=
  ⟨by unfold pathReady pathIdle pathFree; decide +kernel, by decide +kernel⟩

theorem test_SdoWritesAreTakenOrRefused_7 :
    (fun s : State => decide (segOf .mailbox s = some wSeg ∧ wSeg.write = true ∧ answerOwed .mailbox s = false) && runs (.sdoSegmentTimeout .mailbox) s (fun t => decide (segOf .mailbox t = none ∧ t.od = s.od ∧ t.dom = s.dom ∧ t.net.answer = .abort 0x05040000))) ({ wReady with srv := { wReady.srv with segs := [wSeg] } }) = true := by decide +kernel

theorem test_SdoWritesAreTakenOrRefused_8 :
    (fun s : State => decide (s.tymp.state = 1 ∧ s.tymp.logBytes * 4 < 3 * 4194304 ∧ s.srv.waiting = [] ∧ s.pwr.restartWaiting = false ∧ valueKey wKey = true ∧ wKey ∉ servedKeys ∧ bytesOf wKey = 1 ∧ isDomain wKey = false) && runs (.journalCommit) s (fun t => decide (t.tymp.open_ = [] ∧ t.srv.busy = false ∧ t.net.answer = .done [] ∧ t.o wKey = 4 ∧ t.tymp.objs = kset dfltOf wKey 4 s.tymp.objs ∧ onlyKeys (wKey :: servedKeys) s t = true))) (wJ) = true := by decide +kernel

theorem test_GuardedWritesNeedConsent_1 : pathReady .mailbox (wKeyed) ∧
    (fun s : State => decide (indexExists 0x2A00 = true ∧ (rowOf 0x2A00 1).isSome = true ∧ (wRow 0x2A0001).acc = .g ∧ (wRow 0x2A0001).ty.bytes = 1 ∧ checkWrites .mailbox false true true [⟨0x2A0001, wRow 0x2A0001, [2#8]⟩] s = 0 ∧ storeRefuses .mailbox ⟨0x2A0001, wRow 0x2A0001, [2#8]⟩ s = false ∧ firstProvisioning 0x2A0001 1 s = false ∧ s.sec.isOpen = false) && runs (.guardedWrite .mailbox 0x2A00#16 1#8 [2#8]) s (fun t => decide (t.net.answer = .done [] ∧ t.sec.isOpen = true ∧ t.sec.target = 0x2A0001 ∧ t.sec.value = [2#8] ∧ t.sec.party = 1 ∧ t.sec.consents = 0 ∧ t.sec.deadline = s.loc + 4000000000 ∧ t.o OD.PROPOSAL_ID = s.o OD.PROPOSAL_ID + 1 ∧ t.dom = s.dom ∧ onlyKeys (OD.PROPOSAL_ID :: servedKeys) s t = true))) (wKeyed) = true :=
  ⟨by unfold pathReady pathIdle pathFree; decide +kernel, by decide +kernel⟩

theorem test_GuardedWritesNeedConsent_4 : pathReady .mailbox (wProp) ∧
    (fun s : State => decide (s.sec.isOpen = true ∧ (wRow 0x2A0001).acc = .g ∧ checkWrites .mailbox false true true [⟨0x2A0001, wRow 0x2A0001, [2#8]⟩] s = 0 ∧ storeRefuses .mailbox ⟨0x2A0001, wRow 0x2A0001, [2#8]⟩ s = false ∧ firstProvisioning 0x2A0001 1 s = false) && runs (.guardedWrite .mailbox 0x2A00#16 1#8 [2#8]) s (fun t => decide (t.net.answer = .done [] ∧ t.sec.isOpen = true ∧ t.o OD.PROPOSAL_ID = 4 ∧ t.o OD.LAST_CAUSE = 0x0A ∧ onlyKeys (OD.PROPOSAL_ID :: OD.LAST_CAUSE :: servedKeys) s t = true))) (wProp) = true :=
  ⟨by unfold pathReady pathIdle pathFree; decide +kernel, by decide +kernel⟩

theorem test_GuardedWritesNeedConsent_2 :
    (fun s : State => decide (s.sec.isOpen = true ∧ s.sec.consents ≠ 3) && runs (.proposalExpiry) s (fun t => decide (t.sec.isOpen = false ∧ t.o OD.LAST_CAUSE = 9 ∧ t.sec = { s.sec with isOpen := false, target := 0, value := [], party := 0, challenge := 0, deadline := 0, tagFails := 0, consents := 0, propLine := none, propHost := none } ∧ onlyKeys (OD.LAST_CAUSE :: eventKeys) s t = true))) (wProp) = true := by decide +kernel

theorem test_GuardedWritesNeedConsent_3 : pathReady .mailbox (wKeyed) ∧
    (fun s : State => decide (s.sec.isOpen = false) && runs (.consentMessage .mailbox (List.replicate 32 0#8)) s (fun t => decide (t.net.answer = .abort 0x08000020 ∧ t.sec = s.sec ∧ t.o OD.LAST_CAUSE = 1 ∧ t.o OD.REFUSALS = (s.o OD.REFUSALS + 1) % 2 ^ 32))) (wKeyed) = true :=
  ⟨by unfold pathReady pathIdle pathFree; decide +kernel, by decide +kernel⟩

theorem test_AlStateIsEnteredOrRefused_1 :
    (fun s : State => decide (s.boot.phase ≠ .starting ∧ (isBare s = true → runsData .op = false) ∧ alPermits s.net.al .op = true) && runs (.alStateRequest .op) s (fun t => decide (t.net.al = .op ∧ t.net.alStatus = 0))) (wAl .safeop) = true := by decide +kernel

theorem test_AlStateIsEnteredOrRefused_2 :
    (fun s : State => decide (s.boot.phase ≠ .starting ∧ (isBare s = true → runsData .init = false) ∧ alPermits s.net.al .init = true) && runs (.alStateRequest .init) s (fun t => decide (t.net.al = .init ∧ t.net.alStatus = 0))) (wAl .op) = true := by decide +kernel

theorem test_AlStateIsEnteredOrRefused_3 :
    (fun s : State => decide (s.boot.phase ≠ .starting ∧ isBare s = false ∧ safeopCause (loadPdos s) = 0) && runs (.alStateRequest .safeop) s (fun t => decide (t.net.al = .safeop ∧ t.net.alStatus = 0))) (wAl .preop) = true := by decide +kernel

theorem test_AlStateIsEnteredOrRefused_4 :
    (fun s : State => decide (s.boot.phase ≠ .starting ∧ isBare s = false ∧ s.net.al = .preop ∧ safeopCause (loadPdos s) ≠ 0) && runs (.alStateRequest .safeop) s (fun t => decide (t.net.al = .preop ∧ t.net.alStatus = safeopCause (loadPdos s)))) (wOd [(OD.SYNC_MODE_OUT, 2)] (wAl .preop)) = true := by decide +kernel

theorem test_AlStateIsEnteredOrRefused_5 :
    (fun s : State => decide (s.boot.phase ≠ .starting ∧ isBare s = false ∧ alPermits s.net.al .op = false) && runs (.alStateRequest .op) s (fun t => decide (t.net = { s.net with alStatus := 0x11 }))) (wAl .init) = true := by decide +kernel

theorem test_AlStateIsEnteredOrRefused_6 :
    (fun s : State => decide (s.boot.phase = .starting ∧ s.net.al = .init) && runs (.alStateRequest .preop) s (fun t => decide (t.net = { s.net with preopWaiting := true }))) (State.reset) = true := by decide +kernel

theorem test_AlStateIsEnteredOrRefused_7 :
    (fun s : State => decide (s.net.preopWaiting = true ∧ s.boot.phase ≠ .starting ∧ s.net.al = .init) && runs (.preopAcknowledge) s (fun t => decide (t.net.al = .preop ∧ t.net.preopWaiting = false ∧ t.net.alStatus = 0))) ({ wReady with net := { wReady.net with al := .init, preopWaiting := true } }) = true := by decide +kernel

theorem test_AlStateIsEnteredOrRefused_8 :
    (fun s : State => decide (s.net.al = .op) && runs (.processDataWatchdog) s (fun t => decide (t.net.al = .safeop ∧ t.net.alStatus = 0x1B ∧ t.net.outputs = none))) (wReady) = true := by decide +kernel

theorem test_AlStateIsEnteredOrRefused_9 :
    (fun s : State => decide (isBare s = true) && runs (.alStateRequest .op) s (fun t => decide (t.net = { s.net with alStatus := 0x8001 }))) (wBareOp) = true := by decide +kernel

theorem test_AlStateIsEnteredOrRefused_10 :
    (fun s : State => decide (isBare s = true) && runs (.alStateRequest .safeop) s (fun t => decide (t.net = { s.net with alStatus := 0x8001 }))) (wBareOp) = true := by decide +kernel

theorem test_AlStateIsEnteredOrRefused_11 :
    (fun s : State => decide (s.boot.phase = .starting) && runs (.alStateRequest .safeop) s (fun t => decide (t.net = { s.net with alStatus := 0x8002 }))) (wStart) = true := by decide +kernel

theorem test_ProcessDataIsExchanged_1 :
    (fun s : State => decide (s.net.al = .op ∧ assignedEntries 0x1C12 s = [0x21010110] ∧ imageBits s.o 0x1C12 = 16 ∧ s.o OD.SYNC_MODE_OUT ≠ 2) && runs (.sm2Event [5#8, 0#8]) s (fun t => decide (t.o OD.PRESS_CONTROL = 5 ∧ t.web.latches.get 0 = ⟨webpOf s.web.p, s.loc, netNow s, speedNow s⟩ ∧ t.web.p = s.web.p ∧ t.net.sm2Loc = some s.loc ∧ t.net.inputs = inputImage (latchSlot 0 (noteSm2 s))))) (wPdo) = true := by decide +kernel

theorem test_ProcessDataIsExchanged_2 :
    (fun s : State => decide (s.net.al = .op ∧ assignedEntries 0x1C12 s = [0x21010110] ∧ imageBits s.o 0x1C12 = 16 ∧ s.o OD.SYNC_MODE_OUT = 2) && runs (.sm2Event [5#8, 0#8]) s (fun t => decide (t.net.outputs = some [5#8, 0#8] ∧ t.net.inputs = s.net.inputs ∧ t.o OD.PRESS_CONTROL = s.o OD.PRESS_CONTROL ∧ t.web = s.web))) (wDc none) = true := by decide +kernel

theorem test_ProcessDataIsExchanged_3 :
    (fun s : State => decide (s.net.al = .op ∧ assignedEntries 0x1C12 s = [0x21010110] ∧ imageBits s.o 0x1C12 = 16 ∧ s.o OD.SYNC_MODE_OUT = 2) && runs (.sync0Edge) s (fun t => decide (t.net.outputs = none ∧ t.net.sync0Loc = s.loc ∧ t.o OD.PRESS_CONTROL = 5 ∧ t.web.latches.get 0 = ⟨webpOf s.web.p, s.loc, netNow s, speedNow s⟩))) (wDc (some [5#8, 0#8])) = true := by decide +kernel

theorem test_ProcessDataIsExchanged_4 :
    (fun s : State => decide (s.net.al = .op ∧ assignedEntries 0x1C12 s = [0x21010110] ∧ imageBits s.o 0x1C12 = 16 ∧ s.o OD.SYNC_MODE_OUT = 2 ∧ s.net.syncMissed = false) && runs (.sync0Missing) s (fun t => decide (t.net = { s.net with syncMissed := true } ∧ onlyKeys (eventKeys) s t = true))) (wDc none) = true := by decide +kernel

theorem test_ProcessDataIsExchanged_5 :
    (fun s : State => decide (s.net.al = .op ∧ assignedEntries 0x1C12 s = [0x21010110, 0x29000708] ∧ imageBits s.o 0x1C12 = 24 ∧ (∃ row ∈ objRow 0x290007, row.acc = .rw ∧ 8 ≤ 8 * row.ty.bytes) ∧ valueKey 0x290007 = true ∧ isDomain 0x290007 = false ∧ s.o OD.SYNC_MODE_OUT ≠ 2 ∧ webOn s = true) && runs (.sm2Event [5#8, 0#8, 9#8]) s (fun t => decide (t.o OD.PRESS_CONTROL = 5 ∧ t.o 0x290007 = storedNum 0x290007 9 ∧ t.net.inputs = inputImage (latchSlot 0 (noteSm2 s))))) (wPdo2) = true := by decide +kernel

theorem test_ProcessDataIsExchanged_6 :
    (fun s : State => decide (s.net.al = .op ∧ assignedEntries 0x1C12 s = [0x21010110, 0x29000708] ∧ imageBits s.o 0x1C12 = 24 ∧ (∃ row ∈ objRow 0x290007, row.acc = .rw ∧ 8 ≤ 8 * row.ty.bytes) ∧ valueKey 0x290007 = true ∧ isDomain 0x290007 = false ∧ s.o OD.SYNC_MODE_OUT = 2 ∧ s.net.outputs = some [5#8, 0#8, 255#8] ∧ webOn s = true) && runs (.sync0Edge) s (fun t => decide (t.net.outputs = none ∧ t.o OD.PRESS_CONTROL = 5 ∧ t.o 0x290007 = storedNum 0x290007 255 ∧ t.net.inputs = inputImage (latchSlot 0 { s with net := { s.net with sync0Loc := s.loc, syncMissed := false } })))) (let s := wOd [(OD.SYNC_MODE_OUT, 2)] wPdo2
 { s with net := { s.net with outputs := some [5#8, 0#8, 255#8] } }) = true := by decide +kernel

theorem test_SlaveControllerRegisters_1 :
    (fun s : State => decide (True) && runs (.stationAddressWrite 0xFFFF#16) s (fun t => decide (t.net = { s.net with station := 0xFFFF }))) (wReady) = true := by decide +kernel

theorem test_SlaveControllerRegisters_2 :
    (fun s : State => decide (s.net.resetSeq = 1) && runs (.netReset 0x45#8) s (fun t => decide (t.net = { s.net with resetSeq := 2 }))) (wSeq 1) = true := by decide +kernel

theorem test_SlaveControllerRegisters_3 :
    (fun s : State => decide (s.net.resetSeq = 2 ∧ s.boot.phase ≠ .starting) && runs (.netReset 0x53#8) s (fun t => decide (t.boot.phase = .starting ∧ t.o OD.RESET_KIND = 3 ∧ t.net.al = .init ∧ t.net.station = 77 ∧ t.loc = s.loc ∧ t.ddr.mem = s.ddr.mem))) (wSeq 2) = true := by decide +kernel

theorem test_SlaveControllerRegisters_4 :
    (fun s : State => decide (True) && runs (.escRegisterWrite 0x0420#16 70000#32) s (fun t => decide (t.net = { s.net with watchdog := 4464 }))) (wReady) = true := by decide +kernel

theorem test_SlaveControllerRegisters_5 :
    (fun s : State => decide (s.net.al ≠ .init) && runs (.escRegisterWrite 0x0806#16 2#32) s (fun t => decide (t.net = { s.net with smOn := s.net.smOn.set 0 false }))) (wReady) = true := by decide +kernel

theorem test_SlaveControllerRegisters_6 :
    (fun s : State => decide (s.net.linkUp.get 1 ≠ true) && runs (.miiLinkChange 1 true) s (fun t => decide (t.net = { s.net with linkUp := s.net.linkUp.set 1 true } ∧ onlyKeys (eventKeys) s t = true))) (wReady) = true := by decide +kernel

theorem test_FilesPassOverFoE_1 :
    (fun s : State => decide (mailboxOpen s = true)) (wReady) = true := by decide +kernel

theorem test_FilesPassOverFoE_2 :
    (fun s : State => decide (mailboxOpen s = true ∧ s.net.al ≠ .boot) && runs (.eventsLogRead ⟨.events, 0#32⟩) s (fun t => decide (t.net.answer = .done (s.dev.evLog.flatMap LogRec.bytes)))) (wReady) = true := by decide +kernel

theorem test_FilesPassOverFoE_3 :
    (fun s : State => decide (mailboxOpen s = true) && runs (.tympanJnlRead ⟨.journal, 1#32⟩) s (fun t => decide (t.net.answer = .fileError 0x8002))) (wReady) = true := by decide +kernel

theorem test_FilesPassOverFoE_4 :
    (fun s : State => decide (mailboxOpen s = true) && runs (.eventsLogRead ⟨.other, 1#32⟩) s (fun t => decide (t.net.answer = .fileError 0x8001))) (wReady) = true := by decide +kernel

theorem test_FilesPassOverFoE_5 :
    (fun s : State => decide (mailboxOpen s = true ∧ s.net.al = .boot ∧ s.net.foe = none) && runs (.rz2440FwWrite .firmware 0#32 [1#8] false) s (fun t => decide (t.net.foe = some 1 ∧ t.net.answer = .done [] ∧ slotOf (targetSlot s) t = ⟨.writing, 0, [1#8], false⟩))) (wBoot) = true := by decide +kernel

theorem test_FilesPassOverFoE_6 :
    (fun s : State => decide (mailboxOpen s = true ∧ s.net.al = .boot ∧ s.net.foe = none) && runs (.rz2440FwWrite .firmware 0#32 [1#8] true) s (fun t => decide (t.net.foe = none ∧ slotOf (targetSlot s) t = verifySlot ⟨.writing, 0, [1#8], false⟩ s ∧ t.net.answer = if (slotOf (targetSlot s) t).status = .valid then .done [] else .fileError 0x800B))) (wBoot) = true := by decide +kernel

theorem test_FilesPassOverFoE_9 :
    (fun s : State => decide (mailboxOpen s = true ∧ s.net.al = .boot ∧ s.net.foe = some 1 ∧ slotOf (targetSlot s) s = ⟨.writing, 0, [1#8], false⟩) && runs (.rz2440FwWrite .firmware 0#32 [2#8, 3#8] false) s (fun t => decide (t.net.foe = some 3 ∧ t.net.answer = .done [] ∧ slotOf (targetSlot s) t = ⟨.writing, 0, [1#8, 2#8, 3#8], false⟩))) (wBoot1) = true := by decide +kernel

theorem test_FilesPassOverFoE_10 :
    (fun s : State => decide (mailboxOpen s = true ∧ s.net.al = .boot ∧ s.net.foe = some 1 ∧ slotOf (targetSlot s) s = ⟨.writing, 0, [1#8], false⟩) && runs (.rz2440FwWrite .firmware 0#32 [2#8] true) s (fun t => decide (t.net.foe = none ∧ slotOf (targetSlot s) t = verifySlot ⟨.writing, 0, [1#8, 2#8], false⟩ s ∧ t.net.answer = .fileError 0x800B))) (wBoot1) = true := by decide +kernel

theorem test_FilesPassOverFoE_11 :
    (fun s : State => decide (mailboxOpen s = true ∧ s.net.al ≠ .boot ∧ bit (routeWord EV.NET_FOE_DONE s) 15 = false ∧ (s.egress.get 0).stalled = true ∧ s.dev.evLog ≠ []) && runs (.eventsLogRead ⟨.events, 0#32⟩) s (fun t => decide (t.dev.evLog = s.dev.evLog))) (let s := wOd [(OD.ROUTE_LO EV.NET_FOE_DONE, 0)] wDrops
 { s with dev := { s.dev with dropsSince := 0, evLog := [⟨EV.CPU_WATCHDOG_WARN, 2, 5, 0, 0, 0, 7⟩] } }) = true := by decide +kernel

theorem test_FilesPassOverFoE_7 :
    (fun s : State => decide (mailboxOpen s = true ∧ s.net.al ≠ .boot) && runs (.rz2440FwWrite .firmware 0#32 [1#8] true) s (fun t => decide (t.net.answer = .fileError 0x8008 ∧ t.boot = s.boot))) (wReady) = true := by decide +kernel

theorem test_FilesPassOverFoE_8 :
    (fun s : State => decide (mailboxOpen s = true) && runs (.rz2440FwWrite .other 5#32 [1#8] true) s (fun t => decide (t.net.answer = .fileError 0x8001))) (wBoot) = true := by decide +kernel

theorem test_WindowRequestsAreServedAndPublished_1 : pathReady .window (wAwake (wWin 0x21000200 0)) ∧
    (fun s : State => decide (bit s.pcie.winAddr 0 = false ∧ s.pcie.winOffset = 0 ∧ indexExists 0x2100 = true ∧ bits s.pcie.winAddr 31 16 = 0x2100 ∧ bits s.pcie.winAddr 15 8 = 2 ∧ (rowOf 0x2100 2).isSome = true ∧ isDomain 0x210002 = false ∧ (wRow 0x210002).ty.bytes = 1 ∧ (wRow 0x210002).acc = .rw ∧ s.pcie.winLength = 0) && runs (.winRead) s (fun t => decide (t.pcie.winBusy = true ∧ t.pcie.winResult = some (.done [3#8]) ∧ viewObject 0x2100 2 (pathBegin .window false s) = [3#8] ∧ onlyKeys (servedKeys) s t = true))) (wAwake (wWin 0x21000200 0)) = true :=
  ⟨by unfold pathReady pathIdle pathFree; decide +kernel, by decide +kernel⟩

theorem test_WindowRequestsAreServedAndPublished_2 : pathReady .window (wAwake (wWin 0x21000200 1)) ∧
    (fun s : State => decide (bit s.pcie.winAddr 0 = false ∧ s.pcie.winOffset = 0 ∧ indexExists 0x2100 = true ∧ bits s.pcie.winAddr 31 16 = 0x2100 ∧ bits s.pcie.winAddr 15 8 = 2 ∧ (rowOf 0x2100 2).isSome = true ∧ isDomain 0x210002 = false ∧ (wRow 0x210002).ty.bytes = 1 ∧ (wRow 0x210002).acc = .rw ∧ (wRow 0x210002).cls ≠ .j ∧ (wRow 0x210002).ty ≠ .bool ∧ valueKey 0x210002 = true ∧ s.pcie.winLength = 1 ∧ leNum (windowData s) = 4 ∧ (wRow 0x210002).chk.ok 4 = true) && runs (.winWrite) s (fun t => decide (t.pcie.winBusy = true ∧ t.pcie.winResult = some (.done []) ∧ t.o 0x210002 = 4))) (wAwake (wWin 0x21000200 1)) = true :=
  ⟨by unfold pathReady pathIdle pathFree; decide +kernel, by decide +kernel⟩

theorem test_WindowRequestsAreServedAndPublished_3 :
    (fun s : State => decide (s.pcie.winBusy = true) && runs (.winRead) s (fun t => decide (t.pcie = { s.pcie with winCollision := true } ∧ t.od = s.od))) (wBusy) = true := by decide +kernel

theorem test_WindowRequestsAreServedAndPublished_4 :
    (fun s : State => decide (s.pcie.winBusy = true) && runs (.winWrite) s (fun t => decide (t.pcie = { s.pcie with winCollision := true } ∧ t.od = s.od))) (wBusy) = true := by decide +kernel

theorem test_WindowRequestsAreServedAndPublished_7 :
    (fun s : State => decide (s.pcie.winBusy = false ∧ s.srv.waiting = [] ∧ 2 ≤ s.pwr.state) && runs (.winRead) s (fun t => decide (t.pwr.exiting = true ∧ t.pcie = { s.pcie with winBusy := true, winWrite := false } ∧ t.srv.waiting.length = 1 ∧ t.od = s.od)) && runs (.winWrite) s (fun t => decide (t.pwr.exiting = true ∧ t.pcie = { s.pcie with winBusy := true, winWrite := true } ∧ t.srv.waiting.length = 1 ∧ t.od = s.od))) (wPw 2) = true := by decide +kernel

theorem test_WindowRequestsAreServedAndPublished_5 :
    (fun s : State => decide (s.pcie.winResult = some (.done [7#8, 8#8])) && runs (.winRequestDone) s (fun t => decide (t.pcie.winBusy = false ∧ t.pcie.winDone = true ∧ t.pcie.winStatus = 0 ∧ t.pcie.winLength = 2 ∧ t.pcie.winResult = none ∧ t.pcie.winBuf = [(0, 7), (1, 8), (2, 9)]))) (wBusy) = true := by decide +kernel

theorem test_WindowRequestsAreServedAndPublished_6 :
    (fun s : State => decide (s.pcie.winResult = some (.abort 0x06020000)) && runs (.winRequestDone) s (fun t => decide (t.pcie.winBusy = false ∧ t.pcie.winDone = true ∧ t.pcie.winStatus = 0x06020000 ∧ t.pcie.winLength = 0 ∧ t.pcie.winResult = none ∧ t.pcie.winBuf = s.pcie.winBuf))) ({ wBusy with pcie := { wBusy.pcie with winResult := some (.abort 0x06020000) } }) = true := by decide +kernel

theorem test_RegisterAccessesByTheMap_1 :
    (fun s : State => decide (awake s = true) && runs (.registerWrite .bar0 0x3FFFFC 8 .read) s (fun t => decide (t.pcie.readData = 0xFFFFFFFF))) (wAwake) = true := by decide +kernel

theorem test_RegisterAccessesByTheMap_2 :
    (fun s : State => decide (awake s = true) && runs (.registerWrite .bar0 1 4 (.write 5#32)) s (fun t => decide (onlyKeys (servedKeys) s t = true))) (wAwake) = true := by decide +kernel

theorem test_RegisterAccessesByTheMap_3 :
    (fun s : State => decide (awake s = true) && runs (.registerWrite .bar0 0xC0004 4 .read) s (fun t => decide (t.pcie.readData = webpOf s.web.p % 2 ^ 32 ∧ t.web = { s.web with snapHi := webpOf s.web.p / 2 ^ 32 % 2 ^ 32, snapHwlLo := s.web.hwl % 2 ^ 32, snapHwlHi := s.web.hwl / 2 ^ 32 % 65536 }))) (wAwake { wReady with web := { wReady.web with p := 0x1234567890 } }) = true := by decide +kernel

theorem test_RegisterAccessesByTheMap_4 :
    (fun s : State => decide (awake s = true) && runs (.registerWrite .bar0 0xD0010 4 (.write 0x80000000#32)) s (fun t => decide (∀ u : Fin 16, t.time.matched.get u = (s.time.matched.get u && !(0x80000000#32).getLsbD (16 + u.val))))) (wAwake { wReady with time := { wReady.time with matched := Vector.replicate 16 true } }) = true := by decide +kernel

theorem test_RegisterAccessesByTheMap_5 :
    (fun s : State => decide (2 ≤ s.pwr.state) && runs (.registerWrite .bar0 0x3FFFFF 1 .read) s (fun t => decide (t = { s with pwr := { s.pwr with exiting := true, entering := none, held := s.pwr.held ++ [.registerWrite .bar0 0x3FFFFF 1 .read] } }))) (wPw 2 fun p => { p with held := [.doorbellWrite 3 4#16] }) = true := by decide +kernel

theorem test_LinkAndConfigurationSpace_1 :
    (fun s : State => decide (True) && runs (.pciConfigAccess .vendorDevice .read) s (fun t => decide (t.pcie.readData = 0x24401F9C))) (wReady) = true := by decide +kernel

theorem test_LinkAndConfigurationSpace_2 :
    (fun s : State => decide (True) && runs (.pciConfigAccess .powerState (.write 3#32)) s (fun t => decide (t.pcie.d3hot = true ∧ t.pcie.bars = s.pcie.bars))) (wReady) = true := by decide +kernel

theorem test_LinkAndConfigurationSpace_3 :
    (fun s : State => decide (True) && runs (.pciConfigAccess .powerState (.write 0#32)) s (fun t => decide (t.pcie.d3hot = false ∧ t.pcie.bars = s.pcie.bars))) (wPcie fun p => { p with d3hot := true }) = true := by decide +kernel

theorem test_LinkAndConfigurationSpace_4 :
    (fun s : State => decide (True) && runs (.pciConfigAccess (.bar 0) (.write 0xFFFFFFFF#32)) s (fun t => decide (t.pcie.bars.get 0 = 0xFFC00000 ∧ ∀ j : Fin 6, j ≠ 0 → t.pcie.bars.get j = s.pcie.bars.get j))) (wReady) = true := by decide +kernel

theorem test_LinkAndConfigurationSpace_5 :
    (fun s : State => decide (True) && runs (.pciConfigAccess .aerStatus (.write 0x80000001#32)) s (fun t => decide (∀ b : Fin 32, bit t.pcie.aer b = (bit s.pcie.aer b && !(0x80000001#32).getLsbD b)))) (wPcie fun p => { p with aer := 0xFFFFFFFF }) = true := by decide +kernel

theorem test_LinkAndConfigurationSpace_6 :
    (fun s : State => decide (s.pcie.perst = true ∧ s.pwr.state ≠ 4 ∧ linkAble 4 4 = true) && runs (.pcieLinkUp 4 4) s (fun t => decide (t.pcie.linkUp = true ∧ t.pcie.width = 4 ∧ t.pcie.speed = 4 ∧ t.pcie.trained = true ∧ t.pcie.l23 = false ∧ t.clk.pcieRefOk = true ∧ t.rings.get 127 = s.rings.get 127))) (wPcie fun p => { p with perst := true }) = true := by decide +kernel

theorem test_LinkAndConfigurationSpace_7 :
    (fun s : State => decide (s.pcie.linkUp = true ∧ s.pcie.d3hot = true) && runs (.pmeTurnOff) s (fun t => decide (t.pcie = { s.pcie with linkUp := false, width := 0, speed := 0, l23 := true } ∧ t.rings.get 127 = s.rings.get 127))) (wLink) = true := by decide +kernel

theorem test_LinkAndConfigurationSpace_8 :
    (fun s : State => decide (True) && runs (.pcieAerError 20#16) s (fun t => decide (t.pcie.aer = setBit s.pcie.aer 20 true ∧ t.rings.get 127 = s.rings.get 127 ∧ t.pcie.command = s.pcie.command))) (wLink) = true := by decide +kernel

theorem test_LinkAndConfigurationSpace_9 :
    (fun s : State => decide (s.boot.phase ≠ .starting) && runs .pcieLinkDown s (fun t => decide (t.pcie.linkUp = false) && hotB [] s t)) (wRing 127 (fun q => { q with state := .running, head := 5 }) (wOd [(OD.PRESET_LINE, 7)] wLink)) = true := by decide +kernel

theorem test_LinkAndConfigurationSpace_10 :
    (fun s : State => decide (s.boot.phase ≠ .starting) && runs (.hotReset true) s (fun t => decide (t.pcie.linkUp = true) && hotB [] s t)) (wRing 127 (fun q => { q with state := .running, head := 5 }) (wOd [(OD.PRESET_LINE, 7)] wLink)) = true := by decide +kernel

theorem test_LinkAndConfigurationSpace_11 :
    (fun s : State => decide (s.boot.phase ≠ .starting) && runs (.perstNEdge false) s (fun t => decide (t.pcie.perst = false ∧ t.pcie.linkUp = false) && hotB [] s t)) (wRing 127 (fun q => { q with state := .running, head := 5 }) (wOd [(OD.PRESET_LINE, 7)] wLink)) = true := by decide +kernel

theorem test_LinkAndConfigurationSpace_12 :
    (fun s : State => decide (s.pwr.state ≠ 4) && runs (.perstNEdge true) s (fun t => decide (t.pcie = { s.pcie with perst := true }))) (wReady) = true := by decide +kernel

theorem test_LinkAndConfigurationSpace_13 :
    (fun s : State => decide (s.boot.phase ≠ .starting) && runs .clkPcieRefLost s (fun t => decide (t.clk.pcieRefOk = false ∧ t.pcie.linkUp = false ∧ t.o OD.CLOCK_FAILURES = 0) && hotB [OD.CLOCK_FAILURES] s t)) (wOd [(OD.CLOCK_FAILURES, 0xFFFFFFFF)] (wRing 127 (fun q => { q with state := .running, head := 5 }) (wOd [(OD.PRESET_LINE, 7)] wLink))) = true := by decide +kernel

theorem test_LinkAndConfigurationSpace_14 :
    (fun s : State => decide (True) && runs (.clkPcieRefRestored) s (fun t => decide (t.clk = { s.clk with pcieRefOk := true } ∧ t.rings.get 127 = s.rings.get 127))) (wLink) = true := by decide +kernel

theorem test_LinkAndConfigurationSpace_15 :
    (fun s : State => decide ((0x2810#32).getLsbD 15 = false) && runs (.pciConfigAccess .deviceControl (.write 0x2810#32)) s (fun t => decide (t.pcie.devCtl = devCtlBits s.pcie.devCtl 0x2810 ∧ t.rings.get 127 = s.rings.get 127))) ((wRing 127 (fun q => { q with state := .running, head := 5 }) (wOd [(OD.PRESET_LINE, 7)] wLink))) = true := by decide +kernel

theorem test_LinkAndConfigurationSpace_16 :
    (fun s : State => decide ((0x8000#32).getLsbD 15 = true ∧ s.boot.phase ≠ .starting) && runs (.pciConfigAccess .deviceControl (.write 0x8000#32)) s (fun t => hotB servedKeys s t)) ((wRing 127 (fun q => { q with state := .running, head := 5 }) (wOd [(OD.PRESET_LINE, 7)] wLink))) = true := by decide +kernel

theorem test_LinkAndConfigurationSpace_17 :
    runs (.pciConfigAccess .subsystemOther .read) wLink (fun t => decide (t.freeCtr = wLink.freeCtr + 1)) = true := by decide +kernel

theorem test_LinkAndConfigurationSpace_18 :
    (fun s : State => decide (s.boot.phase = .starting) && runs (.hotReset false) s (fun t => decide (t.rings.get 127 = s.rings.get 127 ∧ t.pcie = s.pcie ∧ t.od = s.od)) && runs .pcieLinkDown s (fun t => decide (t.pcie.linkUp = false ∧ t.boot = s.boot))) ({ (wRing 127 (fun q => { q with state := .running, head := 5 }) (wOd [(OD.PRESET_LINE, 7)] wLink)) with boot := { State.reset.boot with phase := .starting } }) = true := by decide +kernel

theorem test_RingsAreCommanded_1 :
    (fun s : State => decide (awake s = true ∧ s.boot.phase ≠ .bare ∧ tailAccepted (s.rings.get 127) 7 = true) && runs (.doorbellWrite 127 7#16) s (fun t => decide (t.rings.get 127 = { s.rings.get 127 with tail := 7 } ∧ otherRings 127 s t = true))) (wAwake (wRun (fun q => q) 127)) = true := by decide +kernel

theorem test_RingsAreCommanded_2 :
    (fun s : State => decide (awake s = true ∧ s.boot.phase ≠ .bare ∧ tailAccepted (s.rings.get 127) 8 = false) && runs (.doorbellWrite 127 8#16) s (fun t => decide (t.rings.get 127 = s.rings.get 127))) (wAwake (wRun (fun q => q) 127)) = true := by decide +kernel

theorem test_RingsAreCommanded_3 :
    (fun s : State => decide (s.boot.phase = .bare) && runs (.doorbellWrite 0 0#16) s (fun t => decide (t.od = s.od ∧ t.loc = s.loc))) (wBare) = true := by decide +kernel

theorem test_RingsAreCommanded_12 :
    (fun s : State => decide (s.boot.phase ≠ .bare ∧ 2 ≤ s.pwr.state) && runs (.doorbellWrite 127 7#16) s (fun t => decide (t = { s with pwr := { s.pwr with exiting := true, entering := none, held := s.pwr.held ++ [.doorbellWrite 127 7#16] } }))) (wPw 3) = true := by decide +kernel

theorem test_RingsAreCommanded_4 :
    (fun s : State => decide (awake s = true ∧ s.boot.phase ≠ .bare ∧ (s.rings.get 0).state = .disabled ∧ (s.rings.get 0).sizeLog2 = 3) && runs (.ringEnable 0) s (fun t => decide (t.rings.get 0 = { s.rings.get 0 with state := .running, head := 0, tail := 0, low := s.o OD.PACE_LOW_DEFAULT, high := s.o OD.PACE_HIGH_DEFAULT } ∧ otherRings 0 s t = true))) (wAwake (wRing 0 (fun q => { q with sizeLog2 := 3, head := 5 }) wReady)) = true := by decide +kernel

theorem test_RingsAreCommanded_13 :
    (fun s : State => decide (awake s = true ∧ s.boot.phase ≠ .bare ∧ (s.rings.get 0).state = .disabled ∧ (s.rings.get 0).sizeLog2 = 13) && runs (.ringEnable 0) s (fun t => decide (t.rings.get 0 = { s.rings.get 0 with cause := 0xC } ∧ otherRings 0 s t = true))) (wAwake (wRing 0 (fun q => { q with sizeLog2 := 13 }) wReady)) = true := by decide +kernel

theorem test_RingsAreCommanded_14 :
    (fun s : State => decide (awake s = true ∧ s.boot.phase ≠ .bare ∧ (s.rings.get 112).state = .running) && runs (.ringEnable 112) s (fun t => decide (t.rings = s.rings))) (wAwake (wRun fun q => q)) = true := by decide +kernel

theorem test_RingsAreCommanded_15 :
    (fun s : State => decide (awake s = true ∧ (s.rings.get 112).state = .running ∧ (s.rings.get 112).pendingCount ≠ 0) && runs (.ringDisable 112) s (fun t => decide (t = s))) (wAwake wFetch) = true := by decide +kernel

theorem test_RingsAreCommanded_16 :
    (fun s : State => decide (awake s = true ∧ (s.rings.get 112).state = .halted) && runs (.ringStop 112) s (fun t => decide (t = s))) (wAwake (wRun fun q => { q with state := .halted })) = true := by decide +kernel

theorem test_RingsAreCommanded_17 :
    (fun s : State => decide (awake s = true ∧ (s.rings.get 112).state = .stopped) && runs (.ringAbort 112) s (fun t => decide (t = s))) (wAwake (wRun fun q => { q with state := .stopped })) = true := by decide +kernel

theorem test_RingsAreCommanded_18 :
    (fun s : State => decide (awake s = true ∧ (s.rings.get 112).state = .disabled) && runs (.ringResume 112) s (fun t => decide (t = s))) (wAwake wReady) = true := by decide +kernel

theorem test_RingsAreCommanded_19 :
    (fun s : State => decide (awake s = true ∧ (s.rings.get 112).state = .running) && runs (.ringSkip 112) s (fun t => decide (t = s))) (wAwake wFetch) = true := by decide +kernel

theorem test_RingsAreCommanded_20 :
    (fun s : State => decide (awake s = true ∧ (s.rings.get 112).state = .halted ∧ (s.rings.get 112).xfer = none) && runs (.ringDisable 112) s (fun t => decide (t.rings.get 112 = { s.rings.get 112 with state := .disabled, paced := false, promoted := false } ∧ otherRings 112 s t = true))) (wAwake (wRun fun q => { q with state := .halted, tail := 3 })) = true := by decide +kernel

theorem test_RingsAreCommanded_21 :
    (fun s : State => decide (awake s = true ∧ (s.rings.get 112).state = .running ∧ (completionsFirst 112 s).rings.get 112 ≠ s.rings.get 112 ∧ ((completionsFirst 112 s).rings.get 112).xfer = none) && runs (.ringAbort 112) s (fun t => decide ((t.rings.get 112).state = .halted ∧ (t.rings.get 112).cause = 0xB ∧ (t.rings.get 112).errEntry = 0 ∧ (t.rings.get 112).head = 0))) ({ wAwake (wWith (wDone 3)) with pending := [.descriptorComplete 112] }) = true := by decide +kernel

theorem test_RingsAreCommanded_5 :
    (fun s : State => decide (awake s = true ∧ s.boot.phase ≠ .bare ∧ (s.rings.get 127).state = .disabled ∧ (s.rings.get 127).sizeLog2 = 12) && runs (.ringEnable 127) s (fun t => decide (t.rings.get 127 = { s.rings.get 127 with state := .running, head := 0, tail := 0, low := s.o OD.PACE_LOW_DEFAULT, high := s.o OD.PACE_HIGH_DEFAULT } ∧ otherRings 127 s t = true))) (wAwake (wRing 127 (fun q => { q with sizeLog2 := 12, head := 5 }) wReady)) = true := by decide +kernel

theorem test_RingsAreCommanded_6 :
    (fun s : State => decide (awake s = true ∧ (s.rings.get 112).state = .stopped ∧ (s.rings.get 112).xfer = none) && runs (.ringDisable 112) s (fun t => decide (t.rings.get 112 = { s.rings.get 112 with state := .disabled, paced := false, promoted := false } ∧ otherRings 112 s t = true))) (wAwake (wRun fun q => { q with state := .stopped, paced := true })) = true := by decide +kernel

theorem test_RingsAreCommanded_7 :
    (fun s : State => decide (awake s = true ∧ (s.rings.get 112).state = .running ∧ (s.rings.get 112).xfer = none) && runs (.ringStop 112) s (fun t => decide (t.rings.get 112 = { s.rings.get 112 with state := .stopped } ∧ otherRings 112 s t = true))) (wAwake (wRun fun q => q)) = true := by decide +kernel

theorem test_RingsAreCommanded_8 :
    (fun s : State => decide (awake s = true ∧ (s.rings.get 112).state = .running ∧ (s.rings.get 112).xfer = some (wXfer 2) ∧ (wXfer 2).started = true) && runs (.ringStop 112) s (fun t => decide (t.rings.get 112 = { s.rings.get 112 with stopping := true } ∧ otherRings 112 s t = true))) (wAwake (wWith (wXfer 2))) = true := by decide +kernel

theorem test_RingsAreCommanded_9 :
    (fun s : State => decide (awake s = true ∧ (s.rings.get 112).state = .stopped) && runs (.ringResume 112) s (fun t => decide (t.rings.get 112 = { s.rings.get 112 with state := .running } ∧ otherRings 112 s t = true))) (wAwake (wRun fun q => { q with state := .stopped })) = true := by decide +kernel

theorem test_RingsAreCommanded_10 :
    (fun s : State => decide (awake s = true ∧ (s.rings.get 112).state = .halted ∧ (s.rings.get 112).pendingCount ≠ 0) && runs (.ringSkip 112) s (fun t => decide (t.rings.get 112 = { s.rings.get 112 with head := 0 } ∧ otherRings 112 s t = true))) (wAwake (wRun fun q => { q with state := .halted, tail := 0 })) = true := by decide +kernel

theorem test_RingsAreCommanded_11 :
    (fun s : State => decide (awake s = true ∧ (s.rings.get 112).state = .running ∧ s.pending = []) && runs (.ringAbort 112) s (fun t => decide ((t.rings.get 112).state = .halted ∧ (t.rings.get 112).cause = 0xB ∧ (t.rings.get 112).errDesc = 65535 ∧ (t.rings.get 112).xfer = none ∧ (t.rings.get 112).head = 65535))) (wAwake (wWith (wXfer 2))) = true := by decide +kernel

theorem test_DescriptorsAreFetched_1 :
    (fun s : State => decide (mayFetch 112 s = true) && runs (.descriptorFetched 112 none) s (fun t => decide ((t.rings.get 112).state = .halted ∧ (t.rings.get 112).cause = 1 ∧ (t.rings.get 112).errDesc = 65535 ∧ (t.rings.get 112).head = 65535))) (wFetch) = true := by decide +kernel

theorem test_DescriptorsAreFetched_2 :
    (fun s : State => decide (mayFetch 112 s = true ∧ descCause 112 (parseDesc (wDescBytes 2 32 0 0)).1 (parseDesc (wDescBytes 2 32 0 0)).2 s = 2) && runs (.descriptorFetched 112 (some (wDescBytes 2 32 0 0))) s (fun t => decide ((t.rings.get 112).state = .halted ∧ (t.rings.get 112).cause = 2 ∧ (t.rings.get 112).errEntry = 0 ∧ (t.rings.get 112).errDesc = 65535))) (wFetch) = true := by decide +kernel

theorem test_DescriptorsAreFetched_3 :
    (fun s : State => decide (mayFetch 112 s = true ∧ descCause 112 (parseDesc (wDescBytes 2 32 65535 64)).1 (parseDesc (wDescBytes 2 32 65535 64)).2 s = 0 ∧ (parseDesc (wDescBytes 2 32 65535 64)).1.op ≠ 1 ∧ (parseDesc (wDescBytes 2 32 65535 64)).1.count ≠ 0) && runs (.descriptorFetched 112 (some (wDescBytes 2 32 65535 64))) s (fun t => decide (t.rings.get 112 = { s.rings.get 112 with xfer := some { Xfer.fresh (parseDesc (wDescBytes 2 32 65535 64)).1 with started := true } } ∧ otherRings 112 s t = true))) (wOd [(OD.INSTALLED_SIZE, 96)] wFetch) = true := by decide +kernel

theorem test_DescriptorsAreFetched_8 :
    (fun s : State => decide (mayFetch 112 s = true ∧ descCause 112 (parseDesc (wDescBytes 2 32 65535 64)).1 (parseDesc (wDescBytes 2 32 65535 64)).2 s = 0 ∧ (s.rings.get 112).isHigh = true ∧ (s.rings.get 113).xfer = some { wEnt .reading with desc := { wDescOp 2 with target := 5 } } ∧ (s.rings.get 113).highTransfer = false) && runs (.descriptorFetched 112 (some (wDescBytes 2 32 65535 64))) s (fun t => decide ((t.rings.get 113).xfer = some { wEnt .reading with desc := { wDescOp 2 with target := 5 }, staging := .retained, heldAt := s.loc }))) (wOd [(OD.INSTALLED_SIZE, 96)] (wRing 112 (fun q => { q with prio := true }) (wRing 113 (fun q => { q with state := .running, sizeLog2 := 3, head := 65535, tail := 3, xfer := some { wEnt .reading with desc := { wDescOp 2 with target := 5 } } }) wFetch))) = true := by decide +kernel

theorem test_DescriptorsAreFetched_4 :
    (fun s : State => decide (mayFetch 0 s = true ∧ descCause 0 (parseDesc (wDescBytes 1 32 65535 100)).1 (parseDesc (wDescBytes 1 32 65535 100)).2 s = 0 ∧ (parseDesc (wDescBytes 1 32 65535 100)).1.op = 1 ∧ (parseDesc (wDescBytes 1 32 65535 100)).1.count ≠ 0 ∧ (s.rings.get 0).paced = false ∧ (streamOf 0 0 s).isSome = true ∧ (s.rings.get 0).high ≤ fillOf 0 (modStream 0 0 (fun st => { st with bound := some 0 }) s)) && runs (.descriptorFetched 0 (some (wDescBytes 1 32 65535 100))) s (fun t => decide (t.rings.get 0 = { s.rings.get 0 with xfer := some (Xfer.fresh (parseDesc (wDescBytes 1 32 65535 100)).1), paced := true }))) (wPool (wGalRing 0)) = true := by decide +kernel

theorem test_DescriptorsAreFetched_5 :
    (fun s : State => decide (mayFetch 0 s = true ∧ descCause 0 (parseDesc (wDescBytes 1 32 65535 100)).1 (parseDesc (wDescBytes 1 32 65535 100)).2 s = 0 ∧ (parseDesc (wDescBytes 1 32 65535 100)).1.op = 1 ∧ (parseDesc (wDescBytes 1 32 65535 100)).1.count ≠ 0 ∧ (s.rings.get 0).paced = false ∧ (streamOf 0 0 s).isSome = true ∧ fillOf 0 (modStream 0 0 (fun st => { st with bound := some 0 }) s) < (s.rings.get 0).high ∧ (∃ st ∈ streamOf 0 0 s, mayTake 0 (blocksNeeded st 132) (modStream 0 0 (fun st => { st with bound := some 0 }) s) = true)) && runs (.descriptorFetched 0 (some (wDescBytes 1 32 65535 100))) s (fun t => decide ((t.rings.get 0).xfer = some { Xfer.fresh (parseDesc (wDescBytes 1 32 65535 100)).1 with started := true } ∧ (t.rings.get 0).poolWait = false))) (wPool (wGalRing 48)) = true := by decide +kernel

theorem test_DescriptorsAreFetched_6 :
    (fun s : State => decide (s.dev.ledgerHalt = false ∧ (streamOf 0 0 s).isSome = true ∧ (s.rings.get 0).poolWait = true ∧ (s.rings.get 0).paced = false ∧ fillOf 0 s < (s.rings.get 0).high ∧ (∃ st ∈ streamOf 0 0 s, mayTake 0 (blocksNeeded st 65568) s = true ∧ blocksNeeded st 65568 = 1)) && runs (.poolWaitEnd 0) s (fun t => decide ((t.rings.get 0).poolWait = false ∧ (t.rings.get 0).xfer = some { Xfer.fresh { wDescOp 1 with offset := 65536, target := 0 } with started := true } ∧ heldOf 1 1 t = heldOf 1 1 s + 1))) (wWait fun q => { q with poolWait := true }) = true := by decide +kernel

theorem test_DescriptorsAreFetched_7 :
    (fun s : State => decide (s.dev.ledgerHalt = false ∧ (streamOf 0 0 s).isSome = true ∧ (s.rings.get 0).paced = true ∧ fillOf 0 s ≤ (s.rings.get 0).low) && runs (.ductRingResumed 0) s (fun t => decide ((t.rings.get 0).paced = false ∧ (t.rings.get 0).head = (s.rings.get 0).head))) (wWait fun q => { q with paced := true }) = true := by decide +kernel

theorem test_ScatterGatherAndCompletion_1 :
    (fun s : State => decide ((s.rings.get 112).xfer = some (wXfer 2) ∧ (wXfer 2).started = true ∧ (wXfer 2).entry = none ∧ (wXfer 2).entries < (wXfer 2).desc.count ∧ (wXfer 2).staging = .none) && runs (.sgEntryRead 112 none) s (fun t => decide ((t.rings.get 112).state = .halted ∧ (t.rings.get 112).cause = 9 ∧ (t.rings.get 112).errEntry = 0))) (wWith (wXfer 2)) = true := by decide +kernel

theorem test_ScatterGatherAndCompletion_2 :
    (fun s : State => decide ((s.rings.get 112).xfer = some (wXfer 2) ∧ (wXfer 2).started = true ∧ (wXfer 2).entry = none ∧ (wXfer 2).entries < (wXfer 2).desc.count ∧ (wXfer 2).staging = .none) && runs (.sgEntryRead 112 (some (wSg 32 2))) s (fun t => decide ((t.rings.get 112).state = .halted ∧ (t.rings.get 112).cause = 3 ∧ (t.rings.get 112).errEntry = 0))) (wWith (wXfer 2)) = true := by decide +kernel

theorem test_ScatterGatherAndCompletion_3 :
    (fun s : State => decide ((s.rings.get 112).xfer = some (wXfer 2) ∧ (wXfer 2).started = true ∧ (wXfer 2).entry = none ∧ (wXfer 2).entries < (wXfer 2).desc.count ∧ (wXfer 2).staging = .none) && runs (.sgEntryRead 112 (some (wSg 33 1))) s (fun t => decide ((t.rings.get 112).state = .halted ∧ (t.rings.get 112).cause = 7 ∧ (t.rings.get 112).errEntry = 0))) (wWith (wXfer 2)) = true := by decide +kernel

theorem test_ScatterGatherAndCompletion_4 :
    (fun s : State => decide ((s.rings.get 112).xfer = some (wXfer 2) ∧ (wXfer 2).started = true ∧ (wXfer 2).entry = none ∧ (wXfer 2).entries < (wXfer 2).desc.count ∧ (wXfer 2).staging = .none)) (wWith (wXfer 2)) = true := by decide +kernel

theorem test_ScatterGatherAndCompletion_5 :
    (fun s : State => decide ((s.rings.get 112).xfer = some (wDone 3) ∧ (wDone 3).entry = none ∧ descMoved 112 (wDone 3) s = true) && runs (.descriptorComplete 112) s (fun t => decide ((t.rings.get 112).xfer = none ∧ (t.rings.get 112).head = 0 ∧ (t.rings.get 112).lastTag = 9 ∧ (t.rings.get 112).state = .running))) (wWith (wDone 3)) = true := by decide +kernel

theorem test_ScatterGatherAndCompletion_6 :
    (fun s : State => decide ((s.rings.get 112).xfer = some (wDone 2) ∧ descMoved 112 (wDone 2) s = true ∧ (wDone 2).desc.target = 7) && runs (.descriptorComplete 112) s (fun t => decide ((t.rings.get 112).xfer = none ∧ (t.rings.get 112).head = 0 ∧ (t.rings.get 112).lastTag = 9 ∧ (List.range 32).all (fun i => Memory.read t.ddr.mem i == 7#8) = true ∧ Memory.read t.ddr.mem 32 = Memory.read s.ddr.mem 32))) (wWith (wDone 2)) = true := by decide +kernel

theorem test_ScatterGatherAndCompletion_7 :
    (fun s : State => decide ((s.rings.get 96).xfer = some wRecs ∧ wRecs.entry = none ∧ 0 < wRecs.records ∧ s.o OD.EGRESS_FLUSH ≠ 0 ∧ wRecs.firstLoc + s.o OD.EGRESS_FLUSH * 400 ≤ s.loc) && runs (.egressFlushExpiry 96) s (fun t => decide ((t.rings.get 96).xfer = none ∧ (t.rings.get 96).head = 0 ∧ (t.rings.get 96).lastTag = 9))) (wOd [(OD.EGRESS_FLUSH, 1)] { wWith wRecs 96 with loc := 400 }) = true := by decide +kernel

theorem test_HostDataMovesOrHaltsTheRing_1 :
    (fun s : State => decide ((s.rings.get 112).xfer = some (wEnt .reading) ∧ (wEnt .reading).entry = some ⟨0x1000, 32, true, 16⟩ ∧ (wEnt .reading).desc.target ≠ 1 ∧ nextTurn s = none ∧ (wEnt .reading).kept = [] ∧ readSize s = 512 ∧ bufRoom (wEnt .reading) ⟨0x1000, 32, true, 16⟩ = 16)) (wWith (wEnt .reading)) = true := by decide +kernel

theorem test_HostDataMovesOrHaltsTheRing_2 :
    (fun s : State => decide ((s.rings.get 112).xfer = some (wEnt .reading) ∧ (wEnt .reading).entry = some ⟨0x1000, 32, true, 16⟩ ∧ (wEnt .reading).desc.target ≠ 1 ∧ nextTurn s = none ∧ (wEnt .reading).kept = [] ∧ readSize s = 512 ∧ bufRoom (wEnt .reading) ⟨0x1000, 32, true, 16⟩ = 16 ∧ (wEnt .reading).sum = (wEnt .reading).desc.total) && runs (.hostReadCompletion 112 (some (List.replicate 16 2#8))) s (fun t => decide (∃ y ∈ (t.rings.get 112).xfer, y.gathered = (wEnt .reading).gathered ++ List.replicate 16 2#8 ∧ y.moved = 32 ∧ y.entries = 1 ∧ y.entry = none ∧ y.staging = .none))) (wWith (wEnt .reading)) = true := by decide +kernel

theorem test_HostDataMovesOrHaltsTheRing_8 :
    (fun s : State => decide ((s.rings.get 112).xfer = some { wEnt .retained with heldAt := 9 } ∧ nextTurn s = none ∧ s.loc ≠ 9) && runs (.hostReadCompletion 112 (some (List.replicate 17 2#8))) s (fun t => decide ((t.rings.get 112).xfer = some { wEnt .retained with heldAt := 9, kept := List.replicate 16 2#8 }))) (wWith { wEnt .retained with heldAt := 9 }) = true := by decide +kernel

theorem test_HostDataMovesOrHaltsTheRing_3 :
    (fun s : State => decide ((s.rings.get 112).xfer = some (wEnt .reading) ∧ (wEnt .reading).entry = some ⟨0x1000, 32, true, 16⟩) && runs (.hostReadCompletion 112 none) s (fun t => decide ((t.rings.get 112).state = .halted ∧ (t.rings.get 112).cause = 9 ∧ (t.rings.get 112).errEntry = 0))) (wWith (wEnt .reading)) = true := by decide +kernel

theorem test_HostDataMovesOrHaltsTheRing_4 :
    (fun s : State => decide ((s.rings.get 112).xfer = some (wEnt .retained) ∧ (wEnt .retained).kept = [] ∧ ((List.range 128).all fun r => !((ringOf r s).isHigh && (ringOf r s).isBusy)) = true)) (wWith (wEnt .retained)) = true := by decide +kernel

theorem test_HostDataMovesOrHaltsTheRing_5 :
    (fun s : State => decide ((s.rings.get 112).xfer = some (wXfer 3)) && runs (.hostWriteFailure 112) s (fun t => decide ((t.rings.get 112).state = .halted ∧ (t.rings.get 112).cause = 0xA ∧ (t.rings.get 112).errDesc = 65535 ∧ (t.rings.get 112).xfer = none))) (wWith (wXfer 3)) = true := by decide +kernel

theorem test_HostDataMovesOrHaltsTheRing_6 :
    (fun s : State => decide ((s.rings.get 112).xfer = some (wXfer 2) ∧ timeoutOn s = true) && runs (.pcieCompletionTimeout 112) s (fun t => decide ((t.rings.get 112).state = .halted ∧ (t.rings.get 112).cause = 9 ∧ (t.rings.get 112).errEntry = 0 ∧ (t.rings.get 112).errDesc = 65535))) (wWith (wXfer 2)) = true := by decide +kernel

theorem test_HostDataMovesOrHaltsTheRing_7 :
    (fun s : State => decide (mayFetch 112 s = true ∧ timeoutOn s = true) && runs (.pcieCompletionTimeout 112) s (fun t => decide ((t.rings.get 112).state = .halted ∧ (t.rings.get 112).cause = 1 ∧ (t.rings.get 112).errDesc = 65535))) (wFetch) = true := by decide +kernel

theorem test_EngineDecodesALine_1 :
    (fun s : State => decide (lineOn s = true ∧ pickHead 0 s = some 0 ∧ 0 < heldOf 3 0 s ∧ (match readyLine 0 s with | some (st, .line _ _) => st.head == 0 | _ => false) = true) && runs (.lineDecode 0) s (fun t => decide ((t.comp.lanes.get 0).input.map (fun d => (d.line, d.forme, d.y)) = [(64, 0, 0)] ∧ heldOf 3 1 t = heldOf 3 1 s + 1 ∧ heldOf 3 0 t = heldOf 3 0 s - 1 ∧ t.gal.engines.get 0 = ⟨0, 0, 1⟩))) (wGal) = true := by decide +kernel

theorem test_EngineDecodesALine_2 :
    (fun s : State => decide (lineOn s = true ∧ pickHead 0 s = some 0 ∧ (match readyLine 0 s with | some (st, .error c) => st.head == 0 && c == 10 | _ => false) = true) && runs (.lineDecode 0) s (fun t => decide (t.o OD.STREAM_ERRORS = s.o OD.STREAM_ERRORS + 1 ∧ t.comp.lanes = s.comp.lanes ∧ (t.gal.streams.map fun x => (x.failed, x.failAt)) = [(true, wStream.failLine 10)] ∧ (t.formes.get 0).state = .faulted ∧ t.o (OD.FORME_CAUSE 0) = 0x20A))) (wGal { wStream with bandLeft := 63 }) = true := by decide +kernel

theorem test_EngineDecodesALine_4 :
    (fun s : State => decide (lineOn s = true ∧ pickHead 0 s = some 0 ∧ (s.formes.get 0).state = .faulted ∧ (match readyLine 0 s with | some (st, .error c) => st.head == 0 && c == 10 && st.context | _ => false) = true) && runs (.lineDecode 0) s (fun t => decide (t.o OD.STREAM_ERRORS = s.o OD.STREAM_ERRORS + 1 ∧ t.formes = s.formes ∧ (t.gal.streams.map fun x => x.failed) = [true]))) (wForme 0 (fun f => { f with fromPrinting := true }) (wGal { wStream with bandLeft := 63 } .faulted)) = true := by decide +kernel

theorem test_EngineDecodesALine_5 :
    (fun s : State => decide (lineOn s = true ∧ pickHead 0 s = some 0 ∧ (match readyLine 0 s with | some (st, .error _) => st.head == 0 && !st.context | _ => false) = true) && runs (.lineDecode 0) s (fun t => decide (t.formes = s.formes ∧ (t.gal.streams.map fun x => x.failed) = [true]))) (wGal { wStream with bandLeft := 63, context := false }) = true := by decide +kernel

theorem test_EngineDecodesALine_3 :
    (fun s : State => decide (lineOn s = true ∧ pickHead 7 s = none) && runs (.lineDecode 7) s (fun t => decide (t.od = s.od ∧ t.loc = s.loc))) (wReady) = true := by decide +kernel

theorem test_LaneComposesItsNextLine_1 :
    (fun s : State => decide (lineOn s = true ∧ bandWaits 0 (nextFire 0 s) s = false ∧ s.comp.items = [] ∧ s.comp.unapplied = [] ∧ (s.comp.lanes.get 0).lead.length < 32 ∧ (s.plat.heads.get 0).nextSlot ≤ nextFire 0 s ∧ streamAt 0 (nextFire 0 s) s = none ∧ (s.comp.lanes.get 0).input = [] ∧ tokensOf 0 s < 32 ∧ 0 < heldOf 3 0 s) && runs (.lineCompose 0) s (fun t => decide ((t.comp.lanes.get 0).lead = [⟨1, none, [], []⟩] ∧ (t.comp.lanes.get 0).next = 2 ∧ heldOf 3 2 t = heldOf 3 2 s + 1 ∧ (∀ j : Fin 24, j ≠ 0 → t.comp.lanes.get j = s.comp.lanes.get j)))) (wReady) = true := by decide +kernel

theorem test_LaneComposesItsNextLine_2 :
    (fun s : State => decide (lineOn s = true ∧ bandWaits 0 (nextFire 0 s) s = false ∧ s.comp.items = [] ∧ s.comp.unapplied = [] ∧ (s.comp.lanes.get 0).lead.length < 32 ∧ (s.plat.heads.get 0).nextSlot ≤ nextFire 0 s ∧ (streamAt 0 (nextFire 0 s) s).isSome = true ∧ (s.comp.lanes.get 0).input.map (·.line) = [64] ∧ nextFire 0 s = 64 ∧ passedByStep 0 64 s = false ∧ 0 < heldOf 3 1 s)) (wCompose) = true := by decide +kernel

theorem test_FormesAreLoadedAndAborted_1 : pathReady .mailbox (wSub) ∧
    (fun s : State => decide (submitCause 255 s = 0) && runs (.formeSubmit .mailbox 255) s (fun t => decide (t.net.answer = .done [] ∧ (t.formes.get 255).state = .loading ∧ t.o (OD.FORME_CAUSE 255) = 0 ∧ (∃ st ∈ t.gal.streams, st.forme = 255 ∧ st.head = 0 ∧ st.delivered = 0 ∧ st.firstFire = firstFireOf 255 0 s ∧ st.endFire = endFireOf 255 0 s) ∧ t.formes.get 254 = s.formes.get 254))) (wSub) = true :=
  ⟨by unfold pathReady pathIdle pathFree; decide +kernel, by decide +kernel⟩

theorem test_FormesAreLoadedAndAborted_2 : pathReady .mailbox (wOd [(OD.FORME_LENGTH 255, 0)] wSub) ∧
    (fun s : State => decide (submitCause 255 s = 2) && runs (.formeSubmit .mailbox 255) s (fun t => decide (t.net.answer = .abort 0x08000020 ∧ (t.formes.get 255).state = (s.formes.get 255).state ∧ t.o (OD.FORME_CAUSE 255) = 0x102))) (wOd [(OD.FORME_LENGTH 255, 0)] wSub) = true :=
  ⟨by unfold pathReady pathIdle pathFree; decide +kernel, by decide +kernel⟩

theorem test_FormesAreLoadedAndAborted_3 : pathReady .mailbox (wF .retired) ∧
    (fun s : State => decide ((s.formes.get 255).state = .retired) && runs (.formeAbort .mailbox 255) s (fun t => decide (t.net.answer = .abort 0x08000022 ∧ (t.formes.get 255).state = (s.formes.get 255).state))) (wF .retired) = true :=
  ⟨by unfold pathReady pathIdle pathFree; decide +kernel, by decide +kernel⟩

theorem test_FormesAreLoadedAndAborted_4 : pathReady .mailbox (wF .armed) ∧
    (fun s : State => decide ((s.formes.get 255).state = .armed ∧ commitDue 255 s = false)) (wF .armed) = true :=
  ⟨by unfold pathReady pathIdle pathFree; decide +kernel, by decide +kernel⟩

theorem test_FormesAreLoadedAndAborted_5 : pathReady .mailbox (wF .printing) ∧
    (fun s : State => decide ((s.formes.get 255).state = .printing ∧ s.plat.held = false) && runs (.formeAbort .mailbox 255) s (fun t => decide (t.net.answer = .done [] ∧ t.formes.get 255 = { s.formes.get 255 with aborting := true }))) (wF .printing) = true :=
  ⟨by unfold pathReady pathIdle pathFree; decide +kernel, by decide +kernel⟩

theorem test_FormesAreLoadedAndAborted_6 : pathReady .mailbox (wF .printing true) ∧
    (fun s : State => decide ((s.formes.get 255).state = .printing ∧ s.plat.held = true)) (wF .printing true) = true :=
  ⟨by unfold pathReady pathIdle pathFree; decide +kernel, by decide +kernel⟩

theorem test_FormesAreLoadedAndAborted_7 :
    (fun s : State => decide (ohlOn s = true ∧ boundaryDue s = true ∧ s.pending = [] ∧ (s.formes.get 0).aborting = false ∧ (s.formes.get 0).state = .ready ∧ s.o (OD.FORME_START 0) ≤ s.web.hwl + 1 + s.o OD.ARM_LEAD ∧ armingPermitted s = true ∧ s.web.hwl + 1 < wStream.firstFire + 1) && runs (.lineBoundary) s (fun t => decide ((t.formes.get 0).state = .armed))) (wEdge .ready 65 100 { wStream with firstFire := 65 }) = true := by decide +kernel

theorem test_FormesAreLoadedAndAborted_8 :
    (fun s : State => decide (ohlOn s = true ∧ boundaryDue s = true ∧ s.pending = [] ∧ (s.formes.get 0).aborting = false ∧ (s.formes.get 0).state = .ready ∧ ¬ s.o (OD.FORME_START 0) ≤ s.web.hwl + 1 + s.o OD.ARM_LEAD) && runs (.lineBoundary) s (fun t => decide ((t.formes.get 0).state = .ready))) (wEdge .ready 0xFFFFFFFF 100 { wStream with firstFire := 0xFFFFFFFF }) = true := by decide +kernel

theorem test_FormesAreLoadedAndAborted_9 :
    (fun s : State => decide (ohlOn s = true ∧ boundaryDue s = true ∧ s.pending = [] ∧ (s.formes.get 0).aborting = false ∧ (s.formes.get 0).state = .loading ∧ s.o (OD.FORME_START 0) ≤ s.web.hwl + 1 + s.o OD.ARM_LEAD ∧ (s.formes.get 0).lateRaised = false) && runs (.lineBoundary) s (fun t => decide ((t.formes.get 0).state = .loading ∧ (t.formes.get 0).lateDue = true))) (wEdge .loading 65 100 { wStream with firstFire := 65 }) = true := by decide +kernel

theorem test_FormesAreLoadedAndAborted_10 :
    (fun s : State => decide (ohlOn s = true ∧ boundaryDue s = true ∧ s.pending = [] ∧ (s.formes.get 0).aborting = false ∧ (s.formes.get 0).state = .printing ∧ (∀ h : Fin 24, hasHead 0 h s = true → endFireOf 0 h s ≤ 64 ∧ (streamOf 0 h s).any (·.ended) = true) ∧ hasHead 0 0 s = true) && runs (.lineBoundary) s (fun t => decide ((t.formes.get 0).state = .printed))) (wEdge .printing 20 44 { wStream with firstFire := 20, endFire := 64, ended := true, nextLine := 44 }) = true := by decide +kernel

theorem test_FormesAreLoadedAndAborted_11 :
    (fun s : State => decide (ohlOn s = true ∧ boundaryDue s = true ∧ s.pending = [] ∧ (s.formes.get 0).aborting = false ∧ (s.formes.get 0).state = .printed ∧ (∀ h : Fin 24, hasHead 0 h s = true → endFireOf 0 h s ≤ lowestUnacked h s ∧ ∀ st ∈ streamOf 0 h s, st.blocks = []) ∧ hasHead 0 0 s = true) && runs (.lineBoundary) s (fun t => decide ((t.formes.get 0).state = .retired))) (let s := wEdge .printed 20 44 { wStream with firstFire := 20, endFire := 64, ended := true, nextLine := 44, blocks := [] }
 { s with plat := { s.plat with heads := s.plat.heads.map fun (q : Seqr) => { q with nextSlot := 64 } } }) = true := by decide +kernel

theorem test_FormesAreLoadedAndAborted_12 :
    (fun s : State => decide ((s.formes.get 0).state = .loading ∧ formeFilled 0 s = true ∧ armingReached 0 s = true ∧ armingPermitted s = true ∧ ((readyCheck 0 s).formes.get 0).state = .armed)) (wEdge .loading 64 100 { wStream with ended := true }) = true := by decide +kernel

theorem test_FormesAreLoadedAndAborted_13 : pathReady .mailbox (wOd [(OD.FORME_CAUSE 255, 0x20A)] (wF .faulted)) ∧
    (fun s : State => decide ((s.formes.get 255).state = .faulted ∧ (s.formes.get 255).fromPrinting = false) && runs (.formeAbort .mailbox 255) s (fun t => decide (t.net.answer = .done [] ∧ (t.formes.get 255).state = .retired ∧ t.o (OD.FORME_CAUSE 255) = 0x30A))) (wOd [(OD.FORME_CAUSE 255, 0x20A)] (wF .faulted)) = true :=
  ⟨by unfold pathReady pathIdle pathFree; decide +kernel, by decide +kernel⟩

theorem test_FormesAreLoadedAndAborted_14 : pathReady .mailbox (wOd [(OD.FORME_CAUSE 255, 0x20A)] (wForme 255 (fun f => { f with fromPrinting := true }) (wF .faulted))) ∧
    (fun s : State => decide ((s.formes.get 255).state = .faulted ∧ (s.formes.get 255).fromPrinting = true ∧ s.plat.held = false) && runs (.formeAbort .mailbox 255) s (fun t => decide (t.net.answer = .done [] ∧ t.formes.get 255 = { s.formes.get 255 with aborting := true } ∧ t.o (OD.FORME_CAUSE 255) = 0x20A))) (wOd [(OD.FORME_CAUSE 255, 0x20A)] (wForme 255 (fun f => { f with fromPrinting := true }) (wF .faulted))) = true :=
  ⟨by unfold pathReady pathIdle pathFree; decide +kernel, by decide +kernel⟩

theorem test_FormesAreLoadedAndAborted_15 : pathReady .mailbox (wForme 255 (fun f => { f with fromPrinting := true }) (wF .faulted true)) ∧
    (fun s : State => decide ((s.formes.get 255).state = .faulted ∧ (s.formes.get 255).fromPrinting = true ∧ s.plat.held = true) && runs (.formeAbort .mailbox 255) s (fun t => decide (t.net.answer = .done [] ∧ (t.formes.get 255).state = .retired ∧ t.o (OD.FORME_LAST_LINE 255) = 77))) (wForme 255 (fun f => { f with fromPrinting := true }) (wF .faulted true)) = true :=
  ⟨by unfold pathReady pathIdle pathFree; decide +kernel, by decide +kernel⟩

theorem test_ChangesAreAcceptedAndFold_1 : pathReady .mailbox (wReq) ∧
    (fun s : State => decide (requestCause (s.o OD.REQ_NOZZLE) (s.o OD.REQ_VALUE) (s.o OD.REQ_MASK) (s.o OD.REQ_BAND) (sourceOf .mailbox) s = 0) && runs (.reqSubmit .mailbox) s (fun t => decide (t.net.answer = .done [] ∧ t.comp.items = [⟨(Item.entry (tableIndex (idHead (s.o OD.REQ_NOZZLE)) (idRow (s.o OD.REQ_NOZZLE)) (idIndex (s.o OD.REQ_NOZZLE))) (s.o OD.REQ_VALUE) (s.o OD.REQ_MASK) (sourceOf .mailbox)), (max (earliestBand (Item.entry (tableIndex (idHead (s.o OD.REQ_NOZZLE)) (idRow (s.o OD.REQ_NOZZLE)) (idIndex (s.o OD.REQ_NOZZLE))) (s.o OD.REQ_VALUE) (s.o OD.REQ_MASK) (sourceOf .mailbox)) s) (pendingBand 0 s)), dchkOff s, false⟩] ∧ t.o OD.REQ_BAND_TAKEN = (max (earliestBand (Item.entry (tableIndex (idHead (s.o OD.REQ_NOZZLE)) (idRow (s.o OD.REQ_NOZZLE)) (idIndex (s.o OD.REQ_NOZZLE))) (s.o OD.REQ_VALUE) (s.o OD.REQ_MASK) (sourceOf .mailbox)) s) (pendingBand 0 s)) ∧ t.comp.seq = 1))) (wReq) = true :=
  ⟨by unfold pathReady pathIdle pathFree; decide +kernel, by decide +kernel⟩

theorem test_ChangesAreAcceptedAndFold_2 : pathReady .mailbox (wOd [(OD.REQ_MASK, 0)] wReq) ∧
    (fun s : State => decide (requestCause (s.o OD.REQ_NOZZLE) (s.o OD.REQ_VALUE) (s.o OD.REQ_MASK) (s.o OD.REQ_BAND) (sourceOf .mailbox) s = 3) && runs (.reqSubmit .mailbox) s (fun t => decide (t.net.answer = .abort 0x08000020 ∧ t.comp = s.comp ∧ t.o OD.REQ_CAUSE = 3))) (wOd [(OD.REQ_MASK, 0)] wReq) = true :=
  ⟨by unfold pathReady pathIdle pathFree; decide +kernel, by decide +kernel⟩

theorem test_ChangesAreAcceptedAndFold_3 : pathReady .mailbox (wSlots0) ∧
    (fun s : State => decide (changeSlots s ≠ 0) && runs (.rateClassRequest .mailbox 1 1#8) s (fun t => decide (t.net.answer = .done [] ∧ t.comp.items = [⟨.rate 1 1, earliestBand (.rate 1 1) s, dchkOff s, false⟩] ∧ t.o OD.RATE_CLASS_B = 1))) (wSlots0) = true :=
  ⟨by unfold pathReady pathIdle pathFree; decide +kernel, by decide +kernel⟩

theorem test_ChangesAreAcceptedAndFold_4 :
    (fun s : State => decide (s.srv.waiting = [] ∧ (s.formes.toList.all fun f => f.state != .armed && f.state != .printing) = true) && runs (.compChangeFolded) s (fun t => decide (t.comp.items = [⟨.rate 1 1, 4, false, true⟩] ∧ folded 9 t = mergeBits (folded 9 s) 5 (Nat.land 0x800F printMask) ∧ folded 10 t = folded 10 s ∧ folded 8 t = folded 8 s))) (wItems [⟨.entry 9 5 0x800F 1, 3, false, true⟩, ⟨.rate 1 1, 4, false, true⟩]) = true := by decide +kernel

theorem test_ChangesAreAcceptedAndFold_5 :
    (fun s : State => decide (s.srv.waiting = [] ∧ (s.formes.toList.all fun f => f.state != .armed && f.state != .printing) = true)) (wItems [⟨.rate 1 1, 4, false, false⟩]) = true := by decide +kernel

theorem test_ChangesAreAcceptedAndFold_6 :
    (fun s : State => decide (s.srv.waiting = [] ∧ pagePending s = false ∧ 129 ≤ changeSlots s)) (wLoad) = true := by decide +kernel

theorem test_WebCommandsTakeEffect_1 : pathReady .mailbox (wOd [(OD.PRESET_LINE, 0xFFFFFFFFFFFF)] wReady) ∧
    (fun s : State => decide (formesBusy s = false ∧ s.web.frozen = false) && runs (.presetNow .mailbox) s (fun t => decide (t.net.answer = .done [] ∧ t.web.p = (s.o OD.PRESET_LINE : Rat) ∧ t.web.forward = (s.o OD.PRESET_LINE : Rat) ∧ t.web.hwl = 0xFFFFFFFFFFFF ∧ t.web.homed = true ∧ t.web.locked = false))) (wOd [(OD.PRESET_LINE, 0xFFFFFFFFFFFF)] wReady) = true :=
  ⟨by unfold pathReady pathIdle pathFree; decide +kernel, by decide +kernel⟩

theorem test_WebCommandsTakeEffect_2 : pathReady .mailbox (wReady) ∧
    (fun s : State => decide (formesBusy s = false ∧ s.web.frozen = false) && runs (.presetAtIndex .mailbox) s (fun t => decide (t.net.answer = .done [] ∧ t.web = { s.web with presetArmed := true }))) (wReady) = true :=
  ⟨by unfold pathReady pathIdle pathFree; decide +kernel, by decide +kernel⟩

theorem test_WebCommandsTakeEffect_3 : pathReady .mailbox (wReady) ∧
    (fun s : State => decide (True) && runs (.latch .mailbox) s (fun t => decide (t.net.answer = .done [] ∧ t.web = { s.web with latches := s.web.latches.set 2 ⟨webpOf s.web.p, s.loc, netNow s, speedNow s⟩, latchedAt := s.web.latchedAt.set 2 (s.loc + 1) }))) (wReady) = true :=
  ⟨by unfold pathReady pathIdle pathFree; decide +kernel, by decide +kernel⟩

theorem test_WebCommandsTakeEffect_4 : pathReady .mailbox (wOd [(OD.QUAD_ERRORS, 5), (OD.INDEX_MISMATCHES, 6)] wReady) ∧
    (fun s : State => decide (True) && runs (.clearCounters .mailbox) s (fun t => decide (t.net.answer = .done [] ∧ t.o OD.QUAD_ERRORS = 0 ∧ t.o OD.INDEX_MISMATCHES = 0 ∧ t.web = s.web))) (wOd [(OD.QUAD_ERRORS, 5), (OD.INDEX_MISMATCHES, 6)] wReady) = true :=
  ⟨by unfold pathReady pathIdle pathFree; decide +kernel, by decide +kernel⟩

theorem test_WebCommandsTakeEffect_5 : pathReady .mailbox (wF .armed) ∧
    (fun s : State => decide (formesBusy s = true) && runs (.presetNow .mailbox) s (fun t => decide (t.net.answer = .abort 0x08000022 ∧ t.web = s.web ∧ t.plat = s.plat))) (wF .armed) = true :=
  ⟨by unfold pathReady pathIdle pathFree; decide +kernel, by decide +kernel⟩

theorem test_WebCommandsTakeEffect_6 : pathReady .mailbox (wWeb fun w => { w with frozen := true }) ∧
    (fun s : State => decide (s.web.frozen = true) && runs (.presetAtIndex .mailbox) s (fun t => decide (t.net.answer = .abort 0x08000022 ∧ t.web = s.web ∧ t.plat = s.plat))) (wWeb fun w => { w with frozen := true }) = true :=
  ⟨by unfold pathReady pathIdle pathFree; decide +kernel, by decide +kernel⟩

theorem test_QuadratureCountsMovePosition_1 :
    (fun s : State => decide (webOn s = true ∧ sourceNow s = 0 ∧ s.o OD.FILTER_SAMPLES ≤ 10 ∧ s.web.ab.get 0 = (false, false)) && runs (.quadratureCount 0 ⟨true, 10⟩ ⟨false, 10⟩) s (fun t => decide (t.web.ab.get 0 = (true, false) ∧ t.web.hwl = s.web.hwl ∧ t.web.lastForward = true ∧ t.web.p = max 0 (if t.web.lastForward then s.web.p + ratio s else s.web.p - ratio s)))) (wReady) = true := by decide +kernel

theorem test_QuadratureCountsMovePosition_2 :
    (fun s : State => decide (webOn s = true ∧ sourceNow s = 0 ∧ s.o OD.FILTER_SAMPLES ≤ 10 ∧ s.web.ab.get 0 = (false, false)) && runs (.quadratureCount 0 ⟨false, 10⟩ ⟨true, 10⟩) s (fun t => decide (t.web.ab.get 0 = (false, true) ∧ t.web.hwl = s.web.hwl ∧ t.web.lastForward = false ∧ t.web.p = max 0 (if t.web.lastForward then s.web.p + ratio s else s.web.p - ratio s)))) (wReady) = true := by decide +kernel

theorem test_QuadratureCountsMovePosition_3 :
    (fun s : State => decide (webOn s = true ∧ sourceNow s = 0 ∧ s.o OD.FILTER_SAMPLES ≤ 10 ∧ s.web.ab.get 0 = (false, false)) && runs (.quadratureCount 0 ⟨true, 10⟩ ⟨true, 10⟩) s (fun t => decide (t.web.ab.get 0 = (true, true) ∧ t.web.p = s.web.p ∧ t.web.hwl = s.web.hwl ∧ t.o OD.QUAD_ERRORS = s.o OD.QUAD_ERRORS + 1 ∧ t.web.illegalLoc = s.loc + 1))) (wReady) = true := by decide +kernel

theorem test_QuadratureCountsMovePosition_4 :
    (fun s : State => decide (s.o OD.FILTER_SAMPLES = 5 ∧ s.web.ab.get 0 = (false, false)) && runs (.quadratureCount 0 ⟨true, 4⟩ ⟨false, 9⟩) s (fun t => decide (t.web = s.web ∧ t.od = s.od))) (wOd [(OD.FILTER_SAMPLES, 5)] wReady) = true := by decide +kernel

theorem test_LineBoundaryRaisesHighWater_1 :
    (fun s : State => decide (webOn s = true ∧ s.web.frozen = false ∧ s.web.releaseFrom ≤ s.loc ∧ ((s.web.hwl + 1 : Nat) : Rat) ≤ s.web.p)) (wAt 63 64) = true := by decide +kernel

theorem test_LineBoundaryRaisesHighWater_2 : quietBoundary (wQuiet 64 [(3, 700)]) := by
  have hp : (wQuiet 64 [(3, 700)]).pending = [] := rfl
  have a : ∀ h ∈ List.range 24, ((portOf h (wQuiet 64 [(3, 700)])).state = .ready ∨ (portOf h (wQuiet 64 [(3, 700)])).state = .disabled) ∧
      (∀ r ∈ (seqrOf h (wQuiet 64 [(3, 700)])).readings, r.2 < (wQuiet 64 [(3, 700)]).oi (OD.TEMP_HARD h)) ∧
      (printingHead h (wQuiet 64 [(3, 700)]) = true → (wQuiet 64 [(3, 700)]).o OD.LEAD_LOW ≤ leadFrom ((wQuiet 64 [(3, 700)]).web.hwl + 1) (laneOf h (wQuiet 64 [(3, 700)])).lead) := by
    decide +kernel
  exact ⟨⟨by decide +kernel, by decide +kernel, fun p m r h => by rw [hp] at h; cases h⟩, by decide +kernel, by decide +kernel,
    fun h hh => a h (List.mem_range.2 hh), by decide +kernel⟩

theorem test_LineBoundaryRaisesHighWater_3 : quietBoundary (wQuiet 127) := by
  have hp : (wQuiet 127).pending = [] := rfl
  have a : ∀ h ∈ List.range 24, ((portOf h (wQuiet 127)).state = .ready ∨ (portOf h (wQuiet 127)).state = .disabled) ∧
      (∀ r ∈ (seqrOf h (wQuiet 127)).readings, r.2 < (wQuiet 127).oi (OD.TEMP_HARD h)) ∧
      (printingHead h (wQuiet 127) = true → (wQuiet 127).o OD.LEAD_LOW ≤ leadFrom ((wQuiet 127).web.hwl + 1) (laneOf h (wQuiet 127)).lead) := by
    decide +kernel
  exact ⟨⟨by decide +kernel, by decide +kernel, fun p m r h => by rw [hp] at h; cases h⟩, by decide +kernel, by decide +kernel,
    fun h hh => a h (List.mem_range.2 hh), by decide +kernel⟩

theorem test_LineBoundaryRaisesHighWater_4 :
    (fun s : State => decide (populated 0 s = true ∧ (s.ports.get 0).state = .ready ∧ (s.plat.heads.get 0).nextSlot = 64 ∧ (s.plat.heads.get 0).commit = false ∧ (s.plat.heads.get 0).loadRecord = false ∧ (s.plat.heads.get 0).refire = [] ∧ (s.plat.heads.get 0).tornSlot = none ∧ (s.ports.get 0).slots = []) && runs (.lineBoundary) s (fun t => decide (t.web.hwl = 64 ∧ t.web.frozen = false ∧ t.plat.held = false ∧ (t.plat.heads.get 0).nextSlot = 65 ∧ (t.plat.heads.get 0).cool = true ∧ (t.plat.heads.get 0).readings = [] ∧ ((t.ports.get 0).slots.map fun (x : HeldSlot) => (x.body.slot, x.body.recipes)) = [(64, 0)] ∧ ((t.ports.get 0).slots.map fun (x : HeldSlot) => (x.due, x.torn, x.refire)) = [(true, false, false)] ∧ ((t.ports.get 0).slots.flatMap fun (x : HeldSlot) => x.body.groups.map fun (g : Group) => (g.num, g.tick)) = [(0, 0)]))) (wQuiet 64 [(3, 700)]) = true := by decide +kernel

theorem test_LineBoundaryRaisesHighWater_5 :
    (fun s : State => decide ((s.comp.lanes.get 0).lead.map (fun (c : Composed) => c.line) = [64] ∧ heldOf 3 2 s = 1 ∧ (∀ g : Fin 24, g ≠ 0 → 64 < (seqrOf g s).nextSlot) ∧ ((streamAt 0 64 s).map fun (x : Stream) => (x.context, x.forme)) = some (true, 0) ∧ (s.formes.get 0).state = .armed ∧ (s.formes.get 0).aborting = false ∧ (∀ g : Fin 256, (s.formes.get g).state ≠ .printed) ∧ s.o (OD.FORME_FIRST_LINE 0) = 0) && runs (.lineBoundary) s (fun t => decide ((t.comp.lanes.get 0).lead = [] ∧ heldOf 3 2 t = 0 ∧ heldOf 3 3 t = 1 ∧ (t.formes.get 0).state = .printing ∧ t.o (OD.FORME_FIRST_LINE 0) = 64 ∧ t.o (OD.FORME_LAST_LINE 0) = 64))) (wQuiet 64) = true := by decide +kernel

theorem test_LatchesStepsAndSpeedWindows_1 :
    (fun s : State => decide (webOn s = true ∧ sourceNow s = 0 ∧ s.o OD.FILTER_SAMPLES ≤ 10 ∧ s.web.indexLoc ≠ s.loc + 1 ∧ s.web.lastForward = true ∧ s.web.edgesSeen ≠ 0 ∧ s.web.reversed = false ∧ s.web.illegalLoc ≠ s.loc + 1 ∧ s.web.presetArmed = false ∧ s.web.locked = false ∧ s.o OD.COUNTS_PER_REV ≠ 0) && runs (.indexEdge ⟨0, 10⟩) s (fun t => decide (t.web.locked = true ∧ t.web.phase = 99 ∧ t.web.p = s.web.p ∧ (t.web.latches.get 1).pos = webpOf s.web.p ∧ (t.web.latches.get 1).loc = s.loc))) (wIdx) = true := by decide +kernel

theorem test_LatchesStepsAndSpeedWindows_8 :
    (fun s : State => decide (webOn s = true ∧ s.o OD.FILTER_SAMPLES = 5) && runs (.indexEdge ⟨0, 4⟩) s (fun t => decide (t.web = s.web ∧ t.od = s.od))) (wOd [(OD.FILTER_SAMPLES, 5)] wIdx) = true := by decide +kernel

theorem test_LatchesStepsAndSpeedWindows_9 :
    (fun s : State => decide (webOn s = true ∧ sourceNow s = 0 ∧ s.o OD.FILTER_SAMPLES ≤ 10 ∧ s.web.indexLoc ≠ s.loc + 1 ∧ s.web.lastForward = false) && runs (.indexEdge ⟨0, 10⟩) s (fun t => decide (t.web = { s.web with indexLoc := s.loc + 1, latches := s.web.latches.set 1 ⟨webpOf s.web.p, s.loc, netNow s, speedNow s⟩, latchedAt := s.web.latchedAt.set 1 (s.loc + 1) } ∧ t.od = s.od))) (wWeb (fun w => { w with lastForward := false }) wIdx) = true := by decide +kernel

theorem test_LatchesStepsAndSpeedWindows_10 :
    (fun s : State => decide (webOn s = true ∧ s.web.indexLoc = s.loc + 1) && runs (.indexEdge ⟨0, 10⟩) s (fun t => decide (t.web = s.web ∧ t.od = s.od))) (wWeb (fun w => { w with indexLoc := 1 }) wIdx) = true := by decide +kernel

theorem test_LatchesStepsAndSpeedWindows_2 :
    (fun s : State => decide (webOn s = true) && runs (.strobe) s (fun t => decide (t.web = { s.web with latches := s.web.latches.set 2 ⟨webpOf s.web.p, s.loc, netNow s, speedNow s⟩, latchedAt := s.web.latchedAt.set 2 (s.loc + 1) } ∧ onlyKeys ([]) s t = true))) (wReady) = true := by decide +kernel

theorem test_LatchesStepsAndSpeedWindows_3 :
    (fun s : State => decide (webOn s = true ∧ s.oi OD.STEP_PENDING ≠ 0 ∧ s.web.frozen = false ∧ s.pending = [] ∧ (∀ f ∈ s.formes.toList, f.state ≠ .printing) ∧ ((List.range 24).all fun h => (laneOf h s).lead.all (fun c => c.forme.isNone) && (laneOf h s).delay.all (fun c => decide (c.line + maxDelay h s ≤ s.web.hwl))) = true)) (wOd [(OD.STEP_PENDING, 5)] wIdx) = true := by decide +kernel

theorem test_LatchesStepsAndSpeedWindows_4 :
    (fun s : State => decide (webOn s = true ∧ s.oi OD.STEP_PENDING ≠ 0 ∧ s.web.frozen = false ∧ s.pending = [] ∧ (∀ f ∈ s.formes.toList, f.state ≠ .printing) ∧ ((List.range 24).all fun h => (laneOf h s).lead.all (fun c => c.forme.isNone) && (laneOf h s).delay.all (fun c => decide (c.line + maxDelay h s ≤ s.web.hwl))) = true) && runs (.stepPendingApply) s (fun t => decide (t.o OD.STEP_PENDING = 0 ∧ t.oi OD.LAST_STEP = s.oi OD.STEP_PENDING ∧ t.web.phase = (((s.web.phase : Int) + s.oi OD.STEP_PENDING) % s.o OD.COUNTS_PER_REV).toNat ∧ t.web.p = max 0 (s.web.p + s.oi OD.STEP_PENDING * ratio s)))) (wOd [(OD.STEP_PENDING, unsignedOf 32 (-100))] wIdx) = true := by decide +kernel

theorem test_LatchesStepsAndSpeedWindows_5 :
    (fun s : State => decide (webOn s = true) && runs (.speedWindowClose) s (fun t => decide (t.web.windowFrom = 9 ∧ t.web.p = s.web.p ∧ t.web.hwl = s.web.hwl ∧ onlyKeys ([]) s t = true))) ({ wIdx with loc := 9 }) = true := by decide +kernel

theorem test_LatchesStepsAndSpeedWindows_6 :
    (fun s : State => decide (webOn s = true ∧ s.web.moving = true) && runs (.webStopped) s (fun t => decide (t.web.moving = false ∧ t.web.speed = 0 ∧ t.web.direction = 0 ∧ t.web.p = s.web.p ∧ t.web.hwl = s.web.hwl))) (wWeb (fun w => { w with moving := true, direction := 1, speed := 5 }) wIdx) = true := by decide +kernel

theorem test_LatchesStepsAndSpeedWindows_7 :
    (fun s : State => decide (webOn s = true ∧ s.pace.driving = true) && runs (.emulatorCatchUp) s (fun t => decide (t.web = { s.web with emuCount := emuTarget s, emuBehind := false, emuFree := s.loc + emuGap } ∧ onlyKeys ([]) s t = true))) ({ wIdx with pace := { wIdx.pace with driving := true } }) = true := by decide +kernel

theorem test_PlatenCommitIsTaken_1 : pathReady .mailbox (wSet) ∧
    (fun s : State => decide (s.ob (OD.PLAT_COMMIT_PENDING 0) = false ∧ setCause 0 s = 0 ∧ 7 ≤ changeSlots s)) (wSet) = true :=
  ⟨by unfold pathReady pathIdle pathFree; decide +kernel, by decide +kernel⟩

theorem test_PlatenCommitIsTaken_2 : pathReady .mailbox (wOd [(OD.RECIPE_SELECT 0, 0xFFFFFFFFFFFFFFFF), (OD.RECIPE 0 0, 0)] wSet) ∧
    (fun s : State => decide (s.ob (OD.PLAT_COMMIT_PENDING 0) = false ∧ setCause 0 s ≠ 0) && runs (.platCommit (.object .mailbox) 0) s (fun t => decide (t.net.answer = .abort 0x06090030 ∧ t.o (OD.PLAT_COMMIT_PENDING 0) = 0 ∧ t.plat = s.plat))) (wOd [(OD.RECIPE_SELECT 0, 0xFFFFFFFFFFFFFFFF), (OD.RECIPE 0 0, 0)] wSet) = true :=
  ⟨by unfold pathReady pathIdle pathFree; decide +kernel, by decide +kernel⟩

theorem test_PlatenCommitIsTaken_3 : pathReady .mailbox (wOd [(OD.PLAT_COMMIT_PENDING 0, 1)] wSet) ∧
    (fun s : State => decide (s.ob (OD.PLAT_COMMIT_PENDING 0) = true) && runs (.platCommit (.object .mailbox) 0) s (fun t => decide (t.net.answer = .abort 0x08000021 ∧ t.plat = s.plat))) (wOd [(OD.PLAT_COMMIT_PENDING 0, 1)] wSet) = true :=
  ⟨by unfold pathReady pathIdle pathFree; decide +kernel, by decide +kernel⟩

theorem test_PlatenCommitIsTaken_4 :
    (fun s : State => decide (awake s = true ∧ isBare s = false ∧ s.ob (OD.PLAT_COMMIT_PENDING 0) = false ∧ setCause 0 s = 0 ∧ 7 ≤ changeSlots s) && runs (.platCommit .register 0) s (fun t => decide (t.o (OD.PLAT_COMMIT_PENDING 0) = 1 ∧ t.plat.heads.get 0 = { s.plat.heads.get 0 with commit := true, commitSource := 2, commitLoc := s.loc + 1 } ∧ t.live = s.live))) (wAwake wSet) = true := by decide +kernel

theorem test_HoldsAreTakenAndEnd_1 :
    (fun s : State => decide (ohlOn s = true ∧ s.plat.held = false ∧ s.plat.initDone = true ∧ s.pace.holdPulse = false ∧ s.ob OD.EXTERNAL_HOLD = true) && runs (.holdNFall) s (fun t => decide (t.plat = { s.plat with taken := s.plat.taken ++ [⟨10, 0xFF, s.loc + 1⟩] } ∧ t.pins = { s.pins with holdN := false } ∧ t.web = s.web))) (wOd [(OD.EXTERNAL_HOLD, 1)] wReady) = true := by decide +kernel

theorem test_HoldsAreTakenAndEnd_2 :
    (fun s : State => decide (ohlOn s = true ∧ mayResume (linkChecks s) = true ∧ causeToCome (linkChecks s) = false) && runs (.freezeEnd) s (fun t => decide (t.plat.held = false ∧ t.plat.cause = 0 ∧ t.web = { s.web with frozen := false } ∧ t.pins.holdN = true ∧ holdCause t = 0))) (wHeld) = true := by decide +kernel

theorem test_HoldsAreTakenAndEnd_3 :
    (fun s : State => decide (ohlOn s = true ∧ mayResume (linkChecks s) = false) && runs (.freezeEnd) s (fun t => decide (t.plat.held = s.plat.held ∧ t.web = s.web ∧ t.pins = s.pins))) (wPlat (fun p => { p with forwardSeen := false }) wHeld) = true := by decide +kernel

theorem test_HoldsAreTakenAndEnd_6 :
    (fun s : State => decide (ohlOn s = true ∧ mayResume (linkChecks s) = true ∧ causeToCome (linkChecks s) = true) && runs (.freezeEnd) s (fun t => decide (t.plat.held = true ∧ t.web = s.web ∧ t.pins = s.pins))) ({ wHeld with pending := [.processDataWatchdog] }) = true := by decide +kernel

theorem test_HoldsAreTakenAndEnd_4 :
    (fun s : State => decide (True) && runs (.holdCyclingClear) s (fun t => decide (t.plat = { s.plat with cycling := false }))) (wHeld) = true := by decide +kernel

theorem test_HoldsAreTakenAndEnd_5 :
    (fun s : State => decide (ohlOn s = true ∧ s.dev.ledgerHalt = true ∧ s.web.frozen = false ∧ s.web.releaseFrom ≤ s.loc ∧ ((s.web.hwl + 1 : Nat) : Rat) ≤ s.web.p)) (wHalt) = true := by decide +kernel

theorem test_HoldsAreTakenAndEnd_7 :
    (fun s : State => decide (ohlOn s = true ∧ boundaryDue s = true ∧ s.pending = [] ∧ s.plat.held = false ∧ printingHead 0 s = true ∧ leadFrom 64 (laneOf 0 s).lead < s.o OD.LEAD_LOW) && runs (.lineBoundary) s (fun t => decide (t.plat.held = true ∧ t.web.frozen = true ∧ t.o OD.HELD_LINE ≤ 64 ∧ t.web.hwl = t.o OD.HELD_LINE - 1 ∧ t.web.p = s.web.p ∧ bit t.plat.cause 0 = true ∧ t.pins.holdN = false))) (wOd [(OD.LEAD_LOW, 2)] (wQuiet 64)) = true := by decide +kernel

theorem test_HoldsAreTakenAndEnd_8 :
    (fun s : State => decide (ohlOn s = true ∧ boundaryDue s = true ∧ s.pending = [] ∧ s.plat.held = false ∧ 0 ∈ planesOf s ∧ 101 / 100 * (rateMax 0 64 s : Rat) < s.web.speed ∧ vgetN s.plat.overCount 0 = 64) && runs (.lineBoundary) s (fun t => decide (t.plat.held = true ∧ t.web.frozen = true ∧ t.o OD.HELD_LINE ≤ 64 ∧ t.web.hwl = t.o OD.HELD_LINE - 1 ∧ t.web.p = s.web.p ∧ bit t.plat.cause 3 = true ∧ t.pins.holdN = false))) (let s := wWeb (fun w => { w with speed := 200000 }) (wQuiet 64)
 { s with plat := { s.plat with overCount := Vector.replicate 2 64 } }) = true := by decide +kernel

theorem test_HoldsAreTakenAndEnd_9 :
    (fun s : State => decide (ohlOn s = true ∧ boundaryDue s = true ∧ s.pending = [] ∧ s.plat.held = false ∧ 0 ∈ planesOf s ∧ 16 < (slotTiming (boundaryRec 64 s) 0 s).2.2) && runs (.lineBoundary) s (fun t => decide (t.plat.held = true ∧ t.web.frozen = true ∧ t.o OD.HELD_LINE ≤ 64 ∧ t.web.hwl = t.o OD.HELD_LINE - 1 ∧ t.web.p = s.web.p ∧ bit t.plat.cause 4 = true ∧ t.pins.holdN = false))) (let s := wWeb (fun w => { w with speed := 100000 }) (wQuiet 64)
 { s with plat := { s.plat with slotEnd := Vector.replicate 2 100000000 } }) = true := by decide +kernel

theorem test_HoldsAreTakenAndEnd_10 :
    (fun s : State => decide (ohlOn s = true ∧ boundaryDue s = true ∧ s.pending = [] ∧ s.plat.held = false ∧ (s.plat.heads.get 0).readings = [(3, 900)] ∧ s.oi (OD.TEMP_HARD 0) ≤ 900) && runs (.lineBoundary) s (fun t => decide (t.plat.held = true ∧ t.web.frozen = true ∧ t.o OD.HELD_LINE ≤ 64 ∧ t.web.hwl = t.o OD.HELD_LINE - 1 ∧ t.web.p = s.web.p ∧ bit t.plat.cause 5 = true ∧ t.pins.holdN = false ∧ (t.plat.heads.get 0).cool = true))) (wQuiet 64 [(3, 900)]) = true := by decide +kernel

theorem test_HeldFramesAreSent_1 :
    (fun s : State => decide (ohlOn s = true ∧ (s.ports.get 0).slots.find? (·.due) = some (wSlot 7 .available) ∧ (s.ports.get 0).state = .ready ∧ creditsUsed (s.ports.get 0) < 8 ∧ retryUsed (s.ports.get 0) + 64 ≤ 16384 ∧ (s.ports.get 0).trims = []) && runs (.slotSend 0) s (fun t => decide ((t.ports.get 0).sent = bodyFrames (wBody1 7) false ∧ (t.ports.get 0).slots = [{ wSlot 7 .inFlight with due := false }, wSlot 8 .available] ∧ t.ledgers = (moveLedger 3 3 4 1 (moveLedger 4 0 1 1 s)).ledgers))) (wHold) = true := by decide +kernel

theorem test_HeldFramesAreSent_5 :
    (fun s : State => decide (ohlOn s = true ∧ (s.ports.get 0).slots.find? (·.due) = some { wSlot 7 .head with refire := true, due := true } ∧ (s.ports.get 0).state = .ready ∧ (s.ports.get 0).trims = []) && runs (.slotSend 0) s (fun t => decide ((t.ports.get 0).sent = bodyFrames (wBody1 7) true ∧ t.ledgers = s.ledgers))) (wUpP fun p => { p with slots := [{ wSlot 7 .head with refire := true, due := true }] }) = true := by decide +kernel

theorem test_HeldFramesAreSent_2 :
    (fun s : State => decide (ohlOn s = true ∧ (s.ports.get 0).state = .ready ∧ (s.ports.get 0).trims ≠ []) && runs (.trimFrameSend 0) s (fun t => decide ((t.ports.get 0).sent = [.trim ⟨8, 1, 2, 3, 0, 0⟩] ∧ (t.ports.get 0).trims = [⟨9, 1, 2, 3, 0, 0⟩]))) (wTrims) = true := by decide +kernel

theorem test_HeldFramesAreSent_3 :
    (fun s : State => decide (ohlOn s = true ∧ (s.ports.get 0).en = true ∧ (s.ports.get 0).state ≠ .retrain ∧ ((s.ports.get 0).unacked.any fun e => e.1 == 65535) = true) && runs (.nakFrame 0 65535#16) s (fun t => decide ((t.ports.get 0).sent = [.group 7 0] ∧ (t.ports.get 0).unacked = (s.ports.get 0).unacked ∧ t.o (OD.RETRIES 0) = 1))) (wUnack) = true := by decide +kernel

theorem test_HeldFramesAreSent_4 :
    (fun s : State => decide (ohlOn s = true ∧ (s.ports.get 0).unacked ≠ [] ∧ (s.ports.get 0).state ≠ .retrain ∧ (s.ports.get 0).timeouts = 0) && runs (.resendTimeout 0) s (fun t => decide ((t.ports.get 0).sent = [.command 1 0, .group 7 0] ∧ (t.ports.get 0).timeouts = 1 ∧ t.o (OD.RETRIES 0) = 1))) (wUnack) = true := by decide +kernel

theorem test_HeadReportsAreTaken_1 :
    (fun s : State => decide (ohlOn s = true ∧ (s.ports.get 0).state ≠ .retrain ∧ ((s.ports.get 0).slots.map (·.body.slot)).Nodup) && runs (.ackFrame 0 65535#16) s (fun t => decide ((t.ports.get 0).unacked = [] ∧ (t.ports.get 0).slots = [{ wSlot 7 .head with due := false }]))) (wUnack) = true := by decide +kernel

theorem test_HeadReportsAreTaken_2 :
    (fun s : State => decide (ohlOn s = true ∧ portAttached 0 s = true ∧ coveredBy 7 7 = true ∧ coveredBy 7 8 = false)) (wAtHead) = true := by decide +kernel

theorem test_HeadReportsAreTaken_3 :
    (fun s : State => decide (ohlOn s = true ∧ s.plat.held = false) && runs (.groupAckOverdue 0) s (fun t => decide (t.plat = { s.plat with taken := s.plat.taken ++ [⟨causeLink, 0, s.loc + 1⟩] }))) (wUnack) = true := by decide +kernel

theorem test_HeadReportsAreTaken_4 :
    (fun s : State => decide (ohlOn s = true ∧ portAttached 0 s = true ∧ (s.ports.get 0).tornAt = none ∧ (s.ports.get 0).slots.find? (fun x => x.body.slot % 2 ^ 32 == 7) = some { wSlot 7 .head with due := false }) && runs (.tornFrame 0 7#32 1#8) s (fun t => decide ((t.ports.get 0).state = .recover ∧ (t.ports.get 0).tornAt = some 7 ∧ (t.ports.get 0).slots.map (fun y => (y.body.slot, y.torn, y.due)) = [(7, true, false)] ∧ (t.ports.get 0).sent = [.command 4 7] ∧ t.o OD.TORN_LINES = 1))) (wAtHead) = true := by decide +kernel

theorem test_HeadReportsAreTaken_5 :
    (fun s : State => decide (ohlOn s = true ∧ (s.ports.get 0).state = .recover)) (wUpP fun p => { p with state := .recover, tornAt := some 8, slots := [wSlot 7 .head, { wSlot 8 .head with torn := true }] }) = true := by decide +kernel

theorem test_HeadLinkIsWatched_1 :
    (fun s : State => decide (ohlOn s = true ∧ (s.ports.get 0).en = true) && runs (.telemetryFrame 0 ⟨-5, 36000, 3300, 2, 3#16⟩) s (fun t => decide (t.o (OD.TEMPERATURE 0) = 65531 ∧ t.o (OD.VHEAD 0) = 36000 ∧ t.o (OD.VLOGIC 0) = 3300 ∧ t.o (OD.HEAD_FLAGS 0) = 2 ∧ (t.plat.heads.get 0).readings = [(s.loc, -5)] ∧ (t.ports.get 0).telemetryLost = false ∧ (t.ports.get 0).backNext = some 4 ∧ (t.ports.get 0).backLost = 11))) (wPort (fun p => { p with backNext := some 65534, backLost := 6 }) wHold) = true := by decide +kernel

theorem test_HeadLinkIsWatched_10 :
    (fun s : State => decide (ohlOn s = true ∧ (s.ports.get 0).en = true) && runs (.telemetryFrame 0 ⟨-5, 36000, 3300, 2, 3#16⟩) s (fun t => decide ((t.ports.get 0).backNext = some 4 ∧ (t.ports.get 0).backLost = 0))) (wHold) = true := by decide +kernel

theorem test_HeadLinkIsWatched_2 :
    (fun s : State => decide (ohlOn s = true ∧ portAttached 0 s = true ∧ (s.ports.get 0).telemetryLost = false) && runs (.telemetryTimeout 0) s (fun t => decide ((t.ports.get 0).telemetryLost = true ∧ (t.plat.heads.get 0).readings = [(s.loc, s.oi (OD.TEMP_HARD 0))]))) (wHold) = true := by decide +kernel

theorem test_HeadLinkIsWatched_3 :
    (fun s : State => decide (ohlOn s = true ∧ portAttached 0 s = true ∧ (s.ports.get 0).supplyRaised = true) && runs (.supplyFaultTimeout 0) s (fun t => decide ((t.ports.get 0).state = .fault ∧ (t.ports.get 0).en = false ∧ t.o (OD.OHL_FAULT_CAUSE 0) = 9))) (wUpP fun p => { p with supplyRaised := true }) = true := by decide +kernel

theorem test_HeadLinkIsWatched_4 :
    (fun s : State => decide (ohlOn s = true ∧ (s.ports.get 0).state = .ready) && runs (.laneLockLost 0) s (fun t => decide ((t.ports.get 0).state = .retrain ∧ t.o (OD.RETRAINS 0) = 1))) (wHold) = true := by decide +kernel

theorem test_HeadLinkIsWatched_5 :
    (fun s : State => decide (ohlOn s = true ∧ (s.ports.get 0).state = .ready) && runs (.backchannelSilence 0) s (fun t => decide ((t.ports.get 0).state = .retrain ∧ t.o (OD.RETRAINS 0) = 1))) (wHold) = true := by decide +kernel

theorem test_HeadLinkIsWatched_6 :
    (fun s : State => decide (ohlOn s = true ∧ (s.ports.get 0).state = .retrain ∧ (s.ports.get 0).attaching = false ∧ (s.ports.get 0).tornAt = none) && runs (.retrainAttemptEnd 0 true) s (fun t => decide ((t.ports.get 0).fseq = 0 ∧ (t.ports.get 0).retrainFails = 0))) (wRetrain 2) = true := by decide +kernel

theorem test_HeadLinkIsWatched_9 :
    (fun s : State => decide (ohlOn s = true ∧ (s.ports.get 0).state = .retrain ∧ (s.ports.get 0).attaching = true) && runs (.retrainAttemptEnd 0 true) s (fun t => decide ((t.ports.get 0).state = .descriptor ∧ (t.ports.get 0).fseq = 1 ∧ (t.ports.get 0).retrainFails = 0))) (wPort (fun p => { p with attaching := true }) (wRetrain 2)) = true := by decide +kernel

theorem test_HeadLinkIsWatched_7 :
    (fun s : State => decide (ohlOn s = true ∧ (s.ports.get 0).state = .retrain ∧ (s.ports.get 0).retrainFails < 2) && runs (.retrainAttemptEnd 0 false) s (fun t => decide (t.ports.get 0 = { s.ports.get 0 with retrainFails := 2 }))) (wRetrain 1) = true := by decide +kernel

theorem test_HeadLinkIsWatched_8 :
    (fun s : State => decide (ohlOn s = true ∧ (s.ports.get 0).state = .retrain ∧ 2 ≤ (s.ports.get 0).retrainFails) && runs (.retrainAttemptEnd 0 false) s (fun t => decide ((t.ports.get 0).state = .fault ∧ t.o (OD.OHL_FAULT_CAUSE 0) = 8))) (wRetrain 2) = true := by decide +kernel

theorem test_SelftestFillsItsMap_1 : pathReady .mailbox (wReady) ∧
    (fun s : State => decide ((s.ports.get 0).state ≠ .ready) && runs (.selftest .mailbox 0) s (fun t => decide (t.net.answer = .abort 0x08000022 ∧ t.ports = s.ports))) (wReady) = true :=
  ⟨by unfold pathReady pathIdle pathFree; decide +kernel, by decide +kernel⟩

theorem test_SelftestFillsItsMap_2 : pathReady .mailbox (wHold) ∧
    (fun s : State => decide ((s.ports.get 0).state = .ready ∧ headActive 0 s = false) && runs (.selftest .mailbox 0) s (fun t => decide (t.net.answer = .done [] ∧ (t.ports.get 0).selftest = true ∧ (t.ports.get 0).selfChunks = 0 ∧ (t.ports.get 0).sent = [.command 5 0] ∧ t.comp = s.comp))) (wHold) = true :=
  ⟨by unfold pathReady pathIdle pathFree; decide +kernel, by decide +kernel⟩

theorem test_SelftestFillsItsMap_3 :
    (fun s : State => decide (ohlOn s = true ∧ (s.ports.get 0).selftest = true ∧ (s.ports.get 0).selfDone = true ∧ setBit (s.ports.get 0).selfChunks 31 true = 2 ^ 32 - 1)) (wSelf 0x7FFFFFFF true) = true := by decide +kernel

theorem test_SelftestFillsItsMap_4 :
    (fun s : State => decide (ohlOn s = true ∧ (s.ports.get 0).selftest = true ∧ (s.ports.get 0).selfChunks = 2 ^ 32 - 1) && runs (.statusSelftestDone 0 65535#16) s (fun t => decide (t.comp = s.comp ∧ (t.ports.get 0).selftest = false ∧ t.o (OD.SELFTEST_FAILS 0) = 65535))) (wSelf 0xFFFFFFFF false) = true := by decide +kernel

theorem test_SelftestFillsItsMap_5 : pathReady .mailbox (wOd [(OD.FORME_HEADS 0, 1)] (wGal wStream .armed (wUpP fun p => p))) ∧
    (fun s : State => decide ((s.ports.get 0).state = .ready ∧ headActive 0 s = true) && runs (.selftest .mailbox 0) s (fun t => decide (t.net.answer = .abort 0x08000022 ∧ t.ports = s.ports))) (wOd [(OD.FORME_HEADS 0, 1)] (wGal wStream .armed (wUpP fun p => p))) = true :=
  ⟨by unfold pathReady pathIdle pathFree; decide +kernel, by decide +kernel⟩

theorem test_FramesAreTaken_1 :
    (fun s : State => decide (lineOn s = true ∧ takesPacket 0 1 s = true ∧ (s.cams.get 0).frame = none ∧ (s.cams.get 0).commit = false ∧ (s.cams.get 0).writesDue = false ∧ heldOf 5 0 s ≠ 0 ∧ freeBuffer s = some 0) && runs (.frameStart ⟨0, 1⟩) s (fun t => decide (t.o (OD.FSN 0) = 0 ∧ (∃ f ∈ (t.cams.get 0).frame, f.fsn = 0 ∧ f.fsLoc = s.loc ∧ f.buffer = 0 ∧ f.width = 8 ∧ f.height = 4 ∧ f.stored = 0 ∧ bit f.flags flagDropped = false) ∧ t.ledgers.get 5 = (s.ledgers.get 5).move 0 1 1))) (wOd [(OD.FSN 0, 0xFFFFFFFF)] (wBufs 4)) = true := by decide +kernel

theorem test_FramesAreTaken_2 :
    (fun s : State => decide (lineOn s = true ∧ takesPacket 0 1 s = true ∧ (s.cams.get 0).frame = none ∧ (s.cams.get 0).commit = false ∧ (s.cams.get 0).writesDue = false ∧ heldOf 5 0 s = 0 ∧ s.pending = []) && runs (.frameStart ⟨0, 1⟩) s (fun t => decide ((∃ f ∈ (t.cams.get 0).frame, bit f.flags flagDropped = true) ∧ t.o (OD.FRAMES_DROPPED 0) = 1 ∧ t.ledgers.get 5 = s.ledgers.get 5))) (wBufs 0) = true := by decide +kernel

theorem test_FramesAreTaken_3 :
    (fun s : State => decide (lineOn s = true ∧ (s.cams.get 0).frame = some wFrame ∧ bit (wFrame).flags flagDropped = false ∧ takesPacket 0 1 s = true ∧ wFrame.fsLoc ≠ s.loc) && runs (.frameEnd ⟨0, 1⟩) s (fun t => decide ((t.cams.get 0).frame = none ∧ (match (t.cams.get 0).toPrf with | [g] => g.fsn == 5 && g.buffer == 1 && g.feLoc == s.loc && g.padLines == 1 && bit g.flags flagShort | _ => false) = true ∧ t.ledgers.get 5 = (s.ledgers.get 5).move 1 2 1))) ({ wOpen with loc := 9 }) = true := by decide +kernel

theorem test_FramesAreTaken_4 :
    (fun s : State => decide (lineOn s = true ∧ (s.cams.get 0).frame = some wFrame ∧ bit (wFrame).flags flagDropped = false ∧ takesPacket 0 1 s = true) && runs (.pixelPacket 0 ⟨1, 0x2A⟩ wPay true false) s (fun t => decide ((∃ g ∈ (t.cams.get 0).frame, g.lines = 1 ∧ g.stored = 4 ∧ g.validLens = [8, 8, 8, 5]) ∧ t.ddr.mem = (dramWrite (bufferAddress 1 s + 30) (packLine (((List.range 5).map fun x => correctPixel 0 256 (rawPixel 8 wPay x)) ++ List.replicate 3 9)) s).ddr.mem ∧ t.ddr.mem ≠ s.ddr.mem))) (wOpen) = true := by decide +kernel

theorem test_FramesAreTaken_5 :
    (fun s : State => decide (lineOn s = true ∧ (s.cams.get 0).frame = some wFrame ∧ bit (wFrame).flags flagDropped = false ∧ takesPacket 0 1 s = true) && runs (.pixelPacket 0 ⟨1, 0x2A⟩ wPay false false) s (fun t => decide ((∃ g ∈ (t.cams.get 0).frame, g.badLines = 1 ∧ g.stored = 4 ∧ bit g.flags flagLineCrc = true) ∧ t.o (OD.BAD_LINES_TOTAL 0) = 1 ∧ t.ddr.mem = (dramWrite (bufferAddress 1 s + 30) (packLine (List.replicate 8 9)) s).ddr.mem))) (wOpen) = true := by decide +kernel

theorem test_FramesAreTaken_6 :
    (fun s : State => decide (lineOn s = true ∧ (s.cams.get 0).frame = some { wFrame with stored := 4 } ∧ bit ({ wFrame with stored := 4 }).flags flagDropped = false ∧ takesPacket 0 1 s = true) && runs (.pixelPacket 0 ⟨1, 0x2A⟩ wPay true false) s (fun t => decide ((∃ g ∈ (t.cams.get 0).frame, g.cutLines = 1 ∧ g.stored = 4) ∧ t.ddr.mem = s.ddr.mem))) (wOpen { wFrame with stored := 4 }) = true := by decide +kernel

theorem test_FramesAreTaken_7 :
    (fun s : State => decide (lineOn s = true ∧ s.ob (OD.CAM_PORT_ENABLE 0) = true) && runs (.otherPacket 0 ⟨3, 0⟩ true) s (fun t => decide (t.o (OD.ECC_ERRORS 0) = 1 ∧ t.o (OD.OTHER_PACKETS 0) = 0))) (wCamOn) = true := by decide +kernel

theorem test_FramesAreTaken_8 :
    (fun s : State => decide (lineOn s = true ∧ s.ob (OD.CAM_PORT_ENABLE 0) = true ∧ s.o (OD.VIRTUAL_CHANNEL 0) = 1) && runs (.otherPacket 0 ⟨1, 0x10⟩ false) s (fun t => decide (t.o (OD.OTHER_PACKETS 0) = 1))) (wCamOn) = true := by decide +kernel

theorem test_FramesAreTaken_9 :
    (fun s : State => decide (lineOn s = true ∧ s.o (OD.DATA_TYPE 0) ≠ 0x2B) && runs (.pixelPacket 0 ⟨1, 0x2B⟩ wPay true false) s (fun t => decide (t.o (OD.OTHER_PACKETS 0) = 1 ∧ t.cams = s.cams ∧ t.ddr = s.ddr))) (wOpen) = true := by decide +kernel

theorem test_FramesAreTaken_10 :
    (fun s : State => decide (lineOn s = true ∧ takesPacket 0 2 s = false) && runs (.frameStart ⟨0, 2⟩) s (fun t => decide (t.cams = s.cams ∧ t.od = s.od)) && runs (.pixelPacket 0 ⟨2, 0x2A⟩ wPay true false) s (fun t => decide (t.cams = s.cams ∧ t.od = s.od))) (wOpen) = true := by decide +kernel

theorem test_FramesAreTaken_11 :
    (fun s : State => decide (lineOn s = true ∧ (s.cams.get 0).frame = some wFrame ∧ wFrame.fsLoc = s.loc) && runs (.frameEnd ⟨0, 1⟩) s (fun t => decide (t.cams = s.cams ∧ t.od = s.od))) (wOpen) = true := by decide +kernel

theorem test_FramesAreTaken_12 :
    (fun s : State => decide (lineOn s = true) && runs (.streamingTimeout 0) s (fun t => decide ((t.cams.get 0).streaming = false))) (wCam (fun c => { c with streaming := true }) wCamOn) = true := by decide +kernel

theorem test_ImmediateCciAccessesRun_1 : pathReady .mailbox (wOd [(OD.CCI_REG 0, 0x1234), (OD.CCI_DATA 0, 0xABCD56)] wCamOn) ∧
    (fun s : State => decide ((s.cams.get 0).cciBusy = false ∧ (s.cams.get 0).writing = false) && runs (.cciRead .mailbox 0) s (fun t => decide (t.net.answer = .done [] ∧ t.o (OD.CCI_STATUS 0) = 1 ∧ t.cams.get 0 = { s.cams.get 0 with cciBusy := true, cciRead := true, cciBytes := 2, cciSent := [[0x20#8, 0x12#8, 0x34#8], [0x21#8]] }))) (wOd [(OD.CCI_REG 0, 0x1234), (OD.CCI_DATA 0, 0xABCD56)] wCamOn) = true :=
  ⟨by unfold pathReady pathIdle pathFree; decide +kernel, by decide +kernel⟩

theorem test_ImmediateCciAccessesRun_2 : pathReady .mailbox (wCam (fun c => { c with cciBusy := true }) wCamOn) ∧
    (fun s : State => decide ((s.cams.get 0).cciBusy = true) && runs (.cciRead .mailbox 0) s (fun t => decide (t.net.answer = .abort 0x08000022 ∧ t.cams = s.cams))) (wCam (fun c => { c with cciBusy := true }) wCamOn) = true :=
  ⟨by unfold pathReady pathIdle pathFree; decide +kernel, by decide +kernel⟩

theorem test_ImmediateCciAccessesRun_3 : pathReady .mailbox (wCam (fun c => { c with writing := true }) wCamOn) ∧
    (fun s : State => decide ((s.cams.get 0).writing = true) && runs (.cciRead .mailbox 0) s (fun t => decide (t.cams = s.cams ∧ t.o (OD.CCI_STATUS 0) = s.o (OD.CCI_STATUS 0)))) (wCam (fun c => { c with writing := true }) wCamOn) = true :=
  ⟨by unfold pathReady pathIdle pathFree; decide +kernel, by decide +kernel⟩

theorem test_ImmediateCciAccessesRun_4 : pathReady .mailbox (wOd [(OD.CCI_REG 0, 0x1234), (OD.CCI_DATA 0, 0xABCD56)] wCamOn) ∧
    (fun s : State => decide ((s.cams.get 0).cciBusy = false ∧ (s.cams.get 0).writing = false) && runs (.cciWrite .mailbox 0) s (fun t => decide (t.net.answer = .done [] ∧ t.o (OD.CCI_STATUS 0) = 1 ∧ t.cams.get 0 = { s.cams.get 0 with cciBusy := true, cciRead := false, cciBytes := 2, cciSent := [[0x20#8, 0x12#8, 0x34#8, 0xCD#8, 0x56#8]] }))) (wOd [(OD.CCI_REG 0, 0x1234), (OD.CCI_DATA 0, 0xABCD56)] wCamOn) = true :=
  ⟨by unfold pathReady pathIdle pathFree; decide +kernel, by decide +kernel⟩

theorem test_ImmediateCciAccessesRun_5 : pathReady .mailbox (wCam (fun c => { c with cciBusy := true }) wCamOn) ∧
    (fun s : State => decide ((s.cams.get 0).cciBusy = true) && runs (.cciWrite .mailbox 0) s (fun t => decide (t.net.answer = .abort 0x08000022 ∧ t.cams = s.cams))) (wCam (fun c => { c with cciBusy := true }) wCamOn) = true :=
  ⟨by unfold pathReady pathIdle pathFree; decide +kernel, by decide +kernel⟩

theorem test_ImmediateCciAccessesRun_6 : pathReady .mailbox (wCam (fun c => { c with writing := true }) wCamOn) ∧
    (fun s : State => decide ((s.cams.get 0).writing = true) && runs (.cciWrite .mailbox 0) s (fun t => decide (t.cams = s.cams ∧ t.o (OD.CCI_STATUS 0) = s.o (OD.CCI_STATUS 0)))) (wCam (fun c => { c with writing := true }) wCamOn) = true :=
  ⟨by unfold pathReady pathIdle pathFree; decide +kernel, by decide +kernel⟩

theorem test_ImmediateCciAccessesRun_7 : pathReady .mailbox (wCam (fun c => { c with cciBusy := true }) wCamOn) ∧
    (fun s : State => decide ((s.cams.get 0).cciBusy = true ∧ s.ob (OD.CAM_COMMIT_PENDING 0) = false ∧ camCommitCause 0 s = 0) && runs (.camCommit (.object .mailbox) 0) s (fun t => decide (t.net.answer = .done [] ∧ t.cams.get 0 = { s.cams.get 0 with commit := true, commitWaiting := true, latency := s.o (OD.CAM_LATENCY 0) }))) (wCam (fun c => { c with cciBusy := true }) wCamOn) = true :=
  ⟨by unfold pathReady pathIdle pathFree; decide +kernel, by decide +kernel⟩

theorem test_ImmediateCciAccessesRun_8 :
    (fun s : State => decide (lineOn s = true ∧ (s.cams.get 0).cciBusy = true ∧ (s.cams.get 0).commitWaiting = false ∧ (s.cams.get 0).writesWaiting = false) && runs (.camCciDone 0 false 0xFFFFFFFF#32) s (fun t => decide (t.o (OD.CCI_STATUS 0) = 0 ∧ (s.cams.get 0).cciBytes = 3 ∧ t.o (OD.CCI_DATA 0) = 0xFFFFFF ∧ t.cams.get 0 = { s.cams.get 0 with cciBusy := false, cciRead := false }))) (wCam (fun c => { c with cciBytes := 3 }) wCci) = true := by decide +kernel

theorem test_ImmediateCciAccessesRun_9 :
    (fun s : State => decide (lineOn s = true ∧ (s.cams.get 0).cciBusy = true ∧ (s.cams.get 0).commitWaiting = false ∧ (s.cams.get 0).writesWaiting = false) && runs (.camCciDone 0 true 5#32) s (fun t => decide (t.o (OD.CCI_STATUS 0) = 2 ∧ t.o (OD.CCI_DATA 0) = s.o (OD.CCI_DATA 0) ∧ t.cams.get 0 = { s.cams.get 0 with cciBusy := false, cciRead := false }))) (wCci) = true := by decide +kernel

theorem test_ImmediateCciAccessesRun_10 :
    (fun s : State => decide (lineOn s = true ∧ (s.cams.get 0).cciBusy = true ∧ (s.cams.get 0).commitWaiting = true) && runs (.camCciDone 0 true 5#32) s (fun t => decide ((t.cams.get 0).cciBusy = false ∧ (t.cams.get 0).commitWaiting = false ∧ t.o (OD.CCI_STATUS 0) = 2))) (wCci true) = true := by decide +kernel

theorem test_CameraSettingsAreTaken_1 : pathReady .mailbox (wOd [(OD.CAM_COMMIT_PENDING 0, 1)] wCamOn) ∧
    (fun s : State => decide (s.ob (OD.CAM_COMMIT_PENDING 0) = true) && runs (.camCommit (.object .mailbox) 0) s (fun t => decide (t.net.answer = .abort 0x08000021 ∧ t.cams = s.cams))) (wOd [(OD.CAM_COMMIT_PENDING 0, 1)] wCamOn) = true :=
  ⟨by unfold pathReady pathIdle pathFree; decide +kernel, by decide +kernel⟩

theorem test_CameraSettingsAreTaken_2 : pathReady .mailbox (wOd [(OD.WIDTH 0, 6)] wCamOn) ∧
    (fun s : State => decide (s.ob (OD.CAM_COMMIT_PENDING 0) = false ∧ camCommitCause 0 s = 1) && runs (.camCommit (.object .mailbox) 0) s (fun t => decide (t.net.answer = .abort 0x06090030 ∧ t.o (OD.CAM_COMMIT_CAUSE 0) = 1 ∧ t.cams = s.cams))) (wOd [(OD.WIDTH 0, 6)] wCamOn) = true :=
  ⟨by unfold pathReady pathIdle pathFree; decide +kernel, by decide +kernel⟩

theorem test_CameraSettingsAreTaken_3 : pathReady .mailbox (wCamOn) ∧
    (fun s : State => decide (lineOn s = true ∧ s.ob (OD.CAM_COMMIT_PENDING 0) = false ∧ camCommitCause 0 s = 0 ∧ s.ob (OD.CAM_PORT_ENABLE 0) = true) && runs (.camCommit (.object .mailbox) 0) s (fun t => decide (t.o (OD.CAM_COMMIT_PENDING 0) = 1 ∧ (t.cams.get 0).commit = true ∧ t.live = s.live))) (wCamOn) = true :=
  ⟨by unfold pathReady pathIdle pathFree; decide +kernel, by decide +kernel⟩

theorem test_CameraSettingsAreTaken_4 :
    (fun s : State => decide (awake s = true ∧ lineOn s = true ∧ s.ob (OD.CAM_COMMIT_PENDING 0) = false ∧ camCommitCause 0 s = 0 ∧ s.ob (OD.CAM_PORT_ENABLE 0) = true) && runs (.camCommit (.register) 0) s (fun t => decide (t.o (OD.CAM_COMMIT_PENDING 0) = 1 ∧ (t.cams.get 0).commit = true ∧ t.live = s.live))) (wAwake wCamOn) = true := by decide +kernel

theorem test_CameraSettingsAreTaken_5 :
    (fun s : State => decide (lineOn s = true ∧ (s.cams.get 0).writing = true ∧ 2 ≤ (s.cams.get 0).writesLeft) && runs (.cciWriteComplete 0 false) s (fun t => decide (t.cams.get 0 = { s.cams.get 0 with writesLeft := 1, cciSent := [[0x20#8]] }))) (wCam (fun c => { c with writing := true, writesLeft := 2 }) wCamOn) = true := by decide +kernel

theorem test_CameraSettingsAreTaken_6 :
    (fun s : State => decide (lineOn s = true ∧ (s.cams.get 0).writing = true ∧ (s.cams.get 0).writesLeft ≤ 1 ∧ (s.cams.get 0).commit = true ∧ s.ob (OD.CAM_PORT_ENABLE 0) = false) && runs (.cciWriteComplete 0 false) s (fun t => decide (t.l (OD.WIDTH 0) = 16 ∧ t.l (OD.HEIGHT 0) = 4 ∧ t.l (OD.X_OFFSET 0) = s.o (OD.X_OFFSET 0) ∧ t.o (OD.LIVE_ID 0) = 7 ∧ t.o (OD.CAM_COMMIT_PENDING 0) = 0 ∧ (t.cams.get 0).commit = false))) (wCam (fun c => { c with writing := true, writesLeft := 1, commit := true }) (wOd [(OD.CAM_PORT_ENABLE 0, 0), (OD.WIDTH 0, 16), (OD.CAM_COMMIT_PENDING 0, 1)] wCamOn)) = true := by decide +kernel

theorem test_CameraSettingsAreTaken_7 :
    (fun s : State => decide ((s.cams.get 0).refclkDue = true) && runs (.clkRefclkSwitch 0) s (fun t => decide (t.cams.get 0 = { s.cams.get 0 with refclkOn := true, refclkDue := false }))) (wCam (fun c => { c with refclkDue := true }) (wOd [(OD.REFCLK 0, 1)] wCamOn)) = true := by decide +kernel

theorem test_CameraSettingsAreTaken_8 : pathReady .mailbox (wOd [(OD.FSN 0, 0), (OD.CAM_LATENCY 0, 2)] wCamOn) ∧
    (fun s : State => decide (lineOn s = true ∧ s.ob (OD.CAM_COMMIT_PENDING 0) = false ∧ camCommitCause 0 s = 0 ∧ s.ob (OD.CAM_PORT_ENABLE 0) = true ∧ (s.cams.get 0).cciBusy = false ∧ (s.cams.get 0).writing = false ∧ (s.cams.get 0).commitWaiting = false ∧ s.loc = 0 ∧ s.o (OD.FSN 0) = 0 ∧ s.o (OD.CAM_LATENCY 0) = 2) && runs (.camCommit (.object .mailbox) 0) s (fun t => decide (t.o (OD.TARGET_FSN 0) = 3))) (wOd [(OD.FSN 0, 0), (OD.CAM_LATENCY 0, 2)] wCamOn) = true :=
  ⟨by unfold pathReady pathIdle pathFree; decide +kernel, by decide +kernel⟩

theorem test_CameraSettingsAreTaken_9 : pathReady .mailbox (wOd [(OD.FSN 0, 5), (OD.CAM_LATENCY 0, 2), (OD.SETTINGS_DEADLINE 0, 1)] wCamOn) ∧
    (fun s : State => decide (lineOn s = true ∧ s.ob (OD.CAM_COMMIT_PENDING 0) = false ∧ camCommitCause 0 s = 0 ∧ s.ob (OD.CAM_PORT_ENABLE 0) = true ∧ (s.cams.get 0).cciBusy = false ∧ (s.cams.get 0).writing = false ∧ (s.cams.get 0).commitWaiting = false ∧ s.loc = 0 ∧ s.o (OD.FSN 0) = 5 ∧ s.o (OD.CAM_LATENCY 0) = 2 ∧ s.loc < (s.cams.get 0).fsLoc + deadlineTicks 0 s ∧ s.loc + setTime 0 s ≤ (s.cams.get 0).fsLoc + deadlineTicks 0 s) && runs (.camCommit (.object .mailbox) 0) s (fun t => decide (t.o (OD.TARGET_FSN 0) = 7 ∧ (t.cams.get 0).deadline = 400 ∧ (t.cams.get 0).writing = false))) (wOd [(OD.FSN 0, 5), (OD.CAM_LATENCY 0, 2), (OD.SETTINGS_DEADLINE 0, 1)] wCamOn) = true :=
  ⟨by unfold pathReady pathIdle pathFree; decide +kernel, by decide +kernel⟩

theorem test_CameraSettingsAreTaken_10 : pathReady .mailbox (wOd [(OD.FSN 0, 5), (OD.CAM_LATENCY 0, 0)] wCamOn) ∧
    (fun s : State => decide (lineOn s = true ∧ s.ob (OD.CAM_COMMIT_PENDING 0) = false ∧ camCommitCause 0 s = 0 ∧ s.ob (OD.CAM_PORT_ENABLE 0) = true ∧ (s.cams.get 0).cciBusy = false ∧ (s.cams.get 0).writing = false ∧ (s.cams.get 0).commitWaiting = false ∧ s.loc = 0 ∧ s.o (OD.FSN 0) = 5 ∧ s.o (OD.CAM_LATENCY 0) = 0 ∧ ¬ s.loc < (s.cams.get 0).fsLoc) && runs (.camCommit (.object .mailbox) 0) s (fun t => decide (t.o (OD.TARGET_FSN 0) = 6 ∧ (t.cams.get 0).writing = false ∧ (t.cams.get 0).writesDue = true))) (wOd [(OD.FSN 0, 5), (OD.CAM_LATENCY 0, 0)] wCamOn) = true :=
  ⟨by unfold pathReady pathIdle pathFree; decide +kernel, by decide +kernel⟩

theorem test_ProofFramesAreCompared_1 :
    (fun s : State => decide (lineOn s = true ∧ (s.prf.lanes.get 0).ahead ≠ s.loc + 1 ∧ (s.cams.get 0).toPrf = [wFrame] ∧ frameParam 0 wFrame s (OD.CAM_DISTANCE 0) = 0) && runs (.windowProcessed 0) s (fun t => decide ((t.cams.get 0).toPrf = [] ∧ t.ledgers = (moveLedger 5 2 0 1 s).ledgers))) (wToPrf wFrame) = true := by decide +kernel

theorem test_ProofFramesAreCompared_2 :
    (fun s : State => decide (lineOn s = true ∧ (s.prf.lanes.get 0).ahead ≠ s.loc + 1 ∧ (s.cams.get 0).toPrf = [{ wFrame with flags := 2 ^ flagTorn }] ∧ frameParam 0 { wFrame with flags := 2 ^ flagTorn } s (OD.CAM_DISTANCE 0) ≠ 0 ∧ skipFlags { wFrame with flags := 2 ^ flagTorn } = true) && runs (.windowProcessed 0) s (fun t => decide ((t.cams.get 0).toPrf = [] ∧ t.o OD.FRAMES_SKIPPED = 1 ∧ (t.prf.lanes.get 0).inspected = (s.prf.lanes.get 0).inspected))) (wOd [(OD.CAM_DISTANCE 0, 100)] (wToPrf { wFrame with flags := 2 ^ flagTorn })) = true := by decide +kernel

theorem test_ProofFramesAreCompared_3 :
    (fun s : State => decide (lineOn s = true ∧ (s.prf.lanes.get 0).ahead ≠ s.loc + 1 ∧ (s.cams.get 0).toPrf = [{ wFrame with trigPos := 612 * 65536 }] ∧ skipFlags { wFrame with trigPos := 612 * 65536 } = false ∧ (let par := frameParam 0 { wFrame with trigPos := 612 * 65536 } s; matchedBase (par OD.WINDOW_BASE) (par OD.WINDOW_LINES) (par (OD.CAM_DISTANCE 0)) { wFrame with trigPos := 612 * 65536 } = 512 ∧ par (OD.CAM_DISTANCE 0) ≠ 0 ∧ misalignment 512 (par (OD.CAM_DISTANCE 0)) { wFrame with trigPos := 612 * 65536 } ≤ par OD.ALIGN_TOLERANCE) ∧ (s.prf.lanes.get 0).inspected.contains 512 = false ∧ (s.prf.lanes.get 0).summaries.find? (fun w => w.base == 512) = some wSummary)) (wMatch) = true := by decide +kernel

theorem test_ProofFramesAreCompared_6 :
    (fun s : State => decide (lineOn s = true ∧ (s.prf.lanes.get 0).ahead ≠ s.loc + 1 ∧ (s.cams.get 0).toPrf = [{ wFrame with trigPos := 612 * 65536 }] ∧ skipFlags { wFrame with trigPos := 612 * 65536 } = false ∧ (let par := frameParam 0 { wFrame with trigPos := 612 * 65536 } s; matchedBase (par OD.WINDOW_BASE) (par OD.WINDOW_LINES) (par (OD.CAM_DISTANCE 0)) { wFrame with trigPos := 612 * 65536 } = 512 ∧ par (OD.CAM_DISTANCE 0) ≠ 0 ∧ misalignment 512 (par (OD.CAM_DISTANCE 0)) { wFrame with trigPos := 612 * 65536 } ≤ par OD.ALIGN_TOLERANCE) ∧ (s.prf.lanes.get 0).inspected.contains 512 = false ∧ (s.prf.lanes.get 0).summaries = [] ∧ (s.prf.lanes.get 0).open_ = [wSummary]) && runs (.windowProcessed 0) s (fun t => decide (t.od = s.od ∧ t.cams = s.cams ∧ t.prf = s.prf))) ({ wMatch with prf := { wMatch.prf with lanes := wMatch.prf.lanes.set 0 { wMatch.prf.lanes.get 0 with summaries := [], open_ := [wSummary] } } }) = true := by decide +kernel

theorem test_ProofFramesAreCompared_7 :
    (fun s : State =>
      let t := actOn (wWindow 0 0) 0 3 { wFound with evidence := false } s
      let s1 := prfEvent EV.PRF_FINDING 1 0 (s.bump OD.FINDINGS)
      let n := ((candidates { wFound with evidence := false } s1).filter fun n => !isLocked n s1).headD 0
      let s2 := setHealth n 7 s1
      let r := prfRequest 0 n (targetValue n 1 ((wWindow 0 0).par OD.PRF_SUB_PATTERN) s2) (prfBand (wWindow 0 0) n) s2
      decide (((candidates { wFound with evidence := false } s1).filter fun n => !isLocked n s1).length = 6 ∧ min 255 (healthOf n s1 + healthStep (wWindow 0 0) 1) = 7 ∧ ({ wFound with evidence := false } : Found).evidence = false) && decide (t.comp = s.comp ∧ t.prf.trials = s.prf.trials ∧ t.prf.proposed = s.prf.proposed)) wCamOn = true := by decide +kernel

theorem test_ProofFramesAreCompared_8 :
    (fun s : State =>
      let t := actOn (wWindow 0 8) 0 3 wFound s
      let s1 := prfEvent EV.PRF_FINDING 1 0 (s.bump OD.FINDINGS)
      let n := ((candidates wFound s1).filter fun n => !isLocked n s1).headD 0
      let s2 := setHealth n 7 s1
      let r := prfRequest 0 n (targetValue n 1 ((wWindow 0 8).par OD.PRF_SUB_PATTERN) s2) (prfBand (wWindow 0 8) n) s2
      decide (((candidates wFound s1).filter fun n => !isLocked n s1).length = 6 ∧ min 255 (healthOf n s1 + healthStep (wWindow 0 8) 1) = 7 ∧ 7 < (wWindow 0 8).par OD.ACT_THRESHOLD) && decide (t.comp = s2.comp ∧ t.prf.trials = s.prf.trials ∧ t.prf.proposed = s.prf.proposed)) wCamOn = true := by decide +kernel

theorem test_ProofFramesAreCompared_9 :
    (fun s : State =>
      let t := actOn (wWindow 1 7) 0 3 wFound s
      let s1 := prfEvent EV.PRF_FINDING 1 0 (s.bump OD.FINDINGS)
      let n := ((candidates wFound s1).filter fun n => !isLocked n s1).headD 0
      let s2 := setHealth n 7 s1
      let r := prfRequest 0 n (targetValue n 1 ((wWindow 1 7).par OD.PRF_SUB_PATTERN) s2) (prfBand (wWindow 1 7) n) s2
      decide (((candidates wFound s1).filter fun n => !isLocked n s1).length = 6 ∧ min 255 (healthOf n s1 + healthStep (wWindow 1 7) 1) = 7 ∧ (wWindow 1 7).par OD.CONFIRM_POLICY = 1) && decide (t.comp = s2.comp ∧ t.prf.trials = s.prf.trials ∧ t.prf.proposed.map (fun (q : Proposed) => (q.port, q.nozzle, q.cls, q.seq)) = [(0, n, 1, s.prf.findingSeq)])) wCamOn = true := by decide +kernel

theorem test_ProofFramesAreCompared_10 :
    (fun s : State =>
      let t := actOn (wWindow 0 7) 0 3 wFound s
      let s1 := prfEvent EV.PRF_FINDING 1 0 (s.bump OD.FINDINGS)
      let n := ((candidates wFound s1).filter fun n => !isLocked n s1).headD 0
      let s2 := setHealth n 7 s1
      let r := prfRequest 0 n (targetValue n 1 ((wWindow 0 7).par OD.PRF_SUB_PATTERN) s2) (prfBand (wWindow 0 7) n) s2
      decide (((candidates wFound s1).filter fun n => !isLocked n s1).length = 6 ∧ min 255 (healthOf n s1 + healthStep (wWindow 0 7) 1) = 7 ∧ (wWindow 0 7).par OD.CONFIRM_POLICY = 0 ∧ s.prf.trials.length < 64 ∧ egressFree 97 s2 ≠ 0 ∧ r.1.cause = 0) && decide (t.comp = r.2.comp ∧ t.prf.trials.map (fun (x : Trial) => (x.lead, x.undo, x.band, x.waits)) = [(n, Nat.land r.1.old prfMask, r.1.band, false)])) wCamOn = true := by decide +kernel

theorem test_ProofFramesAreCompared_11 :
    (fun s : State => decide (trialWindow (wWindow 0 0) wTrial = true ∧ (judgeTrial (wWindow 0 0) 4 [] wTrial s).prf.trials = [] ∧ (judgeTrial (wWindow 0 0) 4 [] wTrial s).comp = s.comp ∧
      trialWindow (wWindow 0 0) { wTrial with band := 100 } = false)) wTried = true := by decide +kernel

theorem test_ProofFramesAreCompared_12 :
    (fun s : State =>
      let t := judgeTrial (wWindow 0 0) 4 [wFound] wTrial s
      let r := prfRequest 0 25 2048 (prfBand (wWindow 0 0) 25) s
      decide ([wFound].any wTrial.repeatedBy = true ∧ egressFree 97 s ≠ 0 ∧ isLocked 25 s = false ∧ r.1.cause = 0 ∧ t.prf.trials = [] ∧
        t.comp = (setHealth 25 0 r.2).comp ∧ t.o OD.UNRESOLVED = 1)) wTried = true := by decide +kernel

theorem test_ProofFramesAreCompared_13 :
    (fun s : State => decide ((∀ x ∈ s.prf.trials, x.port ≠ 0) ∧ s.prf.findingSeq < 65536) &&
      runs (.windowProcessed 0) s (fun t =>
        let f := { wFrame with trigPos := 612 * 65536 }
        let found := (List.range 2).flatMap fun q => classify wSummary 0 q f (columnSites wSummary 0 f s) s
        decide ((t.cams.get 0).toPrf = [] ∧ t.o OD.WINDOWS_INSPECTED = 1 ∧ t.o OD.FINDINGS = found.length ∧
          t.prf.findingSeq = s.prf.findingSeq + found.length))) wMatch = true := by decide +kernel

theorem test_ProofFramesAreCompared_14 : pathReady .mailbox ({ (wOd [(OD.EGRESS_AREA_SIZE, 0)] wCamOn) with prf := { wCamOn.prf with proposed := [wFinding] } }) ∧
    (fun s : State => decide (egressFree 98 s = 0) && runs (.confirm .mailbox 0x10005#32) s (fun t => decide (t.net.answer = .abort 0x08000020 ∧ t.prf = s.prf ∧ t.comp = s.comp))) ({ (wOd [(OD.EGRESS_AREA_SIZE, 0)] wCamOn) with prf := { wCamOn.prf with proposed := [wFinding] } }) = true :=
  ⟨by unfold pathReady pathIdle pathFree; decide +kernel, by decide +kernel⟩

theorem test_ProofFramesAreCompared_4 : pathReady .mailbox (wCamOn) ∧
    (fun s : State => decide (s.prf.proposed.find? (fun q => q.port == 1 && q.seq == 5) = none) && runs (.confirm .mailbox 0x10005#32) s (fun t => decide (t.net.answer = .abort 0x08000020 ∧ t.prf = s.prf ∧ t.comp = s.comp))) (wCamOn) = true :=
  ⟨by unfold pathReady pathIdle pathFree; decide +kernel, by decide +kernel⟩

theorem test_ProofFramesAreCompared_5 : pathReady .mailbox ({ wCamOn with prf := { wCamOn.prf with proposed := [wFinding], findingSeq := 65535 } }) ∧
    (fun s : State => decide (s.prf.proposed.find? (fun q => q.port == 1 && q.seq == 5) = some wFinding ∧ egressFree 98 s ≠ 0 ∧ isLocked 0 s = false) && runs (.confirm .mailbox 0x10005#32) s (fun t => decide (t.net.answer = .done [] ∧ t.o OD.REQUESTS = 1 ∧ t.prf.findingSeq = 0))) ({ wCamOn with prf := { wCamOn.prf with proposed := [wFinding], findingSeq := 65535 } }) = true :=
  ⟨by unfold pathReady pathIdle pathFree; decide +kernel, by decide +kernel⟩

theorem test_TimeUnitsMatchAndCapture_1 :
    (fun s : State => decide (s.ob (OD.CMP_ARM 15) = true ∧ cmpReached 15 s = true ∧ cmpEvaluated 15 s = true ∧ s.o (OD.TRIG_SOURCE 3) = 15 ∧ s.o (OD.TRIG_WIDTH 3) ≠ 0) && runs (.compareMatch 15) s (fun t => decide (t.time.matched.get 15 = true ∧ t.o (OD.CMP_MATCHES 15) = 1 ∧ t.time.pulse.get 3 = [(1004, 1009)] ∧ t.o (OD.CMP_ARM 15) = 0 ∧ t.o (OD.CMP_TARGET 15) = 1000))) (wCmp 1 1000 0) = true := by decide +kernel

theorem test_TimeUnitsMatchAndCapture_2 :
    (fun s : State => decide (s.ob (OD.CMP_ARM 15) = true ∧ cmpReached 15 s = true ∧ cmpEvaluated 15 s = true ∧ s.o (OD.CMP_PERIOD 15) ≠ 0 ∧ s.o (OD.CMP_DOMAIN 15) ≠ 2 ∧ pastTarget 15 s < s.o (OD.CMP_PERIOD 15)) && runs (.compareMatch 15) s (fun t => decide (t.time.matched.get 15 = true ∧ t.o (OD.CMP_MATCHES 15) = 1 ∧ t.time.pulse.get 3 = [(1004, 1009)] ∧ t.ob (OD.CMP_ARM 15) = true ∧ t.o (OD.CMP_TARGET 15) = 1001))) (wCmp 1 991 10) = true := by decide +kernel

theorem test_TimeUnitsMatchAndCapture_3 :
    (fun s : State => decide (cmpReached 15 s = false) && runs (.compareMatch 15) s (fun t => decide (t.od = s.od ∧ t.loc = s.loc))) (wCmp 1 1001 0) = true := by decide +kernel

theorem test_TimeUnitsMatchAndCapture_4 :
    (fun s : State => runs (.trigPulseEnd 3) s (fun t => decide (t.time.pulse.get 3 = [] ∧ (∀ k : Fin 16, k ≠ 3 → t.time.pulse.get k = [(990, 1000)]) ∧ t.od = s.od))) ({ wCmp 0 0 0 with time := { (wCmp 0 0 0).time with pulse := Vector.replicate 16 [(990, 1000)] } }) = true := by decide +kernel

theorem test_TimeUnitsMatchAndCapture_9 :
    (fun s : State => runs (.trigPulseEnd 3) s (fun t => decide (t.time.pulse.get 3 = [(990, 1001)]))) ({ wCmp 0 0 0 with time := { (wCmp 0 0 0).time with pulse := Vector.replicate 16 [(990, 1000), (990, 1001)] } }) = true := by decide +kernel

theorem test_TimeUnitsMatchAndCapture_10 :
    (fun s : State => decide (s.ob (OD.CMP_ARM 15) = true ∧ cmpReached 15 s = true ∧ cmpEvaluated 15 s = false) && runs (.compareMatch 15) s (fun t => decide (t.od = s.od ∧ t.time = s.time))) (wCmp 2 0 0) = true := by decide +kernel

theorem test_TimeUnitsMatchAndCapture_11 :
    (fun s : State => decide (s.o OD.CAP_FILTER = 4) && runs (.captureEdge 7 ⟨true, 3⟩) s (fun t => decide (t.od = s.od ∧ t.time = s.time))) (wOd [(OD.CAP_FILTER, 4), (OD.CAP_EDGE 7, 3)] (wCmp 0 0 0)) = true := by decide +kernel

theorem test_TimeUnitsMatchAndCapture_12 :
    (fun s : State => decide (s.time.level.get 7 = false) && runs (.captureEdge 7 ⟨false, 9⟩) s (fun t => decide (t.od = s.od ∧ t.time = s.time))) (wOd [(OD.CAP_EDGE 7, 3)] (wCmp 0 0 0)) = true := by decide +kernel

theorem test_TimeUnitsMatchAndCapture_13 :
    (fun s : State => decide (s.ob (OD.CMP_ARM 15) = true ∧ cmpReached 15 s = true ∧ cmpEvaluated 15 s = true ∧ s.o (OD.TRIG_SOURCE 3) = 15 ∧ s.o (OD.TRIG_WIDTH 3) = 5 ∧ s.time.pulse.get 3 = [(1001, 1003)]) && runs (.compareMatch 15) s (fun t => decide (t.time.pulse.get 3 = [(1001, 1003), (1004, 1009)] ∧ t.time.pulse.get 4 = s.time.pulse.get 4))) (let s := wCmp 1 1000 0
 { s with time := { s.time with pulse := s.time.pulse.set 3 [(1001, 1003)] } }) = true := by decide +kernel

theorem test_TimeUnitsMatchAndCapture_14 :
    (fun s : State => decide (s.ob (OD.CMP_ARM 15) = true ∧ cmpReached 15 s = true ∧ cmpEvaluated 15 s = false ∧ cmpLate 15 s = true ∧ s.time.pulse.get 3 = [(1000, 1003)]) && runs (.compareMatch 15) s (fun t => decide (t.time.pulse.get 3 = [(1000, 1009)] ∧ t.time.matched.get 15 = true))) (let s := wCmp 2 0 0
 { s with time := { s.time with pulse := s.time.pulse.set 3 [(1000, 1003)], lateArm := s.time.lateArm.set 15 true } }) = true := by decide +kernel

theorem test_TimeUnitsMatchAndCapture_5 :
    (fun s : State => decide (s.o OD.CAP_FILTER ≤ 4 ∧ s.time.level.get 7 = true ∧ s.o (OD.CAP_EDGE 7) = 2) && runs (.captureEdge 7 ⟨false, 4⟩) s (fun t => decide (t.o (OD.CAP_LOC 7) = 1000 ∧ t.o (OD.CAP_POSITION 7) = webpOf s.web.p ∧ t.o (OD.CAP_NET 7) = netNow s % 2 ^ 64 ∧ t.time.valid.get 7 = true ∧ t.time.level.get 7 = false ∧ t.o (OD.CAP_OVERRUNS 7) = 1))) (let s := wOd [(OD.CAP_EDGE 7, 2)] (wCmp 0 0 0)
 { s with time := { s.time with valid := Vector.replicate 8 true, level := Vector.replicate 8 true } }) = true := by decide +kernel

theorem test_TimeUnitsMatchAndCapture_6 :
    (fun s : State => decide (s.o OD.CAP_FILTER ≤ 4 ∧ s.time.level.get 7 = false ∧ s.o (OD.CAP_EDGE 7) = 0) && runs (.captureEdge 7 ⟨true, 4⟩) s (fun t => decide (t.o (OD.CAP_LOC 7) = 0 ∧ t.time.valid = s.time.valid ∧ t.time.level.get 7 = true))) (wCmp 0 0 0) = true := by decide +kernel

theorem test_TimeUnitsMatchAndCapture_7 :
    (fun s : State => decide (1000 < offFit s.time (10000, s.loc)) && runs (.netPairSample 10000) s (fun t => decide (t.time.pairs = [(10000, 1000)]))) (wPairs) = true := by decide +kernel

theorem test_TimeUnitsMatchAndCapture_8 :
    (fun s : State => decide (offFit s.time (3500, s.loc) ≤ 1000) && runs (.netPairSample 3500) s (fun t => decide (t.time.pairs = [(3500, 1000), (0, 0)]))) (wPairs) = true := by decide +kernel

theorem test_PaceLinkFramesAreAnswered_1 :
    (fun s : State => decide (webOn s = true) && runs (.paceLinkHello .downstream 1) s (fun t => decide (t.pace.dnVersion = min 1 (s.o OD.PACE_VERSION_LIMIT) ∧ t.pace.framesSent = [(0, s.o OD.PACE_VERSION_LIMIT), (1, 1)]))) (wPace fun p => { p with driving := true }) = true := by decide +kernel

theorem test_PaceLinkFramesAreAnswered_2 :
    (fun s : State => decide (webOn s = true) && runs (.paceLinkDown .upstream) s (fun t => decide (t.pace = { s.pace with upVersion := 0 }))) (wPace fun p => { p with upVersion := 2 }) = true := by decide +kernel

theorem test_PaceLinkFramesAreAnswered_3 :
    (fun s : State => decide (webOn s = true) && runs (.enum 255#8) s (fun t => decide (t.o OD.PACE_POSITION = 255 ∧ t.pace = { s.pace with framesSent := s.pace.framesSent ++ [(1, 0)] }))) (wPace fun p => { p with dnVersion := 1 }) = true := by decide +kernel

theorem test_PaceLinkFramesAreAnswered_4 :
    (fun s : State => decide (webOn s = true) && runs (.cycle 8 true) s (fun t => decide (t.pace.framesSent = [(2, cycleContent 8 true s), (3, b2n (busyFlag s || busyBelow s))]))) (wPace fun p => { p with dnVersion := 1, upVersion := 2 }) = true := by decide +kernel

theorem test_PaceLinkFramesAreAnswered_5 :
    (fun s : State => decide (webOn s = true) && runs (.busy true) s (fun t => decide (t.pace = { s.pace with busyIn := true, busyCycle := true }))) (wReady) = true := by decide +kernel

theorem test_PaceLinkFramesAreAnswered_6 :
    (fun s : State => decide (webOn s = true ∧ s.pace.driving = false ∧ s.o OD.SYNC_TOLERANCE ≠ 0 ∧ s.o OD.SYNC_TOLERANCE < ((s.web.p - 8 * roundRat (s.web.p / 8)) * 65536).floor.natAbs) && runs (.paceSyncIn) s (fun t => decide (t.o OD.SYNC_SKEW_LAST = 131072))) (wSkew 10) = true := by decide +kernel

theorem test_PaceLinkFramesAreAnswered_7 :
    (fun s : State => decide (webOn s = true ∧ s.pace.driving = false ∧ s.o OD.SYNC_TOLERANCE ≠ 0 ∧ ((s.web.p - 8 * roundRat (s.web.p / 8)) * 65536).floor.natAbs ≤ s.o OD.SYNC_TOLERANCE) && runs (.paceSyncIn) s (fun t => decide (t.od = s.od ∧ t.loc = s.loc))) (wSkew (17 / 2)) = true := by decide +kernel

theorem test_PaceLinkFramesAreAnswered_8 :
    (fun s : State => decide (webOn s = true) && runs (.paceSyncPulseEnd) s (fun t => decide (t.pace = { s.pace with syncPulse := false }))) (wPace fun p => { p with syncPulse := true }) = true := by decide +kernel

theorem test_MirrorPairHandsQuoinOver_1 :
    (fun s : State => decide (webOn s = true ∧ hasPartner s = true ∧ wRec.crcOk = true ∧ s.pace.driving = false ∧ wRec.cycleLine ≠ s.pace.cycleLine) && runs (.mirrorRecord wRec) s (fun t => decide (t.pace.missed = 0 ∧ t.pace.last = some wRec ∧ t.pace.everRecord = true ∧ t.o OD.PARTNER_READY = 0 ∧ t.pace.good = 16))) (wPair fun p => { p with role := 2, good := 15, missed := 1 }) = true := by decide +kernel

theorem test_MirrorPairHandsQuoinOver_2 :
    (fun s : State => decide (webOn s = true ∧ hasPartner s = true ∧ s.pace.missed ≠ 1) && runs (.heartbeatMiss) s (fun t => decide (t.pace = { s.pace with missed := 1 } ∧ t.o OD.MISSED_RECORDS = 1))) (wPair fun p => { p with role := 2 }) = true := by decide +kernel

theorem test_MirrorPairHandsQuoinOver_3 :
    (fun s : State => decide (webOn s = true ∧ hasPartner s = true ∧ s.pace.missed = 1 ∧ s.pace.role = 1 ∧ wRec.ready = true) && runs (.heartbeatMiss) s (fun t => decide (t.pace.missed = 2 ∧ t.pace.ready = false ∧ t.pace.quoinHeld = false ∧ t.pace.driving = false))) (wPair fun p => { p with role := 1, missed := 1, last := some wRec, quoinHeld := true, driving := true }) = true := by decide +kernel

theorem test_MirrorPairHandsQuoinOver_4 :
    (fun s : State => decide (webOn s = true ∧ hasPartner s = true ∧ s.pace.missed = 1 ∧ s.pace.role = 2 ∧ s.pace.ready = true) && runs (.heartbeatMiss) s (fun t => decide (t.pace.missed = 2 ∧ t.pace.ready = false ∧ t.pace.takeDue = true))) (wPair fun p => { p with role := 2, missed := 1, ready := true }) = true := by decide +kernel

theorem test_MirrorPairHandsQuoinOver_5 :
    (fun s : State => decide (webOn s = true ∧ hasPartner s = true) && runs (.mirrorHeartbeat) s (fun t => decide (t.pace = { s.pace with recordsSent := s.pace.recordsSent ++ [ownRecord s] }))) (wPair fun p => { p with role := 1 }) = true := by decide +kernel

theorem test_MirrorPairHandsQuoinOver_6 :
    (fun s : State => decide (ohlOn s = true ∧ mayTakeQuoin s = true) && runs (.quoinTake) s (fun t => decide (t.pace.quoinHeld = true ∧ t.pace.takenAt = s.loc ∧ t.pace.takeDue = false ∧ t.o OD.TAKEOVERS = 1 ∧ t.o OD.LAST_TAKEOVER_LINE = 77))) (wAt 77 77 (wPair fun p => { p with role := 2, ready := true })) = true := by decide +kernel

theorem test_MirrorPairHandsQuoinOver_7 :
    (fun s : State => decide (mayTakeQuoin s = false) && runs (.quoinTake) s (fun t => decide (t.od = s.od ∧ t.loc = s.loc))) (wReady) = true := by decide +kernel

theorem test_MirrorPairHandsQuoinOver_8 :
    (fun s : State => decide (ohlOn s = true ∧ s.pace.role = 2 ∧ s.pace.everRecord = false ∧ s.pace.quoinHeld = false) && runs (.standbyQuoinTimeout) s (fun t => decide (t.pace.quoinHeld = true ∧ t.o OD.TAKEOVERS = 1))) (wPair fun p => { p with role := 2 }) = true := by decide +kernel

theorem test_MirrorPairHandsQuoinOver_9 :
    (fun s : State => decide (webOn s = true ∧ s.pace.quoinHeld = true ∧ s.pace.driving = false) && runs (.paceOutEnable) s (fun t => decide (t.pace.driving = true ∧ t.o OD.PACE_POSITION = 0))) (wPair fun p => { p with role := 1, quoinHeld := true }) = true := by decide +kernel

theorem test_MirrorPairHandsQuoinOver_10 :
    (fun s : State => decide (webOn s = true ∧ s.pace.role = 2 ∧ 2 ≤ s.pace.missed ∧ s.pace.quoinHeld = false) && runs (.paceQuoinStuck) s (fun t => decide (t.pace = { s.pace with takeDue := false }))) (wPair fun p => { p with role := 2, missed := 2, takeDue := true }) = true := by decide +kernel

theorem test_MirrorPairHandsQuoinOver_11 :
    (fun s : State => decide (s.pace.holdPulse = true) && runs (.takeoverHoldPulseEnd) s (fun t => decide (t.pace = { s.pace with holdPulse := false } ∧ t.pins = { s.pins with holdN := !s.plat.held && s.plat.initDone }))) (wPace fun p => { p with holdPulse := true }) = true := by decide +kernel

theorem test_DramRequestsAreServed_1 :
    (fun s : State => decide (s.ddr.state = 2 ∧ dramOpen s = true ∧ s.ddr.waiting = [] ∧ wDreqW.address < s.o OD.INSTALLED_SIZE ∧ lowerToCome wDreqW s = false) && runs (.dramRequest wDreqW) s (fun t => decide (t.ddr.waiting = []) && match (vgetN (channelOf (placeNow wDreqW.address s).channel t).banks (placeNow wDreqW.address s).bank).queue with | [q] => decide (q.req.requester = 2 ∧ q.req.address = wDreqW.address ∧ q.place = placeNow wDreqW.address s ∧ t.ddr.mem = [(0xFFF84, 1#8), (0xFFF85, 2#8)]) | _ => false)) (wDdr) = true := by decide +kernel

theorem test_DramRequestsAreServed_2 :
    (fun s : State => decide (s.ddr.state = 2 ∧ dramOpen s = true ∧ s.ddr.waiting = [] ∧ (wDreq true).address < s.o OD.INSTALLED_SIZE ∧ lowerToCome (wDreq true) s = false) && runs (.dramRequest (wDreq true)) s (fun t => decide (t.ddr.waiting = []) && match (vgetN (channelOf (placeNow (wDreq true).address s).channel t).banks (placeNow (wDreq true).address s).bank).queue with | [q] => decide (q.req.requester = 2 ∧ q.req.address = (wDreq true).address ∧ q.place = placeNow (wDreq true).address s ∧ t.ddr.mem = [(0xFFFFE, 1#8), (0xFFFFF, 2#8)]) | _ => false)) (wDdr) = true := by decide +kernel

theorem test_DramRequestsAreServed_3 :
    (fun s : State => decide (s.ddr.state = 2 ∧ dramOpen s = true ∧ s.ddr.waiting = [] ∧ (wDreq false).address < s.o OD.INSTALLED_SIZE ∧ lowerToCome (wDreq false) s = false) && runs (.dramRequest (wDreq false)) s (fun t => decide (t.ddr.waiting = []) && match (vgetN (channelOf (placeNow (wDreq false).address s).channel t).banks (placeNow (wDreq false).address s).bank).queue with | [q] => decide (q.req.requester = 2 ∧ q.req.address = (wDreq false).address ∧ q.place = placeNow (wDreq false).address s ∧ t.ddr.mem = s.ddr.mem ∧ q.req.data = List.replicate 64 0#8) | _ => false)) (wDdr) = true := by decide +kernel

theorem test_DramRequestsAreServed_4 :
    (fun s : State => decide (s.ddr.state = 2 ∧ dramOpen s = true ∧ s.ddr.waiting = [] ∧ s.o OD.INSTALLED_SIZE ≤ 0x100000) && runs (.dramRequest { wDreq false with address := 0x100000 }) s (fun t => decide (t.od = s.od ∧ t.ddr = s.ddr))) (wDdr) = true := by decide +kernel

theorem test_DramRequestsAreServed_9 :
    (fun s : State => decide (s.ddr.state = 2 ∧ dramOpen s = true ∧ s.ddr.waiting = [] ∧ wDreqW.address < s.o OD.INSTALLED_SIZE ∧ lowerToCome wDreqW s = true) && runs (.dramRequest wDreqW) s (fun t => decide (t.ddr = { s.ddr with waiting := [wDreqW] }))) ({ wDdr with pending := [.dramRequest { wDreq false with requester := 1 }] }) = true := by decide +kernel

theorem test_DramRequestsAreServed_10 :
    (fun s : State => decide (s.ddr.state = 2 ∧ dramOpen s = true ∧ s.ddr.waiting = [] ∧ lowerToCome (wRead 0) s = false ∧ 8 ≤ (vgetN (channelOf (placeNow 64 s).channel s).banks (placeNow 64 s).bank).queue.length) && runs (.dramRequest (wRead 0)) s (fun t => decide (t.ddr = { s.ddr with waiting := [wRead 0] }))) (wDdr fun d => { d with channels := d.channels.map fun c => { c with banks := c.banks.map fun b => { b with queue := List.replicate 8 wQd } } }) = true := by decide +kernel

theorem test_DramRequestsAreServed_11 :
    (fun s : State => decide (s.ddr.state = 2 ∧ s.pwr.entering = some 3) && runs (.dramRequest wDreqW) s (fun t => decide (t.ddr = { s.ddr with waiting := [wRead 0, wDreqW] }))) ({ wDdr fun d => { d with waiting := [wRead 0] } with pwr := { wReady.pwr with entering := some 3 } }) = true := by decide +kernel

theorem test_queue_serves_hits_in_order :
    (serveRead 1024 (modBank 5 (fun b => { b with queue := [{ wQd with place := ⟨3, 0, 0, 5, 7⟩ }, { wQd with req := { wRead 6 with address := 128 }, place := ⟨3, 0, 0, 5, 8⟩ }], openRow := some 8 }) Channel.reset)).1 = some { wRead 6 with address := 128 } ∧
    (serveRead 1024 (modBank 5 (fun b => { b with queue := [{ wQd with place := ⟨3, 0, 0, 5, 7⟩ }, { wQd with req := wRead 6, place := ⟨3, 0, 0, 5, 8⟩ }], openRow := some 8 }) Channel.reset)).1 = some (wRead 5) := by decide +kernel

theorem test_DramRequestsAreServed_5 :
    (fun s : State => decide (s.ddr.state = 2 ∧ (serveRead 1024 (s.ddr.channels.get 3)).1 = some (wRead 5) ∧ s.ddr.eccOn = false) && runs (.dramReadReturn 3 .corrected) s (fun t => decide (t.ddr.returned = some (2, [5#8], false) ∧ t.ddr.channels.get 3 = (serveRead 1024 (s.ddr.channels.get 3)).2 ∧ t.od = s.od))) (wRet false) = true := by decide +kernel

theorem test_DramRequestsAreServed_6 :
    (fun s : State => decide (s.ddr.state = 2 ∧ (serveRead 1024 (s.ddr.channels.get 3)).1 = some (wRead 5) ∧ s.ddr.eccOn = true) && runs (.dramReadReturn 3 .clean) s (fun t => decide (t.ddr.returned = some (2, [5#8], false) ∧ t.ddr.channels.get 3 = (serveRead 1024 (s.ddr.channels.get 3)).2 ∧ t.od = s.od))) (wRet true) = true := by decide +kernel

theorem test_DramRequestsAreServed_7 :
    (fun s : State => decide (s.ddr.state = 2 ∧ (serveRead 1024 (s.ddr.channels.get 3)).1 = some (wRead 5) ∧ s.ddr.eccOn = true) && runs (.dramReadReturn 3 .corrected) s (fun t => decide (t.ddr.returned = some (2, [5#8], false) ∧ t.o OD.ECC_CORRECTED = 1 ∧ t.o OD.ECC_LAST_ADDRESS = 64))) (wRet true) = true := by decide +kernel

theorem test_DramRequestsAreServed_8 :
    (fun s : State => decide (s.ddr.state = 2 ∧ (serveRead 1024 (s.ddr.channels.get 3)).1 = some (wRead 5) ∧ s.ddr.eccOn = true) && runs (.dramReadReturn 3 .uncorrectable) s (fun t => decide (t.ddr.returned = some (2, [5#8], true) ∧ t.o OD.ECC_UNCORRECTABLE = 1 ∧ t.o OD.ECC_LAST_ADDRESS = 64))) (wRet true) = true := by decide +kernel

theorem test_DramIsKeptUp_1 :
    (fun s : State => decide (s.ddr.state = 2 ∧ s.o OD.RANKS ≤ 2 ∧ refreshBanks false 15 (s.o OD.RANKS) = [15] ∧ bankIdle (vgetN (s.ddr.channels.get 3).banks 15) = true) && runs (.refreshDue 3 false) s (fun t => decide (t.ddr.channels.get 3 = { s.ddr.channels.get 3 with refNext := 16 } ∧ t.od = s.od))) (wBanks ⟨[], none, none, 3⟩ ⟨[], some 1, none, 0⟩ 15) = true := by decide +kernel

theorem test_DramIsKeptUp_2 :
    (fun s : State => decide (s.ddr.state = 2 ∧ refreshBanks true 7 (s.o OD.RANKS) = [7, 15] ∧ bankIdle (vgetN (s.ddr.channels.get 3).banks 15) = false) && runs (.refreshDue 3 true) s (fun t => decide ((t.ddr.channels.get 3).refNext = 8 ∧ (t.ddr.channels.get 3).refPair = true ∧ vgetN (t.ddr.channels.get 3).banks 15 = ⟨[wQd], some 7, none, 7⟩ ∧ vgetN (t.ddr.channels.get 3).banks 7 = ⟨[], none, none, 1⟩ ∧ vgetN (t.ddr.channels.get 3).banks 8 = vgetN (s.ddr.channels.get 3).banks 8 ∧ t.od = s.od))) (wBanks ⟨[wQd], some 7, none, 6⟩ ⟨[], none, none, 0⟩ 7) = true := by decide +kernel

theorem test_DramIsKeptUp_3 :
    (fun s : State => decide (s.ddr.state = 2 ∧ refreshBanks true 7 (s.o OD.RANKS) = [7, 15] ∧ bankIdle (vgetN (s.ddr.channels.get 3).banks 15) = false) && runs (.refreshDue 3 true) s (fun t => decide (vgetN (t.ddr.channels.get 3).banks 15 = ⟨[wQd], none, none, 7⟩ ∧ vgetN (t.ddr.channels.get 3).banks 7 = ⟨[], none, none, 2⟩ ∧ t.o OD.REFRESH_FORCED = 1))) (wBanks ⟨[wQd], some 7, none, 7⟩ ⟨[], none, none, 2⟩ 7) = true := by decide +kernel

theorem test_DramIsKeptUp_4 :
    (fun s : State => decide (s.ddr.state = 2) && runs (.mr4Poll 3 7#8) s (fun t => decide ((t.ddr.channels.get 3).rateCode = 7 ∧ t.o OD.REFRESH_RATE = 7))) (wDdr) = true := by decide +kernel

theorem test_DramIsKeptUp_5 :
    (fun s : State => decide (s.ddr.state = 2 ∧ s.ddr.fixed = false ∧ gapForced 3 s = true) && runs (.driftTracking 3 [-5, 9] false) s (fun t => decide ((t.ddr.channels.get 3).drift.get 0 = -5 ∧ (t.ddr.channels.get 3).drift.get 1 = 9 ∧ (t.ddr.channels.get 3).drift.get 31 = 0 ∧ (t.ddr.channels.get 3).driftRaised = true ∧ (t.ddr.channels.get 3).trackAt = s.loc ∧ t.ddr.inUse = List.replicate 360 9#8 ++ [4#8, 18#8] ++ List.replicate 150 9#8))) ({ wDdr fun d => { d with inUse := List.replicate 512 9#8 } with loc := 10 ^ 12 }) = true := by decide +kernel

theorem test_DramIsKeptUp_9 :
    (fun s : State => decide (s.ddr.state = 2 ∧ s.ddr.fixed = false ∧ gapForced 3 s = false) && runs (.driftTracking 3 [1] false) s (fun t => decide (t.od = s.od ∧ t.ddr = s.ddr))) (wDdr) = true := by decide +kernel

theorem test_DramIsKeptUp_10 :
    payDebt (Channel.reset) 15 ⟨[], none, none, 3⟩ = ⟨[], none, none, 2⟩ ∧ payDebt (Channel.reset) 15 ⟨[wQd], none, none, 3⟩ = ⟨[wQd], none, none, 3⟩ ∧
    (let c := (wBanks ⟨[], none, none, 3⟩ ⟨[], some 1, none, 0⟩ 0).ddr.channels.get 3
     payDebt { c with refPair := true } 15 ⟨[], none, none, 3⟩ = ⟨[], none, none, 3⟩) := by decide +kernel

theorem test_DramIsKeptUp_11 :
    (fun s : State => decide (s.ddr.state = 2 ∧ serveRead 1024 (s.ddr.channels.get 3) = (some (writeBack 128), { s.ddr.channels.get 3 with inFlight := [] }) ∧ s.ddr.eccOn = true ∧ s.ddr.waiting = [] ∧ writtenNow 128 s = false ∧ dramOpen s = true) && runs (.dramReadReturn 3 .corrected) s (fun t => decide (t.ddr.mem = s.ddr.mem) && match (vgetN (channelOf (placeNow 128 s).channel t).banks (placeNow 128 s).bank).queue with | [q] => decide (q.req = writeBack 128) | _ => false)) (wDdr fun d => { d with eccOn := true, channels := d.channels.set 3 { d.channels.get 3 with inFlight := [writeBack 128] } }) = true := by decide +kernel

theorem test_DramIsKeptUp_6 :
    (fun s : State => decide (s.ddr.state = 2 ∧ s.ddr.fixed = true) && runs (.driftTracking 3 [5] true) s (fun t => decide (t.od = s.od ∧ t.ddr = s.ddr))) (wDdr fun d => { d with fixed := true }) = true := by decide +kernel

theorem test_DramIsKeptUp_7 :
    (fun s : State => decide (s.ddr.state = 2 ∧ s.ddr.eccOn = true ∧ s.o OD.SCRUB_PERIOD ≠ 0 ∧ 64 * 0x3FFF = s.ddr.scrubPos ∧ scrubDue s = true ∧ dramOpen s = true ∧ s.ddr.waiting = []) && runs (.scrubRead 0x3FFF) s (fun t => decide (t.ddr.scrubPos = 0 ∧ t.od = s.od ∧ t.ddr.mem = s.ddr.mem) && match (vgetN (channelOf (placeNow s.ddr.scrubPos s).channel t).banks (placeNow s.ddr.scrubPos s).bank).queue with | [q] => decide (q.req.requester = 6 ∧ q.req.address = 0x100000 - 64 ∧ q.req.write = false) | _ => false)) ({ (wDdr fun d => { d with eccOn := true, scrubPos := 0x100000 - 64 }) with loc := 400 * 1000 * 3600000 }) = true := by decide +kernel

theorem test_DramIsKeptUp_8 :
    (fun s : State => decide (s.ddr.state = 2 ∧ s.ddr.eccOn = true ∧ s.o OD.SCRUB_PERIOD ≠ 0 ∧ scrubDue s = false) && runs (.scrubRead 1) s (fun t => decide (t.ddr = s.ddr ∧ t.od = s.od))) (wDdr fun d => { d with eccOn := true, scrubPos := 64 }) = true := by decide +kernel

theorem test_DramIsKeptUp_12 :
    (fun s : State => decide (serveRead 1024 (s.ddr.channels.get 3) = (some (writeBack 128), { s.ddr.channels.get 3 with inFlight := [] }) ∧ writtenNow 128 s = true) && runs (.dramReadReturn 3 .corrected) s (fun t => decide (t.ddr.mem = s.ddr.mem ∧ t.ddr.waiting = [] ∧ (t.ddr.channels.get 3).banks = (s.ddr.channels.get 3).banks))) ({ (wDdr fun d => { d with eccOn := true, channels := d.channels.set 3 { d.channels.get 3 with inFlight := [writeBack 128] } }) with pending := [.dramRequest { requester := 2, address := 130, write := true, data := [1#8] }] }) = true := by decide +kernel

theorem test_AxisCommandsAreTaken_1 : pathReady .mailbox (wMot) ∧
    (fun s : State => decide (motionPermitted 7 s = true ∧ (s.axes.get 7).uncertain = false ∧ microOf (s.axes.get 7).x ≠ s.oi (OD.AXIS_TARGET 7)) && runs (.move .mailbox 7) s (fun t => decide (t.net.answer = .done [] ∧ (t.axes.get 7).state = .moving ∧ (t.axes.get 7).target = -3 ∧ (t.axes.get 7).x = 0 ∧ (t.axes.get 7).v = -5))) (wMot) = true :=
  ⟨by unfold pathReady pathIdle pathFree; decide +kernel, by decide +kernel⟩

theorem test_AxisCommandsAreTaken_2 : pathReady .mailbox (wMot (fun a => { a with x := fixOf (-3) })) ∧
    (fun s : State => decide (motionPermitted 7 s = true ∧ (s.axes.get 7).uncertain = false ∧ microOf (s.axes.get 7).x = s.oi (OD.AXIS_TARGET 7)) && runs (.move .mailbox 7) s (fun t => decide (t.net.answer = .done [] ∧ t.axes = s.axes))) (wMot (fun a => { a with x := fixOf (-3) })) = true :=
  ⟨by unfold pathReady pathIdle pathFree; decide +kernel, by decide +kernel⟩

theorem test_AxisCommandsAreTaken_3 : pathReady .mailbox ((wMot).setDom OD.SEGMENT_TABLE (16 * 1023) (leBytes 4 9 ++ leBytes 8 0 ++ leBytes 2 2 ++ leBytes 2 0xFFFF)) ∧
    (fun s : State => decide (motionPermitted 7 s = true ∧ (s.axes.get 7).uncertain = false ∧ 1 ≤ s.l (OD.SEG_COUNT 7) ∧ s.l (OD.SEG_FIRST 7) = 1023 ∧ (segEntry 1023 s).duration = 9) && runs (.runSegments .mailbox 7) s (fun t => decide (t.net.answer = .done [] ∧ (t.axes.get 7).state = .segments ∧ (t.axes.get 7).segment = 1023 ∧ (t.axes.get 7).segStartV = 0 ∧ (t.axes.get 7).segWaiting = bit (segEntry 1023 s).flags 1))) ((wMot).setDom OD.SEGMENT_TABLE (16 * 1023) (leBytes 4 9 ++ leBytes 8 0 ++ leBytes 2 2 ++ leBytes 2 0xFFFF)) = true :=
  ⟨by unfold pathReady pathIdle pathFree; decide +kernel, by decide +kernel⟩

theorem test_AxisCommandsAreTaken_4 : pathReady .mailbox (wMot (fun a => { a with uncertain := true })) ∧
    (fun s : State => decide (motionPermitted 7 s = true ∧ s.o (OD.HOME_INPUT 7) ≠ 0xFF) && runs (.home .mailbox 7) s (fun t => decide (t.net.answer = .done [] ∧ (t.axes.get 7).state = .homing ∧ (t.axes.get 7).homeTravel = 0 ∧ (t.axes.get 7).homeFound = false))) (wMot (fun a => { a with uncertain := true })) = true :=
  ⟨by unfold pathReady pathIdle pathFree; decide +kernel, by decide +kernel⟩

theorem test_AxisCommandsAreTaken_5 : pathReady .mailbox (wMot (fun a => { a with uncertain := true })) ∧
    (fun s : State => decide ((s.axes.get 7).uncertain = true) && runs (.move .mailbox 7) s (fun t => decide (t.net.answer = .abort 0x08000022 ∧ t.axes = s.axes))) (wMot (fun a => { a with uncertain := true })) = true :=
  ⟨by unfold pathReady pathIdle pathFree; decide +kernel, by decide +kernel⟩

theorem test_AxisCommandsAreTaken_6 : pathReady .mailbox (wMot (fun a => { a with uncertain := true })) ∧
    (fun s : State => decide ((s.axes.get 7).uncertain = true) && runs (.runSegments .mailbox 7) s (fun t => decide (t.net.answer = .abort 0x08000022 ∧ t.axes = s.axes))) (wMot (fun a => { a with uncertain := true })) = true :=
  ⟨by unfold pathReady pathIdle pathFree; decide +kernel, by decide +kernel⟩

theorem test_AxisCommandsAreTaken_7 : pathReady .mailbox (wMot (fun a => { a with state := .moving, v := 5, x := 9 })) ∧
    (fun s : State => decide ((s.axes.get 7).state.moves = true ∧ s.pending = []) && runs (.stop .mailbox 7) s (fun t => decide (t.net.answer = .done [] ∧ (t.axes.get 7).state = .idle ∧ (t.axes.get 7).v = 0 ∧ (t.axes.get 7).uncertain = true ∧ (t.axes.get 7).x = 9))) (wMot (fun a => { a with state := .moving, v := 5, x := 9 })) = true :=
  ⟨by unfold pathReady pathIdle pathFree; decide +kernel, by decide +kernel⟩

theorem test_AxisCommandsAreTaken_14 : pathReady .mailbox wMot ∧
    (fun s : State => decide ((s.axes.get 7).state.moves = false) && runs (.stop .mailbox 7) s (fun t => decide (t.net.answer = .done [] ∧ t.axes = s.axes))) wMot = true :=
  ⟨by unfold pathReady pathIdle pathFree; decide +kernel, by decide +kernel⟩

theorem test_AxisCommandsAreTaken_15 : pathReady .mailbox { wOd [(OD.FAULT_INPUT 7, 3)] (wMot (fun a => { a with state := .moving, v := 5, x := 9 })) with pending := [.faultInputLow 3] } ∧
    (fun s : State => decide (Instr.faultInputLow 3 ∈ s.pending ∧ s.o (OD.FAULT_INPUT 7) = 3) && runs (.stop .mailbox 7) s (fun t => decide (t.net.answer = .done [] ∧ t.axes = s.axes))) { wOd [(OD.FAULT_INPUT 7, 3)] (wMot (fun a => { a with state := .moving, v := 5, x := 9 })) with pending := [.faultInputLow 3] } = true :=
  ⟨by unfold pathReady pathIdle pathFree; decide +kernel, by decide +kernel⟩

theorem test_AxisCommandsAreTaken_16 : pathReady .mailbox (wLive [(OD.SEG_COUNT 7, 0)] wMot) ∧
    (fun s : State => decide (s.l (OD.SEG_COUNT 7) = 0) && runs (.runSegments .mailbox 7) s (fun t => decide (t.net.answer = .abort 0x08000022 ∧ t.axes = s.axes))) (wLive [(OD.SEG_COUNT 7, 0)] wMot) = true :=
  ⟨by unfold pathReady pathIdle pathFree; decide +kernel, by decide +kernel⟩

theorem test_AxisCommandsAreTaken_17 : pathReady .mailbox (wOd [(OD.HOME_INPUT 7, 0xFF)] wMot) ∧
    (fun s : State => decide (s.o (OD.HOME_INPUT 7) = 0xFF ∧ (s.axes.get 7).state ≠ .fault) && runs (.home .mailbox 7) s (fun t => decide (t.net.answer = .abort 0x08000022 ∧ t.axes = s.axes)) && runs (.clearFault .mailbox 7) s (fun t => decide (t.net.answer = .abort 0x08000022 ∧ t.axes = s.axes))) (wOd [(OD.HOME_INPUT 7, 0xFF)] wMot) = true :=
  ⟨by unfold pathReady pathIdle pathFree; decide +kernel, by decide +kernel⟩

theorem test_AxisCommandsAreTaken_8 : pathReady .mailbox (wMot) ∧
    (fun s : State => decide ((s.axes.get 7).state = .idle) && runs (.setPosition .mailbox 7) s (fun t => decide (t.net.answer = .done [] ∧ (t.axes.get 7).x = fixOf (-9) ∧ (t.axes.get 7).uncertain = false))) (wMot) = true :=
  ⟨by unfold pathReady pathIdle pathFree; decide +kernel, by decide +kernel⟩

theorem test_AxisCommandsAreTaken_9 : pathReady .mailbox (wMot (fun a => { a with state := .homing })) ∧
    (fun s : State => decide ((s.axes.get 7).state ≠ .idle) && runs (.setPosition .mailbox 7) s (fun t => decide (t.net.answer = .abort 0x08000022 ∧ t.axes = s.axes))) (wMot (fun a => { a with state := .homing })) = true :=
  ⟨by unfold pathReady pathIdle pathFree; decide +kernel, by decide +kernel⟩

theorem test_AxisCommandsAreTaken_10 : pathReady .mailbox (wMot (fun a => { a with state := .fault, cause := 7 })) ∧
    (fun s : State => decide ((s.axes.get 7).state = .fault) && runs (.clearFault .mailbox 7) s (fun t => decide (t.net.answer = .done [] ∧ (t.axes.get 7).cause = 0 ∧ (t.axes.get 7).state = .idle))) (wMot (fun a => { a with state := .fault, cause := 7 })) = true :=
  ⟨by unfold pathReady pathIdle pathFree; decide +kernel, by decide +kernel⟩

theorem test_AxisCommandsAreTaken_11 : pathReady .mailbox (wMotSet) ∧
    (fun s : State => decide ((s.axes.get 7).commit = false ∧ motCause 7 s = 0)) (wMotSet) = true :=
  ⟨by unfold pathReady pathIdle pathFree; decide +kernel, by decide +kernel⟩

theorem test_AxisCommandsAreTaken_12 : pathReady .mailbox (wMotSet.setDom (OD.MICROSTEP_TABLE 7) 0 [255#8, 255#8]) ∧
    (fun s : State => decide ((s.axes.get 7).commit = false ∧ motCause 7 s = 1) && runs (.motCommit (.object .mailbox) 7) s (fun t => decide (t.net.answer = .abort 0x06090030 ∧ t.o (OD.MOT_COMMIT_CAUSE 7) = 1 ∧ (t.axes.get 7).commit = false))) (wMotSet.setDom (OD.MICROSTEP_TABLE 7) 0 [255#8, 255#8]) = true :=
  ⟨by unfold pathReady pathIdle pathFree; decide +kernel, by decide +kernel⟩

theorem test_AxesAreDriven_1 :
    (fun s : State => decide (lineOn s = true ∧ (s.axes.get 7).state = .moving ∧ bridgeFault 7 s = false ∧ absRat ((wNext s).1 - (wNext s).2.1) ≤ (wNext s).2.2.2) && runs (.profileTick) s (fun t => decide ((t.axes.get 7).x = fixOf 1 ∧ (t.axes.get 7).state = .idle ∧ (t.axes.get 7).v = 0 ∧ (t.axes.get 7).commit = false ∧ t.l (OD.V_MAX 7) = s.o (OD.V_MAX 7)))) (wOd [(OD.V_MAX 7, 77)] (wMot (fun a => { a with commit := true, state := .moving, v := 1000000, target := 1 }) (wGo 1000000 1))) = true := by decide +kernel

theorem test_AxesAreDriven_2 :
    (fun s : State => decide (lineOn s = true ∧ (s.axes.get 7).state = .moving ∧ bridgeFault 7 s = false ∧ (wNext s).2.2.2 < absRat ((wNext s).1 - (wNext s).2.1) ∧ (wNext s).2.2.1 ≠ 0) && runs (.profileTick) s (fun t => decide ((t.axes.get 7).x = fixOf ((wNext s).2.1 - (wNext s).2.2.2) ∧ (t.axes.get 7).state = .moving ∧ absRat (t.axes.get 7).v = absRat (wNext s).2.2.1 ∧ (t.axes.get 7).x < 0))) (wGo 100 (-1000)) = true := by decide +kernel

theorem test_AxesAreDriven_3 :
    (fun s : State => decide (lineOn s = true ∧ (s.axes.get 7).state = .idle ∧ (s.axes.get 7).commit = true ∧ (s.axes.get 7).commitLoc ≠ s.loc + 1 ∧ bridgeFault 7 s = false) && runs (.profileTick) s (fun t => decide ((t.axes.get 7).commit = false ∧ t.l (OD.V_MAX 7) = 3 ∧ t.l (OD.RUN_CURRENT 7) = 5 ∧ t.o (OD.MOT_COMMIT_PENDING 7) = 0))) (wMot (fun a => { a with commit := true }) wMotSet) = true := by decide +kernel

theorem test_AxesAreDriven_4 :
    (fun s : State => decide (lineOn s = true ∧ (s.axes.get 7).switchLoc ≠ 0 ∧ s.loc + 1 < (s.axes.get 7).switchLoc + ticksUs) && runs (.currentSample 7 60 0) s (fun t => decide (t.od = s.od ∧ t.loc = s.loc))) (wSense 602 true) = true := by decide +kernel

theorem test_AxesAreDriven_5 :
    (fun s : State => decide (lineOn s = true ∧ (s.axes.get 7).switchLoc + ticksUs ≤ s.loc + 1 ∧ (s.axes.get 7).phaseA.overNow = true ∧ (s.axes.get 7).state ≠ .fault) && runs (.currentSample 7 0xFFFFFFFF 0) s (fun t => decide ((t.axes.get 7).phaseA.current = 100 ∧ (t.axes.get 7).phaseB.current = -100 ∧ (t.axes.get 7).phaseA.stream = List.replicate 94 true ∧ (t.axes.get 7).state = .fault ∧ (t.axes.get 7).cause = 1))) (wSense1) = true := by decide +kernel

theorem test_AxesAreDriven_10 :
    (fun s : State => decide (lineOn s = true ∧ (s.axes.get 7).switchLoc + ticksUs ≤ s.loc + 1 ∧ (s.axes.get 7).phaseA.overNow = true ∧ (s.axes.get 7).state = .fault ∧ lowCause (s.axes.get 7).cause = false) && runs (.currentSample 7 0xFFFFFFFF 0) s (fun t => decide ((t.axes.get 7).phaseA.current = 100 ∧ (t.axes.get 7).state = .fault ∧ (t.axes.get 7).cause = 1))) (let s := wSense1
 { s with axes := s.axes.set 7 { s.axes.get 7 with state := .fault, cause := 6 } }) = true := by decide +kernel

theorem test_AxesAreDriven_11 :
    (fun s : State => decide (lineOn s = true ∧ (s.axes.get 7).phaseB.legN = true ∧ (s.axes.get 7).state = .idle) && runs (.senseTimeout 7 true) s (fun t => decide ((t.axes.get 7).state = .fault ∧ (t.axes.get 7).cause = 7))) (wMot (fun a => { a with phaseB := { a.phaseB with legN := true } })) = true := by decide +kernel

theorem test_AxesAreDriven_6 :
    (fun s : State => decide (lineOn s = true) && runs (.chopOffTimeEnd 7 false) s (fun t => decide ((t.axes.get 7).phaseA.decay = false))) (wSense 0 true) = true := by decide +kernel

theorem test_AxesAreDriven_7 :
    (fun s : State => decide (lineOn s = true ∧ (s.axes.get 7).state = .idle ∧ (s.axes.get 7).phaseA.legP = true) && runs (.senseTimeout 7 false) s (fun t => decide ((t.axes.get 7).state = .fault ∧ (t.axes.get 7).cause = 7))) (wSense 0 true) = true := by decide +kernel

theorem test_AxesAreDriven_8 :
    (fun s : State => decide (lineOn s = true ∧ (s.axes.get 7).state = .idle ∧ s.o (OD.FAULT_INPUT 7) = 3) && runs (.faultInputLow 3) s (fun t => decide (t.time.level.get 3 = false ∧ (t.axes.get 7).state = .fault ∧ (t.axes.get 7).cause = 2 ∧ (t.axes.get 7).uncertain = true))) (wSense 0 true) = true := by decide +kernel

theorem test_AxesAreDriven_9 :
    (fun s : State => decide (lineOn s = true ∧ (s.axes.get 7).state = .idle ∧ (s.axes.get 7).v = 0) && runs (.holdDelayExpiry 7) s (fun t => decide ((t.axes.get 7).holding = true ∧ (t.axes.get 7).x = (s.axes.get 7).x))) (wMot) = true := by decide +kernel

theorem test_ResetsKeepTheirClasses_1 :
    (fun s : State => decide (True) && runs (.powerOnReset) s (fun t => decide (resetB 0 0 s t = true))) (wLoc) = true := by decide +kernel

theorem test_ResetsKeepTheirClasses_2 :
    (fun s : State => decide (s.boot.phase ≠ .starting) && runs (.pinReset) s (fun t => decide (resetB 1 0 s t = true))) (wLoc) = true := by decide +kernel

theorem test_ResetsKeepTheirClasses_3 :
    (fun s : State => decide (s.boot.phase ≠ .starting) && runs (.wdgReset 9#8) s (fun t => decide (resetB 2 9 s t = true))) (wLoc) = true := by decide +kernel

theorem test_ResetsKeepTheirClasses_4 :
    (fun s : State => decide (s.boot.phase ≠ .starting) && runs (.cpuFirmwareFault 2 7#8) s (fun t => decide (resetB 2 1 s t = true))) (wLoc) = true := by decide +kernel

theorem test_ResetsKeepTheirClasses_5 :
    (fun s : State => decide (s.boot.phase ≠ .starting) && runs (.crystalLoss true) s (fun t => decide (resetB 2 5 s t = true ∧ t.clk.fallback = true ∧ t.o OD.CLOCK_FAILURES = 1))) (wLoc) = true := by decide +kernel

theorem test_ResetsKeepTheirClasses_6 :
    (fun s : State => decide (s.boot.phase ≠ .starting ∧ s.pwr.state < 3) && runs (.ddrPllUnlock) s (fun t => decide (resetB 2 6 s t = true ∧ t.o OD.CLOCK_FAILURES = 1))) (wLoc) = true := by decide +kernel

theorem test_ResetsKeepTheirClasses_7 :
    (fun s : State => decide (3 ≤ s.pwr.state) && runs (.ddrPllUnlock) s (fun t => decide (t.clk = { s.clk with ddrLock := false }))) (wPwr 3) = true := by decide +kernel

theorem test_ResetsKeepTheirClasses_8 :
    (fun s : State => decide (True) && runs (.brownoutReset 1) s (fun t => decide (resetB 0 0 s t = true))) (wLoc) = true := by decide +kernel

theorem test_ResetsKeepTheirClasses_9 :
    (fun s : State => decide (s.boot.phase ≠ .starting) && runs (.brownoutReset 3) s (fun t => decide (resetB 2 7 s t = true ∧ t.o OD.BROWNOUTS = 6))) (wLoc) = true := by decide +kernel

theorem test_ResetsKeepTheirClasses_10 :
    (fun s : State => decide (s.boot.phase ≠ .starting) && runs (.brownoutReset 5) s (fun t => decide (resetB 2 8 s t = true ∧ t.o OD.BROWNOUTS = 6))) (wLoc) = true := by decide +kernel

theorem test_ResetsKeepTheirClasses_11 :
    (fun s : State => decide (s.boot.phase ≠ .starting) && runs (.brownoutReset 7) s (fun t => decide (t.pcie.linkUp = false ∧ t.boot = { s.boot with subBusy := [] } ∧ t.o OD.BROWNOUTS = 6))) ({ wLoc with boot := { wLoc.boot with subBusy := [11, 13] } }) = true := by decide +kernel

theorem test_ResetsKeepTheirClasses_14 :
    (fun s : State => decide (s.boot.phase = .starting) && runs (.brownoutReset 6) s (fun t => decide (t.pcie.linkUp = false ∧ t.boot = s.boot ∧ t.o OD.BROWNOUTS = 1))) (State.reset) = true := by decide +kernel

theorem test_ResetsKeepTheirClasses_12 :
    (fun s : State => decide (s.boot.phase = .starting ∧ s.o OD.RESET_KIND = 0) && runs (.pinReset) s (fun t => decide (t.od = s.od ∧ t.loc = s.loc))) (State.reset) = true := by decide +kernel

theorem test_ResetsKeepTheirClasses_13 :
    (fun s : State => decide (s.boot.phase = .starting ∧ s.o OD.RESET_KIND = 0) && runs (.wdgReset 9#8) s (fun t => decide (t.od = s.od ∧ t.loc = s.loc))) (State.reset) = true := by decide +kernel

theorem test_ResetCommandsAreTaken_1 : pathReady .mailbox (wLoc) ∧
    (fun s : State => decide (s.pwr.state < 2 ∧ s.pwr.exiting = false ∧ s.pwr.entering = none) && runs (.resetCommand .mailbox) s (fun t => decide (resetB 4 0 s t = true))) (wLoc) = true :=
  ⟨by unfold pathReady pathIdle pathFree; decide +kernel, by decide +kernel⟩

theorem test_ResetCommandsAreTaken_2 : pathIdle .mailbox ({ wPwr 2 with pwr := { (wPwr 2).pwr with resetWaiting := [(1, 13)] } }) ∧
    (fun s : State => decide (2 ≤ s.pwr.state) && runs (.resetCommand .mailbox) s (fun t => decide (t.net.answer = .done [] ∧ t.pwr.resetWaiting = s.pwr.resetWaiting ++ [(0, 0)] ∧ t.pwr.exiting = true ∧ t.boot = s.boot))) ({ wPwr 2 with pwr := { (wPwr 2).pwr with resetWaiting := [(1, 13)] } }) = true :=
  ⟨by unfold pathIdle pathFree; decide +kernel, by decide +kernel⟩

theorem test_ResetCommandsAreTaken_3 : pathReady .mailbox (wOd [(OD.QUAD_ERRORS, 9), (OD.PRESET_LINE, 3)] { wReady with pwr := State.reset.pwr }) ∧
    (fun s : State => decide (subNumber 13 = true ∧ formesBusy s = false ∧ s.pwr.state < 2 ∧ s.pwr.exiting = false ∧ s.pwr.entering = none) && runs (.subReset .mailbox 13#8) s (fun t => decide (t.net.answer = .done [] ∧ t.boot = { s.boot with subBusy := [13] } ∧ t.o OD.QUAD_ERRORS = dfltOf OD.QUAD_ERRORS ∧ ownerOf OD.QUAD_ERRORS = 13 ∧ clsOf OD.PRESET_LINE = .v ∧ t.o OD.PRESET_LINE = 0))) (wOd [(OD.QUAD_ERRORS, 9), (OD.PRESET_LINE, 3)] { wReady with pwr := State.reset.pwr }) = true :=
  ⟨by unfold pathReady pathIdle pathFree; decide +kernel, by decide +kernel⟩

theorem test_ResetCommandsAreTaken_6 : pathIdle .mailbox (wPwr 3) ∧
    (fun s : State => decide (subNumber 19 = true ∧ subHeld 19 = false ∧ 2 ≤ s.pwr.state) && runs (.subReset .mailbox 19#8) s (fun t => decide (t.net.answer = .done [] ∧ t.pwr.resetWaiting = s.pwr.resetWaiting ++ [(1, 19)] ∧ t.pwr.exiting = true ∧ t.boot = s.boot))) (wPwr 3) = true :=
  ⟨by unfold pathIdle pathFree; decide +kernel, by decide +kernel⟩

theorem test_ResetCommandsAreTaken_4 : pathReady .mailbox (wReady) ∧
    (fun s : State => decide (subNumber 7 = false) && runs (.subReset .mailbox 7#8) s (fun t => decide (t.net.answer = .abort 0x06090030 ∧ t.boot = s.boot))) (wReady) = true :=
  ⟨by unfold pathReady pathIdle pathFree; decide +kernel, by decide +kernel⟩

theorem test_ResetCommandsAreTaken_5 :
    (fun s : State => decide (s.boot.subBusy = [11, 13]) && runs (.pwrSubResetDone) s (fun t => decide (t.boot = { s.boot with subBusy := [13] } ∧ t.plat.initDone = true ∧ t.pins.holdN = true))) ({ wReady with boot := { wReady.boot with subBusy := [11, 13] }, plat := Plat.reset, pins := { wReady.pins with holdN := false } }) = true := by decide +kernel

theorem test_StartEndsReadyFailedOrBare_1 :
    (fun s : State => decide (s.boot.phase = .starting ∧ s.srv.waiting = [] ∧ wReport.stopsIn = none) && runs (.start wReport) s (fun t => decide (t.boot.phase = .ready ∧ t.boot.mirrorFails = 0 ∧ t.o OD.FAILED_STARTS = 0 ∧ t.o OD.ACTIVE_SLOT = t.boot.running ∧ t.o OD.TRIAL = 0 ∧ t.o OD.START_TIME = 3000 ∧ t.plat.initDone = true ∧ t.pins.holdN = true))) (wStarting 0 0) = true := by decide +kernel

theorem test_StartEndsReadyFailedOrBare_2 :
    (fun s : State => decide (s.boot.phase = .starting ∧ s.o OD.RESET_KIND = 0) && runs (.start { wReport with testMode := true, refBypass := true }) s (fun t => decide (t.boot = { s.boot with testMode := true } ∧ t.net = s.net ∧ t.od = s.od ∧ t.clk.bypass = true))) (wStarting 0 0) = true := by decide +kernel

theorem test_StartEndsReadyFailedOrBare_3 :
    (fun s : State => decide (s.boot.phase = .starting ∧ s.o OD.RESET_KIND < 3 ∧ cutBy 1 wReport = false) && runs (.start { wReport with pllLocks := false }) s (fun t => decide (t.boot.phase = .starting ∧ t.boot.mirrorCause = 6 ∧ t.o OD.RESET_KIND = 2 ∧ t.o OD.RESET_DETAIL = 2))) (wStarting 2 0) = true := by decide +kernel

theorem test_StartEndsReadyFailedOrBare_4 :
    (fun s : State => decide (s.boot.phase = .starting ∧ s.srv.waiting = [] ∧ 3 ≤ s.o OD.RESET_KIND ∧ cutBy 2 wReport = false ∧ (choosePair wReport.pairOk s.tymp).isSome = true ∧ s.boot.counted = false ∧ failedStarts (readPair (choosePair wReport.pairOk s.tymp) (forwardFrames s)) < 3 ∧ chooseSlot true (revertTrial (verifySlots true (countStart false (readPair (choosePair wReport.pairOk s.tymp) (forwardFrames s))))) = some 0) && runs (.start wReport) s (fun t => decide (t.boot.phase = .ready ∧ t.boot.running = 0))) (wStarting 3 2) = true := by decide +kernel

theorem test_StartEndsReadyFailedOrBare_7 :
    (fun s : State => decide (s.boot.phase = .starting ∧ 3 ≤ s.o OD.RESET_KIND ∧ s.boot.counted = false ∧ failedStarts (readPair (choosePair wReport.pairOk s.tymp) (forwardFrames s)) = 2) && runs (.start { wReport with stopsIn := some 3 }) s (fun t => decide (t.boot.phase = .starting ∧ t.boot.counted = true ∧ t.boot.mirrorFails = 3 ∧ t.o OD.FAILED_STARTS = 3))) (wStarting 4 2) = true := by decide +kernel

theorem test_StartEndsReadyFailedOrBare_8 :
    (fun s : State => decide (s.boot.phase = .starting ∧ 3 ≤ s.o OD.RESET_KIND ∧ cutBy 1 { wReport with stopsIn := some 1 } = true) && runs (.start { wReport with stopsIn := some 1 }) s (fun t => decide (t.boot = s.boot ∧ t.od = s.od ∧ t.net.forwarding = true))) (wStarting 4 2) = true := by decide +kernel

theorem test_StartEndsReadyFailedOrBare_9 :
    (fun s : State => decide (s.boot.phase = .starting ∧ s.boot.testMode = true) && runs (.startWatchdog) s (fun t => decide (t = s))) ({ wStarting 0 0 with boot := { (wStarting 0 0).boot with testMode := true } }) = true := by decide +kernel

theorem test_StartEndsReadyFailedOrBare_10 :
    (fun s : State => decide (s.boot.phase = .starting ∧ 3 ≤ s.o OD.RESET_KIND ∧ s.boot.testMode = true) && runs (.start wReport) s (fun t => decide (t.boot = s.boot ∧ t.net = s.net ∧ t.od = s.od))) ({ wStarting 4 0 with boot := { (wStarting 4 0).boot with testMode := true } }) = true := by decide +kernel

theorem test_StartEndsReadyFailedOrBare_11 :
    (fun s : State => decide (s.boot.phase = .starting ∧ 3 ≤ s.o OD.RESET_KIND ∧ s.boot.counted = false ∧ failedStarts (readPair (choosePair wReport.pairOk s.tymp) (forwardFrames s)) = 2 ∧ (readPair (choosePair wReport.pairOk s.tymp) (forwardFrames s)).ob OD.TRIAL = true) && runs (.start { wReport with stopsIn := some 4 }) s (fun t => decide (t.boot.phase = .starting ∧ t.o OD.ACTIVE_SLOT = 1 - s.o OD.ACTIVE_SLOT ∧ t.o OD.TRIAL = 0 ∧ t.o OD.FAILED_STARTS = 3))) { wStarting 4 2 with tymp := { (wStarting 4 2).tymp with objs := [(OD.TRIAL, 1)] } } = true := by decide +kernel

theorem test_StartEndsReadyFailedOrBare_5 :
    (fun s : State => decide (s.boot.phase = .starting ∧ s.srv.waiting = [] ∧ 3 ≤ s.o OD.RESET_KIND ∧ s.boot.counted = false ∧ choosePair (Vector.replicate 2 false) s.tymp = none ∧ 3 ≤ failedStarts s ∧ lastCause s = 5) && runs (.start { wReport with pairOk := Vector.replicate 2 false }) s (fun t => decide (t.boot.phase = .bare ∧ t.o OD.BARE_CAUSE = 5))) (wStarting 3 3) = true := by decide +kernel

theorem test_StartEndsReadyFailedOrBare_6 :
    (fun s : State => decide (s.boot.phase = .starting) && runs (.startWatchdog) s (fun t => decide (t.boot.phase = .starting ∧ t.boot.mirrorCause = 3 ∧ t.o OD.RESET_KIND = 2 ∧ t.o OD.RESET_DETAIL = 2))) (wStarting 0 0) = true := by decide +kernel

theorem test_BootCommandsWriteTheirRecord_1 : pathReady .mailbox (wBootJ) ∧
    (fun s : State => decide (s.tymp.blocked = false ∧ (match activateRecord 0 s with | some p => journalRoom p s | none => false) = true) && runs (.activateA .mailbox) s (fun t => decide (t.tymp.open_ = (activateRecord 0 s).toList.map (fun p => ⟨p, .answer .mailbox []⟩) ∧ t.srv.busy = true))) (wBootJ) = true :=
  ⟨by unfold pathReady pathIdle pathFree; decide +kernel, by decide +kernel⟩

theorem test_BootCommandsWriteTheirRecord_2 : pathReady .mailbox ({ wReady with boot := { wReady.boot with slots := Vector.replicate 2 ⟨.invalid, 0, [], false⟩ } }) ∧
    (fun s : State => decide (activateRecord 0 s = none) && runs (.activateA .mailbox) s (fun t => decide (t.net.answer = .abort 0x08000020 ∧ t.tymp = s.tymp))) ({ wReady with boot := { wReady.boot with slots := Vector.replicate 2 ⟨.invalid, 0, [], false⟩ } }) = true :=
  ⟨by unfold pathReady pathIdle pathFree; decide +kernel, by decide +kernel⟩

theorem test_BootCommandsWriteTheirRecord_3 : pathReady .mailbox (wBootJ) ∧
    (fun s : State => decide (s.tymp.blocked = false ∧ (match activateRecord 1 s with | some p => journalRoom p s | none => false) = true) && runs (.activateB .mailbox) s (fun t => decide (t.tymp.open_ = (activateRecord 1 s).toList.map (fun p => ⟨p, .answer .mailbox []⟩) ∧ t.srv.busy = true))) (wBootJ) = true :=
  ⟨by unfold pathReady pathIdle pathFree; decide +kernel, by decide +kernel⟩

theorem test_BootCommandsWriteTheirRecord_4 : pathReady .mailbox ({ wReady with boot := { wReady.boot with slots := Vector.replicate 2 ⟨.invalid, 0, [], false⟩ } }) ∧
    (fun s : State => decide (activateRecord 1 s = none) && runs (.activateB .mailbox) s (fun t => decide (t.net.answer = .abort 0x08000020 ∧ t.tymp = s.tymp))) ({ wReady with boot := { wReady.boot with slots := Vector.replicate 2 ⟨.invalid, 0, [], false⟩ } }) = true :=
  ⟨by unfold pathReady pathIdle pathFree; decide +kernel, by decide +kernel⟩

theorem test_BootCommandsWriteTheirRecord_5 : pathReady .mailbox (wBootJ) ∧
    (fun s : State => decide (s.tymp.blocked = false ∧ journalRoom (restartRecord s) s = true) && runs (.restart .mailbox) s (fun t => decide (t.tymp.open_ = [⟨restartRecord s, .answer .mailbox [(OD.BOOT_COMMAND, [3])]⟩] ∧ t.srv.busy = true ∧ t.pwr.restartWaiting = true))) (wBootJ) = true :=
  ⟨by unfold pathReady pathIdle pathFree; decide +kernel, by decide +kernel⟩

theorem test_BootCommandsWriteTheirRecord_9 : pathReady .mailbox ({ wBootJ with tymp := { wBootJ.tymp with logBytes := logSector } }) ∧
    (fun s : State => decide (s.tymp.blocked = false ∧ s.tymp.state ≠ 4 ∧ journalRoom (restartRecord s) s = false) && runs (.restart .mailbox) s (fun t => decide (t.tymp.state = 2 ∧ t.tymp.open_ = [] ∧ t.tymp.stalled = [⟨restartRecord s, .answer .mailbox [(OD.BOOT_COMMAND, [3])]⟩] ∧ t.srv.busy = true ∧ t.pwr.restartWaiting = true))) ({ wBootJ with tymp := { wBootJ.tymp with logBytes := logSector } }) = true :=
  ⟨by unfold pathReady pathIdle pathFree; decide +kernel, by decide +kernel⟩

theorem test_BootCommandsWriteTheirRecord_10 : pathReady .mailbox ({ wBootJ with tymp := { wBootJ.tymp with state := 4 } }) ∧
    (fun s : State => decide (s.tymp.state = 4 ∧ s.tymp.open_ = [] ∧ s.tymp.stalled = []) && runs (.restart .mailbox) s (fun t => decide (t.boot.phase = .starting ∧ t.boot.mirrorFails = 0 ∧ t.o OD.RESET_KIND = 2 ∧ t.o OD.RESET_DETAIL = 3))) ({ wBootJ with tymp := { wBootJ.tymp with state := 4 }, boot := { wBootJ.boot with mirrorFails := 3, phase := .ready } }) = true :=
  ⟨by unfold pathReady pathIdle pathFree; decide +kernel, by decide +kernel⟩

theorem test_BootCommandsWriteTheirRecord_6 : pathReady .mailbox ({ wReady with tymp := { wReady.tymp with state := 4, seq := 77 } }) ∧
    (fun s : State => decide (s.tymp.state = 4) && runs (.journalFormat .mailbox) s (fun t => decide (t.net.answer = .done [] ∧ t.tymp.state = 2 ∧ t.tymp.objs = [] ∧ t.tymp.logBytes = 0 ∧ t.tymp.seq = s.tymp.seq))) ({ wReady with tymp := { wReady.tymp with state := 4, seq := 77 } }) = true :=
  ⟨by unfold pathReady pathIdle pathFree; decide +kernel, by decide +kernel⟩

theorem test_BootCommandsWriteTheirRecord_7 : pathReady .mailbox (wBootJ) ∧
    (fun s : State => decide (s.tymp.state ≠ 4) && runs (.journalFormat .mailbox) s (fun t => decide (t.net.answer = .abort 0x08000020 ∧ t.tymp = s.tymp))) (wBootJ) = true :=
  ⟨by unfold pathReady pathIdle pathFree; decide +kernel, by decide +kernel⟩

theorem test_BootCommandsWriteTheirRecord_8 :
    (fun s : State => decide (s.tymp.state = 2 ∧ s.tymp.stalled = [] ∧ s.pwr.restartWaiting = false ∧ s.srv.waiting = [] ∧ 4 * s.tymp.snapBytes < 3 * logSector) && runs (.tympCompactionDone) s (fun t => decide (t.tymp.state = 1 ∧ t.tymp.pair = 1 - s.tymp.pair ∧ t.tymp.generation = s.tymp.generation + 1 ∧ t.tymp.logBytes = s.tymp.snapBytes ∧ t.tymp.spare = some s.tymp.inUse ∧ t.o OD.COMPACTIONS = 1))) ({ wReady with tymp := { wReady.tymp with state := 2, snapBytes := 3145727 } }) = true := by decide +kernel

theorem test_BootCommandsWriteTheirRecord_11 :
    (fun s : State => decide (s.tymp.state = 2 ∧ s.tymp.generation = 0xFFFFFFFE) && runs (.tympCompactionDone) s (fun t => decide (t.tymp.generation = 1 ∧ t.o OD.COMPACTIONS = 1))) ({ wReady with tymp := { wReady.tymp with state := 2, snapBytes := 100, generation := 0xFFFFFFFE } }) = true := by decide +kernel

theorem test_BootCommandsWriteTheirRecord_12 :
    (fun s : State => decide (s.tymp.state = 2 ∧ s.tymp.generation = 0) && runs (.tympCompactionDone) s (fun t => decide (t.tymp.generation = 1 ∧ t.tymp.spare = none ∧ t.o OD.COMPACTIONS = s.o OD.COMPACTIONS))) ({ wReady with tymp := { wReady.tymp with state := 2, snapBytes := 100, generation := 0 } }) = true := by decide +kernel

theorem test_PowerStatesAreEnteredAndLeft_1 :
    (fun s : State => decide (2 ≤ s.pwr.state) && runs (.scheduledWake) s (fun t => decide (t.pwr = { s.pwr with exiting := true, entering := none }))) (wPw 2 fun p => { p with entering := some 3 }) = true := by decide +kernel

theorem test_PowerStatesAreEnteredAndLeft_11 :
    (fun s : State => decide (s.pwr.state < 2 ∧ s.pwr.entering.isSome = true) && runs (.scheduledWake) s (fun t => decide (t.pwr = { s.pwr with exiting := true, entering := none }))) (wPw 1 fun p => { p with entering := some 2 }) = true := by decide +kernel

theorem test_PowerStatesAreEnteredAndLeft_2 :
    (fun s : State => decide (s.pwr.state < 2 ∧ s.pwr.entering = none) && runs (.scheduledWake) s (fun t => decide (t.od = s.od ∧ t.pwr = s.pwr))) (wPw 1) = true := by decide +kernel

theorem test_PowerStatesAreEnteredAndLeft_3 :
    (fun s : State => decide (s.pwr.exiting = true ∧ s.pwr.resetWaiting = [] ∧ s.pwr.held = [] ∧ s.srv.waiting = [] ∧ 2 ≤ s.pwr.state) && runs (.powerExitComplete wTrain1) s (fun t => decide (t.pwr.exiting = false ∧ t.pwr.state ≤ 1))) (wPw 2 (fun p => { p with exiting := true })) = true := by decide +kernel

theorem test_PowerStatesAreEnteredAndLeft_4 :
    (fun s : State => decide (s.pwr.exiting = true ∧ s.pwr.resetWaiting = [] ∧ s.pwr.held = [] ∧ s.srv.waiting = [] ∧ 2 ≤ s.pwr.state) && runs (.powerExitComplete wTrain1) s (fun t => decide (t.pwr.exiting = false ∧ t.pwr.state ≤ 1))) (wPw 4 (fun p => { p with exiting := true })) = true := by decide +kernel

theorem test_PowerStatesAreEnteredAndLeft_5 :
    (fun s : State => decide (s.pwr.exiting = true ∧ s.pwr.resetWaiting = [] ∧ s.pwr.held = [] ∧ s.srv.waiting = [] ∧ s.pwr.state = 3 ∧ s.ddr.state = 3 ∧ s.ddr.waiting = [] ∧ s.ddr.fixed = true) && runs (.powerExitComplete wTrain1) s (fun t => decide (t.pwr.exiting = false ∧ t.pwr.state ≤ 1 ∧ t.clk.ddrLock = true ∧ t.ddr = { s.ddr with state := 2, channels := s.ddr.channels.map fun c => { c with state := 2 } }))) ({ wPw 3 (fun p => { p with exiting := true }) with ddr := { (wPw 3).ddr with fixed := true } }) = true := by decide +kernel

theorem test_PowerStatesAreEnteredAndLeft_12 :
    (fun s : State => decide (s.pwr.exiting = true ∧ s.pwr.resetWaiting = [] ∧ s.pwr.held = [] ∧ s.srv.waiting = [] ∧ s.pwr.state = 3 ∧ s.ddr.state = 3 ∧ s.ddr.waiting = [] ∧ s.ddr.fixed = false) && runs (.powerExitComplete { wTrain1 with drift := [[], [], [], [2, -3]] }) s (fun t => decide (t.ddr.state = 2 ∧ t.clk.ddrLock = true ∧ t.ddr.mem = s.ddr.mem ∧ ((t.ddr.channels.get 3).drift.get 1) = -3 ∧ ((t.ddr.channels.get 0).drift.get 1) = 0 ∧ (t.ddr.channels.get 3).trackAt = s.loc))) (wPw 3 (fun p => { p with exiting := true })) = true := by decide +kernel

theorem test_PowerStatesAreEnteredAndLeft_6 :
    (fun s : State => decide (s.pwr.exiting = true) && runs (.pwrWakeLate 9#8) s (fun t => decide (t.o OD.WAKE_LATE = 1))) (wPw 3 (fun p => { p with exiting := true })) = true := by decide +kernel

theorem test_PowerStatesAreEnteredAndLeft_7 :
    (fun s : State => decide (s.pwr.entering = some 2 ∧ stillFits 2 { s with pwr := { s.pwr with entering := none } } = true) && runs (.powerEntryComplete) s (fun t => decide (t.pwr.state = 2 ∧ t.pwr.entering = none ∧ t.ddr = s.ddr))) (wPw 1 (fun p => { p with entering := some 2 })) = true := by decide +kernel

theorem test_PowerStatesAreEnteredAndLeft_8 :
    (fun s : State => decide (s.pwr.entering = some 3 ∧ stillFits 3 { s with pwr := { s.pwr with entering := none } } = true) && runs (.powerEntryComplete) s (fun t => decide (t.pwr.state = 3 ∧ t.pwr.entering = none ∧ t.ddr.state = 3 ∧ t.ddr.mem = s.ddr.mem ∧ t.clk.ddrLock = false ∧ t.disp.panelOn = false ∧ t.disp.pending = none))) (wPw 2 (fun p => { p with entering := some 3 })) = true := by decide +kernel

theorem test_PowerStatesAreEnteredAndLeft_13 :
    (fun s : State => decide (s.pwr.entering = some 3 ∧ s.pwr.state ≠ 3 ∧ stillFits 3 { s with pwr := { s.pwr with entering := none } } = false) && runs (.powerEntryComplete) s (fun t => decide (t.ddr = s.ddr ∧ t.disp = s.disp ∧ t.pwr.state ≠ 3))) ({ wPw 2 (fun p => { p with entering := some 3 }) with srv := { wReady.srv with busy := true } }) = true := by decide +kernel

theorem test_PowerStatesAreEnteredAndLeft_9 :
    (fun s : State => decide (s.pwr.entering = some 4 ∧ sleepPermitted { s with pwr := { s.pwr with entering := none } } = true)) ({ wSleep with pwr := { wSleep.pwr with entering := some 4 } }) = true := by decide +kernel

theorem test_PowerStatesAreEnteredAndLeft_10 :
    (fun s : State => decide (s.pwr.entering = some 4 ∧ sleepPermitted { s with pwr := { s.pwr with entering := none } } = false) && runs (.powerEntryComplete) s (fun t => decide (t.ddr = s.ddr ∧ t.live = s.live ∧ t.pwr.state = 3))) (wOd [(OD.CMP_ARM 15, 1)] { wSleep with pwr := { wSleep.pwr with entering := some 4 } }) = true := by decide +kernel

theorem test_PowerStatesAreEnteredAndLeft_17 :
    (fun s : State => decide (s.pwr.entering = some 2 ∧ s.pending.any (demands { s with pwr := { s.pwr with entering := none } }) = true) && runs (.powerEntryComplete) s (fun t => decide (t = { s with pwr := { s.pwr with entering := none } }))) ({ wPw 1 (fun p => { p with entering := some 2 }) with pending := [.scheduledWake] }) = true := by decide +kernel

theorem test_PowerStatesAreEnteredAndLeft_14 :
    (fun s : State => decide (s.pending = []) && runs (.pwrBrownoutWarn 7) s (fun t => decide (t.o OD.SUPPLY_STATUS = 128 ∧ t.dev ≠ s.dev))) (wReady) = true := by decide +kernel

theorem test_PowerStatesAreEnteredAndLeft_16 :
    (fun s : State => decide (s.pending = [.brownoutReset 7]) && runs (.pwrBrownoutWarn 7) s (fun t => decide (t.o OD.SUPPLY_STATUS = 128 ∧ t.dev = s.dev))) ({ wReady with pending := [.brownoutReset 7] }) = true := by decide +kernel

theorem test_PowerStatesAreEnteredAndLeft_15 :
    (fun s : State => decide (bit (s.o OD.SUPPLY_STATUS) 7 = true) && runs (.pwrBrownoutClear 7) s (fun t => decide (t.o OD.SUPPLY_STATUS = 127))) (wOd [(OD.SUPPLY_STATUS, 255)] wReady) = true := by decide +kernel

theorem test_DieTemperatureIsWatched_1 :
    (fun s : State => decide (s.pwr.state ≠ 4 ∧ s.oi OD.TEMP_HIGH_LIMIT ≤ 32767 ∧ s.pwr.tempArmed = true) && runs (.junctionTempSample (32767)) s (fun t => decide (t.oi OD.JUNCTION_TEMP = 32767 ∧ t.pwr.tempArmed = false ∧ t.dev ≠ s.dev ∧ t.oi OD.JUNCTION_MAX = max (32767) (s.oi OD.JUNCTION_MAX)))) (wReady) = true := by decide +kernel

theorem test_DieTemperatureIsWatched_2 :
    (fun s : State => decide (-32768 < s.oi OD.TEMP_HIGH_LIMIT - 50) && runs (.junctionTempSample (-32768)) s (fun t => decide (t.oi OD.JUNCTION_TEMP = -32768 ∧ t.pwr.tempArmed = true ∧ t.dev = s.dev ∧ t.oi OD.JUNCTION_MAX = max (-32768) (s.oi OD.JUNCTION_MAX)))) (wReady) = true := by decide +kernel

theorem test_DieTemperatureIsWatched_3 :
    (fun s : State => decide (s.pwr.state ≠ 4 ∧ s.oi OD.TEMP_HIGH_LIMIT = 1050 ∧ s.pwr.tempArmed = false) && runs (.junctionTempSample 1050) s (fun t => decide (t.pwr = s.pwr ∧ t.dev = s.dev ∧ t.pcie = s.pcie))) (let s := wReady
 { s with pwr := { s.pwr with tempArmed := false } }) = true := by decide +kernel

theorem test_DieTemperatureIsWatched_4 :
    (fun s : State => decide (s.pwr.state ≠ 4 ∧ s.oi OD.TEMP_HIGH_LIMIT = 1050 ∧ s.pwr.tempArmed = false) && runs (.junctionTempSample 1000) s (fun t => decide (t.pwr = s.pwr ∧ t.dev = s.dev ∧ t.pcie = s.pcie))) (let s := wReady
 { s with pwr := { s.pwr with tempArmed := false } }) = true := by decide +kernel

theorem test_DieTemperatureIsWatched_5 :
    (fun s : State => decide (s.pwr.state ≠ 4 ∧ s.oi OD.TEMP_HIGH_LIMIT = 1050 ∧ s.pwr.tempArmed = false) && runs (.junctionTempSample 999) s (fun t => decide (t.pwr = { s.pwr with tempArmed := true } ∧ t.dev = s.dev))) (let s := wReady
 { s with pwr := { s.pwr with tempArmed := false } }) = true := by decide +kernel

theorem test_TestPortObeysItsLock_1 :
    (fun s : State => decide (s.sec.unlocked = false) && runs (.debugInstruction 3) s (fun t => decide (t.pins = { s.pins with jtagOut := 0 }))) (wReady) = true := by decide +kernel

theorem test_SleepNeedsAllItsConditions_1 :
    (fun s : State => decide (s.pwr.exiting = false ∧ s.pwr.entering = none ∧ (s.o OD.DEEPEST_STATE = 4 ∧ s.pwr.state = 3 ∧ (s.formes.toList.all fun f => f.state == .empty || f.state == .retired) = true ∧ ringsPending s = false ∧ (∀ u : Fin 16, s.ob (OD.CMP_ARM u) = false) ∧ s.pace.role = 0 ∧ (s.pace.upVersion = 0 ∨ s.pace.dnVersion = 0) ∧ (s.pcie.perst = false ∨ s.pcie.trained = false ∨ (s.pcie.d3hot = true ∧ s.pcie.l23 = true)) ∧ (∀ a : Fin 8, (s.axes.get a).state ≠ .moving ∧ (s.axes.get a).state ≠ .homing ∧ (s.axes.get a).state ≠ .segments) ∧ fits 40000 (slackOf (calendar false s) s) = true)) && runs (.sleepIdleExpiry) s (fun t => decide (t.pwr.entering = some 4 ∧ t.od = s.od))) (wSleep) = true := by decide +kernel

theorem test_SleepNeedsAllItsConditions_2 :
    (fun s : State => decide (s.pwr.exiting = false ∧ s.pwr.entering = none) && runs (.sleepIdleExpiry) s (fun t => decide (t.od = s.od ∧ t.loc = s.loc))) (wOd [(OD.DEEPEST_STATE, 3)] wSleep) = true := by decide +kernel

theorem test_SleepNeedsAllItsConditions_3 :
    (fun s : State => decide (s.pwr.exiting = false ∧ s.pwr.entering = none) && runs (.sleepIdleExpiry) s (fun t => decide (t.od = s.od ∧ t.loc = s.loc))) (wOd [(OD.CMP_ARM 15, 1)] wSleep) = true := by decide +kernel

theorem test_SleepNeedsAllItsConditions_4 :
    (fun s : State => decide (s.pwr.exiting = false ∧ s.pwr.entering = none) && runs (.sleepIdleExpiry) s (fun t => decide (t.od = s.od ∧ t.loc = s.loc))) (wPace (fun p => { p with role := 1 }) wSleep) = true := by decide +kernel

theorem test_SleepNeedsAllItsConditions_5 :
    (fun s : State => decide (s.pwr.entering = some 4 ∧ sleepPermitted { s with pwr := { s.pwr with entering := none } } = true ∧ s.o OD.QUAD_ERRORS = 5 ∧ clsOf OD.QUAD_ERRORS = .v ∧ netObject OD.QUAD_ERRORS = false)) (wOd [(OD.QUAD_ERRORS, 5)] { wSleep with pwr := { wSleep.pwr with entering := some 4 } }) = true := by decide +kernel

theorem test_DisplayPushesArePublished_1 : pathReady .mailbox ((wDisp).setDom OD.PUSH_BUFFER 0 []) ∧
    (fun s : State => decide (s.o OD.HOST_CELLS < 2 ^ 24 ∧ s.o OD.LINE_MATCH < 64 ∧ pushCause 255 2 s = 1) && runs (.dispPush (.object .mailbox) 255#8 2#16) s (fun t => decide (t.net.answer = .abort 0x06090030 ∧ t.disp.pending = none ∧ t.disp.cause = 1))) ((wDisp).setDom OD.PUSH_BUFFER 0 []) = true :=
  ⟨by unfold pathReady pathIdle pathFree; decide +kernel, by decide +kernel⟩

theorem test_DisplayPushesArePublished_2 : pathReady .mailbox (wDisp) ∧
    (fun s : State => decide (s.o OD.HOST_CELLS < 2 ^ 24 ∧ s.o OD.LINE_MATCH < 64 ∧ pushCause 255 0 s = 0) && runs (.dispPush (.object .mailbox) 255#8 0#16) s (fun t => decide (t.net.answer = .done [] ∧ t.disp.pending = some ⟨[], false⟩ ∧ t.o OD.PUSH_FIRST = 255 ∧ t.o OD.PUSH_COUNT = 0))) (wDisp) = true :=
  ⟨by unfold pathReady pathIdle pathFree; decide +kernel, by decide +kernel⟩

theorem test_DisplayPushesArePublished_3 :
    (fun s : State => decide (lineOn s = true ∧ s.disp.running = none) && runs (.dispTeBlank) s (fun t => decide (t.disp.pending = none ∧ t.disp.running = some wPush ∧ t.disp.rowsSent = 0 ∧ t.disp.scanNext = 0))) (wDisp fun d => { d with pending := some wPush, rowsSent := 5, scanNext := 9 }) = true := by decide +kernel

theorem test_DisplayPushesArePublished_10 :
    (fun s : State => decide (lineOn s = true ∧ s.disp.running = none ∧ s.disp.redraw = [] ∧ s.disp.pending = some ⟨[], false⟩) && runs (.dispTeBlank) s (fun t => decide (t.disp.pending = none ∧ t.disp.running = none ∧ t.o OD.PUSH_SEQ = 1))) (wDisp fun d => { d with pending := some ⟨[], false⟩ }) = true := by decide +kernel

theorem test_DisplayPushesArePublished_4 :
    (fun s : State => decide (lineOn s = true) && runs (.dsi1TeEdge 2001) s (fun t => decide (t.disp = { s.disp with teSkew := true }))) (wDisp) = true := by decide +kernel

theorem test_DisplayPushesArePublished_5 :
    (fun s : State => decide (lineOn s = true ∧ s.disp.landing = [] ∧ s.srv.waiting = [] ∧ s.disp.running = some ⟨[⟨952, 16, 0, 1⟩], false⟩) && runs (.dispFrameDone) s (fun t => decide (t.disp.running = none ∧ t.o OD.PUSH_SEQ = 1 ∧ t.disp.sent.map (fun (x : DsiPacket) => (x.link, x.command, x.params.length)) = [(0, 0x2A, 4), (0, 0x2B, 4), (0, 0x2C, 24), (1, 0x2A, 4), (1, 0x2B, 4), (1, 0x2C, 24)]))) (wDisp fun d => { d with running := some ⟨[⟨952, 16, 0, 1⟩], false⟩ }) = true := by decide +kernel

theorem test_DisplayPushesArePublished_6 :
    (fun s : State => decide (lineOn s = true ∧ s.disp.teLoc = 1 ∧ s.disp.teLoc + s.o OD.SCAN_START * ticksUs ≤ s.loc + 1 ∧ s.disp.running = some wPush) && runs (.scanRowAdvance 7) s (fun t => decide (t.disp.scanNext = 64 ∧ t.disp.rowsSent = 7))) ({ (wDisp fun d => { d with running := some wPush, scanNext := 63, teLoc := 1 }) with loc := 400000000 }) = true := by decide +kernel

theorem test_DisplayPushesArePublished_9 :
    (fun s : State => decide (lineOn s = true ∧ s.disp.teLoc = 1 ∧ s.loc + 1 < s.disp.teLoc + s.o OD.SCAN_START * ticksUs ∧ s.disp.running = none) && runs (.scanRowAdvance 7) s (fun t => decide (t = s))) (wOd [(OD.SCAN_START, 1)] (wDisp fun d => { d with teLoc := 1 })) = true := by decide +kernel

theorem test_DisplayPushesArePublished_7 :
    (fun s : State => decide (lineOn s = true ∧ s.disp.panelOn = false ∧ s.disp.pending = none ∧ s.disp.redraw = [] ∧ ((List.range 24).filter fun h => firmwareCell h s) = [0]) && runs (.panelInit) s (fun t => decide (t.disp.panelOn = true ∧ t.disp.sent = startUpCommands 0 ++ startUpCommands 1 ∧ t.disp.pending = some ⟨[cellRegion 0], true⟩))) (wDisp fun d => { d with panelOn := false }) = true := by decide +kernel

theorem test_DisplayPushesArePublished_8 :
    (fun s : State => decide (lineOn s = true ∧ bit (s.o OD.HOST_CELLS) 0 = false ∧ s.disp.panelOn = true ∧ s.disp.pending = none ∧ kget (fun _ => 0) s.disp.repushStamp 0 = 0 ∧ s.disp.redraw = []) && runs (.cellRepush 0) s (fun t => decide (t.disp.pending = some ⟨[cellRegion 0], true⟩))) (wDisp) = true := by decide +kernel

/-! ### Two witnesses that no evaluation gives cheaply -/

/-- R59: an index that the information service lists, and one that it does not. -/
theorem test_SdoReadsAreAnswered_listed : mailboxOpen wReady = true ∧ wReady.net.al ≠ .boot ∧
    (0x1018#16).toNat ∈ listedIndices wReady ∧ (0x1019#16).toNat ∉ listedIndices wReady := by
  refine ⟨by decide +kernel, by decide +kernel, ?_, ?_⟩
  · exact List.mem_filter.2 ⟨List.mem_eraseDups.2 (by decide +kernel), by decide +kernel⟩
  · exact fun h => absurd (List.mem_eraseDups.1 (List.mem_filter.1 h).1) (by decide +kernel)

/-- The first 16 bytes of a consent message: identifier 3, counter 1. -/
def wMsgHead : List Byte := leBytes 4 3 ++ leBytes 4 0 ++ leBytes 8 1

/-- R433, R434: a consent message that every check passes. -/
theorem test_GuardedWritesNeedConsent_consent : ∃ msg : List Byte, pathReady .mailbox wProp ∧ msg.length = 32 ∧
    consentCause (partyOf .mailbox) msg wProp = 0 ∧ wProp.tymp.blocked = false := by
  have hl : (consentTag 1 1 1 wProp).length = 16 := by
    exact consentTag_length _ _ _ _
  refine ⟨wMsgHead ++ consentTag 1 1 1 wProp, ⟨⟨by unfold pathFree; decide +kernel, by decide +kernel⟩, by decide +kernel⟩, ?_, ?_, by decide +kernel⟩
  · rw [List.length_append, hl]; decide +kernel
  · have h16 : wMsgHead.length = 16 := by decide +kernel
    have a : (wMsgHead ++ consentTag 1 1 1 wProp).take 4 = wMsgHead.take 4 := List.take_append_of_le_length (by omega)
    have b : ((wMsgHead ++ consentTag 1 1 1 wProp).drop 8).take 8 = (wMsgHead.drop 8).take 8 := by
      rw [List.drop_append_of_le_length (by omega), List.take_append_of_le_length (by simp [h16])]
    have c : (wMsgHead ++ consentTag 1 1 1 wProp).drop 16 = consentTag 1 1 1 wProp := by
      rw [← h16, List.drop_left]
    have d : partyOf .mailbox = 1 := by decide +kernel
    have e : leNum (wMsgHead.take 4) = wProp.o OD.PROPOSAL_ID := by decide +kernel
    have f : leNum ((wMsgHead.drop 8).take 8) = 1 := by decide +kernel
    have g : wProp.sec.isOpen = true ∧ ¬ wProp.sec.deadline ≤ wProp.loc ∧ bit wProp.sec.consents 0 = false ∧
        proposalKey 1 wProp = some 1 ∧ wProp.o (counterKey 1) = 0 ∧ journalRoom (.consent 1 1) wProp = true := by decide +kernel
    unfold consentCause
    rw [a, b, c, d, e, f, List.take_of_length_le (by omega)]
    simp [g]

/-! ### Whole-machine statements: a state that meets the hypotheses of each -/

/-- A request is a write, and a byte before it is none that it stores. -/
theorem test_CommandsTouchOnlyTheirParts_1 : Memory.wf (wDdr).ddr.mem = true ∧
    (∃ stored, storesAt (.dramRequest wDreqW) = some stored ∧ ¬ stored (wDdr) 0) ∧
    runs (.dramRequest wDreqW) (wDdr) (fun t => decide (t.ddr.mem = [(0xFFF84, 1), (0xFFF85, 2)])) = true := by
  refine ⟨by decide +kernel, ⟨_, rfl, ?_⟩, by decide +kernel⟩
  rintro ⟨r, hr, hw, ha, -⟩
  have : r = wDreqW := by simpa using (show r ∈ [wDreqW] from hr)
  subst this
  exact absurd ha (by decide)

/-- A read, and a refused write: no object changes. -/
theorem test_CommandsTouchOnlyTheirParts_2 : (fun s : State => decide (readsOnly (.sdoUpload 0x2100#16 2#8) = true ∧
      readsOnly (.sdoDownload 0x1018#16 1#8 [1#8]) = true ∧ s.srv.waiting = []) &&
    runs (.sdoUpload 0x2100#16 2#8) s (fun t => decide (t.dom = s.dom) && onlyKeys servedKeys s t) &&
    runs (.sdoDownload 0x1018#16 1#8 [1#8]) s (fun t => decide (t.dom = s.dom) && onlyKeys servedKeys s t)) wReady = true := by decide +kernel

theorem test_OnlyPowerOnChangesLoc_1 : (fun s : State => runs (.wdgReset 9#8) s (fun t => decide (t.loc = s.loc)) &&
    decide (s.loc < 2 ^ 64) && (match step s with | .next t => decide (t.loc = s.loc + 1) | _ => false)) wLoc = true := by decide +kernel

theorem test_StepKeepsMemoryForm_1 : (fun s : State => Memory.wf s.ddr.mem &&
    (match step s with | .next t => Memory.wf t.ddr.mem && decide (t.ddr.mem ≠ []) | _ => false))
      { wDdr with pending := [.dramRequest wDreqW] } = true := by decide +kernel

/-- Every ledger's holdings sum to its total. -/
def wWhole (s : State) : Bool := (List.range 7).all fun k => (vgetN s.ledgers k).held.toList.sum == (vgetN s.ledgers k).total

/-- R35: a step takes whole ledgers to whole ledgers: here two line tokens move. -/
theorem test_LedgerMovesKeepTheSum_1 : (fun s : State => wWhole s &&
    (match step s with | .next t => wWhole t && decide (heldOf 3 1 t = heldOf 3 1 s + 1) | _ => false))
      { wGal with pending := [.lineDecode 0] } = true := by decide +kernel

/-! ### Steps -/

/-- R408: an empty queue: one tick of LOC, four on the fallback oscillator (log entry 1). -/
theorem test_step_idle : (match step wReady with | .next t => t.loc | _ => 0) = 1 ∧
    (match step { wReady with clk := { wReady.clk with fallback := true } } with | .next t => t.loc | _ => 0) = 4 := by decide +kernel
/-- R347: in a tick each channel of the DRAM issues one command (log entry 199): here the row that a waiting read needs is opened. -/
theorem test_step_dram : (match step (wBank ⟨[{ wQd with place := ⟨3, 0, 0, 15, 7⟩ }], none, none, 0⟩) with
    | .next t => ((t.ddr.channels.get 3).banks.get 15).openRow
    | _ => none) = some 7 ∧
    (match step (wBank ⟨[{ wQd with place := ⟨3, 0, 0, 15, 7⟩ }], some 7, none, 0⟩) with
    | .next t => (t.ddr.channels.get 3).inFlight
    | _ => []) = [wRead 5] := by decide +kernel
/-- The front of the queue runs first. -/
theorem test_step_front : (match step { wReady with pending := [.bypass, .idcode] } with | .next t => t.pending | _ => []) = [.idcode] := by
  decide +kernel
/-- R437: a locked port takes a debug instruction as BYPASS; an unlocked one is refused. -/
theorem test_debug_unlocked : exec (.debugInstruction 3) { wReady with sec := { wReady.sec with unlocked := true } } =
    .refused .debugUnitNotDescribed := rfl
/-- The table gives no bits: no word spells a command. -/
theorem test_decodeTableWord_none : decodeTableWord 32 0 = none := rfl
/-- R338, R348: bytes written to the DRAM read back, in their one canonical form. -/
theorem test_memory_form : Memory.writes 5 [1#8, 0#8, 3#8] [(6, 9#8)] = [(5, 1#8), (7, 3#8)] ∧
    Memory.wf [(5, 1#8), (7, 3#8)] = true ∧ Memory.wf [(7, 3#8), (5, 1#8)] = false := by decide +kernel

/-! ### WellFormed: each check accepts a good operand and refuses a bad one -/

theorem test_wf_sm2Event : (Instr.sm2Event (List.replicate 64 0#8)).wf = true ∧ (Instr.sm2Event (List.replicate 65 0#8)).wf = false := by
  decide +kernel
theorem test_wf_registerWrite : (Instr.registerWrite .bar4 0xFFFC 4 .read).wf = true ∧ (Instr.registerWrite .bar4 0xFFFD 4 .read).wf = false ∧
    (Instr.registerWrite .bar2 0 0 .read).wf = false ∧ (Instr.registerWrite .bar0 0x400000 1 .read).wf = false := by decide
theorem test_wf_pcieLinkUp : (Instr.pcieLinkUp 8 4).wf = true ∧ (Instr.pcieLinkUp 3 1).wf = false ∧ (Instr.pcieLinkUp 1 5).wf = false ∧
    (Instr.pcieLinkUp 1 0).wf = false := by decide
theorem test_wf_descriptorFetched : (Instr.descriptorFetched 0 none).wf = true ∧
    (Instr.descriptorFetched 0 (some (List.replicate 31 0#8))).wf = false := by decide
theorem test_wf_sgEntryRead : (Instr.sgEntryRead 0 (some (List.replicate 16 0#8))).wf = true ∧ (Instr.sgEntryRead 0 (some [])).wf = false := by
  decide
theorem test_wf_hostReadCompletion : (Instr.hostReadCompletion 0 (some (List.replicate 4096 0#8))).wf = true ∧
    (Instr.hostReadCompletion 0 (some [])).wf = false ∧ (Instr.hostReadCompletion 0 (some (List.replicate 4097 0#8))).wf = false := by
  decide +kernel
theorem test_wf_statusHello : (Instr.statusHello 0 255).wf = true ∧ (Instr.statusHello 0 0).wf = false ∧ (Instr.statusHello 0 256).wf = false := by
  decide
theorem test_wf_statusEcho : (Instr.statusEcho 0 0).wf = true ∧ (Instr.statusEcho 0 4294967296).wf = false := by decide
theorem test_wf_dataFrame : (Instr.dataFrame 0 1 31 (List.replicate 64 0#8)).wf = true ∧
    (Instr.dataFrame 0 0 4 (List.replicate 64 0#8)).wf = false ∧ (Instr.dataFrame 0 1 0 []).wf = false := by decide
theorem test_wf_telemetryFrame : (Instr.telemetryFrame 0 ⟨-32768, 0, 0, 65535, 0#16⟩).wf = true ∧
    (Instr.telemetryFrame 0 ⟨32768, 0, 0, 0, 0#16⟩).wf = false ∧ (Instr.telemetryFrame 0 ⟨0, 65536, 0, 0, 0#16⟩).wf = false := by decide
theorem test_wf_pixelPacket : (Instr.pixelPacket 0 ⟨0, 0⟩ [] true false).wf = true ∧
    (Instr.pixelPacket 0 ⟨0, 0⟩ (List.replicate 65536 0#8) true false).wf = false := by decide +kernel
theorem test_wf_paceLinkHello : (Instr.paceLinkHello .upstream 1).wf = true ∧ (Instr.paceLinkHello .upstream 0).wf = false := by decide
theorem test_wf_mirrorRecord : (Instr.mirrorRecord wRec).wf = true ∧ (Instr.mirrorRecord { wRec with phase := 4294967296 }).wf = false := by decide
theorem test_wf_dramRequest : (Instr.dramRequest wDreqW).wf = true ∧ (Instr.dramRequest { wDreqW with data := [] }).wf = false ∧
    (Instr.dramRequest { wDreqW with address := 63 }).wf = false ∧ (Instr.dramRequest { wDreqW with write := false }).wf = false := by decide
theorem test_wf_start : (Instr.start wReport).wf = true ∧
    (Instr.start { wReport with train := { wTrain1 with devices := Vector.replicate 4 ⟨1, .x16, 16, 3⟩ } }).wf = false := by decide +kernel
theorem test_wf_powerExitComplete : (Instr.powerExitComplete wTrain1).wf = true ∧
    (Instr.powerExitComplete { wTrain1 with windows := [(3, 2)] }).wf = false := by decide +kernel
theorem test_wf_scanRowAdvance : (Instr.scanRowAdvance 16384).wf = true ∧ (Instr.scanRowAdvance 16385).wf = false := by decide
theorem test_wf_cycle : (Instr.cycle 8 true).wf = true ∧ (Instr.cycle 18446744073709551616 true).wf = false := by decide


end Sys2Proof.Tests
end

section
/-! PROOFS: what a recomputation leaves, and the accesses of a BAR (O19). -/

namespace Sys2Proof.Machine
open Sys2Proof

/-! ### What the recomputation and an event leave -/

/-- R417: of the objects, a recomputation changes only those of `servedKeys`. -/
theorem pwrRecompute_o_unserved (s : State) {k : Nat} (hk : k ∉ servedKeys) : (pwrRecompute s).o k = s.o k := by
  simp only [servedKeys, List.mem_append, List.mem_cons, List.not_mem_nil, or_false, not_or] at hk
  obtain ⟨he, hn, hs⟩ := hk
  exact pwrRecompute_o s he hn hs

theorem journalEvent_unjournaled {ev : Nat} (h : isJournaled ev = false) (param : Nat) (s : State) :
    journalEvent ev param s = s := by
  unfold journalEvent
  exact if_neg fun c => absurd (h.symm.trans c.1) (by decide)

/-- R480: an event that writes no ERROR record leaves the journal. -/
theorem raise_tymp {ev : Nat} (h : isJournaled ev = false) (param : Nat) (s : State) : (raise ev param s).tymp = s.tymp := by
  unfold raise raiseX
  dsimp only
  rw [journalEvent_unjournaled h]
  exact ((stallCheck_fr ..).1 .tymp rfl).trans ((routeEvent_fr ..).1 .tymp rfl)

theorem setPower_tymp (n : Nat) (s : State) : (setPower n s).tymp = s.tymp := by
  unfold setPower
  dsimp only
  split
  · rfl
  · exact raise_tymp (by decide) _ _

@[simp] theorem pwrRecompute_tymp (s : State) : (pwrRecompute s).tymp = s.tymp := by
  unfold pwrRecompute
  simp only [apply_ite State.tymp, setPower_tymp, demandWake_tymp, modPwr_tymp, State.setO_tymp, ite_self]

/-! ### Accesses of a BAR (R419) -/

/-- Awake, the device carries out an access of a BAR at once. -/
theorem barAccess_awake {s : State} (h : awake s = true) (c : Instr) (f : State → State) : barAccess c f s = f s := by
  unfold barAccess
  rw [demandWake_awake h]
  exact if_neg (by simp [awake_exiting h])

theorem demandWake_asleep {s : State} (h : 2 ≤ s.pwr.state) :
    demandWake s = { s with pwr := { s.pwr with exiting := true, entering := none } } :=
  if_pos (Or.inl h)

/-- In DOZE and deeper an access of a BAR starts the exit, and is held until it is complete. -/
theorem barAccess_asleep {s : State} (h : 2 ≤ s.pwr.state) (c : Instr) (f : State → State) :
    barAccess c f s =
      { s with pwr := { s.pwr with exiting := true, entering := none, held := s.pwr.held ++ [c] } } := by
  unfold barAccess
  rw [demandWake_asleep h]
  rfl

theorem exec_registerWrite {bar : Bar} {offset : Nat} (h : offset < barSize bar) (size : Nat) (acc : RegAccess) (s : State) :
    exec (.registerWrite bar offset size acc) s =
      .next (barAccess (.registerWrite bar offset size acc) (registerAccess bar offset size acc) s) := by
  show Host.Outcome.next _ = _
  rw [if_neg (by omega)]

theorem exec_registerWrite_awake {bar : Bar} {offset : Nat} {s : State} (ha : awake s = true) (h : offset < barSize bar)
    (size : Nat) (acc : RegAccess) :
    exec (.registerWrite bar offset size acc) s = .next (registerAccess bar offset size acc s) := by
  rw [exec_registerWrite h, barAccess_awake ha]

/-- R77, R85: the access is no aligned one of 32 bits. -/
theorem access_not_whole {offset size : Nat} (h : size ≠ 4 ∨ offset % 4 ≠ 0) : (size == 4 && offset % 4 == 0) = false := by
  rcases h with h | h <;> simp [h]

theorem registerAccess_bar0_read_cut {offset size : Nat} (h : size ≠ 4 ∨ offset % 4 ≠ 0) (s : State) :
    registerAccess .bar0 offset size .read s = pwrRecompute (setRead 0xFFFFFFFF s) := by
  unfold registerAccess
  simp [access_not_whole h]

theorem registerAccess_bar0_write_cut {offset size : Nat} (h : size ≠ 4 ∨ offset % 4 ≠ 0) (v : BitVec 32) (s : State) :
    registerAccess .bar0 offset size (.write v) s = pwrRecompute s := by
  unfold registerAccess
  simp [access_not_whole h]

/-- R203: the snapshots that a read of WEB_POSITION_LO takes. -/
def webSnapshot (s : State) : State :=
  { s with web := { s.web with
      snapHi := webpOf s.web.p / 2 ^ 32 % 2 ^ 32, snapHwlLo := s.web.hwl % 2 ^ 32, snapHwlHi := s.web.hwl / 2 ^ 32 % 65536 } }

theorem registerAccess_webPositionLo (s : State) :
    registerAccess .bar0 0xC0004 4 .read s = pwrRecompute (setRead (webpOf s.web.p % 2 ^ 32) (webSnapshot s)) := rfl

/-- R318: the match flags that a write of TIME_CMP leaves. -/
theorem registerAccess_timeCmp (v : BitVec 32) (s : State) :
    registerAccess .bar0 0xD0010 4 (.write v) s = pwrRecompute { s with time := { s.time with
      matched := s.time.matched.mapIdx fun u m => m && !bit v.toNat (16 + u) } } := rfl

theorem bit_toNat (v : BitVec 32) (i : Nat) : bit v.toNat i = v.getLsbD i := by
  rw [← BitVec.testBit_toNat, Nat.testBit_eq_decide_div_mod_eq]
  rfl

end Sys2Proof.Machine

open Sys2Proof Sys2Proof.Machine

/-- Settles O19: an access waits in DOZE and deeper, and is otherwise carried out at once by the map of BAR0. -/
theorem registerAccessesByTheMap : Obligations.RegisterAccessesByTheMap := by
  intro s
  refine ⟨fun bar offset size acc ho hs => ?_, fun ha offset size ho hcut => ⟨?_, fun v => ?_⟩, fun ha => ?_, fun ha v u => ?_⟩
  · rw [exec_registerWrite ho, barAccess_asleep hs]
  · refine ⟨_, exec_registerWrite_awake ha ho size .read, ?_⟩
    rw [registerAccess_bar0_read_cut hcut, pwrRecompute_pcie_readData]
    rfl
  · refine ⟨_, exec_registerWrite_awake ha ho size (.write v), fun k hk => ?_⟩
    rw [registerAccess_bar0_write_cut hcut, pwrRecompute_o_unserved _ hk]
  · refine ⟨_, exec_registerWrite_awake ha (by decide) 4 .read, ?_⟩
    rw [registerAccess_webPositionLo, pwrRecompute_pcie_readData, pwrRecompute_web]
    exact ⟨rfl, rfl⟩
  · refine ⟨_, exec_registerWrite_awake ha (by decide) 4 (.write v), ?_⟩
    rw [registerAccess_timeCmp, pwrRecompute_time, ← bit_toNat]
    show (Vector.mapIdx _ s.time.matched)[u.val] = _
    rw [Vector.getElem_mapIdx]
    rfl
end

section
/-! PROOFS: rows of the object dictionary, and which of them are commands. -/

namespace Sys2Proof.Machine
open Sys2Proof

/-! ### Rows of the dictionary -/

/-- The row of a subindex stands in the tables, or is that of R486. -/
theorem rowOf_cases {idx sub : Nat} {row : ObjRow} (h : rowOf idx sub = some row) :
    objRow (okey idx sub) = some row ∨ (objRow (okey idx sub) = none ∧ row = sub0Row ∧ sub = 0 ∧ indexExists idx = true) := by
  unfold rowOf at h
  split at h
  · next r hr => exact .inl (h ▸ hr)
  · next hn =>
    split at h
    · next hc => exact .inr ⟨hn, (Option.some.inj h).symm, hc⟩
    · cases h

/-- A subindex that is not read-only has a row of its own: the rows of R486 are read-only. -/
theorem objRow_of_rowOf {idx sub : Nat} {row : ObjRow} (h : rowOf idx sub = some row) (ha : row.acc ≠ .ro) :
    objRow (okey idx sub) = some row := by
  obtain hr | ⟨-, rfl, -⟩ := rowOf_cases h
  · exact hr
  · exact absurd rfl ha

theorem bytesOf_row {key : Nat} {row : ObjRow} (h : objRow key = some row) : bytesOf key = row.ty.bytes := by
  unfold bytesOf; rw [h]

/-- The objects that serving a request may change by itself are read-only. -/
theorem servedKeys_readOnly : ∀ k ∈ servedKeys, ∀ row ∈ objRow k, row.acc = .ro := by decide +kernel

/-- The objects of which a value written is a command that the state may refuse (check 5 of R52). -/
def refusableKeys : List Nat :=
  [OD.WEB_COMMAND, OD.SUB_RESET] ++ (List.range 256).map (fun f => okey (0x3300 + f) 0x02) ++
    (List.range 24).map (fun p => okey (0x3700 + p) 0x30) ++ (List.range 4).map (fun p => okey (0x4000 + p) 0x43) ++
    (List.range 8).map (fun a => okey (0x4800 + a) 0x02)

theorem refusableKeys_not_readWrite : ∀ k ∈ refusableKeys, ∀ row ∈ objRow k, row.acc ≠ .rw := by decide +kernel

theorem mem_map_okey_range {base n sub idx : Nat} {key : Nat} (hb : base ≤ idx) (hn : idx < base + n)
    (hk : okey idx sub = key) : key ∈ (List.range n).map fun i => okey (base + i) sub :=
  List.mem_map.2 ⟨idx - base, List.mem_range.2 (by omega), by rw [← hk]; congr 1; omega⟩

theorem okey_div_mod (key : Nat) : okey (key / 256) (key % 256) = key := Nat.div_add_mod' key 256

theorem commandRefuses_other {key : Nat} (h : key ∉ refusableKeys) (v : Nat) (s : State) : commandRefuses key v s = false := by
  have hr : ∀ {base n sub : Nat}, key ∉ ((List.range n).map fun i => okey (base + i) sub) →
      ¬ (base ≤ key / 256 ∧ key / 256 < base + n ∧ key % 256 = sub) := fun hm c =>
    hm (mem_map_okey_range c.1 c.2.1 (by rw [← c.2.2]; exact okey_div_mod key))
  simp only [refusableKeys, List.mem_append, List.mem_cons, List.not_mem_nil, or_false, not_or] at h
  obtain ⟨⟨⟨⟨⟨hweb, hsub⟩, hforme⟩, hport⟩, hcam⟩, haxis⟩ := h
  unfold commandRefuses
  dsimp only
  rw [if_neg (hr hforme), if_neg hweb, if_neg (hr hport), if_neg (hr hcam), if_neg (hr haxis), if_neg hsub]

/-- No state refuses a write of a read-write object as a command. -/
theorem commandRefuses_readWrite {key : Nat} {row : ObjRow} (h : objRow key = some row) (ha : row.acc = .rw) (v : Nat) (s : State) :
    commandRefuses key v s = false :=
  commandRefuses_other (fun hm => refusableKeys_not_readWrite key hm row h ha) v s

end Sys2Proof.Machine
end

section
/-! PROOFS: values that no unit acts on: what storing one does. -/

namespace Sys2Proof.Machine
open Sys2Proof

/-! ### Values that no unit acts on -/

/-- What `plainKey` shuts out. -/
theorem plainKey_excludes {key : Nat} (h : plainKey key = true) :
    key ∉ [OD.GAL_AREA_BASE, OD.GAL_AREA_SIZE] ∧ egressObject key = false ∧ isMapping (key / 256) = false ∧
      isAssignment (key / 256) = false ∧
      key ∉ [OD.NOZZLE_TABLE, OD.PUSH_BUFFER, OD.PRF_AREA_SIZE, OD.FRAME_BUFFERS, OD.COUNTS_PER_REV] := by
  unfold plainKey at h
  simp only [Bool.and_eq_true, Bool.not_eq_true', Bool.or_eq_false_iff, beq_eq_false_iff_ne, ne_eq, List.contains_eq_mem,
    List.mem_cons, List.not_mem_nil, or_false, decide_eq_false_iff_not, not_or] at h ⊢
  obtain ⟨⟨⟨⟨⟨⟨⟨⟨⟨harea, -⟩, -⟩, -⟩, hpdo⟩, -⟩, hunit⟩, -⟩, -⟩, -⟩ := h
  simp [harea, hpdo, hunit]

/-- What `valueKey` shuts out besides: the commands, and the values of which a change does something at once. -/
theorem valueKey_excludes {key : Nat} (h : valueKey key = true) :
    plainKey key = true ∧ ¬ (0x3300 ≤ key / 256 ∧ key / 256 < 0x3400 ∧ key % 256 = 2) ∧
      key ∉ [OD.REQ_COMMAND, OD.RATE_CLASS_A, OD.RATE_CLASS_B, OD.WEB_COMMAND, OD.CONFIRM, OD.RESET_COMMAND, OD.SUB_RESET,
        OD.BOOT_COMMAND, OD.CONSENT_MESSAGE, OD.PUSH_COUNT, OD.PRESS_CONTROL, OD.EVENT_ACK 0, OD.EVENT_ACK 1, OD.DCHK_ENABLE,
        OD.INDEX_POLICY, OD.HOST_CELLS, OD.READY_BLOCKS, OD.UNDERRUN_BYTES] ∧
      ¬ (0x3500 ≤ key / 256 ∧ key / 256 < 0x3518 ∧ key % 256 = 0x34) ∧
      (∀ sub ∈ [1, 0x30], ¬ (0x3700 ≤ key / 256 ∧ key / 256 < 0x3718 ∧ key % 256 = sub)) ∧
      (∀ sub ∈ [1, 5, 0x20, 0x43], ¬ (0x4000 ≤ key / 256 ∧ key / 256 < 0x4004 ∧ key % 256 = sub)) ∧
      (∀ sub ∈ [1, 2, 0x38], ¬ (0x4800 ≤ key / 256 ∧ key / 256 < 0x4808 ∧ key % 256 = sub)) ∧
      ¬ (OD.CMP_ARM 0 ≤ key ∧ key ≤ OD.CMP_ARM 15 ∧ (key - OD.CMP_ARM 0) % 6 = 0) := by
  unfold valueKey at h
  simp only [Bool.and_eq_true, Bool.not_eq_true', List.contains_eq_mem, decide_eq_false_iff_not] at h
  obtain ⟨⟨⟨⟨⟨⟨⟨hplain, hforme⟩, hval⟩, hplat⟩, hport⟩, hcam⟩, haxis⟩, harm⟩ := h
  refine ⟨hplain, hforme, hval, hplat, fun sub hm c => hport ⟨c.1, c.2.1, ?_⟩, fun sub hm c => hcam ⟨c.1, c.2.1, ?_⟩,
    fun sub hm c => haxis ⟨c.1, c.2.1, ?_⟩, harm⟩
  all_goals rw [c.2.2]; simpa using hm

/-- A value on which no unit acts: its change starts nothing. -/
theorem valueHook_value {key : Nat} (h : valueKey key = true) (old : Nat) (s : State) : valueHook key old s = s := by
  obtain ⟨hplain, -, hval, -, hport, hcam, haxis, -⟩ := valueKey_excludes h
  obtain ⟨harea, hegress, hmap, hassign, hunit⟩ := plainKey_excludes hplain
  simp only [List.mem_cons, List.not_mem_nil, or_false, not_or] at hval harea hunit
  unfold valueHook
  dsimp only
  rw [if_neg (by simp [hval]), if_neg (by simp [harea]), if_neg (by simp [hegress]), if_neg (by simp [hunit]),
    if_neg (by simp [hval]), if_neg (by simp [hmap, hassign])]
  split
  · rfl
  · rw [if_neg (by simp [hunit]), if_neg (by simp [hval]), if_neg (by simp [hval]), if_neg (hport 1 (by decide)),
      if_neg (hcam 1 (by decide)), if_neg (hcam 5 (by decide)), if_neg (haxis 1 (by decide))]

theorem storeValue_value {key : Nat} (h : valueKey key = true) (bs : List Byte) (s : State) :
    storeValue key bs s = directWrite key (storeBytes key bs s) := by
  obtain ⟨-, -, hval, -⟩ := valueKey_excludes h
  simp only [List.mem_cons, List.not_mem_nil, or_false, not_or] at hval
  unfold storeValue
  rw [if_neg (by simp [hval]), if_neg (by simp [hval]), if_neg (by simp [hval]), if_neg (by simp [hval]), valueHook_value h]

/-- A write of a value on which no unit acts is stored, and does nothing else. -/
theorem applyWrite_value {key : Nat} (h : valueKey key = true) (path : Path) (row : ObjRow) (bs : List Byte) (s : State) :
    applyWrite path false ⟨key, row, bs⟩ s = doneNow (AB.ok, storeValue key bs s) := by
  obtain ⟨hplain, hforme, hval, hplat, hport, hcam, haxis, harm⟩ := valueKey_excludes h
  obtain ⟨-, -, -, -, hunit⟩ := plainKey_excludes hplain
  simp only [List.mem_cons, List.not_mem_nil, or_false, not_or] at hval hunit
  unfold applyWrite
  dsimp only
  rw [if_neg hforme, if_neg (by simp [hval]), if_neg (by simp [hval]), if_neg (by simp [hval]), if_neg (by simp [hval]),
    if_neg hplat, if_neg (hport _ (by decide)), if_neg (hcam _ (by decide)), if_neg (hcam _ (by decide)), if_neg (by simp [hval]),
    if_neg (haxis _ (by decide)), if_neg (haxis _ (by decide)), if_neg (by simp [hval]), if_neg (by simp [hval]),
    if_neg (by simp [hval]), if_neg (by simp [hval]), if_neg harm, if_neg (by simp), if_neg (by simp [hunit]),
    if_neg (by simp [hunit])]
  rfl

/-! ### What storing a value leaves -/

theorem leNum_lt (bs : List Byte) : leNum bs < 2 ^ (8 * bs.length) := by
  induction bs with
  | nil => decide
  | cons b bs ih =>
    have hb := b.isLt
    rw [leNum, List.length_cons, Nat.mul_add_one, Nat.pow_add]
    omega

/-- R16: reserved bits are only taken away. -/
theorem storedNum_le (key v : Nat) : storedNum key v ≤ v := by
  unfold storedNum
  repeat' split
  all_goals omega

/-- A value of the object's length is stored whole, but for its reserved bits. -/
theorem wrapTo_storedNum {key : Nat} {bs : List Byte} (h : bs.length = bytesOf key) :
    wrapTo (8 * bytesOf key) (storedNum key (leNum bs)) = storedNum key (leNum bs) :=
  Nat.mod_eq_of_lt (Nat.lt_of_le_of_lt (storedNum_le _ _) (h ▸ leNum_lt bs))

section
variable {key : Nat} (h : valueKey key = true) (hd : isDomain key = false)
include h hd

/-- Of the parts, storing a value on which no unit acts changes the live sets at most. -/
theorem storeValue_value_fr (bs : List Byte) (s : State) : Keeps 0x4000000030 s (storeValue key bs s) := by
  rw [storeValue_value h]
  refine Keeps.step (directWrite_fr _ _) (by decide) ?_
  unfold storeBytes
  rw [hd]
  exact Keeps.setO .any (by decide) trivial (Keeps.refl _ _)

theorem storeValue_value_o (bs : List Byte) (s : State) (k : Nat) :
    (storeValue key bs s).o k = (s.setO key (storedNum key (leNum bs))).o k := by
  rw [storeValue_value h, (directWrite_fr _ _).o_all (by decide)]
  unfold storeBytes
  rw [hd]
  rfl

theorem storeValue_value_o_same {bs : List Byte} (hlen : bs.length = bytesOf key) (s : State) :
    (storeValue key bs s).o key = storedNum key (leNum bs) := by
  rw [storeValue_value_o h hd, State.o_setO_same, wrapTo_storedNum hlen]

theorem storeValue_value_o_other {k : Nat} (hk : k ≠ key) (bs : List Byte) (s : State) : (storeValue key bs s).o k = s.o k := by
  rw [storeValue_value_o h hd, State.o_setO_other _ hk]

end

end Sys2Proof.Machine
end

section
/-! PROOFS: writes over a ready path: taken, or refused by the first check that fails. -/

namespace Sys2Proof.Machine
open Sys2Proof

/-! ### Writes over a ready path -/

/-- R52: a whole value on which no unit acts, written over a ready path: it is stored and answered. -/
theorem objectWrite_value {path : Path} {s : State} {idx sub : Nat} {data : List Byte} {row : ObjRow} (h : pathReady path s)
    (hidx : indexExists idx = true) (hrow : rowOf idx sub = some row) (hacc : row.acc = .rw) (hcls : row.cls ≠ .j)
    (hdom : isDomain (okey idx sub) = false) (hbool : row.ty ≠ .bool) (hkey : valueKey (okey idx sub) = true)
    (hlen : data.length = row.ty.bytes) (hpos : data ≠ []) (hchk : row.chk.ok (leNum data) = true) :
    objectWrite path idx sub data s =
      pwrRecompute (answerTo path (.done []) (storeValue (okey idx sub) data (pathBegin path true s))) := by
  obtain ⟨-, hready, -⟩ := h.1
  refine command_done h hidx hrow (.inr hacc) hcls hlen hpos (valueKey_excludes hkey).1 hbool hchk (value_command hkey _ _)
    (applyWrite_value hkey path row data _) rfl ?_
  rw [show (storeValue _ _ _).boot = _ from (storeValue_value_fr hkey hdom data _).1 .boot rfl, pathBegin_boot, hready]
  decide

/-- The value that the write of `objectWrite_value` leaves. -/
theorem objectWrite_value_o_same {path : Path} {s : State} {idx sub : Nat} {data : List Byte} {row : ObjRow}
    (hrow : rowOf idx sub = some row) (hacc : row.acc = .rw) (hdom : isDomain (okey idx sub) = false)
    (hkey : valueKey (okey idx sub) = true) (hlen : data.length = row.ty.bytes) (a : Answer) :
    (pwrRecompute (answerTo path a (storeValue (okey idx sub) data (pathBegin path true s)))).o (okey idx sub) =
      storedNum (okey idx sub) (leNum data) := by
  have hobj : objRow (okey idx sub) = some row := objRow_of_rowOf hrow (by simp [hacc])
  have hserved : okey idx sub ∉ servedKeys := fun hm => by
    have := servedKeys_readOnly _ hm row hobj
    rw [hacc] at this
    cases this
  rw [pwrRecompute_o_unserved _ hserved, answerTo_o, storeValue_value_o_same hkey hdom (hlen.trans (bytesOf_row hobj).symm)]

theorem writeReq_idx (path : Path) (idx sub : Nat) (data : List Byte) : (writeReq path idx sub data).idx = idx := by
  cases path <;> rfl
theorem writeReq_sub (path : Path) (idx sub : Nat) (data : List Byte) : (writeReq path idx sub data).sub = sub := by
  cases path <;> rfl
theorem writeReq_path (path : Path) (idx sub : Nat) (data : List Byte) : (writeReq path idx sub data).path = path := by
  cases path <;> rfl
theorem writeReq_last (path : Path) (idx sub : Nat) (data : List Byte) : (writeReq path idx sub data).last = true := by
  cases path <;> rfl

/-- A write over a ready path that a check refuses: the answer, and nothing else but the recomputation of R417. -/
theorem objectWrite_refusal {path : Path} {s : State} {idx sub c : Nat} {data : List Byte} (h : pathReady path s)
    (hw : writePiece (writeReq path idx sub data) data (pathBegin path true s) = refusedWith c (pathBegin path true s)) :
    objectWrite path idx sub data s = pwrRecompute (answerTo path (.abort c) (pathBegin path true s)) := by
  obtain ⟨-, hready, -, -, -, -, hsegs, -, -⟩ := h.1
  have hp : ¬ (pathBegin path true s).boot.phase = .starting := by rw [pathBegin_boot, hready]; decide
  rw [objectWrite_ready h]
  unfold serveNow
  rw [serve_write (by rw [pathBegin_srv]; exact hsegs), hw, writeReq_path]
  exact if_neg hp

section
variable {path : Path} {idx sub : Nat} {data : List Byte} {row : ObjRow} {s : State}

/-- R52, check 1. -/
theorem writePiece_noIndex (hidx : indexExists idx = false) :
    writePiece (writeReq path idx sub data) data s = refusedWith AB.noIndex s := by
  unfold writePiece
  rw [writeReq_idx, if_pos (by simp [hidx])]

/-- R52, check 2. -/
theorem writePiece_noSub (hidx : indexExists idx = true) (hrow : rowOf idx sub = none) :
    writePiece (writeReq path idx sub data) data s = refusedWith AB.noSub s := by
  unfold writePiece
  rw [writeReq_idx, writeReq_sub, if_neg (by simp [hidx]), hrow]

/-- R52, check 4. -/
theorem writePiece_readOnly (hseg : s.srv.segs = []) (hidx : indexExists idx = true) (hrow : rowOf idx sub = some row)
    (hacc : row.acc = .ro) : writePiece (writeReq path idx sub data) data s = refusedWith AB.readOnly s := by
  unfold writePiece
  rw [writeReq_idx, writeReq_sub, if_neg (by simp [hidx]), hrow]
  dsimp only
  rw [if_pos hacc, dropSeg_nil _ _ hseg]

/-- Check 6 comes before every later one. -/
theorem writeAccess_length {w : ObjWrite} (hst : stateRefuses path w s = false) :
    writeAccess path false false true [w] s = ⟨AB.length, false, s⟩ := by
  unfold writeAccess checkWrites
  simp [hst, pushWaits_single]

theorem writePiece_length (hseg : s.srv.segs = []) (hidx : indexExists idx = true) (hrow : rowOf idx sub = some row)
    (hacc : row.acc ≠ .ro) (hst : stateRefuses path ⟨okey idx sub, row, data⟩ s = false) (hlen : data.length ≠ row.ty.bytes)
    (hkey : okey idx sub ≠ OD.NOZZLE_TABLE) : writePiece (writeReq path idx sub data) data s = refusedWith AB.length s := by
  have hoff : (writeReq path idx sub data).offset = 0 := by cases path <;> rfl
  have hfinish : finishWrite (writeReq path idx sub data) row [(0, data)] s = refusedWith AB.length s := by
    unfold finishWrite
    simp only [writeReq_idx, writeReq_sub, writeReq_path, hkey, if_false, dropSeg_nil _ _ hseg, List.foldl_cons, List.foldl_nil,
      Nat.zero_add, Nat.zero_max, joinPieces_one]
    rw [beq_eq_false_iff_ne.2 hlen, writeAccess_length hst]
    rfl
  unfold writePiece
  simp only [writeReq_idx, writeReq_sub, writeReq_path, writeReq_last, hoff, hidx, hrow, hacc, hst, segOf_nil _ _ hseg,
    dropSeg_nil _ _ hseg, hfinish, not_true_eq_false, if_false, Option.map_none, Option.getD_none, ite_self, Nat.zero_add,
    Bool.false_eq_true, ne_eq, and_false, Bool.true_or, if_true]

/-- R52, check 7: a value that the object's own range shuts out. -/
theorem writeAccess_range {w : ObjWrite} (hst : stateRefuses path w s = false) (hplain : plainKey w.key = true)
    (hbool : w.row.ty ≠ .bool) (hchk : w.row.chk.ok w.num = false) :
    writeAccess path false true true [w] s = ⟨AB.range, false, s⟩ := by
  obtain ⟨-, -, hmap, hassign, -⟩ := plainKey_excludes hplain
  have hpdo : pdoAbort w [w] s = AB.ok := by
    unfold pdoAbort; simp [hmap, hassign]
  have hrange : rangeAbort false w [w] s = AB.range := by
    unfold rangeAbort; simp [hpdo, hbool, hchk]
  unfold writeAccess checkWrites
  simp [hst, hrange, firstAbort, pushWaits_single]

end

end Sys2Proof.Machine
end

section
/-! PROOFS: refused writes over the mailbox, segmented writes given up, and the COMMIT word of a record (O12). -/

namespace Sys2Proof.Machine
open Sys2Proof

/-! ### Writes over the mailbox -/

/-- What a refused write over the mailbox comes to. -/
theorem sdoDownload_refused {s : State} {idx : BitVec 16} {sub : BitVec 8} {data : List Byte} {c : Nat} (h : pathReady .mailbox s)
    (hw : writePiece (writeReq .mailbox idx.toNat sub.toNat data) data (pathBegin .mailbox true s) =
      refusedWith c (pathBegin .mailbox true s)) :
    (objectWrite .mailbox idx.toNat sub.toNat data s).net.answer = .abort c ∧
      ∀ k, k ∉ servedKeys → (objectWrite .mailbox idx.toNat sub.toNat data s).o k = s.o k := by
  rw [objectWrite_refusal h hw]
  refine ⟨?_, fun k hk => ?_⟩
  · rw [pwrRecompute_net]; rfl
  · rw [pwrRecompute_o_unserved _ hk, answerTo_o, pathBegin_o]

/-- R52, check 5: over a ready path no state refuses a write of a plain read-write object. -/
theorem stateRefuses_plain {path : Path} {s : State} {idx sub : Nat} {row : ObjRow} (h : pathReady path s)
    (hrow : rowOf idx sub = some row) (hacc : row.acc = .rw) (hplain : plainKey (okey idx sub) = true) (data : List Byte) :
    stateRefuses path ⟨okey idx sub, row, data⟩ (pathBegin path true s) = false := by
  obtain ⟨-, hready, hinit, hboot, -⟩ := h.1
  exact plain_state hplain (.inr hacc) (by rw [pathBegin_boot]; exact hready) (by rw [pathBegin_net]; exact hinit)
    (by rw [pathBegin_net]; exact hboot) data
    (commandRefuses_readWrite (objRow_of_rowOf hrow (by simp [hacc])) hacc _ _)

theorem plainKey_not_nozzleTable {key : Nat} (h : plainKey key = true) : key ≠ OD.NOZZLE_TABLE := by
  rintro rfl
  exact absurd h (by decide)

/-! ### Segmented writes given up (R49) -/

theorem segOf_dropSeg (path : Path) (s : State) : segOf path (dropSeg path s) = none := by
  simp [segOf, dropSeg]

theorem segmentTimeout_write {path : Path} {s : State} {g : SegXfer} (hg : segOf path s = some g) (hw : g.write = true)
    (ho : answerOwed path s = false) :
    segOf path (segmentTimeout path s) = none ∧ (segmentTimeout path s).od = s.od ∧ (segmentTimeout path s).dom = s.dom ∧
      (path = .mailbox → (segmentTimeout path s).net.answer = .abort AB.timedOut) := by
  unfold segmentTimeout
  simp only [hg, hw, ho, not_true_eq_false, Bool.false_eq_true, or_self, if_false]
  cases path with
  | mailbox => exact ⟨segOf_dropSeg .mailbox s, rfl, rfl, fun _ => rfl⟩
  | window =>
    dsimp only
    split
    · exact ⟨segOf_dropSeg .window s, rfl, rfl, nofun⟩
    · exact ⟨segOf_dropSeg .window s, rfl, rfl, nofun⟩

/-! ### The COMMIT word of a record (R396) -/

/-- R397: what the record of one object value makes of the journal. -/
theorem applyRecord_object {key : Nat} (hd : isDomain key = false) (v : Nat) (t : Tymp) :
    applyRecord (.objects false [(key, v)]) t = { t with objs := kset dfltOf key v t.objs } := by
  simp [applyRecord, putValues, hd]

theorem restartCheck_idle {s : State} (h : s.pwr.restartWaiting = false) : restartCheck s = s := by
  unfold restartCheck; exact if_neg fun c => absurd (h.symm.trans c.1) (by decide)

theorem compactionCheck_room {s : State} (h : 4 * s.tymp.logBytes < 3 * logSector) : compactionCheck s = s := by
  unfold compactionCheck; exact if_neg fun c => absurd c.2 (by omega)

/-- The journal after the COMMIT word of the record of one object value, the oldest. -/
def objectCommitted (key v : Nat) (rest : List JRec) (t : Tymp) : Tymp :=
  { t with open_ := rest, spare := none, objs := kset dfltOf key v t.objs }

/-- The state in which the write of a committed record has taken effect and been answered. -/
def objectAnswered (key v : Nat) (bytes : List Byte) (rest : List JRec) (s : State) : State :=
  freeServer (answerTo .mailbox (.done []) (storeValue key bytes (modTymp (objectCommitted key v rest) s)))

theorem objectAnswered_o (key v : Nat) (bytes : List Byte) (rest : List JRec) (s : State) (k : Nat) :
    (objectAnswered key v bytes rest s).o k = (storeValue key bytes (modTymp (objectCommitted key v rest) s)).o k :=
  answerTo_o _ _ _ k

section
variable {key : Nat} (hkey : valueKey key = true) (hd : isDomain key = false) (v : Nat) (bytes : List Byte) (rest : List JRec)
  (s : State)
include hkey hd

/-- Such a commit changes, of the parts, the live sets, the server, the answers of both paths and the journal at most. -/
theorem objectAnswered_fr : Keeps 0x4080000e30 s (objectAnswered key v bytes rest s) := by
  refine Keeps.upd_srv (by decide) (Keeps.step (answerTo_fr _ _ _) (by decide)
    (Keeps.step (storeValue_value_fr hkey hd bytes _) (by decide) (Keeps.upd_tymp (by decide) (Keeps.refl _ _))))

theorem objectAnswered_tymp : (objectAnswered key v bytes rest s).tymp = objectCommitted key v rest s.tymp := by
  show (answerTo _ _ _).tymp = _
  rw [answerTo_tymp]
  exact (storeValue_value_fr hkey hd bytes _).1 .tymp rfl

theorem objectAnswered_srv : (objectAnswered key v bytes rest s).srv = { s.srv with busy := false } := by
  have h : (storeValue key bytes (modTymp (objectCommitted key v rest) s)).srv = s.srv :=
    (storeValue_value_fr hkey hd bytes _).1 .srv rfl
  show { (answerTo _ _ _).srv with busy := false } = _
  rw [answerTo_srv, h]

/-- R396: the COMMIT word of the oldest record, one of an object value that a mailbox request wrote. -/
theorem commitRecord_object (hst : s.tymp.state = 1) (hroom : 4 * s.tymp.logBytes < 3 * logSector) (hwait : s.srv.waiting = [])
    (hres : s.pwr.restartWaiting = false)
    (hopen : s.tymp.open_ = ⟨.objects false [(key, v)], .answer .mailbox [(key, bytes)]⟩ :: rest) :
    commitRecord s = pwrRecompute (objectAnswered key v bytes rest s) := by
  have hpwr : (objectAnswered key v bytes rest s).pwr.restartWaiting = false :=
    (Part.same_pwr_restartWaiting ((objectAnswered_fr hkey hd v bytes rest s).1 .pwr rfl)).trans hres
  have hlog : 4 * (objectAnswered key v bytes rest s).tymp.logBytes < 3 * logSector := by
    rw [objectAnswered_tymp hkey hd]; exact hroom
  have hsrv : (objectAnswered key v bytes rest s).srv.waiting = [] := by
    rw [objectAnswered_srv hkey hd]; exact hwait
  unfold commitRecord
  rw [hopen]
  dsimp only
  rw [if_neg (by omega)]
  simp only [applyRecord_object hd]
  show pwrRecompute (drain (compactionCheck (restartCheck (objectAnswered key v bytes rest s)))) = _
  rw [restartCheck_idle hpwr, compactionCheck_room hlog, drain_nil _ hsrv]

end

end Sys2Proof.Machine

open Sys2Proof Sys2Proof.Machine

/-- Settles O12: a write that passes the checks of R52 is stored, or handed on by the journal's COMMIT word; any other is refused
by the first check that fails, or given up. -/
theorem sdoWritesAreTakenOrRefused : Obligations.SdoWritesAreTakenOrRefused := by
  refine ⟨fun idx sub data row s h hidx hrow hacc hcls hdom hbool hkey hlen hpos hchk => ?_, fun idx sub data s h => ?_,
    fun path g s hg hw ho => ⟨_, rfl, segmentTimeout_write hg hw ho⟩,
    fun key v bytes rest s hst hroom hwait hres hkey hserved hlen hdom hopen => ?_⟩
  · refine ⟨_, rfl, ?_⟩
    rw [objectWrite_value h hidx hrow hacc hcls hdom hbool hkey hlen hpos hchk]
    refine ⟨?_, objectWrite_value_o_same hrow hacc hdom hkey hlen _, ?_, fun k hk hs => ?_⟩
    · rw [pwrRecompute_net]; rfl
    · rw [pwrRecompute_dom, answerTo_dom]
      exact ((storeValue_value_fr hkey hdom data _).1 .dom rfl).trans (pathBegin_dom _ _ _)
    · rw [pwrRecompute_o_unserved _ hs, answerTo_o, storeValue_value_o_other hkey hdom hk, pathBegin_o]
  · have hsegs : (pathBegin .mailbox true s).srv.segs = [] := by
      obtain ⟨-, -, -, -, -, -, hsegs, -⟩ := h.1
      rw [pathBegin_srv]; exact hsegs
    refine ⟨_, rfl, fun hidx => ?_, fun hidx hrow => ?_, fun row hidx hrow hacc => ?_,
      fun row hidx hrow hacc hplain _ hlen => ?_, fun row hidx hrow hacc hplain _ hlen hpos hbool hchk => ?_⟩
    · exact sdoDownload_refused h (writePiece_noIndex hidx)
    · exact sdoDownload_refused h (writePiece_noSub hidx hrow)
    · exact sdoDownload_refused h (writePiece_readOnly hsegs hidx hrow hacc)
    · exact sdoDownload_refused h (writePiece_length hsegs hidx hrow (by simp [hacc]) (stateRefuses_plain h hrow hacc hplain data)
        hlen (plainKey_not_nozzleTable hplain))
    · have hst := stateRefuses_plain h hrow hacc hplain data
      refine sdoDownload_refused h ?_
      rw [writePiece_whole hsegs hidx hrow (by simp [hacc]) hst hlen hpos (plainKey_not_nozzleTable hplain),
        writeAccess_range hst hplain hbool hchk]
      rfl
  · refine ⟨_, rfl, ?_⟩
    rw [commitRecord_object hkey hdom v bytes rest s hst (by unfold logSector; omega) hwait hres hopen]
    have hsame := storeValue_value_o_same hkey hdom hlen (modTymp (objectCommitted key v rest) s)
    refine ⟨?_, ?_, ?_, ?_, ?_, fun k hk hs => ?_⟩
    · rw [pwrRecompute_tymp, objectAnswered_tymp hkey hdom]; rfl
    · rw [pwrRecompute_srv, objectAnswered_srv hkey hdom]
    · rw [pwrRecompute_net]; rfl
    · rw [pwrRecompute_o_unserved _ hserved, objectAnswered_o, hsame]
    · rw [pwrRecompute_tymp, objectAnswered_tymp hkey hdom]; rfl
    · rw [pwrRecompute_o_unserved _ hs, objectAnswered_o, storeValue_value_o_other hkey hdom hk]
      rfl
end

section
/-! PROOFS: reads of whole values, and the window of BAR2 (O18). -/

namespace Sys2Proof.Machine
open Sys2Proof

/-! ### Reads of a whole value -/

theorem tableBytes_length (off n : Nat) (s : State) : (tableBytes off n s).length = n := by
  simp [tableBytes]

theorem viewBytes_length_le (key off n : Nat) (s : State) : (viewBytes key off n s).length ≤ n := by
  have either : ∀ {c : Prop} [Decidable c] {x y : List Byte}, x.length ≤ n → y.length ≤ n → (if c then x else y).length ≤ n :=
    fun hx hy => iteInduction (motive := fun l : List Byte => l.length ≤ n) (fun _ => hx) fun _ => hy
  unfold viewBytes
  refine either (Nat.le_of_eq (tableBytes_length _ _ _)) ?_
  iterate 11 refine either (List.length_take_le _ _) ?_
  simp [State.domBytes]

/-- A value is no longer than its type. -/
theorem viewObject_length_le {idx sub : Nat} {row : ObjRow} (hrow : rowOf idx sub = some row) (s : State) :
    (viewObject idx sub s).length ≤ row.ty.bytes := by
  unfold viewObject
  dsimp only
  obtain hr | ⟨hn, rfl, hc⟩ := rowOf_cases hrow
  · rw [hr]
    dsimp only
    split
    · simp
    · split
      · next n he => rw [he]; exact viewBytes_length_le _ _ n s
      · next n he => rw [he]; exact viewBytes_length_le _ _ n s
      · exact Nat.le_of_eq (leBytes_length _ _)
  · rw [hn]
    dsimp only
    rw [if_pos hc]
    exact Nat.le_of_eq (leBytes_length 1 _)

/-- R52: the checks of a read let an object pass that exists and can be read. -/
theorem readCheck_ok {idx sub : Nat} {row : ObjRow} {s : State} (hidx : indexExists idx = true) (hrow : rowOf idx sub = some row)
    (hacc : row.acc ≠ .wo) (hs : s.boot.phase = .ready) : readCheck idx sub s = (AB.ok, row) := by
  have hbare : bareRefuses idx s = false := by simp [bareRefuses, isBare, hs]
  unfold readCheck
  rw [if_neg (by simp [hidx]), hrow]
  dsimp only
  rw [if_neg hacc, hbare]
  rfl

/-- A read of a whole value that is no DOMAIN. -/
theorem readOne_value {r : Req} {row : ObjRow} {s : State} (hidx : indexExists r.idx = true) (hrow : rowOf r.idx r.sub = some row)
    (hacc : row.acc ≠ .wo) (hs : s.boot.phase = .ready) (hdom : isDomain (okey r.idx r.sub) = false) (hoff : r.offset = 0) :
    readOne r s = wholeAnswer r (viewObject r.idx r.sub s) := by
  have hty : ∀ n, row.ty ≠ .dom n := by
    intro n he
    obtain hr | ⟨-, rfl, -⟩ := rowOf_cases hrow
    · simp [isDomain, hr, he] at hdom
    · cases he
  unfold readOne
  rw [readCheck_ok hidx hrow hacc hs]
  dsimp only
  rw [if_neg (by simp)]
  split
  · next n he => exact absurd he (hty n)
  · rw [if_neg (by simp [hoff])]

/-! ### The window (R77 to R82) -/

/-- R78: a request through an idle window of an awake device is served at once. -/
theorem viaWindow_ready {s : State} (h : pathReady .window s) {r : Req} (hr : r.path = .window) (write : Bool) :
    viaWindow r write s = serveNow r (pathBegin .window write s) := by
  obtain ⟨⟨hfree, hready, -, -, -, hwait, -, hbusy, howed⟩, hpow⟩ := h
  obtain ⟨hwin, -, -, hcome, hawake⟩ := hfree
  unfold viaWindow
  rw [if_neg (by simp [hwin])]
  exact submit_idle _ _ hwait hbusy (by show s.boot.phase ≠ _; rw [hready]; decide) (by rw [hr]; exact howed) hpow
    (.inr ⟨hcome, hawake⟩)

/-- R78: while BUSY is 1 a request is ignored. -/
theorem viaWindow_busy {s : State} (h : s.pcie.winBusy = true) (r : Req) (write : Bool) :
    viaWindow r write s = { s with pcie := { s.pcie with winCollision := true } } :=
  if_pos h

/-- R419: no request of the window is served before the exit is complete. -/
theorem nextWaiting_window_exiting {s : State} (h : s.pwr.exiting = true) (hw : ∀ q ∈ s.srv.waiting, q.2.path = .window) :
    nextWaiting s = none := by
  have hnone : s.srv.waiting.find? (fun q => servableNow q s) = none := by
    rw [List.find?_eq_none]
    intro q hq
    have hx : waitsExit q.2 s = true := by
      unfold waitsExit
      rw [hw q hq]
      exact h
    simp [servableNow, hx]
  unfold nextWaiting
  rw [hnone]
  split <;> rfl

theorem drain_none {s : State} (h : nextWaiting s = none) : drain s = s := by
  unfold drain
  cases s.srv.waiting.length with
  | zero => rfl
  | succ n => unfold drainServer; rw [h]

/-- R419: in DOZE and deeper a request of the window waits for the exit, which it starts. -/
theorem submit_asleep {s : State} (hw : s.srv.waiting = []) (hp : 2 ≤ s.pwr.state) {r : Req} (hr : r.path = .window) :
    submit r s = { s with
      pwr := { s.pwr with exiting := true, entering := none }
      srv := { s.srv with waiting := [(s.loc, r)] } } := by
  unfold submit
  rw [demandWake_asleep hp]
  dsimp only
  rw [hw]
  exact drain_none (nextWaiting_window_exiting rfl (by simp [hr]))

theorem viaWindow_asleep {s : State} (hb : s.pcie.winBusy = false) (hw : s.srv.waiting = []) (hp : 2 ≤ s.pwr.state) {r : Req}
    (hr : r.path = .window) (write : Bool) :
    viaWindow r write s = { s with
      pwr := { s.pwr with exiting := true, entering := none }
      pcie := { s.pcie with winBusy := true, winWrite := write }
      srv := { s.srv with waiting := [(s.loc, r)] } } :=
  (if_neg (by simp [hb])).trans
    (submit_asleep (s := { s with pcie := { s.pcie with winBusy := true, winWrite := write } }) hw hp hr)

/-- R78: the request that the window registers make for a read of one subindex from its first byte on. -/
theorem windowRequest_read {s : State} (h : bit s.pcie.winAddr 0 = false) (ho : s.pcie.winOffset = 0) (hl : s.pcie.winLength = 0) :
    windowRequest false s =
      ⟨.window, bits s.pcie.winAddr 31 16, bits s.pcie.winAddr 15 8, .read, 0, 0, bit s.pcie.winAddr 1, false⟩ := by
  unfold windowRequest
  simp [h, ho, hl]

/-- R78: the request that the window registers make for a write of one subindex from its first byte on. -/
theorem windowRequest_write {s : State} (h : bit s.pcie.winAddr 0 = false) (ho : s.pcie.winOffset = 0) :
    windowRequest true s = ⟨.window, bits s.pcie.winAddr 31 16, bits s.pcie.winAddr 15 8, .write (windowData s), 0,
      s.pcie.winLength, bit s.pcie.winAddr 1, false⟩ := by
  unfold windowRequest
  simp [h, ho]

theorem windowData_length {s : State} (h : s.pcie.winLength ≤ windowBytes) : (windowData s).length = s.pcie.winLength := by
  unfold windowData
  rw [if_neg (by omega)]
  simp

/-- R81: of an object that is no DOMAIN every write is the last. -/
theorem serve_write_last {idx sub : Nat} (hd : isDomain (okey idx sub) = false) (path : Path) (data : List Byte) (n m : Nat)
    (last : Bool) (s : State) :
    serve ⟨path, idx, sub, .write data, 0, n, last, false⟩ s = serve ⟨path, idx, sub, .write data, 0, m, true, false⟩ s := by
  unfold serve writePiece
  simp only [hd, Bool.not_false, Bool.and_self, Bool.or_true, if_true]
  rfl

/-- R78: WIN_WRITE of one subindex that is no DOMAIN is a write of the window's data. -/
theorem windowStart_write {s : State} (h : pathReady .window s) (hall : bit s.pcie.winAddr 0 = false) (hoff : s.pcie.winOffset = 0)
    (hdom : isDomain (okey (bits s.pcie.winAddr 31 16) (bits s.pcie.winAddr 15 8)) = false) :
    windowStart true s = objectWrite .window (bits s.pcie.winAddr 31 16) (bits s.pcie.winAddr 15 8) (windowData s) s := by
  rw [objectWrite_ready h]
  unfold windowStart
  rw [windowRequest_write hall hoff, viaWindow_ready h rfl]
  unfold serveNow
  rw [serve_write_last hdom _ _ _ (windowData s).length]
  rfl

/-- R52, R78: a read of a whole value that is no DOMAIN and fits the window's buffer. -/
theorem serve_read_value {path : Path} {idx sub : Nat} {row : ObjRow} {s : State} (hseg : s.srv.segs = [])
    (hidx : indexExists idx = true) (hrow : rowOf idx sub = some row) (hacc : row.acc ≠ .wo) (hs : s.boot.phase = .ready)
    (hdom : isDomain (okey idx sub) = false) (hsize : row.ty.bytes ≤ windowBytes) (last : Bool) :
    serve ⟨path, idx, sub, .read, 0, 0, last, false⟩ s = ⟨some (.done (viewObject idx sub s)), s⟩ := by
  have hfits : (viewObject idx sub s).length ≤ windowBytes := Nat.le_trans (viewObject_length_le hrow s) hsize
  have hread : readOne ⟨path, idx, sub, .read, 0, 0, last, false⟩ s = .done (viewObject idx sub s) := by
    refine (readOne_value (r := ⟨path, idx, sub, .read, 0, 0, last, false⟩) hidx hrow hacc hs hdom rfl).trans
      (if_neg fun c => c.2.elim (fun hcut => hcut.1 rfl) (Nat.not_lt.2 hfits))
  unfold serve leaveSeg
  dsimp only
  rw [segOf_nil _ _ hseg]
  simp [hread]

/-- R78, R52: WIN_READ of one subindex that is no DOMAIN. -/
theorem windowStart_read {s : State} {row : ObjRow} (h : pathReady .window s) (hall : bit s.pcie.winAddr 0 = false)
    (hoff : s.pcie.winOffset = 0) (hlen : s.pcie.winLength = 0) (hidx : indexExists (bits s.pcie.winAddr 31 16) = true)
    (hrow : rowOf (bits s.pcie.winAddr 31 16) (bits s.pcie.winAddr 15 8) = some row)
    (hdom : isDomain (okey (bits s.pcie.winAddr 31 16) (bits s.pcie.winAddr 15 8)) = false) (hsize : row.ty.bytes ≤ windowBytes)
    (hacc : row.acc ≠ .wo) :
    windowStart false s = pwrRecompute (answerTo .window
      (.done (viewObject (bits s.pcie.winAddr 31 16) (bits s.pcie.winAddr 15 8) (pathBegin .window false s)))
      (pathBegin .window false s)) := by
  obtain ⟨-, hready, -, -, -, -, hsegs, -, -⟩ := h.1
  have hready' : (pathBegin .window false s).boot.phase = .ready := by rw [pathBegin_boot]; exact hready
  unfold windowStart
  rw [windowRequest_read hall hoff hlen, viaWindow_ready h rfl]
  unfold serveNow
  rw [serve_read_value (by rw [pathBegin_srv]; exact hsegs) hidx hrow hacc hready' hdom hsize]
  exact if_neg (by rw [hready']; nofun)

/-! ### Answers of the window -/

/-- R79: the answer of a request of the window is kept until it is published. -/
theorem answerTo_window {s : State} (hb : s.pcie.winBusy = true) (hr : s.pcie.winResult = none) (hl : s.pcie.winLost = false)
    (a : Answer) : answerTo .window a s = { s with pcie := { s.pcie with winResult := some a } } := by
  unfold answerTo
  simp [hb, hr, hl]

/-- The window of an awake device that begins a request. -/
theorem pathBegin_window {s : State} (h : pathReady .window s) (write : Bool) :
    pathBegin .window write s = { s with pcie := { s.pcie with winBusy := true, winWrite := write } } := by
  obtain ⟨-, -, -, -, hawake⟩ := h.1.1
  exact demandWake_awake hawake

/-- A request of a ready window is answered after work that leaves the endpoint alone: BUSY stays, and the answer waits. -/
theorem answerTo_window_served {s t : State} (h : pathReady .window s) {write : Bool} (ht : Part.pcie.same (pathBegin .window write s) t)
    (a : Answer) : (pwrRecompute (answerTo .window a t)).pcie.winBusy = true ∧
      (pwrRecompute (answerTo .window a t)).pcie.winResult = some a := by
  obtain ⟨-, hres, hlost, -, -⟩ := h.1.1
  rw [pathBegin_window h] at ht
  have hbusy : t.pcie.winBusy = true := Part.same_pcie_winBusy ht
  rw [pwrRecompute_pcie_winBusy, pwrRecompute_pcie_winResult,
    answerTo_window hbusy ((Part.same_pcie_winResult ht).trans hres) ((Part.same_pcie_winLost ht).trans hlost)]
  exact ⟨hbusy, rfl⟩

/-! ### The end of a window request (R79) -/

/-- Bytes put into the window's buffer from `off` on. -/
def bufferPut (off : Nat) : List Byte → SMap → SMap
  | [], m => m
  | b :: bs, m => bufferPut (off + 1) bs (kset (fun _ => 0) off b.toNat m)

/-- What `windowDone` does to the buffer puts the bytes there one after the other. -/
theorem foldl_mapIdx_eq_bufferPut (data : List Byte) (off : Nat) (buf : SMap) :
    (data.mapIdx fun i b => (off + i, b)).foldl (fun m ib => kset (fun _ => 0) ib.1 ib.2.toNat m) buf = bufferPut off data buf := by
  induction data generalizing off buf with
  | nil => rfl
  | cons b bs ih =>
    have hshift : (fun (i : Nat) (b : Byte) => (off + (i + 1), b)) = fun i b => (off + 1 + i, b) := by
      funext i b; rw [Nat.add_assoc, Nat.add_comm 1 i]
    rw [List.mapIdx_cons, List.foldl_cons, hshift, ih]
    rfl

theorem kget_bufferPut_outside (data : List Byte) {off i : Nat} (buf : SMap) (h : i < off ∨ off + data.length ≤ i) :
    kget (fun _ => 0) (bufferPut off data buf) i = kget (fun _ => 0) buf i := by
  induction data generalizing off buf with
  | nil => rfl
  | cons b bs ih =>
    rw [List.length_cons] at h
    rw [bufferPut, ih _ (by omega), kget_kset_other _ (by omega)]

theorem kget_bufferPut_inside (data : List Byte) (off : Nat) (buf : SMap) (i : Nat) (h : i < data.length) :
    kget (fun _ => 0) (bufferPut off data buf) (off + i) = data[i].toNat := by
  induction data generalizing off buf i with
  | nil => exact absurd h (Nat.not_lt_zero i)
  | cons b bs ih =>
    rw [bufferPut]
    cases i with
    | zero => rw [kget_bufferPut_outside _ _ (by omega), Nat.add_zero, kget_kset_same, List.getElem_cons_zero]
    | succ i =>
      rw [List.length_cons] at h
      rw [show off + (i + 1) = off + 1 + i by omega, ih _ _ _ (by omega), List.getElem_cons_succ]

theorem windowDone_data {s : State} {data : List Byte} (h : s.pcie.winResult = some (.done data)) :
    windowDone s = pwrRecompute (raise EV.PCIE_WINDOW_DONE 0 { s with pcie := { s.pcie with
      winBusy := false, winDone := true, winStatus := 0
      winLength := if s.pcie.winWrite then s.pcie.winLength else data.length
      winBuf := bufferPut 0 data s.pcie.winBuf, winResult := none } }) := by
  have hput := foldl_mapIdx_eq_bufferPut data 0 s.pcie.winBuf
  simp only [Nat.zero_add] at hput
  rw [← hput]
  unfold windowDone
  rw [h]
  rfl

theorem windowDone_abort {s : State} {code : Nat} (hc : code ≠ 0) (h : s.pcie.winResult = some (.abort code)) :
    windowDone s = pwrRecompute (raise EV.PCIE_WINDOW_DONE code { s with pcie := { s.pcie with
      winBusy := false, winDone := true, winStatus := code, winLength := 0, winResult := none } }) := by
  unfold windowDone
  rw [h]
  dsimp only
  rw [if_pos hc]
  rfl

end Sys2Proof.Machine

open Sys2Proof Sys2Proof.Machine

/-- Settles O18: an idle window of an awake device is served at once and a sleeping one's request waits; the end of a request publishes
its answer. -/
theorem windowRequestsAreServedAndPublished : Obligations.WindowRequestsAreServedAndPublished := by
  refine ⟨fun row s => ⟨fun h hall hoff hidx hrow hdom hsize => ⟨fun hacc hlen => ?_, fun hacc hcls hbool hkey hlen hpos hchk => ?_⟩,
    fun hb => ⟨⟨_, rfl, ?_⟩, _, rfl, ?_⟩, fun hb hw hp => ⟨⟨_, rfl, ?_⟩, _, rfl, ?_⟩⟩, fun s => ⟨fun data h _ => ?_, fun code hc h => ?_⟩⟩
  · refine ⟨_, rfl, ?_⟩
    rw [windowStart_read h hall hoff hlen hidx hrow hdom hsize hacc]
    obtain ⟨hbusy, hres⟩ := answerTo_window_served h (write := false) rfl
      (.done (viewObject (bits s.pcie.winAddr 31 16) (bits s.pcie.winAddr 15 8) (pathBegin .window false s)))
    exact ⟨hbusy, hres, fun k hk => by rw [pwrRecompute_o_unserved _ hk, answerTo_o, pathBegin_o]⟩
  · have hdata : (windowData s).length = row.ty.bytes := by
      rw [windowData_length (by rw [hlen]; exact hsize), hlen]
    have hne : windowData s ≠ [] := fun e => hpos (by rw [hlen, ← hdata, e]; rfl)
    refine ⟨_, rfl, ?_⟩
    rw [windowStart_write h hall hoff hdom, objectWrite_value h hidx hrow hacc hcls hdom hbool hkey hdata hne hchk]
    obtain ⟨hbusy, hres⟩ := answerTo_window_served h ((storeValue_value_fr hkey hdom (windowData s) _).1 .pcie rfl) (.done [])
    exact ⟨hbusy, hres, objectWrite_value_o_same hrow hacc hdom hkey hdata _⟩
  · rw [windowStart, viaWindow_busy hb]
    exact ⟨rfl, rfl⟩
  · rw [windowStart, viaWindow_busy hb]
    exact ⟨rfl, rfl⟩
  · rw [windowStart, viaWindow_asleep hb hw hp rfl]
    exact ⟨rfl, rfl, rfl, rfl⟩
  · rw [windowStart, viaWindow_asleep hb hw hp rfl]
    exact ⟨rfl, rfl, rfl, rfl⟩
  · refine ⟨_, rfl, ?_⟩
    rw [windowDone_data h]
    simp only [pwrRecompute_pcie_winBusy, pwrRecompute_pcie_winDone, pwrRecompute_pcie_winStatus, pwrRecompute_pcie_winLength,
      pwrRecompute_pcie_winResult, pwrRecompute_pcie_winBuf, raise_pcie_winBusy, raise_pcie_winDone, raise_pcie_winStatus,
      raise_pcie_winLength, raise_pcie_winResult, raise_pcie_winBuf, true_and]
    exact ⟨fun i hi => by rw [← kget_bufferPut_inside data 0 s.pcie.winBuf i hi, Nat.zero_add],
      fun i hi => kget_bufferPut_outside data _ (.inr (by omega))⟩
  · refine ⟨_, rfl, ?_⟩
    rw [windowDone_abort hc h]
    simp
end
